-- ==== Sys2Proof/Word.lean ====
section
/-! DEFINITION. The word types of the model and their plainest arithmetic.
Bit vectors stand for what the manual numbers as bits; counts and sizes are `Nat`. -/

namespace Sys2Proof

/-- One byte. -/
abbrev Byte := BitVec 8

/-- A 64-bit register word (register accesses are 4 or 8 bytes, R479). -/
abbrev Word := BitVec 64

/-- A line of 64 B, the coherence granule (R6); byte `i` is bits `[8i+7:8i]`. -/
abbrev Line := BitVec 512

/-- A node ID, row x 64 + column (R299). -/
abbrev Node := BitVec 12

/-- A Dexex link number (R300). -/
abbrev LinkNo := BitVec 8

/-- A label (R388). -/
abbrev Lbl := BitVec 4

/-- A line number, DPA / 64, below 2^42 (R256). -/
abbrev LineNo := BitVec 42

/-- A page number, DPA / 4,096 (R107). -/
abbrev PageNo := BitVec 36

/-- A window offset (DPA), below 2^48 (R71, R229). -/
abbrev Dpa := BitVec 48

/-- An end-to-end tag (R371). -/
abbrev Tag := BitVec 32

end Sys2Proof
end

