-- ==== Sys2Proof/Syntax.lean ====
section
/-! DEFINITION. The commands of the block: one constructor of `Instr` per row of the table of operations and events,
with the operands each row's rule gives it. What a command carries is what reaches the device from outside: the fields
of an arriving message, a register value, a sampled quantity, or the outcome of a physical process (an ECC outcome, a
training result). What the device itself decides is in its meaning. -/

namespace Sys2Proof

/-- The two 12 V feeds (17, R555). -/
inductive Feed where
  | a
  | b
deriving DecidableEq, Repr

/-- CXL.mem MetaValue of the Meta0-State field (R270). -/
inductive MetaVal where
  | invalid
  | shared
  | any
deriving DecidableEq, Repr

/-- The three ways an H reset starts (R498). -/
inductive HostResetKind where
  | perst
  | hotReset
  | linkDisable
deriving DecidableEq, Repr

/-- Where the host link goes when it leaves L0 (R584, R651). -/
inductive HostLinkLow where
  | down
  | l1
  | l2
deriving DecidableEq, Repr

/-- Where a command entry came from: a queue entry (queue and the host's cid), or the mailbox's EXEC_ENTRY (R483, R489). -/
inductive CmdSrc where
  | mailbox
  | queue (qid : BitVec 10) (cid : BitVec 16)
deriving DecidableEq, Repr

/-- Decoder errors (R196). -/
inductive DecError where
  | truncated
  | invalid
  | expansion
  | short
deriving DecidableEq, Repr

/-- What decoding a block comes to (R198, R659): no error; an error of the first lane that a second lane clears; an error in both
lanes; or no result of the first lane. -/
inductive DecOutcome where
  | ok
  | cleared
  | failed (e : DecError)
  | hung
deriving DecidableEq, Repr

/-- What a copy pass of a migration met: the lines read with an uncorrectable error, as a mask of the page's 64 lines, and what decoding
came to of the blocks in which a lane found an error (R157, R198). -/
structure PassErrors where
  lines : BitVec 64
  decs : List (Fin 4 × DecOutcome)
deriving DecidableEq, Repr

/-- The error a stored word is read with, symbol by symbol from coefficient 0 on: 40 lanes of 16 bits of a DDR-5 burst (R452), or in
the low bits 72 bytes of an RLD line (R458). -/
abbrev BurstError := BitVec 640

/-- The physical outcomes met while read data returns: the error of each 64 B burst of the access in order, a burst not listed having
none (R452, R458); the first and second tag check (R243; `true`: nothing but the data read makes it fail) and the decode (R198). -/
structure ReturnResult where
  errors : List BurstError
  tagOk : Bool
  tagOk2 : Bool
  dec : DecOutcome
deriving DecidableEq, Repr

/-- The migration kinds a MIGRATION_START can open, with their codes (R150). -/
inductive MigKind where
  | pack
  | unpack
  | compact
  | lend
  | recall
  | rehome
  | thaw
  | refold
  | mirrorAdd
deriving DecidableEq, Repr

/-- What mode register 4 reports (R433, R444). -/
inductive Mr4 where
  | normal
  | double
  | beyond
deriving DecidableEq, Repr

/-- Fields every arriving end-to-end request carries: its tag, `new`, its label and its colour (R354, R356). -/
structure ReqHdr where
  tag : Tag
  isNew : Bool
  label : Lbl
  yellow : Bool
deriving DecidableEq, Repr

/-- Fields every flooded CTRL message carries: the link it came by, its origin and its 16-bit flood sequence (R305). -/
structure FloodHdr where
  link : LinkNo
  origin : Node
  seq : BitVec 16
deriving DecidableEq, Repr

/-- The keep field of a WrLine (R272, R357). -/
inductive Keep where
  | i
  | s
  | e
deriving DecidableEq, Repr

/-- The scope of a snoop (R268, R357). -/
inductive Scope where
  | line
  | set
  | stack
deriving DecidableEq, Repr

/-- The body of a MirrorWrite and of its CONT (R167, R357, R358). -/
structure MirrorBody where
  poison : Bool
  data : Line
  extent : BitVec 16
  page : BitVec 28
  line : BitVec 6
  seq : BitVec 48
  origin : Option Tag
  floor : BitVec 32
  kind : BitVec 8
  status : BitVec 3
  fromReissue : Bool
  atomicSeq : BitVec 32
  result : Option (BitVec 128)
deriving DecidableEq, Repr

/-- The payload of a TRAIN frame (R351). -/
structure TrainBody where
  node : Node
  link : LinkNo
  rate : BitVec 8
  session : BitVec 16
  rxNext : BitVec 12
  txLast : BitVec 12
  txLastValid : Bool
  resume : Bool
  ready : Bool
deriving DecidableEq, Repr

/-- One member record as JOIN ACCEPT and ROUTE MEMBER carry it (R359). -/
structure MemberWire where
  node : Node
  state : BitVec 4
  incarnation : BitVec 16
  version : BitVec 16
deriving DecidableEq, Repr

/-- What starts the retrain of a link from UP (R366). -/
inductive LossKind where
  | signal
  | alignment
  | codewords
deriving DecidableEq, Repr

/-- The part a fault record names (R543). -/
inductive Part where
  | none
  | link (l : LinkNo)
  | channel (c : Fin 12)
  | stack (s : Fin 4)
  | clane (i : Fin 16)
  | dlane (i : Fin 32)
  | holder (n : Node)
  | page (p : PageNo)
  | peer (n : Node)
  | hostMem
  | feed (f : Feed)
  | engine (e : Fin 60)
deriving DecidableEq, Repr

/-- A sampled input of Radish with its index (R584). -/
structure Sample where
  input : BitVec 8
  index : BitVec 8
  value : Int
deriving DecidableEq, Repr

/-- What starts the exit from Doze (R590). -/
inductive DozeWake where
  | request
  | frame
  | work
  | wakeRule
  | veto
deriving DecidableEq, Repr

/-- What starts the exit from Deep (R596). -/
inductive DeepWake where
  | pattern (wakeLink : Fin 4)
  | hostWake
  | wakeRule
  | veto
deriving DecidableEq, Repr

/-- A clock or power change of a voted block (R526): gate or ungate its clock, or switch its power. -/
inductive PowerChange where
  | gate
  | ungate
  | powerOff
  | powerOn
deriving DecidableEq, Repr

/-- What a DIMM's SPD says of it, in the fields of a DIMM record (R44, R66): ranks, capacity in GiB, highest speed grade in MT/s, JEP106
code, serial number, and the first 8 bytes of SHAKE256 over the part-number bytes. -/
structure Spd where
  ranks : Nat
  capacityGib : Nat
  speedMts : Nat
  mfr : BitVec 16
  serial : BitVec 32
  part : BitVec 64
deriving DecidableEq, Repr

/-- What the physical part of a boot step reports at its end (R605, R608). `ok` is false when the hardware part of the step
failed; the masks name failing parts: self-tested lanes (step 0x05), RLD stacks (0x08); `cause` is the channel or link cause. -/
structure StepReport where
  ok : Bool
  cause : BitVec 8
  clanes : BitVec 16
  dlanes : BitVec 32
  rldStacks : BitVec 4
  fullTraining : Bool
  keyLost : Bool
  hot : Bool
  /-- what the SPD of the DIMMs at positions 0 and 1 of a channel says, none for an empty position (R66) -/
  spd0 : Option Spd
  spd1 : Option Spd
  /-- journal slots read with a bad crc: ring, copy, record number (R165) -/
  badCopies : List (Fin 2 × Fin 2 × Nat)
deriving DecidableEq, Repr

/-- What the buddy reports when step 0x31 settles the mirror state (R618). -/
structure BuddyReport where
  committedSeq : BitVec 48
  holdsCopies : Bool
  actingOwner : Bool
  storeIntact : Bool
deriving DecidableEq, Repr

/-- Settings written with an HDM decoder commit (R477). -/
structure HdmSetting where
  hpaBase : BitVec 64
  hpaSize : BitVec 64
  ways : BitVec 8
  granularity : BitVec 16
  dpaSkip : BitVec 64
  position : BitVec 8
  bi : Bool
deriving DecidableEq, Repr

/-- The commands: one constructor per row of the table, in its order. -/
inductive Instr where
  -- resets
  | powerOnReset
  | deviceReset (cause : BitVec 4)
  | hostConventionalReset (kind : HostResetKind)
  | cxlReset
  | linkReset (l : LinkNo)
  | perstFiltered (asserted : Bool)
  -- host memory and the memory controllers
  | memRd (hpa : BitVec 64) (mv : MetaVal) (req : BitVec 16)
  | memWr (hpa : BitVec 64) (mv : MetaVal) (req : BitVec 16) (data : Line) (mask : BitVec 64) (poison : Bool)
  | memDataReturn (ctrl : Fin 16) (res : ReturnResult)
  | bucketLeak
  | memAdmit (ctrl : Fin 16) (write : Bool)
  | memIssue (ctrl : Fin 16) (blocked : List Nat)
  | refreshDue (ctrl : Fin 16) (rank : Fin 4)
  | mr4Poll (chan : Fin 12) (report : Mr4)
  | powerDownEntry (ctrl : Fin 16) (rank : Fin 4)
  | selfRefreshEntry (ctrl : Fin 16)
  | scrubLine (ctrl : Fin 16) (line : BitVec 42) (error : BurstError)
  -- placement, migration, journal
  | epochStart
  | walkerPage (p : PageNo)
  | bucketRefill
  | migrationStart (kind : MigKind) (p : PageNo)
  | migrationPassEnd (p : PageNo) (bad : PassErrors)
  | freezeTimeout (p : PageNo)
  | migrationCommit (p : PageNo)
  | reserveWaitTimeout
  | waitingWriteResume
  | leaseWaitTimeout
  | checkpoint (ring : Fin 2)
  | translationWriteback (quad : BitVec 34)
  | nearCacheEviction (owner : Node) (block : BitVec 38)
  -- compression
  | compressionResult (lane : Fin 16) (shadowOk : Bool)
  | laneTimeout (decompressor : Bool) (lane : Fin 32)
  | primerRetire (slot : BitVec 6)
  -- image staging
  | imageStageBegin (payload : List Byte)
  | imageStageData (payload : List Byte)
  | imageStageCommit (payload : List Byte)
  | imageStageAbort (payload : List Byte)
  | imageVerifyDone
  | commitPoint
  -- extents, grants and commands
  | extentAdd (src : CmdSrc) (entry : Line)
  | extentAddBuddyTimeout (dpa : Dpa)
  | addDynamicCapacityResponse (accepted : List (BitVec 64 × BitVec 64))
  | releaseDynamicCapacity (ranges : List (BitVec 64 × BitVec 64))
  | releaseResponse (dpa : Dpa)
  | shareGrant (src : CmdSrc) (entry : Line)
  | shareRevoke (src : CmdSrc) (entry : Line)
  | placeHint (src : CmdSrc) (entry : Line)
  | atomic (src : CmdSrc) (entry : Line)
  | keyRotate (src : CmdSrc) (entry : Line)
  | keyRotateSwitch (domain : BitVec 12)
  | primerEval (src : CmdSrc) (entry : Line) (blocks : List (List Byte)) (dmaOk : Bool)
  | queueCreate (payload : List Byte)
  | queueDelete (payload : List Byte)
  | execEntry (payload : List Byte) (blocks : List (List Byte)) (dmaOk : Bool)
  | sqTail (qid : BitVec 10) (value : BitVec 32) (entries : List Line)
  | cqHead (qid : BitVec 10) (value : BitVec 32)
  | commandComplete (qid : BitVec 10)
  | dmaError (qid : BitVec 10)
  | hdmDecoderCommit (index : Fin 8) (setting : HdmSetting)
  | hostLinkUp (speed : BitVec 4) (width : BitVec 6)
  -- mailbox
  | getEventRecords (log : BitVec 8)
  | clearEventRecords (log : BitVec 8) (all : Bool) (handles : List (BitVec 16))
  | getEventInterruptPolicy
  | setEventInterruptPolicy (policy : BitVec 40)
  | getFwInfo
  | transferFw (action : BitVec 8) (slot : BitVec 8) (offset : BitVec 32) (data : List Byte)
  | activateFw (action : BitVec 8) (slot : BitVec 8)
  | getTimestamp
  | setTimestamp (value : BitVec 64)
  | getSupportedLogs
  | getLog (cel : Bool) (offset : BitVec 32) (length : BitVec 32)
  | identifyMemoryDevice
  | getPoisonList (dpa : BitVec 64) (count : BitVec 64)
  | injectPoison (dpa : BitVec 64)
  | clearPoison (dpa : BitVec 64) (data : Line)
  | getDynamicCapacityConfiguration (count : BitVec 8) (start : BitVec 8)
  | getDynamicCapacityExtentList (count : BitVec 32) (start : BitVec 32)
  | mailboxUnsupported (opcode : BitVec 16)
  -- coherence
  | biRsp (dpa : Dpa) (writeback : Option (Line × Bool))
  | biConflict (dpa : Dpa)
  | bisnpTimeout (dpa : Dpa)
  | rdShared (h : ReqHdr) (line : LineNo) (reserved : Bool)
  | rdOwn (h : ReqHdr) (line : LineNo) (reserved : Bool)
  | rdCur (h : ReqHdr) (line : LineNo) (reserved : Bool)
  | wrLine (h : ReqHdr) (line : LineNo) (reserved : Bool) (keep : Keep) (poison : Bool) (mask : BitVec 64) (data : Line)
  | atomicFar (h : ReqHdr) (line : LineNo) (operation : BitVec 8) (size : BitVec 3) (seq floor : BitVec 32) (offset : BitVec 6)
      (operands : BitVec 256)
  | snpInv (tag : Tag) (line : LineNo) (scope : Scope) (grantTag : Tag)
  | snpData (tag : Tag) (line : LineNo)
  | snpCur (tag : Tag) (line : LineNo)
  /-- `bulk` says of bulk data what decoding comes to of the block that it completes (R198). -/
  | data (tag : Tag) (src : Node) (poison contended dirty hostDirty : Bool) (bulk : Option DecOutcome) (vers : BitVec 16)
      (pod : BitVec 6) (value : Line)
  | dataOwned (tag : Tag) (src : Node) (poison contended : Bool) (value : Line)
  | cmp (tag : Tag) (src : Node) (status : BitVec 3) (contended : Bool) (vers : BitVec 16)
  | nackRetry (tag : Tag) (cause : BitVec 4) (hint : BitVec 8)
  | rspEvictInFlight (tag : Tag) (src : Node) (line : LineNo)
  | evictAck (tag : Tag) (line : LineNo)
  | evict (h : ReqHdr) (line : LineNo)
  | wbDirty (h : ReqHdr) (line : LineNo) (poison hostDirty : Bool) (value : Line)
  | blkRead (h : ReqHdr) (pod : BitVec 38) (count : BitVec 7) (vers : BitVec 16)
  | blkWrite (h : ReqHdr) (pod : BitVec 38) (vers : BitVec 16) (value : Line)
  | blkFree (h : ReqHdr) (pod : BitVec 38) (count : BitVec 7)
  | mirrorWrite (h : ReqHdr) (body : MirrorBody)
  | mirrorCtlReserve (h : ReqHdr) (extent : BitVec 16) (length2m : BitVec 32)
  | mirrorCtlUnreserve (h : ReqHdr) (extent : BitVec 16) (length2m : BitVec 32)
  | mirrorCtlFree (h : ReqHdr) (extent : BitVec 16) (page : BitVec 28) (count : BitVec 32)
  | mirrorCtlRead (h : ReqHdr) (extent : BitVec 16) (page : BitVec 28) (line : BitVec 6) (lines : BitVec 5)
  | mirrorCtlPage (h : ReqHdr) (extent : BitVec 16) (page : BitVec 28) (blen : BitVec 20) (kgen integ raw : Bool)
      (fingerprint : BitVec 64)
  | mirrorPod (h : ReqHdr) (extent : BitVec 16) (page : BitVec 28) (index : BitVec 6) (raw : Bool) (value : Line)
  | resyncPage
  | ackTimeout (line : LineNo)
  | nackRetryWaitExpiry (queue : BitVec 4) (idx : BitVec 14)
  | reservedHoldTimeout (node : Node)
  | hostFlushed
  | predClear
  -- links
  | frameSend (l : LinkNo)
  | dataFrame (l : LinkNo) (bits : BitVec 2016)
  | bypassFrame (l : LinkNo) (bits : BitVec 2016)
  | ackFrame (l : LinkNo) (bits : BitVec 2016)
  | trainFrame (l : LinkNo) (body : TrainBody)
  | replayTimerExpiry (l : LinkNo)
  | ackOnlyTimer (l : LinkNo)
  | creditReturnTimer (l : LinkNo)
  | lossOfSignal (l : LinkNo) (kind : LossKind)
  | lightPresent (l : LinkNo)
  | linkTrainingDone (l : LinkNo) (ok : Bool)
  | retrainComplete (l : LinkNo) (dropUnits : BitVec 4)
  | linkGiveUp (l : LinkNo)
  | givenUpRetry (l : LinkNo)
  | linkClear (l : LinkNo)
  | linkHold (l : LinkNo) (hold : Bool)
  | linkRetrain (l : LinkNo)
  | e2eTimeout (queue : BitVec 4) (idx : BitVec 14)
  | tagQuarantineEnd (queue : BitVec 4) (idx : BitVec 14)
  | crtEntryExpiry (key : BitVec 30)
  -- fabric and membership
  | heartbeatSend
  | heartbeat (l : LinkNo) (node : Node) (incarnation : BitVec 16) (state : BitVec 4) (sleepReady resetting : Bool)
  | heartbeatSilence (node : Node)
  | routeSuspect (src node : Node)
  | isolationTimeout
  | restartGraceExpiry (node : Node)
  | routeLinkstate (f : FloodHdr) (version : BitVec 16) (vector : BitVec 126)
  | linkstatePeriodic
  | routeMember (f : FloodHdr) (rec : MemberWire)
  | failoverServe
  | routeCapacity (f : FloodHdr) (lendable : BitVec 16)
  | capacityPeriodic
  | routeAlias (f : FloodHdr) (failed owner : Node) (regions : BitVec 8) (serving : Bool)
  | leaseFreeTimeout (node : Node)
  | joinRequest (l : LinkNo) (node : Node) (poolId : BitVec 64) (incarnation : BitVec 16) (epoch : BitVec 32) (digest : BitVec 128)
      (custody : Bool)
  | joinAccept (l : LinkNo) (node : Node) (state : BitVec 4) (epoch : BitVec 32) (part parts : BitVec 7) (records : List MemberWire)
  | joinRefuse (l : LinkNo) (cause : BitVec 4)
  | joinWait (l : LinkNo) (delayMs : BitVec 7)
  | joinWaitExpiry (l : LinkNo)
  | joinJudge
  | joinRetry
  | rejoin
  | leave
  | leaseRequest (src : Node) (size : BitVec 14)
  | leaseGrant (src : Node) (size : BitVec 14)
  | leaseDeny (src : Node) (cause : BitVec 2)
  | leaseRecall (src : Node) (size : BitVec 14) (deadlineS : BitVec 12)
  | leaseReturn (src : Node) (size : BitVec 14)
  | leaseDeadline (node : Node)
  | sleepPropose
  | wakePropose (f : FloodHdr) (row : BitVec 6)
  | wakeConsent (src : Node) (row : BitVec 6)
  | wakeRefuse (src : Node) (row : BitVec 6)
  | sleepProposeTimeout
  | wakeCommit (f : FloodHdr) (row : BitVec 6)
  | wakeAbort (f : FloodHdr) (row : BitVec 6)
  | rowWake (f : FloodHdr) (row : BitVec 6)
  | epochPrepareStart
  | epochPrepare (f : FloodHdr) (epoch : BitVec 32) (digest : BitVec 128)
  | epochReady (src : Node) (epoch : BitVec 32)
  | epochNotReady (src : Node) (epoch : BitVec 32)
  | epochPrepareTimeout
  | epochCommit (f : FloodHdr) (epoch : BitVec 32) (digest : BitVec 128)
  -- regulation and memory-controller registers
  | shaperRefill
  | shapeWrite (label : Lbl) (value : Word)
  | policeWrite (label : Lbl) (value : Word)
  | feedbackSample
  | scaleAdjust
  | memSchedWrite (ctrl : Fin 16) (value : Word)
  | memTrnStart (chan : Fin 12)
  | memTrnRunEnd (chan : Fin 12) (failed : BitVec 16) (lanes0 lanes1 : BitVec 40)
  | pmicFault (chan : Fin 12)
  -- fault collector
  | faultRaise (event : BitVec 10) (cause : BitVec 8) (part : Part) (info : BitVec 128)
  | classAcknowledge (event : BitVec 10)
  | resetClassAcknowledge
  | faultInject (event : BitVec 10)
  | engineHang (engine : Fin 60)
  -- power entry
  | feedPresent (f : Feed) (mv : BitVec 16)
  | feedWindowEntry (f : Feed) (mv : BitVec 16)
  | feedQualified (f : Feed)
  | feedGateFull (f : Feed) (limiting : Bool)
  | feedPowerGood (f : Feed)
  | startTimerTrip (f : Feed)
  | breakerSample (f : Feed) (ma : BitVec 17)
  | feedUndervolt (f : Feed) (mv : BitVec 16)
  | feedOvervolt (f : Feed) (mv : BitVec 16)
  | retryWaitExpiry (f : Feed)
  | tripCountReset (f : Feed)
  | feedRelease (f : Feed)
  | feedTest (f : Feed)
  | feedTestEnd (f : Feed)
  | oringReverse (f : Feed)
  | telemetryWindow (f : Feed) (mv ma power10mw : BitVec 16) (energyMj : BitVec 48)
  | peakRead (f : Feed)
  | eccLastRead
  -- Radish and the power states
  | radishSample (samples : List Sample)
  | ruleFire (rule : BitVec 8)
  | dimmTempRead (temps : List Int)
  | dozeEntry
  | dozeExit (cause : DozeWake)
  | restEntry
  | lightQualified (l : LinkNo)
  | restExitComplete
  | spuriousWakeTimeout
  | deepEntry
  | deepExit (cause : DeepWake)
  | custodyLost
  | vauxOutOfRange (mv : BitVec 16)
  | refclkLost
  | getState
  | getRecords
  | getSense (input index : BitVec 8)
  | smbusUnsupported (code : BitVec 8)
  -- secure world
  | challenge (input : List Byte)
  | enrol (input : List Byte)
  | release (input : List Byte)
  | keySupply (input : List Byte)
  | transportKey (input : List Byte)
  | svnRaise (input : List Byte)
  | buddyPair (input : List Byte)
  | info (input : List Byte)
  | secUnknownOpcode (opcode : BitVec 8)
  | accessRefused (read : Bool)
  | holdVoteSet (blocks : BitVec 7)
  | holdVoteClear (blocks : BitVec 7)
  | powerRequest (block : Fin 7) (change : PowerChange)
  | holdWindowCap
  | watchdogRestart
  | secureWatchdog
  | getVersion
  | getCapabilities
  | negotiateAlgorithms (extAsym extHash : Bool)
  | getDigests
  | getCertificate (slot : BitVec 4) (offset length : BitVec 16)
  | spdmChallenge (slot : BitVec 4) (nonce : BitVec 256)
  | getMeasurements (operation : BitVec 8) (signed : Bool) (nonce : BitVec 256)
  | chunkSend (handle : BitVec 8) (seq : BitVec 16) (last : Bool) (bytes : List Byte)
  | chunkGet (handle : BitVec 8) (seq : BitVec 16)
  -- boot
  | bootStepEnd (step : BitVec 8) (report : StepReport) (buddy : Option BuddyReport)
  | activeLate
  | bootReset
  | bootRetry
  | clearAlt
  -- performance counters and registers
  | pmcCtrWrite (n : BitVec 7) (value : Word) (occurrences : Nat)
  | pmcClear
  | pmcUpageWrite (u : BitVec 8) (value : Word)
  | registerWrite (offset : BitVec 26) (wide : Bool) (value : Word)
  -- the rows that stand at the table's end
  | startWindowExit (f : Feed) (mv : BitVec 16)
  | vauxInRange (mv : BitVec 16)
  | hostLinkLeavesL0 (low : HostLinkLow)
  | hostInterfaceReady
  | ctrlResendTimer (dst : Node)
  | wakePatternLimit (l : LinkNo)
  | primerStoreReload (slot : BitVec 6)
  | spillCopyBuilt (ring : Fin 2)
  | frameBadCrc (l : LinkNo) (uncorrectable : Bool)
  | revocationAtGrantee (owner : Node) (grantId : BitVec 32)
deriving DecidableEq, Repr

end Sys2Proof
end

