-- ==== Sys2Proof/Machine/Maps.lean ====
section
/-! DEFINITION. Sparse maps as sorted association lists, byte-string helpers and small list helpers.
A sparse map lists only the keys that differ from the map's stated default; keys rise strictly. -/

namespace Sys2Proof.Machine

/-- A sparse map from numbers, kept sorted by key. -/
abbrev NMap (α : Type) := List (Nat × α)

/-- The value listed at a key. -/
def mget {α : Type} : NMap α → Nat → Option α
  | [], _ => none
  | (k, v) :: m, i => if i = k then some v else if i < k then none else mget m i

/-- The value at a key, or the default of the map. -/
def mgetD {α : Type} (m : NMap α) (i : Nat) (d : α) : α := (mget m i).getD d

/-- List a value at a key, keeping the keys sorted. -/
def mset {α : Type} : NMap α → Nat → α → NMap α
  | [], i, v => [(i, v)]
  | (k, w) :: m, i, v => if i < k then (i, v) :: (k, w) :: m else if i = k then (i, v) :: m else (k, w) :: mset m i v

/-- Remove a key. -/
def mdel {α : Type} : NMap α → Nat → NMap α
  | [], _ => []
  | (k, w) :: m, i => if i = k then m else if i < k then (k, w) :: m else (k, w) :: mdel m i

/-- Replace the value at a listed key. -/
def mmod {α : Type} (m : NMap α) (i : Nat) (f : α → α) : NMap α :=
  match mget m i with
  | some v => mset m i (f v)
  | none => m

/-- Replace the value at a key, starting from the default where none is listed. -/
def mupd {α : Type} (m : NMap α) (i : Nat) (d : α) (f : α → α) : NMap α := mset m i (f (mgetD m i d))

/-- Is a key listed? -/
def mhas {α : Type} (m : NMap α) (i : Nat) : Bool := (mget m i).isSome

/-- The keys of a map. -/
def mkeys {α : Type} (m : NMap α) : List Nat := m.map (·.1)

/-- The values of a map. -/
def mvals {α : Type} (m : NMap α) : List α := m.map (·.2)

/-- Keep the entries that satisfy a test. -/
def mfilter {α : Type} (m : NMap α) (f : Nat → α → Bool) : NMap α := m.filter (fun kv => f kv.1 kv.2)

/-- Change every listed value. -/
def mmap {α : Type} (m : NMap α) (f : Nat → α → α) : NMap α := m.map (fun kv => (kv.1, f kv.1 kv.2))

/-- The smallest number below `n` that satisfies a test, counted from `i`. -/
def firstFrom (f : Nat → Bool) (i : Nat) : Nat → Option Nat
  | 0 => none
  | n + 1 => if f i then some i else firstFrom f (i + 1) n

/-- A number of `[base, base + n)` that satisfies a test: the first from `base + h` on, or else from `base` on. At most `bound`
numbers are looked at each time. -/
def firstRound (f : Nat → Bool) (base n h bound : Nat) : Option Nat :=
  match firstFrom f (base + h) (min (n - h) bound) with
  | some i => some i
  | none => firstFrom f base (min n bound)

/-- Little-endian value of a byte list. -/
def leNat : List Byte → Nat
  | [] => 0
  | b :: bs => b.toNat + 256 * leNat bs

/-- A number as `n` little-endian bytes. -/
def natLe : Nat → Nat → List Byte
  | 0, _ => []
  | n + 1, v => BitVec.ofNat 8 v :: natLe n (v / 256)

/-- The `n` bytes of a list from an offset; bytes past its end read 0. -/
def bytesAt (bs : List Byte) (off n : Nat) : List Byte :=
  let t := (bs.drop off).take n
  t ++ List.replicate (n - t.length) 0

/-- A little-endian field of a byte string. -/
def field (bs : List Byte) (off n : Nat) : Nat := leNat (bytesAt bs off n)

/-- Are all bytes of a range 0? -/
def allZero (bs : List Byte) (off n : Nat) : Bool := (bytesAt bs off n).all (· == 0)

/-- The bytes of a 64-byte entry or line, byte 0 first. -/
def lineBytes (l : Line) : List Byte := natLe 64 l.toNat

/-- A line from its bytes. -/
def bytesLine (bs : List Byte) : Line := BitVec.ofNat 512 (leNat bs)

/-- Byte `i` of a line. -/
def lineByte (l : Line) (i : Nat) : Byte := (l >>> (8 * i)).setWidth 8

/-- A mask of whole bytes from a byte mask: bit `i` of the mask gives byte `i`. -/
def spreadMask (mask : BitVec 64) : Line :=
  bytesLine ((List.range 64).map (fun i => if mask.getLsbD i then 0xFF else 0))

/-- Merge the bytes a mask selects into a line. -/
def mergeLine (old new : Line) (mask : BitVec 64) : Line :=
  let m := spreadMask mask
  (old &&& ~~~m) ||| (new &&& m)

/-- Division rounded up. -/
def ceilDiv (a b : Nat) : Nat := if b = 0 then 0 else (a + b - 1) / b

/-- Bit `i` of a number. -/
def nbit (v i : Nat) : Bool := v.testBit i

/-- The field `[hi:lo]` of a number. -/
def bits (v hi lo : Nat) : Nat := (v >>> lo) % 2 ^ (hi + 1 - lo)

/-- A flag as a bit. -/
def b2n (b : Bool) : Nat := if b then 1 else 0

/-- The number of set bits. -/
def popCount (w : Nat) (v : Nat) : Nat := ((List.range w).filter (fun i => v.testBit i)).length

/-- Remove the first element that satisfies a test, and give it. -/
def takeFirst {α : Type} (p : α → Bool) : List α → Option (α × List α)
  | [] => none
  | x :: xs => if p x then some (x, xs) else (takeFirst p xs).map (fun r => (r.1, x :: r.2))

/-- Replace the first element that satisfies a test. -/
def modFirst {α : Type} (p : α → Bool) (f : α → α) : List α → List α
  | [] => []
  | x :: xs => if p x then f x :: xs else x :: modFirst p f xs

/-- The greatest of a list of numbers, or 0. -/
def maxNat (l : List Nat) : Nat := l.foldl max 0

/-- Cut a list into pieces of `n`, with a bound on the number of pieces. -/
def chunks {α : Type} (n : Nat) : Nat → List α → List (List α)
  | 0, _ => []
  | k + 1, l => if l.isEmpty then [] else l.take n :: chunks n k (l.drop n)

end Sys2Proof.Machine
end

