-- ==== Sys2Proof/Machine/Keccak.lean ====
section
/-! DEFINITION. SHAKE256, cSHAKE256 and KMAC256 (the standards the manual names by R37, R53, R238, R512 and others),
written from FIPS 202 and SP 800-185. The state is 25 lanes of 64 bits in the order x + 5y. -/

namespace Sys2Proof.Machine

/-- Keccak round constants. -/
def keccakRC : List (BitVec 64) :=
  [0x0000000000000001, 0x0000000000008082, 0x800000000000808A, 0x8000000080008000,
   0x000000000000808B, 0x0000000080000001, 0x8000000080008081, 0x8000000000008009,
   0x000000000000008A, 0x0000000000000088, 0x0000000080008009, 0x000000008000000A] ++
  [0x000000008000808B, 0x800000000000008B, 0x8000000000008089, 0x8000000000008003,
   0x8000000000008002, 0x8000000000000080, 0x000000000000800A, 0x800000008000000A,
   0x8000000080008081, 0x8000000000008080, 0x0000000080000001, 0x8000000080008008]

/-- Rotation offsets in the lane order x + 5y. -/
def keccakRot : List Nat :=
  [0, 1, 62, 28, 27, 36, 44, 6, 55, 20, 3, 10, 43, 25, 39, 41, 45, 15, 21, 8, 18, 2, 61, 56, 14]

/-- One lane of a state. -/
def lane (a : List (BitVec 64)) (x y : Nat) : BitVec 64 := a.getD (x % 5 + 5 * (y % 5)) 0

/-- One Keccak-f round. -/
def keccakRound (a : List (BitVec 64)) (rc : BitVec 64) : List (BitVec 64) :=
  let c := (List.range 5).map (fun x => lane a x 0 ^^^ lane a x 1 ^^^ lane a x 2 ^^^ lane a x 3 ^^^ lane a x 4)
  let d := (List.range 5).map (fun x => c.getD ((x + 4) % 5) 0 ^^^ (c.getD ((x + 1) % 5) 0).rotateLeft 1)
  let a1 := (List.range 25).map (fun i => a.getD i 0 ^^^ d.getD (i % 5) 0)
  -- rho and pi: B[y][2x+3y] = rot A[x][y]
  let b := (List.range 25).map (fun i =>
    let x' := i % 5
    let y' := i / 5
    -- x' = y, y' = 2x + 3y, so y = x' and x = 3(y' - 3x') mod 5
    let y := x'
    let x := (3 * (y' + 15 - 3 * x')) % 5
    (lane a1 x y).rotateLeft (keccakRot.getD (x + 5 * y) 0))
  let e := (List.range 25).map (fun i =>
    let x := i % 5
    let y := i / 5
    lane b x y ^^^ (~~~(lane b (x + 1) y) &&& lane b (x + 2) y))
  match e with
  | [] => []
  | h :: t => (h ^^^ rc) :: t

/-- Keccak-f[1600]. -/
def keccakF (a : List (BitVec 64)) : List (BitVec 64) := keccakRC.foldl keccakRound a

/-- The rate of the 256-bit variants, in bytes. -/
def rate256 : Nat := 136

/-- Absorb one block of `rate256` bytes. -/
def absorbBlock (a : List (BitVec 64)) (blk : List Byte) : List (BitVec 64) :=
  keccakF ((List.range 25).map (fun i => a.getD i 0 ^^^ (if i < 17 then BitVec.ofNat 64 (field blk (8 * i) 8) else 0)))

/-- The bytes of the rate part of a state. -/
def rateBytes (a : List (BitVec 64)) : List Byte := ((a.take 17).map (fun l => natLe 8 l.toNat)).flatten

/-- Squeeze `n` blocks. -/
def squeeze : Nat → List (BitVec 64) → List Byte
  | 0, _ => []
  | n + 1, a => rateBytes a ++ squeeze n (keccakF a)

/-- The sponge with a domain-separation suffix byte. -/
def sponge (suffix : Byte) (msg : List Byte) (out : Nat) : List Byte :=
  let q := rate256 - msg.length % rate256
  let pad := if q = 1 then [suffix ||| 0x80] else suffix :: (List.replicate (q - 2) 0 ++ [0x80])
  let blocks := chunks rate256 (msg.length / rate256 + 1) (msg ++ pad)
  let a := blocks.foldl absorbBlock (List.replicate 25 0)
  (squeeze (ceilDiv out rate256) a).take out

/-- SHAKE256 with `out` bytes of output. -/
def shake256 (msg : List Byte) (out : Nat) : List Byte := sponge 0x1F msg out

/-- left_encode of SP 800-185, for numbers below 2^16. -/
def leftEncode (v : Nat) : List Byte :=
  if v < 256 then [1, BitVec.ofNat 8 v] else [2, BitVec.ofNat 8 (v / 256), BitVec.ofNat 8 v]

/-- right_encode of SP 800-185, for numbers below 2^16. -/
def rightEncode (v : Nat) : List Byte :=
  if v < 256 then [BitVec.ofNat 8 v, 1] else [BitVec.ofNat 8 (v / 256), BitVec.ofNat 8 v, 2]

/-- bytepad of SP 800-185 to the rate. -/
def bytepad (x : List Byte) : List Byte :=
  let z := leftEncode rate256 ++ x
  z ++ List.replicate ((rate256 - z.length % rate256) % rate256) 0

/-- encode_string of SP 800-185. -/
def encodeString (x : List Byte) : List Byte := leftEncode (8 * x.length) ++ x

/-- The ASCII bytes of a string. -/
def ascii (t : String) : List Byte := t.toList.map (fun c => BitVec.ofNat 8 c.toNat)

/-- KMAC256 of a message under a key, with a customization string and `out` bytes of output. -/
def kmac256 (key msg : List Byte) (out : Nat) (custom : List Byte) : List Byte :=
  sponge 0x04 (bytepad (encodeString (ascii "KMAC") ++ encodeString custom) ++ bytepad (encodeString key) ++ msg ++
    rightEncode (8 * out)) out

end Sys2Proof.Machine
end

