-- ==== Sys2Proof/Machine/Xts.lean ====
section
/-! DEFINITION. AES-256-XTS (R227, as IEEE 1619 specifies it) and the tweak and tag of a data unit (R229, R240). -/

namespace Sys2Proof.Machine

/-- The AES substitution box. -/
def aesSbox : List Byte :=
  [0x63, 0x7C, 0x77, 0x7B, 0xF2, 0x6B, 0x6F, 0xC5, 0x30, 0x01, 0x67, 0x2B, 0xFE, 0xD7, 0xAB, 0x76,
   0xCA, 0x82, 0xC9, 0x7D, 0xFA, 0x59, 0x47, 0xF0, 0xAD, 0xD4, 0xA2, 0xAF, 0x9C, 0xA4, 0x72, 0xC0] ++
  [0xB7, 0xFD, 0x93, 0x26, 0x36, 0x3F, 0xF7, 0xCC, 0x34, 0xA5, 0xE5, 0xF1, 0x71, 0xD8, 0x31, 0x15,
   0x04, 0xC7, 0x23, 0xC3, 0x18, 0x96, 0x05, 0x9A, 0x07, 0x12, 0x80, 0xE2, 0xEB, 0x27, 0xB2, 0x75] ++
  [0x09, 0x83, 0x2C, 0x1A, 0x1B, 0x6E, 0x5A, 0xA0, 0x52, 0x3B, 0xD6, 0xB3, 0x29, 0xE3, 0x2F, 0x84,
   0x53, 0xD1, 0x00, 0xED, 0x20, 0xFC, 0xB1, 0x5B, 0x6A, 0xCB, 0xBE, 0x39, 0x4A, 0x4C, 0x58, 0xCF] ++
  [0xD0, 0xEF, 0xAA, 0xFB, 0x43, 0x4D, 0x33, 0x85, 0x45, 0xF9, 0x02, 0x7F, 0x50, 0x3C, 0x9F, 0xA8,
   0x51, 0xA3, 0x40, 0x8F, 0x92, 0x9D, 0x38, 0xF5, 0xBC, 0xB6, 0xDA, 0x21, 0x10, 0xFF, 0xF3, 0xD2] ++
  [0xCD, 0x0C, 0x13, 0xEC, 0x5F, 0x97, 0x44, 0x17, 0xC4, 0xA7, 0x7E, 0x3D, 0x64, 0x5D, 0x19, 0x73,
   0x60, 0x81, 0x4F, 0xDC, 0x22, 0x2A, 0x90, 0x88, 0x46, 0xEE, 0xB8, 0x14, 0xDE, 0x5E, 0x0B, 0xDB] ++
  [0xE0, 0x32, 0x3A, 0x0A, 0x49, 0x06, 0x24, 0x5C, 0xC2, 0xD3, 0xAC, 0x62, 0x91, 0x95, 0xE4, 0x79,
   0xE7, 0xC8, 0x37, 0x6D, 0x8D, 0xD5, 0x4E, 0xA9, 0x6C, 0x56, 0xF4, 0xEA, 0x65, 0x7A, 0xAE, 0x08] ++
  [0xBA, 0x78, 0x25, 0x2E, 0x1C, 0xA6, 0xB4, 0xC6, 0xE8, 0xDD, 0x74, 0x1F, 0x4B, 0xBD, 0x8B, 0x8A,
   0x70, 0x3E, 0xB5, 0x66, 0x48, 0x03, 0xF6, 0x0E, 0x61, 0x35, 0x57, 0xB9, 0x86, 0xC1, 0x1D, 0x9E] ++
  [0xE1, 0xF8, 0x98, 0x11, 0x69, 0xD9, 0x8E, 0x94, 0x9B, 0x1E, 0x87, 0xE9, 0xCE, 0x55, 0x28, 0xDF,
   0x8C, 0xA1, 0x89, 0x0D, 0xBF, 0xE6, 0x42, 0x68, 0x41, 0x99, 0x2D, 0x0F, 0xB0, 0x54, 0xBB, 0x16]

/-- The position of a byte in a list, for the inverse substitution. -/
def indexOfByte (b : Byte) : List Byte → Nat → Nat
  | [], n => n
  | x :: xs, n => if x = b then n else indexOfByte b xs (n + 1)

/-- AES substitution of one byte. -/
def aesSub (b : Byte) : Byte := aesSbox.getD b.toNat 0

/-- Inverse AES substitution of one byte. -/
def aesInvSub (b : Byte) : Byte := BitVec.ofNat 8 (indexOfByte b aesSbox 0)

/-- Multiplication by x in the AES field. -/
def aesX (b : Byte) : Byte := (b <<< 1) ^^^ (if b.getLsbD 7 then 0x1B else 0)

/-- Multiplication by a small constant in the AES field. -/
def aesMul (k : Nat) (b : Byte) : Byte :=
  let b2 := aesX b
  let b4 := aesX b2
  let b8 := aesX b4
  (if k.testBit 0 then b else 0) ^^^ (if k.testBit 1 then b2 else 0) ^^^ (if k.testBit 2 then b4 else 0) ^^^
    (if k.testBit 3 then b8 else 0)

/-- Bytewise exclusive or. -/
def xorBytes (a b : List Byte) : List Byte := List.zipWith (· ^^^ ·) a b

/-- The AES-256 key schedule: 60 words of 4 bytes, built one at a time, newest first. -/
def aesSchedule (key : List Byte) : Nat → List (List Byte)
  | 0 => (chunks 4 8 key).reverse
  | n + 1 =>
    let w := aesSchedule key n
    let i := 8 + n
    let t := w.headD []
    let t1 := if i % 8 = 0 then
        let r := (t.drop 1 ++ t.take 1).map aesSub
        match r with
        | [] => []
        | h :: r' => (h ^^^ ((1 : Byte) <<< (i / 8 - 1))) :: r'
      else if i % 8 = 4 then t.map aesSub else t
    xorBytes (w.getD 7 []) t1 :: w

/-- The 15 round keys of AES-256, 16 bytes each. -/
def aesRoundKeys (key : List Byte) : List (List Byte) := chunks 16 15 (aesSchedule key 52).reverse.flatten

/-- ShiftRows on 16 bytes in column order. -/
def aesShift (b : List Byte) : List Byte := (List.range 16).map (fun i => b.getD ((i + 4 * (i % 4)) % 16) 0)

/-- Inverse ShiftRows. -/
def aesInvShift (b : List Byte) : List Byte := (List.range 16).map (fun i => b.getD ((i + 12 * (i % 4)) % 16) 0)

/-- A column mix with the given first row of multipliers. -/
def aesMixWith (m : List Nat) (b : List Byte) : List Byte :=
  (List.range 16).map (fun i =>
    let c := 4 * (i / 4)
    let r := i % 4
    ((List.range 4).map (fun j => aesMul (m.getD ((j + 4 - r) % 4) 0) (b.getD (c + j) 0))).foldl (· ^^^ ·) 0)

/-- AES-256 encryption of one 16-byte block. -/
def aesEncrypt (rks : List (List Byte)) (blk : List Byte) : List Byte :=
  match rks with
  | [] => blk
  | k0 :: ks =>
    let st := (ks.take 13).foldl (fun st k => xorBytes (aesMixWith [2, 3, 1, 1] (aesShift (st.map aesSub))) k) (xorBytes blk k0)
    xorBytes (aesShift (st.map aesSub)) (ks.getD 13 [])

/-- AES-256 decryption of one 16-byte block. -/
def aesDecrypt (rks : List (List Byte)) (blk : List Byte) : List Byte :=
  match rks.reverse with
  | [] => blk
  | k0 :: ks =>
    let st := (ks.take 13).foldl (fun st k => aesMixWith [14, 11, 13, 9] (xorBytes ((aesInvShift st).map aesInvSub) k))
      (xorBytes blk k0)
    xorBytes ((aesInvShift st).map aesInvSub) (ks.getD 13 [])

/-- Multiplication of an XTS tweak by the primitive element. -/
def xtsDouble (t : BitVec 128) : BitVec 128 := (t <<< 1) ^^^ (if t.getLsbD 127 then 0x87 else 0)

/-- XTS over whole 16-byte blocks: the exclusive-or masks of successive blocks come by doubling. -/
def xtsBlocks (f : List Byte → List Byte) : List (List Byte) → BitVec 128 → List Byte
  | [], _ => []
  | b :: bs, t =>
    let m := natLe 16 t.toNat
    xorBytes (f (xorBytes b m)) m ++ xtsBlocks f bs (xtsDouble t)

/-- The three 256-bit keys of a live generation of a key domain (R232); byte 0 of a key is its bits [7:0]. -/
structure KeySet where
  dataKey : BitVec 256
  tweakKey : BitVec 256
  tagKey : BitVec 256
deriving DecidableEq, Repr, Inhabited

/-- AES-256-XTS encryption of a data unit under a 128-bit tweak (R227, R229). -/
def xtsEncrypt (k : KeySet) (tweak : BitVec 128) (data : List Byte) : List Byte :=
  let t := BitVec.ofNat 128 (leNat (aesEncrypt (aesRoundKeys (natLe 32 k.tweakKey.toNat)) (natLe 16 tweak.toNat)))
  xtsBlocks (aesEncrypt (aesRoundKeys (natLe 32 k.dataKey.toNat))) (chunks 16 (data.length / 16) data) t

/-- AES-256-XTS decryption of a data unit under a 128-bit tweak (R227, R229). -/
def xtsDecrypt (k : KeySet) (tweak : BitVec 128) (data : List Byte) : List Byte :=
  let t := BitVec.ofNat 128 (leNat (aesEncrypt (aesRoundKeys (natLe 32 k.tweakKey.toNat)) (natLe 16 tweak.toNat)))
  xtsBlocks (aesDecrypt (aesRoundKeys (natLe 32 k.dataKey.toNat))) (chunks 16 (data.length / 16) data) t

/-- The tweak of a data unit (R229): domain, home node, unit and key generation. -/
def xtsTweak (domain home unit : Nat) (kgen : Bool) : BitVec 128 :=
  BitVec.ofNat 128 (domain % 4096 * 2 ^ 56 + home % 4096 * 2 ^ 44 + unit % 2 ^ 43 * 2 + b2n kgen)

/-- The unit field of a line (R229). -/
def unitOfLine (dpa : Nat) : Nat := dpa / 64

/-- The unit field of a block (R229). -/
def unitOfBlock (dpa : Nat) : Nat := 2 ^ 42 + dpa / 1024

/-- The tag of a stored block: the first 8 bytes of KMAC256 over the tweak and the ciphertext (R240). -/
def blockTag (k : KeySet) (tweak : BitVec 128) (cipher : List Byte) : BitVec 64 :=
  BitVec.ofNat 64 (leNat ((kmac256 (natLe 32 k.tagKey.toNat) (natLe 16 tweak.toNat ++ cipher) 64 (ascii "LX9012 TAG")).take 8))

end Sys2Proof.Machine
end

