-- ==== Sys2Proof/Config.lean ====
section
/-! DEFINITION. Constants the manual fixes for every part, and the free values: results that the manual does not state. A free
value has no body, so nothing can be proved of what it is. -/

namespace Sys2Proof

/-- FREE VALUE. A value the manual does not state, fresh for every use of the state's counter of them. -/
opaque Config.freeNat : Nat → Nat

/-- FREE VALUE. The keys that the secure world's random source generates, by the number of the generation (R233, R237). -/
opaque Config.keyValues : Nat → Machine.KeySet

/-- FREE VALUE. The keys of an owner's domain and generation that its buddy's secure world has from the owner's envelopes: owner,
domain, KGEN (R170, R520, R521). -/
opaque Config.sharedKeys : Nat → Nat → Bool → Machine.KeySet

/-- FREE VALUE. Verification of a Falcon-1024 signature: public key, message, signature (R37, R512 to R520). -/
opaque Config.falconVerify : List Byte → List Byte → List Byte → Bool

/-- FREE VALUE. A Falcon-1024 signature by the alias key derived from a device secret over given measurements (R515). -/
opaque Config.aliasSign : Nat → List Byte → List Byte → List Byte

/-- FREE VALUE. The certificate chain of slot 0 for a device secret, the measurements of the alias key, and the node ID and the owner
digest in its certificate (R515). -/
opaque Config.certChain : Nat → List Byte → Nat → List Byte → List Byte

/-- FREE VALUE. The encoded ML-KEM-1024 transport public key of a device secret, 1,568 B (R515, R519). -/
opaque Config.transportKey : Nat → List Byte

/-- FREE VALUE. Decapsulation and key unwrap of R519: device secret, ciphertext, wrapped keys; none on an unwrap failure. -/
opaque Config.unwrapKeys : Nat → List Byte → List Byte → Option Machine.KeySet

/-- FREE VALUE. Does a certificate chain verify to the Haldind root (R520)? -/
opaque Config.chainVerifies : List Byte → Bool

/-- FREE VALUE. Owner digest and node ID in the alias certificate of a chain (R515, R520). -/
opaque Config.chainOwner : List Byte → List Byte
opaque Config.chainNode : List Byte → Nat

/-- FREE VALUE. The vendor image key and the vendor firmware key, whose digests are in secure ROM (R53, R509). -/
opaque Config.vendorImageKey : List Byte
opaque Config.vendorFwKey : List Byte

/-- FREE VALUE. Measurement 1: the digest of the secure ROM (R518). -/
opaque Config.romDigest : List Byte

/-- FREE VALUE. The envelope bytes that the secure world of this device forms for a pairing, by envelope number (R520, R521). -/
opaque Config.envelopeBytes : Nat → List Byte

/-- FREE VALUE. Does an envelope gathered from an owner verify (R521)? -/
opaque Config.envelopeVerifies : Nat → List Line → Bool

/-- FREE VALUE. The window offset at which an owner's extent starts, in 2 MiB units, as an acting owner knows it (R174). -/
opaque Config.extentBase : Nat → Nat → Nat

/-- FREE VALUE. The key domain of an owner's extent as its buddy's secure world knows it (R170). -/
opaque Config.copyDomain : Nat → Nat → Nat

/-- FREE VALUE. The current KGEN of that key domain as the buddy's secure world knows it: owner, extent index, and how many envelopes of
the owner it has stored (R170, R521). -/
opaque Config.copyKgen : Nat → Nat → Nat → Bool

/-- FREE VALUE. What a buddy restores of an extent of a returned owner, by owner and extent index: its start and length in 2 MiB units,
region and tag (R176). -/
opaque Config.extentHeld : Nat → Nat → Option (Nat × Nat × Nat × BitVec 128)

/-- FREE VALUE. What an owner's grant covers for this device, by owner and grant id: its start and length in 2 MiB units of the
owner's window; none where the owner holds no such grant for this node (R77, R96). -/
opaque Config.grantAt : Nat → Nat → Option (Nat × Nat)

/-- FREE VALUE. The revision string, 16 B, of a firmware image by its digest (R481). -/
opaque Config.fwRevision : List Byte → List Byte

/-- FREE VALUE. The fields of Identify Memory Device that the manual does not state, by number (R481). -/
opaque Config.identifyField : Nat → Nat

/-- FREE VALUE. The effects word of an opcode in the Command Effects Log (R481). -/
opaque Config.celEffect : Nat → Nat

/-- FREE VALUE. The code of the SPDM error NegotiationFail (R517). -/
opaque Config.negotiationFail : BitVec 8

/-- FREE VALUE. CTExponent of SPDM CAPABILITIES (R516). -/
opaque Config.ctExponent : Byte

/-- FREE VALUE. The SMB_ADDR1 and SMB_ADDR0 straps of the board (R650). -/
opaque Config.straps : BitVec 2

/-- FREE VALUE. Where a threshold of a part lies between its minimum and its maximum, by feed and threshold (R555, R563). -/
opaque Config.comparator : Nat → Nat

/-- FREE VALUE. The stack of a near-cache block, and its place in the stack's near-cache area, by block key (R283). -/
opaque Config.nearStack : Nat → Nat
opaque Config.nearPlace : Nat → Nat

/-- FREE VALUE. Where a holder keeps a pod in DDR-5, by the key of the owner and the pod (R94). -/
opaque Config.storedPodAt : Nat → Nat

/-- FREE VALUE. The 64 B line of DDR-5 that holds a line of the descriptor table, or an entry of the extent table (R80, R92, R163). -/
opaque Config.tableLine : Nat → Nat

/-- Revision of the modelled silicon: B0, so rev_major 1 and rev_minor 0 (R9, R475). -/
def Config.revision : Nat := 0x10

/-- Vendor ID of Haldind Microsystems and the device ID (R475). -/
def Config.vendorId : Nat := 0x1F6E
def Config.deviceId : Nat := 0x9012

/-- Class code of a CXL memory device, and the subsystem's vendor and ID (R475). -/
def Config.classCode : Nat := 0x050210
def Config.subsystemVendor : Nat := 0x1F6E
def Config.subsystemId : Nat := 0x0001

/-- What the PCIe DVSEC for CXL Devices reports (R476). -/
structure Config.CxlDvsec where
  memCapable : Bool
  cacheCapable : Bool
  hdmCount : Nat
  range1Size : Nat
  memoryActiveTimeoutS : Nat
  memoryClassVolatile : Bool
  resetCapable : Bool
  resetTimeoutMs : Nat
  resetMemClrCapable : Bool
deriving DecidableEq, Repr

/-- The values of R476: one range of size 0, since all capacity is Dynamic Capacity. -/
def Config.cxlDvsec : Config.CxlDvsec := ⟨true, false, 1, 0, 16, true, true, 100, false⟩

/-- Where the Register Locator places the component registers and the CXL Memory Device Registers in BAR 0 (R476, R479). -/
def Config.componentRegisters : Nat := 0x00000000
def Config.memoryDeviceRegisters : Nat := 0x00010000

end Sys2Proof
end

