-- ==== Sys2Proof/Machine/Codec.lean ====
section
/-! DEFINITION. The compressed block format: primers (R201 to R203), the code stream (R190 to R193), the decoder (R193,
R195 to R197) and the one fixed parse of the compressor (R199, R200). -/

namespace Sys2Proof.Machine

/-- A valid primer's contents: its phrases in code order, code 258 + k being phrase k (R201). -/
structure Primer where
  bytes : List Byte
  phrases : List (List Byte)
deriving DecidableEq, Repr

/-- Cut the phrase bytes by the phrase lengths. -/
def cutPhrases : List Nat → List Byte → List (List Byte)
  | [], _ => []
  | n :: ns, bs => bs.take n :: cutPhrases ns (bs.drop n)

/-- Read a primer from its byte string: none when any field breaks R201 or R202. -/
def parsePrimer (bs : List Byte) : Option Primer :=
  let count := field bs 4 2
  let pb := field bs 8 4
  let lens := (bytesAt bs 16 count).map (·.toNat)
  if field bs 0 4 = 0x314D5250 ∧ count ≤ 2048 ∧ allZero bs 6 2 ∧ pb ≤ 16384 ∧ (pb = 0 ↔ count = 0) ∧ allZero bs 12 4 ∧
      lens.all (fun n => 2 ≤ n && n ≤ 32) ∧ lens.foldl (· + ·) 0 = pb ∧ bs.length = 16 + count + pb then
    some ⟨bs, cutPhrases lens (bs.drop (16 + count))⟩
  else none

/-- A primer's fingerprint: the first 8 bytes of SHAKE256 over its bytes, byte 0 in bits [7:0] (R203). -/
def primerFingerprint (bs : List Byte) : BitVec 64 := BitVec.ofNat 64 (leNat (shake256 bs 8))

/-- The primer of an empty slot: no phrases, plain adaptive compression (R202). -/
def Primer.empty : Primer := ⟨natLe 16 0x314D5250, []⟩

/-- The width of the next code, from the value of n before it is read (R192). -/
def codeWidth (n : Nat) : Nat := max 9 (min 12 (Nat.log2 n + 1))

/-- May an entry be added after the previous phrase (R193)? -/
def addable (prev : Option (List Byte)) (n : Nat) : Bool :=
  match prev with
  | none => false
  | some p => n < 4096 && p.length < 64

/-- The adaptive entries and the next code, after a phrase `s` that follows `prev` (R193). -/
def addEntry (entries : List (List Byte)) (prev : Option (List Byte)) (n : Nat) (s : List Byte) : List (List Byte) × Nat :=
  if addable prev n then (entries ++ [prev.getD [] ++ s.take 1], n + 1) else (entries, n)

/-- The string of a code (R191, R193), or none where the code is invalid. -/
def codeString (ph entries : List (List Byte)) (prev : Option (List Byte)) (n c : Nat) : Option (List Byte) :=
  if c < 256 then some [BitVec.ofNat 8 c]
  else if c < 258 + ph.length then some (ph.getD (c - 258) [])
  else if c < n then some (entries.getD (c - 258 - ph.length) [])
  else if c = n ∧ addable prev n then some (prev.getD [] ++ (prev.getD []).take 1)
  else none

/-- The decoding procedure of R193 over a bit string of `len` bits held in `v`, least significant bit first. `out` is the
output so far, newest byte first. -/
def decodeLoop (ph : List (List Byte)) (v len : Nat) : Nat → Nat → List (List Byte) → Nat → Option (List Byte) → List Byte → Nat →
    Except DecError (List Byte)
  | 0, _, _, _, _, _, _ => .error .expansion
  | fuel + 1, p, entries, n, prev, out, o =>
    let w := codeWidth n
    if len < p + w then .error .truncated
    else
      let c := (v >>> p) % 2 ^ w
      if c = 256 then (if o = 1024 then .ok out.reverse else .error .short)
      else if c = 257 then
        if len < p + w + 6 then .error .truncated
        else
          let z := ((v >>> (p + w)) % 64 + 1) * 4
          if 1024 < o + z then .error .expansion
          else decodeLoop ph v len fuel (p + w + 6) entries n none (List.replicate z 0 ++ out) (o + z)
      else
        match codeString ph entries prev n c with
        | none => .error .invalid
        | some s =>
          if 1024 < o + s.length then .error .expansion
          else
            let (entries', n') := addEntry entries prev n s
            decodeLoop ph v len fuel (p + w) entries' n' (some s) (s.reverse ++ out) (o + s.length)

/-- Decode the stored form of a compressed block of `blen` pods (R193). -/
def decodeBlock (pr : Primer) (blen : Nat) (stored : List Byte) : Except DecError (List Byte) :=
  decodeLoop pr.phrases (leNat (bytesAt stored 0 (64 * blen))) (512 * blen) 1026 0 [] (258 + pr.phrases.length) none [] 0

/-- The number of zero bytes at the front of a list. -/
def zeroRun : List Byte → Nat
  | [] => 0
  | b :: bs => if b = 0 then zeroRun bs + 1 else 0

/-- Is the first list a front part of the second? -/
def isFront : List Byte → List Byte → Bool
  | [], _ => true
  | _ :: _, [] => false
  | a :: as, b :: bs => a == b && isFront as bs

/-- The longest candidate string at the front of the rest, lowest code first among equals (R199): candidates are tried in
rising code order and a later one wins only when longer. -/
def bestCandidate (rest : List Byte) : List (List Byte) → Nat → Nat × List Byte → Nat × List Byte
  | [], _, best => best
  | s :: ss, c, best =>
    bestCandidate rest ss (c + 1) (if best.2.length < s.length && isFront s rest then (c, s) else best)

/-- The code and string the compressor emits by rule 2 of R199. -/
def chooseCode (ph entries : List (List Byte)) (prev : Option (List Byte)) (n : Nat) (rest : List Byte) : Nat × List Byte :=
  let lit := rest.take 1
  let b0 := ((lit.headD 0).toNat, lit)
  let b1 := bestCandidate rest ph 258 b0
  let b2 := bestCandidate rest entries (258 + ph.length) b1
  if addable prev n then bestCandidate rest [prev.getD [] ++ (prev.getD []).take 1] n b2 else b2

/-- The fixed parse of R199: emits codes into `acc`, `p` bits so far. It ends at END, or as soon as more than 7,680 bits are
out (R200). -/
def compressLoop (ph : List (List Byte)) : Nat → List Byte → List (List Byte) → Nat → Option (List Byte) → Nat → Nat →
    Option (Nat × Nat)
  | 0, _, _, _, _, _, _ => none
  | fuel + 1, rest, entries, n, prev, acc, p =>
    let w := codeWidth n
    if 7680 < p then none
    else if rest.isEmpty then
      let p' := p + w
      if 7680 < p' then none else some (acc + 256 * 2 ^ p, p')
    else
      let z := zeroRun rest
      if 8 ≤ z then
        let k := min (z / 4) 64 - 1
        compressLoop ph fuel (rest.drop (4 * (k + 1))) entries n none (acc + (257 + k * 2 ^ w) * 2 ^ p) (p + w + 6)
      else
        let (c, s) := chooseCode ph entries prev n rest
        let (entries', n') := addEntry entries prev n s
        compressLoop ph fuel (rest.drop s.length) entries' n' (some s) (acc + c * 2 ^ p) (p + w)

/-- A compressor's result for one block (R188): its stored form. -/
inductive BlockResult where
  | zero
  | packed (blen : Nat) (stored : List Byte)
  | nogain
  | verifyFail
deriving DecidableEq, Repr

/-- Compress 1,024 bytes with a primer (R188, R199, R200). -/
def compressBlock (pr : Primer) (block : List Byte) : BlockResult :=
  if block.all (· == 0) then .zero
  else match compressLoop pr.phrases 1026 block [] (258 + pr.phrases.length) none 0 0 with
    | none => .nogain
    | some (acc, p) => .packed (ceilDiv p 512) (natLe (64 * ceilDiv p 512) acc)

end Sys2Proof.Machine
end

