-- ==== Sys2Proof/Machine/Image.lean ====
section
/-! DEFINITION. The decoded Clabex image: its header, BASIC, expert records and primers; the section catalogue (R44);
the derivation of expert records from BASIC (R52) and the merge of R42, computed on demand by `Img.rcd`. -/

namespace Sys2Proof.Machine

/-- The BASIC section (R50). -/
structure Basic where
  nodeId : Nat
  rows : Nat
  columns : Nat
  linksPerPair : Nat
  linkRate : Nat
  buddyNode : Nat
  sleepableRows : Nat
  wakeLinks : Nat
  feedsExpected : Nat
  dimmsPerChannel : Nat
  channelMask : Nat
  dimmCapacityGib : Nat
  dimmRanks : Nat
  degradedStart : Nat
  maxSpeedMts : Nat
  trainingPolicy : Nat
  preset : Nat
  windowSize2m : Nat
  regionCount : Nat
  dcBlockLog2 : Nat
  extentsMax : Nat
  defaultLabel : Nat
  defaultDurability : Nat
  defaultKeyDomain : Nat
  defaultPrimer : Nat
  integrity : Nat
  rtLabels : Nat
  guaranteedLabels : Nat
  backgroundSharePct : Nat
  labelWeight : List Nat
  breakerRatingA : Nat
  ilimStartDa : Nat
  startupTimerMs : Nat
  retryPolicy : Nat
  sleepPolicy : Nat
  faultProfile : Nat
  restAfterS : Nat
  deepAfterS : Nat
  e2eTimeoutUs : Nat
  linkGiveupMs : Nat
  replayTimerUs : Nat
  placementEngines : Nat
deriving DecidableEq, Repr

/-- The values of the Default column of R50. -/
def Basic.default : Basic where
  nodeId := 0
  rows := 1
  columns := 1
  linksPerPair := 1
  linkRate := 1
  buddyNode := 0xFFFF
  sleepableRows := 0
  wakeLinks := 0
  feedsExpected := 3
  dimmsPerChannel := 1
  channelMask := 0x0FFF
  dimmCapacityGib := 256
  dimmRanks := 2
  degradedStart := 0
  maxSpeedMts := 6400
  trainingPolicy := 1
  preset := 2
  windowSize2m := 1048576
  regionCount := 1
  dcBlockLog2 := 21
  extentsMax := 65536
  defaultLabel := 0
  defaultDurability := 0
  defaultKeyDomain := 0
  defaultPrimer := 0
  integrity := 1
  rtLabels := 0
  guaranteedLabels := 1
  backgroundSharePct := 10
  labelWeight := List.replicate 14 16
  breakerRatingA := 25
  ilimStartDa := 60
  startupTimerMs := 12
  retryPolicy := 1
  sleepPolicy := 1
  faultProfile := 1
  restAfterS := 60
  deepAfterS := 600
  e2eTimeoutUs := 500
  linkGiveupMs := 2
  replayTimerUs := 6
  placementEngines := 32

/-- An expert record as the image holds it (R41): DELETE or SET, its present bits and its field values. -/
structure Over where
  delete : Bool
  present : BitVec 32
  fields : List Nat
deriving DecidableEq, Repr

/-- A decoded image (R36 to R50). `over` lists the expert records by section id and key; `primers` the installed slots;
`poolDigest` is the first 16 bytes of SHAKE256 over the pool-wide section bodies (R64). -/
structure Img where
  serial : BitVec 32
  svn : Nat
  minRev : Nat
  bindLot : BitVec 32
  poolId : BitVec 64
  poolEpoch : BitVec 32
  basic : Basic
  overs : NMap (NMap Over)
  primers : NMap Primer
  poolDigest : BitVec 128
deriving DecidableEq, Repr

/-- The kinds of a section (R44, R60). -/
inductive SecKind where
  | live
  | refold
  | restart
deriving DecidableEq, Repr

/-- One row of the section catalogue (R44): kind, POOL flag, record size, greatest record count, key bound and the offsets
and sizes of the fields in present-bit order. -/
structure SecRow where
  kind : SecKind
  pool : Bool
  recSize : Nat
  maxCount : Nat
  fields : List (Nat × Nat)
deriving DecidableEq, Repr

/-- Fields that follow the record header back to back from offset 8 (R44). -/
def packFields : Nat → List Nat → List (Nat × Nat)
  | _, [] => []
  | o, n :: ns => (o, n) :: packFields (o + n) ns

/-- Section ids. -/
def secDimm : Nat := 0x10
def secRld : Nat := 0x11
def secWindow : Nat := 0x20
def secTags : Nat := 0x21
def secDurability : Nat := 0x22
def secPolicy : Nat := 0x23
def secPrimers : Nat := 0x24
def secDomains : Nat := 0x25
def secGeometry : Nat := 0x30
def secNode : Nat := 0x31
def secRoutes : Nat := 0x32
def secLabels : Nat := 0x40
def secFaults : Nat := 0x50
def secBreaker : Nat := 0x51
def secRules : Nat := 0x52
def secRoles : Nat := 0x60
def secMem : Nat := 0x70

/-- The fields of a POLICY record (R139). -/
def policyFields : List (Nat × Nat) :=
  [(0x08, 1), (0x09, 1), (0x0A, 1), (0x0B, 1), (0x0C, 2), (0x0E, 2), (0x10, 1), (0x11, 1), (0x12, 1)] ++
  [(0x14, 2), (0x16, 1), (0x17, 1), (0x18, 1), (0x19, 1), (0x1A, 1), (0x1B, 1), (0x1C, 2), (0x1E, 2), (0x20, 2), (0x22, 2),
   (0x24, 4), (0x28, 2), (0x2A, 2)]

/-- The section catalogue (R44); BASIC is not a record section. -/
def catalogue (id : Nat) : Option SecRow :=
  if id = secDimm then some ⟨.restart, false, 32, 24, packFields 8 [1, 2, 2, 2, 4, 8]⟩
  else if id = secRld then some ⟨.restart, false, 16, 5, packFields 8 [2, 2]⟩
  else if id = secWindow then some ⟨.refold, false, 32, 8, packFields 8 [4, 4, 4, 1]⟩
  else if id = secTags then some ⟨.refold, false, 32, 4096, packFields 8 [16, 1, 2, 1, 1, 1]⟩
  else if id = secDurability then some ⟨.refold, false, 16, 1, packFields 8 [2, 2, 1]⟩
  else if id = secPolicy then some ⟨.live, false, 64, 16, policyFields⟩
  else if id = secPrimers then some ⟨.live, false, 32, 64, packFields 8 [4, 4, 8]⟩
  else if id = secDomains then some ⟨.refold, false, 16, 4096, packFields 8 [1, 1]⟩
  else if id = secGeometry then some ⟨.restart, true, 32, 1, packFields 8 [1, 1, 1, 1, 8]⟩
  else if id = secNode then some ⟨.restart, false, 16, 257, packFields 8 [2, 4]⟩
  else if id = secRoutes then some ⟨.live, true, 16, 4096, packFields 8 [1, 1, 1, 1]⟩
  else if id = secLabels then some ⟨.live, false, 32, 16, packFields 8 [2, 1, 1, 4, 4, 4, 2, 2, 2, 1, 1]⟩
  else if id = secFaults then some ⟨.live, false, 16, 1024, packFields 8 [1, 1, 2]⟩
  else if id = secBreaker then some ⟨.live, false, 16, 32, packFields 8 [2, 3, 1, 1, 1]⟩
  else if id = secRules then
    some ⟨.live, false, 32, 256, [(8, 1), (9, 1), (10, 1), (11, 1), (12, 1), (13, 1), (14, 1), (16, 4), (20, 4), (24, 4), (28, 2)]⟩
  else if id = secRoles then some ⟨.restart, false, 16, 60, packFields 8 [1]⟩
  else if id = secMem then
    some ⟨.restart, false, 64, 13, [(8, 1), (9, 1), (10, 1), (11, 1), (12, 2), (14, 2), (16, 1), (17, 1), (18, 1), (20, 16), (36, 24)]⟩
  else none

/-- The fields of a record by section and key: a NODE link record and a MEMCTL channel record have their own layouts
(R44, R441). -/
def recFields (id key : Nat) : List (Nat × Nat) :=
  if id = secNode ∧ key ≠ 0 then packFields 8 [1, 2, 1]
  else if id = secMem ∧ key ≠ 0 then [(8, 2), (10, 1), (11, 1), (12, 1), (13, 1), (14, 1), (15, 1)]
  else match catalogue id with
    | some r => r.fields
    | none => []

/-- Number of neighbours P of a geometry (R299). -/
def neighbours (rows cols : Nat) : Nat := (rows - 1) + (cols - 1)

/-- The neighbour index of a peer seen from a node (R300): a column peer by its row, a row peer by its column. -/
def neighbourIndex (rows node peer : Nat) : Nat :=
  if node % 64 = peer % 64 then (if peer / 64 < node / 64 then peer / 64 else peer / 64 - 1)
  else (rows - 1) + (if peer % 64 < node % 64 then peer % 64 else peer % 64 - 1)

/-- The node at a neighbour index (R300). -/
def neighbourNode (rows node i : Nat) : Nat :=
  let r := node / 64
  let c := node % 64
  if i < rows - 1 then (if i < r then i else i + 1) * 64 + c
  else
    let j := i - (rows - 1)
    r * 64 + (if j < c then j else j + 1)

/-- The peer node and the peer's link number of a link, or none for an unused link (R300). -/
def linkPeer (rows cols k node link : Nat) : Option (Nat × Nat) :=
  let p := neighbours rows cols
  if p ≠ 0 ∧ link < p * k then
    let peer := neighbourNode rows node (link % p)
    some (peer, link / p * p + neighbourIndex rows peer node)
  else none

/-- Are two nodes neighbours (R299)? -/
def isNeighbour (a b : Nat) : Bool := (a ≠ b) && (a / 64 == b / 64 || a % 64 == b % 64)

/-- Preset values of POLICY record 0 but for ledger_mib (R140), in present-bit order. -/
def presetFields (preset ledger : Nat) : List Nat :=
  if preset = 1 then [40, 4, 16, 5, 120, 1800, 1, 1, 1, 1000, 15, 2, 4, 40, 5, 90, 2000, 1000, 8000, 256, ledger, 32, 60]
  else if preset = 3 then [12, 1, 4, 5, 3600, 14400, 1, 1, 1, 1000, 75, 5, 10, 10, 20, 60, 8000, 4000, 8000, 256, ledger, 8, 60]
  else [24, 2, 8, 5, 600, 3600, 1, 1, 1, 1000, 40, 3, 6, 25, 10, 75, 4000, 2000, 8000, 256, ledger, 16, 60]

/-- The last engine source with a default severity is 0x37B; sources 0x37C to 0x3FF are never raised (R532, R533). The default
severity of every defined event, by the chapters' event tables; none for an event that no chapter defines. -/
def eventDefault (e : Nat) : Option Nat :=
  if e < 0x100 then some 2
  else if 0x100 ≤ e ∧ e < 0x10C then some 2
  else if 0x140 ≤ e ∧ e < 0x144 then some 2
  else if 0x160 ≤ e ∧ e ≤ 0x16B then some ([2, 2, 3, 3, 1, 0, 0, 2, 2, 3, 0, 4].getD (e - 0x160) 0)
  else if 0x1A0 ≤ e ∧ e ≤ 0x1A8 then some ([0, 1, 2, 2, 3, 3, 0, 2, 2].getD (e - 0x1A0) 0)
  else if 0x1E2 ≤ e ∧ e ≤ 0x1E9 then some ([3, 2, 2, 0, 3, 1, 2, 3].getD (e - 0x1E2) 0)
  else if 0x1F0 ≤ e ∧ e ≤ 0x1FB then some ([0, 0, 2, 2, 0, 2, 1, 4, 1, 3, 1, 2].getD (e - 0x1F0) 0)
  else if 0x220 ≤ e ∧ e ≤ 0x22F then some ([2, 0, 2, 3, 0, 0, 1, 2, 1, 2, 0, 0, 3, 0, 3, 2].getD (e - 0x220) 0)
  else if 0x230 ≤ e ∧ e ≤ 0x232 then some ([0, 1, 2].getD (e - 0x230) 0)
  else if 0x240 ≤ e ∧ e ≤ 0x242 then some ([0, 0, 1].getD (e - 0x240) 0)
  else if 0x260 ≤ e ∧ e ≤ 0x267 then some ([1, 1, 2, 2, 0, 3, 0, 0].getD (e - 0x260) 0)
  else if 0x280 ≤ e ∧ e ≤ 0x283 then some 2
  else if 0x2C0 ≤ e ∧ e ≤ 0x2C7 then some ([2, 4, 2, 2, 4, 1, 2, 0].getD (e - 0x2C0) 0)
  else if 0x2C8 ≤ e ∧ e ≤ 0x2DF then some 0
  else if 0x2E0 ≤ e ∧ e ≤ 0x2EA then some ([3, 4, 0, 2, 2, 0, 0, 0, 0, 0, 2].getD (e - 0x2E0) 0)
  else if 0x300 ≤ e ∧ e ≤ 0x307 then some ([2, 0, 3, 1, 3, 2, 1, 2].getD (e - 0x300) 0)
  else if 0x340 ≤ e ∧ e ≤ 0x37B then some 3
  else none

/-- The default severity, route and vector of an event (R536), under the given fault profile (R52). Route bits: 0 MSI-X,
1 ALERT_L, 2 Radish, 3 pool. -/
def faultDefault (profile e : Nat) : List Nat :=
  match eventDefault e with
  | none => [0, 0, 0]
  | some s0 =>
    let s := if profile = 2 ∧ s0 = 2 then 3 else s0
    let s3 := if 3 ≤ s then 1 else 0
    let s2 := if 2 ≤ s then 1 else 0
    if e < 0x100 then [s, 1 + 2 * s3, 1]
    else if e < 0x160 then [s, 1 + 10 * s3, 2]
    else if e < 0x1A0 then [s, 1 + 10 * s3, 3]
    else if e < 0x1E0 then [s, 1 + 2 * s3, 4]
    else if e < 0x220 then [s, 1 + 2 * s3, 5]
    else if e < 0x260 then [s, 1 + 2 * s3, 6]
    else if e < 0x280 then [s, 1 + 2 * s3, 7]
    else if e < 0x2C0 then [s, 5 + 2 * s2, 8]
    else if e < 0x2E0 then [s, 5 + 2 * s2, 9]
    else if e < 0x300 then [s, 1 + 2 * s2, 10]
    else if e < 0x340 then [s, 5 + 2 * s3, 11]
    else [s, 1 + 2 * s3, 12]

/-- The standard Radish rules (R589): input, index, filter, avg_log2, compare, action, states, threshold, hysteresis,
hold_ticks, event. -/
def ruleDefault (b : Basic) (r : Nat) : Option (List Nat) :=
  if r = 0 then some [0x10, 0xFF, 1, 2, 1, 6, 3, 1100, 50, 4, 0x2C0]
  else if r = 1 then some [0x10, 0xFF, 0, 0, 1, 6, 15, 1200, 0, 1, 0x2C1]
  else if r = 2 then some [0x12, 0xFF, 1, 2, 1, 6, 3, 850, 50, 4, 0x2C2]
  else if r = 3 then some [0x04, 0, 0, 0, 2, 5, 15, if b.feedsExpected = 3 then 2 else 1, 0, 33, 0xFFFF]
  else if r = 4 then some [0x50, 0, 0, 0, 1, 5, 15, 3, 0, 0, 0xFFFF]
  else if r = 5 then some [0x30, 0, 0, 0, 1, 2, 3, 33, 0, 0, 0xFFFF]
  else if r = 6 ∧ b.sleepPolicy ≠ 0 then some [0x30, 0, 0, 0, 1, 3, 15, b.restAfterS * 32768, 0, 0, 0xFFFF]
  else if r = 7 ∧ b.sleepPolicy = 2 then some [0x30, 0, 0, 0, 1, 4, 12, b.deepAfterS * 32768, 0, 0, 0xFFFF]
  else if r = 8 ∧ b.sleepPolicy = 2 then some [0x40, 0xFF, 0, 0, 3, 1, 8, 1, 0, 0, 0xFFFF]
  else if r = 9 then some [0x41, 0, 0, 0, 3, 1, 4, 1, 0, 0, 0xFFFF]
  else if r = 10 then some [0x20, 0, 0, 0, 3, 1, 14, 1, 0, 0, 0xFFFF]
  else none

/-- The default port targets of R426, in port order: DDR-5. -/
def portTargets : List Nat := [100, 150, 250, 2000, 20000, 120, 500, 65535]

/-- The default port targets of R426: RLD. -/
def rldTargets : List Nat := [60, 80, 100, 1000, 20000, 40, 500, 65535]

/-- Little-endian packing of several values of `n` bytes each. -/
def packNat (n : Nat) : List Nat → Nat
  | [] => 0
  | v :: vs => v % 256 ^ n + 256 ^ n * packNat n vs

/-- Value `i` of a little-endian packing of `n`-byte values. -/
def unpackNat (n v i : Nat) : Nat := v / 256 ^ (n * i) % 256 ^ n

/-- Rank bits r of R423. -/
def rankBits (ranks dimms : Nat) : Nat := Nat.log2 (ranks * dimms)

/-- The default XOR masks (R424). -/
def xorDefault (r : Nat) : Nat :=
  packNat 3 ((List.range 8).map (fun k => if 6 ≤ k ∧ r ≤ k - 6 then 0 else 2 ^ k + 2 ^ (k + 8)))

/-- The derived record of a section and key (R52), with `ledger` for POLICY's ledger_mib (R140). -/
def deriveRec (b : Basic) (ledger id key : Nat) : Option (List Nat) :=
  if id = secDimm then
    if nbit b.channelMask (key / 2) ∧ key < 24 ∧ key % 2 < b.dimmsPerChannel then
      some [b.dimmRanks, b.dimmCapacityGib, b.maxSpeedMts, 0, 0, 0] else none
  else if id = secRld then
    [[0, 1024], [1024, 4096], [5120, 2784], [7904, 256], [8160, 32]][key]?
  else if id = secWindow then
    if key < b.regionCount then
      let sz := b.windowSize2m / b.regionCount
      let me := b.extentsMax / b.regionCount
      some [key * sz, sz, if key + 1 = b.regionCount then me + b.extentsMax % b.regionCount else me, b.dcBlockLog2]
    else none
  else if id = secTags then
    if key = 0 then some [0, b.defaultLabel, b.defaultKeyDomain, b.defaultDurability, b.defaultPrimer, 0] else none
  else if id = secDurability then if key = 0 then some [b.buddyNode, 4000, 2] else none
  else if id = secPolicy then if key = 0 then some (presetFields b.preset ledger) else none
  else if id = secDomains then if key = b.defaultKeyDomain then some [b.integrity, 1] else none
  else if id = secGeometry then
    if key = 0 then some [b.rows, b.columns, b.linksPerPair, b.linkRate, b.sleepableRows] else none
  else if id = secNode then
    if key = 0 then some [b.nodeId, b.wakeLinks]
    else if 0x100 ≤ key ∧ key < 0x200 then
      match linkPeer b.rows b.columns b.linksPerPair b.nodeId (key - 0x100) with
      | some (n, l) => some [1, n, l]
      | none => some [0, 0, 0]
    else none
  else if id = secRoutes then
    if key / 64 < b.rows ∧ key % 64 < b.columns then some [1, 3, 1, 3] else none
  else if id = secLabels then
    if key < 14 then
      let rt := b2n (nbit b.rtLabels key)
      let g := b2n (nbit b.guaranteedLabels key)
      some [b.labelWeight.getD key 0, rt, g, if rt = 1 then 12800 else 0, 0, 0, 64, 0, 0, 0, if g = 1 then 100 else 12]
    else if key = 14 then
      some [ceilDiv (b.backgroundSharePct * b.labelWeight.foldl (· + ·) 0) (100 - b.backgroundSharePct), 0, 0, 0, 0, 0, 64, 0, 0, 0, 100]
    else if key = 15 then some [1, 0, 0, 0, 0, 0, 64, 0, 0, 0, 100]
    else none
  else if id = secFaults then if key < 1024 then some (faultDefault b.faultProfile key) else none
  else if id = secBreaker then
    let cur := fun p => b.breakerRatingA * 10 * p / 100
    if key = 0 then some [cur 110, 6000000, b.ilimStartDa, b.startupTimerMs, b.retryPolicy]
    else if key = 1 then some [cur 130, 500000, 0, 0, 0]
    else if key = 2 then some [cur 160, 50000, 0, 0, 0]
    else if key = 3 then some [cur 200, 2000, 0, 0, 0]
    else none
  else if id = secRules then ruleDefault b key
  else if id = secRoles then
    if key < b.placementEngines ∧ key < 60 then some [1]
    else if key < 48 then some [2] else if key < 56 then some [3] else if key < 60 then some [4] else none
  else if id = secMem then
    if key = 0 then
      some [12, 1, 4, b.trainingPolicy, 10, 200, 48, 16, 8, packNat 2 portTargets,
        xorDefault (rankBits b.dimmRanks b.dimmsPerChannel)]
    else if key ≤ 12 ∧ nbit b.channelMask (key - 1) then
      some (if b.dimmsPerChannel = 2 then [10, 2, 4, 3, 3, 0, 5] else [10, 2, 0, 0, 0, 0, 4])
    else none
  else none

/-- Overlay present fields on derived ones (R41, R42). -/
def overlay (present : BitVec 32) : Nat → List Nat → List Nat → List Nat
  | _, base, [] => base
  | i, base, f :: fs =>
    (if present.getLsbD i then f else base.headD 0) :: overlay present (i + 1) (base.drop 1) fs

/-- The record of a section and key after the merge, given the derived record (R41, R42, R43). -/
def mergeRec (derived : Option (List Nat)) (o : Option Over) : Option (List Nat) :=
  match o with
  | none => derived
  | some o => if o.delete then none else some (overlay o.present 0 (derived.getD []) o.fields)

/-- The image's own record for a section and key. -/
def Img.overRec (i : Img) (id key : Nat) : Option Over := (mget i.overs id).bind (fun m => mget m key)

/-- The merged DIMM record of a slot. -/
def Img.dimmRec (i : Img) (slot : Nat) : Option (List Nat) :=
  mergeRec (deriveRec i.basic 0 secDimm slot) (i.overRec secDimm slot)

/-- The sum of capacity_gib over the DIMM records, P of R140. -/
def Img.dimmGib (i : Img) : Nat :=
  ((List.range 24).map (fun s => ((i.dimmRec s).map (fun r => r.getD 1 0)).getD 0)).foldl (· + ·) 0

/-- The global sr_idle_us a MEMCTL channel record inherits (R441). -/
def Img.srGlobal (i : Img) : Nat :=
  match i.overRec secMem 0 with
  | some o => if o.present.getLsbD 4 then o.fields.getD 4 0 else 10
  | none => 10

/-- The derived record of the image: R52, with ledger_mib by R140 and a channel's sr_idle_us from the global record (R441). -/
def Img.derived (i : Img) (id key : Nat) : Option (List Nat) :=
  (deriveRec i.basic (if id = secPolicy then ceilDiv i.dimmGib 4 else 0) id key).map
    (fun r => if id = secMem ∧ key ≠ 0 then i.srGlobal :: r.drop 1 else r)

/-- The record in force of a section and key under this image. -/
def Img.rcd (i : Img) (id key : Nat) : Option (List Nat) := mergeRec (i.derived id key) (i.overRec id key)

/-- Field `f` of a record, 0 where there is none. -/
def Img.fld (i : Img) (id key f : Nat) : Nat := ((i.rcd id key).map (fun r => r.getD f 0)).getD 0

/-- Is a field locked by an explicit present bit (R63)? -/
def Img.locks (i : Img) (id key f : Nat) : Bool :=
  match i.overRec id key with
  | some o => !o.delete && o.present.getLsbD f
  | none => false

/-- The keys of a section that have a record, within the section's key range. -/
def Img.recKeys (i : Img) (id bound : Nat) : List Nat := (List.range bound).filter (fun k => (i.rcd id k).isSome)

/-- The EXTENT_TAGS indexes that have a record: derived key 0 and the image's own records. -/
def Img.tagKeys (i : Img) : List Nat :=
  (0 :: (mkeys ((mget i.overs secTags).getD [])).filter (· != 0)).filter (fun k => (i.rcd secTags k).isSome)

/-- The EXTENT_TAGS index whose tag equals a 16-byte tag (R75). -/
def Img.tagIndex (i : Img) (tag : BitVec 128) : Option Nat :=
  i.tagKeys.find? (fun k => match i.rcd secTags k with
    | some r => r.getD 0 0 == tag.toNat
    | none => false)

/-- The all-default image: the Default column of BASIC (R50), no expert record, one primer without phrases in slot 0 (the
image must install default_primer, R204), the digest of no pool-wide section body (R64). DESIGN CHOICE: what boot flash holds at the
first power-on. -/
def Img.default : Img where
  serial := 1
  svn := 0
  minRev := 0x10
  bindLot := 0
  poolId := 0
  poolEpoch := 1
  basic := Basic.default
  overs := []
  primers := [(0, Primer.empty)]
  poolDigest := 0x24eb3e74eb3f3b23138da80b2bddb946

end Sys2Proof.Machine
end

