-- ==== Sys2Proof/Machine/StCore.lean ====
section
/-! DEFINITION. State of the fault collector (16), the performance counters (20) and the identity and image registers of the
GEN block (01, 02). -/

namespace Sys2Proof.Machine

/-- An item queued at a scheduler, with its finish tag (R393). -/
structure Queued (α : Type) where
  item : α
  label : Nat
  finish : BitVec 48
  /-- real-time and conforming (R391) -/
  conform : Bool
deriving DecidableEq, Repr

/-- A virtual-time fair queue (R393 to R395). -/
structure Wfq (α : Type) where
  v : BitVec 48
  /-- finish tag of the last item each label queued, unlisted = 0 -/
  tags : NMap (BitVec 48)
  /-- queued items, oldest first -/
  items : List (Queued α)
deriving DecidableEq, Repr

/-- An empty scheduler. -/
def Wfq.empty {α : Type} : Wfq α := ⟨0, [], []⟩

/-- An event record in the on-die log or in Radish (R548). -/
structure FltRecord where
  event : BitVec 10
  cause : BitVec 8
  effective : BitVec 3
  mapped : BitVec 3
  escalated : Bool
  route : BitVec 4
  carried : Bool
  resetPart : Bool
  vector : BitVec 11
  time : BitVec 64
  info : BitVec 128
deriving DecidableEq, Repr

/-- What the collector keeps per class (R538, R549, R553). -/
structure FltClass where
  /-- FLT_CLASS.count | 32 | R553 | P: 0, D: 0 -/
  count : BitVec 32
  /-- FLT_CLASS.last_cause | 8 | R553 | P: 0, D: kept -/
  lastCause : BitVec 8
  /-- FLT_CLASS.unacked | 1 | R553 | P: 0, D: kept -/
  unacked : Bool
  /-- FLT_CLASS.pending | 3 | R553 | P: 0, D: kept -/
  pending : BitVec 3
  /-- the last raise was routed to ALERT_L | 1 | R545 | 0 -/
  lastAlert : Bool
  /-- the last raise was routed to the pool | 1 | R545 | 0 -/
  lastPool : Bool
  /-- time of the last S0 or S1 record of the class | option ns | R549 | none -/
  lowNs : Option Nat
  /-- the peers this class excludes until acknowledgement | list | R543 | empty -/
  excluded : List Node
  /-- the cycle the next two fields are of | ns | R540 | 0 -/
  startNs : Nat
  /-- the class was unacknowledged at the start of that cycle | 1 | R540 | 0 -/
  startUnacked : Bool
  /-- highest level at S2 or higher raised in that cycle; 0 when none | 3 | R540 | 0 -/
  fresh : BitVec 3
deriving DecidableEq, Repr

/-- A class with nothing recorded. -/
def FltClass.zero : FltClass := ⟨0, 0, false, 0, false, false, none, [], 0, false, 0⟩

/-- A raise waiting at its source while the collector is in reset (R550), or registered with its reaction. -/
structure Raise where
  event : BitVec 10
  cause : BitVec 8
  part : Part
  info : BitVec 128
deriving DecidableEq, Repr

/-- A reaction the collector starts (R542, R543): fence a part, reset the device, latch. -/
inductive Reaction where
  | fence (event : BitVec 10) (part : Part)
  | deviceReset (cause : BitVec 4)
  | latch
  /-- VBUS has collapsed (R570) -/
  | collapse
deriving DecidableEq, Repr

/-- The fault collector (16). -/
structure FltState where
  /-- log on the die, newest first | 0..512 records | R549 | P: empty, D: empty -/
  log : List FltRecord
  /-- FLT_STATUS.lost | 16 | R551 | P: 0, D: 0 -/
  lost : BitVec 16
  /-- FLT_STATUS.s4_unacked, the reset class | 1 | R534, R551 | P: 0, D: kept -/
  resetUnacked : Bool
  /-- the cycle the next two fields are of | ns | R540 | 0 -/
  resetNs : Nat
  /-- the reset class was unacknowledged at the start of that cycle | 1 | R540 | 0 -/
  resetStart : Bool
  /-- a raise of that cycle belongs to the reset class | 1 | R540 | 0 -/
  resetFresh : Bool
  /-- FLT_CLASS[1024] and what the collector keeps per class, unlisted = zero | map | R553 | P: 0 -/
  classes : NMap FltClass
  /-- FLT_LOG_SEL.index | 9 | R552 | P: 0, D: 0 -/
  logSel : BitVec 9
  /-- FLT_INJECT.event | 10 | R554 | P: 0, D: 0 -/
  injEvent : BitVec 10
  /-- Radish's 16 most recent records at S3 or higher, newest first | list | R550 | P: empty -/
  radish : List FltRecord
  /-- the S5 latch in Radish | 1 | R546, R547 | P: 0 -/
  latch : Bool
  /-- the record that set the latch | option | R546 | P: none -/
  latchRecord : Option FltRecord
  /-- the collector is in reset: from a device reset to step 0x05 | 1 | R550 | P: 0 -/
  inReset : Bool
  /-- raises held by their sources until step 0x05 | list | R550 | P: empty -/
  held : List Raise
  /-- reactions started and not yet performed; empty between commands (the model's own) | list | R542 | empty -/
  react : List Reaction
  /-- parts fenced until the next device reset: engines | list | R543 | P: empty -/
  fencedEngines : List (Fin 60)
deriving DecidableEq, Repr

/-- One PMC_SEL (R639). -/
structure PmcSel where
  enable : Bool
  chain : Bool
  ovfIe : Bool
  labelEn : Bool
  label : BitVec 4
  event : BitVec 9
deriving DecidableEq, Repr

/-- A PMC_SEL at reset. -/
def PmcSel.zero : PmcSel := ⟨false, false, false, false, 0, 0⟩

/-- One PMC_UPAGE (R640). -/
structure PmcUpage where
  count : BitVec 8
  base : BitVec 7
  kind : BitVec 2
deriving DecidableEq, Repr

/-- The counters as they stood before the first event of a cycle, and its events so far (R530, R634). -/
structure PmcSnap where
  atNs : Nat
  fix : NMap (BitVec 48)
  ctr : NMap (BitVec 48)
  ovf : BitVec 128
  events : List (Nat × Option Nat × Nat)
deriving DecidableEq, Repr

/-- The performance counters (20). -/
structure PmcState where
  /-- PMC_CTRL.vector | 11 | R636 | P: 0, D: kept -/
  vector : BitVec 11
  /-- PMC_CTRL.frozen | 1 | R636 | P: 0, D: 0 -/
  frozen : Bool
  /-- PMC_CTRL.freeze_prog | 1 | R636 | P: 0, D: kept -/
  freezeProg : Bool
  /-- counting since the end of step 0x05 | 1 | R630 | P: 0 -/
  counting : Bool
  /-- PMC_OVF[2] | 128 | R637 | P: 0, D: 0 -/
  ovf : BitVec 128
  /-- PMC_FIX[512], unlisted = 0 | 48 each | R638 | P: 0, D: 0 -/
  fix : NMap (BitVec 48)
  /-- PMC_CTR[128], unlisted = 0 | 48 each | R639 | P: 0, D: 0 -/
  ctr : NMap (BitVec 48)
  /-- PMC_SEL[128], unlisted = zero | 18 bits used each | R639 | P: 0, D: kept -/
  sel : NMap PmcSel
  /-- PMC_UPAGE[256], unlisted = zero | 17 bits used each | R640 | P: 0, D: kept -/
  upage : NMap PmcUpage
  /-- the counters before the events of the current cycle | option | R530 | none -/
  before : Option PmcSnap
  /-- events of the current cycle while a window is open: event, label, number | list | R530 | empty -/
  late : List (Nat × Option Nat × Nat)
  /-- the cycle of these | ns | R530 | 0 -/
  lateNs : Nat
  /-- the selections in force in the cycle of a PMC_SEL write, with that cycle | option | R639 | none -/
  selOld : Option (Nat × NMap PmcSel)
deriving DecidableEq, Repr

/-- State of GEN_IMAGE_STAGE (R68). -/
inductive StageState where
  | idle
  | receiving
  | verifying
  | rejected
deriving DecidableEq, Repr

/-- A flash slot with a committed image (R56): its contents decoded, whether its signature verified, the owner key it was verified
under (none: the vendor's), and its digest. -/
structure FlashSlot where
  committed : Bool
  img : Img
  signed : Bool
  key : Option (List Byte)
  /-- D of the image: 64 B (R37, R518) -/
  digest : List Byte
deriving DecidableEq, Repr

/-- A firmware image in a firmware slot (R509, R510): its serial and security version, whether its format and signature verify,
and its digest D. -/
structure FwImage where
  serial : Nat
  svn : Nat
  valid : Bool
  digest : List Byte
  /-- its signature verified; false is possible in BLANK only (R508) -/
  signed : Bool
deriving DecidableEq, Repr

/-- The image unit (02): flash slots, the images in force by kind, and the staging session. -/
structure ImgState where
  /-- image slots A and B in boot flash | option | R56 | DESIGN CHOICE: slot A the all-default image, slot B empty -/
  slots : NMap FlashSlot
  /-- GEN_IMAGE_ACTIVE.slot | 1 | R67 | P: image -/
  activeSlot : BitVec 1
  /-- the active image (live and refold kinds) | image | R60, R67 | P: image -/
  active : Img
  /-- the image whose restart sections are in force | image | R60 | P: image -/
  restart : Img
  /-- the image whose ROUTES are in force | image | R64, R65 | P: image -/
  pool : Img
  /-- the image whose FABRIC_GEOMETRY is in force | image | R64, R65 | P: image -/
  geom : Img
  /-- GEN_IMAGE_ACTIVE.restart_pending | 1 | R67 | P: 0, D: 0 -/
  restartPending : Bool
  /-- GEN_IMAGE_ACTIVE.refold_active | 1 | R67 | P: image -/
  refoldActive : Bool
  /-- GEN_IMAGE_ACTIVE.pool_pending | 1 | R67 | P: image -/
  poolPending : Bool
  /-- GEN_IMAGE_STAGE.state | 4 | R68 | P: 0, D: 0 -/
  stage : StageState
  /-- GEN_IMAGE_STAGE.cause | 8 | R68 | P: 0, D: 0 -/
  cause : BitVec 8
  /-- declared length of the session | 32 | R57 | 0 -/
  declared : Nat
  /-- bytes written in the session, newest range first | ranges | R58 | empty -/
  ranges : List (Nat × List Byte)
  /-- the image verified by the last IMAGE_STAGE_COMMIT, waiting for its commit point | option | R61 | none -/
  verified : Option Img
  /-- primer slots that the staged image changes, from step 1 of a commit to its end | 64 | R207 | 0 -/
  changing : BitVec 64
  /-- fingerprints of in-use primer slots in the boot-flash record | map | R208 | P: kept in flash -/
  primerRecord : NMap (BitVec 64)
deriving DecidableEq, Repr

end Sys2Proof.Machine
end

