-- ==== Sys2Proof/Machine/StChard.lean ====
section
/-! DEFINITION. State of translation, Chard, migration, the journal and the mirror (03, 04, 05). -/

namespace Sys2Proof.Machine

/-- A page descriptor as the 128 bits of R82. -/
abbrev Desc := BitVec 128

/-- The five attributes an extent's tag resolves to (R75). -/
structure Attrs where
  label : Nat
  domain : Nat
  mirrored : Bool
  primer : Nat
  policy : Nat
deriving DecidableEq, Repr

/-- A shared extent's grant at the grantee (R77, R494): owner, grant id, and the owner's DPA of the extent's start in lines. -/
structure SharedRef where
  owner : Node
  grantId : BitVec 32
  ownerDpa2m : Nat
deriving DecidableEq, Repr

/-- Where an extent stands between EXTENT_ADD and its release (R97, R99). -/
inductive ExtState where
  | reserving (src : CmdSrc)
  | pending
  | accepted
  | releasing
deriving DecidableEq, Repr

/-- One entry of the extent table (R74 to R79), keyed by its extent index. -/
structure Extent where
  dpa2m : Nat
  len2m : Nat
  region : Nat
  tag : BitVec 128
  attrs : Attrs
  shared : Option SharedRef
  state : ExtState
  /-- tag tables allocated (R80, R81) -/
  tagTables : Bool
  /-- its refold waits for tag tables (R81) -/
  tagWait : Bool
  /-- home node of the extent (R230) -/
  home : Node
  /-- extent index and first 2 MiB unit that journal records and the buddy name its pages by: those it was added with, which the
  parts of a split extent keep -/
  mext : Nat
  mbase : Nat
deriving DecidableEq, Repr

/-- The per-page tables of a populated page (R80): descriptor, heat byte, poison mask, tags, and Chard's fence (R90). -/
structure Page where
  desc : Desc
  heat : BitVec 8
  poison : BitVec 64
  tags : BitVec 256
  fenced : Bool
deriving DecidableEq, Repr

/-- Phases of an open migration (R152). -/
inductive MigPhase where
  | passing
  | frozen
deriving DecidableEq, Repr

/-- What a migration has of one block: nothing yet, or its stored length and, for a recalled block, its data. -/
inductive BlockDone where
  | waiting
  | done (blen : Nat) (primer : Nat)
deriving DecidableEq, Repr

/-- An open migration (R150 to R156), keyed by page number. -/
structure Mig where
  kind : MigKind
  phase : MigPhase
  pass : Nat
  /-- the page's 4-bit dirty mask -/
  dirty : BitVec 4
  src : Desc
  dstTier : Nat
  dstLoc : Nat
  dstNode : Node
  dstPods : Nat
  blocks : List BlockDone
  /-- BlkWrites or BlkReads the holder has not acknowledged -/
  waiting : Nat
  /-- what was last written to the destination of each block: its BLEN -/
  sent : List (Option Nat)
  /-- blocks copied again since they were written there -/
  resend : List Nat
  /-- stored images that are moved as they are: ciphertext by block -/
  images : NMap (List Byte)
  failedFreezes : Nat
  abortPending : Bool
  openSeq : Nat
  drawn : Nat
  kgen : Bool
  domain : Nat
  primer : Nat
  sourcePrimer : Nat
  /-- candidate slots of its whole-page compression, the page's own first, as they were when it opened; none where it compresses
  nothing afresh (R205, R216, R226) -/
  slots : List Nat
  /-- kind of the last placement hint, which takes effect when the migration ends (R144) -/
  hint : Option Nat
deriving DecidableEq, Repr

/-- A journal record (R160, R161). -/
structure JRec where
  type : BitVec 8
  kind : BitVec 8
  seq : Nat
  ref : Nat
  extent : BitVec 16
  count : BitVec 16
  page : BitVec 28
  descA : BitVec 128
  descB : BitVec 128
  /-- CRC-32 over the 64 B with this field taken as 0 -/
  crc : BitVec 32
  /-- the owner of a buddy-side page: how its record names it is open, DESIGN CHOICE (log 131) -/
  forOwner : Option Node
deriving DecidableEq, Repr

/-- One journal ring (R158, R163, R166). -/
structure Ring where
  /-- durable records that may still be needed, newest first -/
  recs : List JRec
  nextSeq : Nat
  /-- oldest needed record of the last CHECKPOINT -/
  tail : Nat
  /-- seq of the last CHECKPOINT, 0 for none -/
  lastCheckpoint : Nat
  /-- time of the first record after the last CHECKPOINT -/
  firstAfterNs : Option Nat
  /-- CHD_JOURNAL.spill of the ring (R166, R185) -/
  spill : Bool
  /-- the spill copy is being built (R166) -/
  spillBuilding : Bool
  /-- first seq that the spill copy holds (R166) -/
  spillFrom : Nat
  /-- the copies, 0 on stack r and 1 on stack r + 2, whose stack is fenced (R158, R166) -/
  lost : List Nat
deriving DecidableEq, Repr

/-- An empty ring: the first record takes seq 1 (R160). -/
def Ring.empty : Ring := ⟨[], 1, 1, 0, none, false, false, 0, []⟩

/-- A 64 B line of the translation cache: the descriptors of four consecutive pages (R92). The descriptors themselves are those of
the pages' tables; a line keeps what the descriptor table in DDR-5 holds where that is older. -/
structure TcLine where
  /-- since when the line is dirty -/
  dirtyNs : Option Nat
  /-- the record of the oldest change not written back, on each ring -/
  seq0 : Option Nat
  seq1 : Option Nat
  /-- the four descriptors in DDR-5 where the line is dirty -/
  stored : List Desc
deriving DecidableEq, Repr

/-- A clean line. -/
def TcLine.clean : TcLine := ⟨none, none, none, []⟩

/-- Mirror states (R171). -/
inductive MirrorSt where
  | none
  | mirrored
  | holding
  | exposed
  | resync
deriving DecidableEq, Repr

/-- What a segment of local DDR-5 frames is used for. -/
inductive SegUse where
  | plain
  | arena
  | buddy
  | buddyArena
deriving DecidableEq, Repr

/-- A run of allocated 4 KiB frames. -/
structure Seg where
  start : Nat
  count : Nat
  use : SegUse
deriving DecidableEq, Repr

/-- A lease this owner holds at a holder (R128, R329): size granted, allocated pod ranges, recall in progress. -/
structure Borrow where
  sizeGib : Nat
  ranges : List (Nat × Nat)
  recallTo : Option Nat
  /-- pods freed by FREE whose FREE_DONE is not durable (R159) -/
  freeing : List (Nat × Nat)
deriving DecidableEq, Repr

/-- A ledger entry's stamp, keyed by page (R113). -/
abbrev Ledger := NMap (BitVec 16)

/-- A waiting BlkFree or buddy free in the deferred-free list (R100). -/
structure Deferred where
  node : Node
  /-- true: pods at a holder; false: a copy at the buddy -/
  holder : Bool
  start : Nat
  count : Nat
  page : Nat
  ring : Nat
  freeSeq : Nat
deriving DecidableEq, Repr

/-- A kind of candidate queue (R118 ff., R137). -/
inductive CandKind where
  | recallFirst
  | recall
  | promote
  | demote
  | lend
  | rehome
  | compact
  | refold
deriving DecidableEq, Repr

/-- A PAGE transfer that a buddy takes in (R664): the descriptor it will have, whether it is raw, what has come by index, and how much
there is. -/
structure CopyIn where
  desc : Desc
  raw : Bool
  pods : NMap Line
  expect : Nat
deriving DecidableEq, Repr

/-- A buddy-side copy of a page (R168, R170): its own descriptor, with the frame or pods it takes in this device's DDR-5. -/
structure Copy where
  desc : Desc
  /-- stored images of a Packed copy's blocks, ciphertext under the owner's key domain (R170, R231) -/
  images : NMap (List Byte)
  /-- lines in plaintext: all of a Plain copy's, and those of a Packed copy that the near cache holds newer than its pods -/
  lines : NMap Line
  poison : BitVec 64
  /-- tag record in this device's own tag table (R231) -/
  tags : BitVec 256
  coming : Option CopyIn
  /-- a packing under way: the slot, and by block the BLEN and the bytes of the results that are in (R210) -/
  packing : Option (Nat × NMap (Nat × List Byte))
deriving DecidableEq, Repr

/-- What a buddy keeps of an owner (R168, R171, R173). -/
structure BuddyOf where
  /-- reserved 2 MiB units by extent index -/
  reserved : NMap Nat
  /-- every mirror sequence up to here is applied -/
  applied : Nat
  /-- sequences applied beyond it -/
  ahead : List Nat
  floor : BitVec 32
  /-- MirrorPod pods gathered for the page being copied -/
  storeIntact : Bool
  /-- CHD_MIRROR.buddy_role towards this owner (R186) -/
  role : BitVec 4
  /-- envelopes of the owner that the secure world has stored (R521) -/
  keysStored : Nat
deriving DecidableEq, Repr

/-- The rewrite of a Remote page's pods, or of one block of them, by a near-cache eviction (R663), keyed by page. -/
structure EvictRun where
  block : Nat
  blen : Nat
  slot : Nat
  /-- the block's new image, and the images of the page's other blocks that have arrived, as ciphertext -/
  images : NMap (List Byte)
  /-- new start in the lease, where the pod count changes -/
  loc : Option Nat
  fetching : Nat
  acks : Nat
  /-- key generation of the images: the page's for a block in place, the domain's current one for a rewrite (R89, R235) -/
  kgen : Bool
deriving DecidableEq, Repr

/-- Translation, placement, migration, journal and mirror state. -/
structure ChdState where
  /-- extent table by extent index | map | R74 to R79 | P: empty, D: kept -/
  extents : NMap Extent
  /-- populated or fenced or pinned pages by page number, unlisted = unpopulated | map | R80, R82 | P: empty, D: kept -/
  pages : NMap Page
  /-- translation cache: its lines by page / 4 | map | R92 | P: empty, D: kept -/
  tc : NMap TcLine
  /-- heat.seq | 28 | R107 | P: 0, D: kept -/
  heatSeq : BitVec 28
  /-- CHD_EPOCH.epoch | 32 | R147 | P: 0, D: kept -/
  epoch : BitVec 32
  /-- CHD_EPOCH.last_pass_ms | 16 | R147 | P: 0, D: 0 -/
  lastPassMs : BitVec 16
  /-- the walker's place in this pass: extent index and page it processed last | option | R109 | P: none -/
  walkDone : Option (Nat × Nat)
  /-- a pass is running | 1 | R109 | P: 0 -/
  passRunning : Bool
  /-- time the epoch started | ns | R109 | 0 -/
  epochStartNs : Nat
  /-- an insertion failed in this pass | 1 | R116 | 0 -/
  passInsertFailed : Bool
  /-- cold ledger by page | map | R113 | P: empty, D: kept -/
  ledger : Ledger
  /-- ledger_mib in use | 32 | R141, R149 | P: image, D: image -/
  ledgerMib : Nat
  /-- CHD_STATUS.ledger_gap | 1 | R116, R146 | P: 0, D: kept -/
  ledgerGap : Bool
  /-- CHD_STATUS.epoch_stretched | 1 | R146 | P: 0, D: 0 -/
  epochStretched : Bool
  /-- CHD_STATUS.reserve_state | 3 | R118, R146 | P: 0, D: 0 -/
  reserveState : BitVec 3
  /-- CHD_CTRL.sample_off | 1 | R145 | P: 0, D: 0 -/
  sampleOff : Bool
  /-- CHD_CTRL.hold_lend | 1 | R145 | P: 0, D: 0 -/
  holdLend : Bool
  /-- CHD_CTRL.hold_background | 1 | R145 | P: 0, D: 0 -/
  holdBackground : Bool
  /-- candidate queues, 65,536 entries each | lists | R118 ff. | P: empty, D: empty -/
  cands : List (CandKind × PageNo)
  /-- allocated frames of local DDR-5 | list | R118, R159 | P: empty, D: kept -/
  segs : List Seg
  /-- allocated pod ranges (start pod, count) in arenas | list | R85, R118 | P: empty, D: kept -/
  pods : List (Nat × Nat)
  /-- leases at holders | map by node | R128, R329 | P: empty, D: kept -/
  borrows : NMap Borrow
  /-- local budget, bytes | Nat | R136 | 0 -/
  localTokens : Nat
  /-- fabric budget, bytes | Nat | R136 | 0 -/
  fabricTokens : Nat
  /-- open migrations by page | map | R152, R165 | P: empty, D: empty (replay aborts them by their MIG_OPEN) -/
  migs : NMap Mig
  /-- evictions that rewrite pods of Remote pages, by page | map | R663 | empty -/
  evicts : NMap EvictRun
  /-- migrations held in per-row lists | list | R134 | P: empty -/
  rowHeld : List (MigKind × PageNo × BitVec 6)
  /-- CHD_MIGSTAT.committed | 32 | R187 | P: 0, D: 0 -/
  committed : BitVec 32
  /-- CHD_MIGSTAT.aborted | 32 | R187 | P: 0, D: 0 -/
  aborted : BitVec 32
  /-- deferred-free list | list | R100, R103 | P: empty, D: kept -/
  deferred : List Deferred
  /-- refold work outstanding: pages still to move | list | R60, R76 | P: empty, D: kept -/
  refold : List PageNo
  /-- the journal's pending list: pages not yet repacked after a primer change | list | R76 | P: empty, D: kept -/
  repack : List PageNo
  /-- EXTENT_ADD and EXTENT_RELEASE records of ring 0 whose change of the extent table waits for the metadata store | list of seq | R163 | empty -/
  extPending : List Nat
  /-- pages whose stored form is still encrypted under the key domain their extent had before a commit: that domain, by page | map | R60, R76 | P: empty, D: kept -/
  pageDom : NMap Nat
  /-- journal ring 0 | a ring | R158, R185 | P: empty, D: kept -/
  ring0 : Ring
  /-- journal ring 1 | a ring | R158, R185 | P: empty, D: kept -/
  ring1 : Ring
  /-- CHD_MIRROR.state | 4 | R171, R186 | P: image -/
  mirror : MirrorSt
  /-- CHD_MIRROR.acked_seq | 48 | R186 | P: 0, D: kept -/
  ackedSeq : BitVec 48
  /-- next mirror sequence | 48 | R167 | 1 (DESIGN CHOICE), D: kept -/
  nextMirror : BitVec 48
  /-- mirror sequence of the oldest mirrored completed-request entry kept, by tag | map | R173 | empty -/
  mirrorTags : NMap (BitVec 32)
  /-- pages still to resync or resilver, in order | list | R172 | empty -/
  resync : List PageNo
  /-- CHD_RESILVER.remaining, done in bytes | Nat | R187 | 0 -/
  resyncDone : Nat
  /-- pages being copied to the buddy: (raw, exchanges outstanding) | map | R172, R664 | empty -/
  copyRuns : NMap (Bool × Nat)
  /-- copies of a failed owner's pages still to send back to it, by copy key | list | R176 | empty -/
  actResync : List Nat
  /-- part class whose local re-protection waits for lines from the buddy, 0 none | Nat | R179 | 0 -/
  repair : Nat
  /-- the resync in progress is a resilver of everything | 1 | R172 | 0 -/
  resilver : Bool
  /-- buddy-side copies keyed (owner, extent, page) | map | R170 | P: empty, D: kept -/
  copies : NMap Copy
  /-- owners this device is buddy of, by node | map | R95, R168 | P: empty, D: kept -/
  buddyOf : NMap BuddyOf
  /-- acting ownership: failed node to the step of R174 reached | map | R174, R176 | empty, D: kept -/
  acting : NMap Nat
  /-- regions whose ownership moved away: this device's new owner | option | R176 | none, D: kept -/
  ownedAway : Option Node
  /-- atomic sequence counters and outstanding floors per owner (requester side) | map | R177 | empty -/
  atomicNext : NMap (BitVec 32)
  /-- recorded floors per requester and owner (owner side), by requester + 4,096 x owner | map | R177 | empty, D: kept -/
  atomicFloor : NMap (BitVec 32)
  /-- times of the reserve wait: some write waits for space since | option ns | R127 | none -/
  reserveWaitNs : Option Nat
  /-- no lease granted since, for event 0x1E8 | option ns | R132 | none -/
  leaseWantedNs : Option Nat
deriving DecidableEq, Repr

end Sys2Proof.Machine
end

