-- ==== Sys2Proof/Machine/StLink.lean ====
section
/-! DEFINITION. Messages (R356), state of the links (10), of end-to-end delivery and of the fabric (09). -/

namespace Sys2Proof.Machine

/-- The CONT message joined to a message (R358): word 1, body[54:32] and its further slots. -/
structure Cont where
  word1 : BitVec 64
  bodyHi : BitVec 23
  slots : List (BitVec 128)
deriving DecidableEq, Repr

/-- A message (R356). `len` is one more than the number of further slots. `yellow` is its colour bit of the frame (R354). -/
structure Msg where
  vc : BitVec 4
  op : BitVec 3
  dst : Node
  form : BitVec 3
  coord : BitVec 6
  label : BitVec 4
  age : BitVec 4
  isNew : Bool
  joined : Bool
  bodyHi : BitVec 23
  word1 : BitVec 64
  slots : List (BitVec 128)
  cont : Option Cont
  yellow : Bool
  /-- not on the wire: the link and time at which a forwarded message arrived, whose slots it still occupies (R362, R375) -/
  rx : Option (LinkNo × Nat)
deriving DecidableEq, Repr

/-- A frame's header and payload before its CRC (R353, R354): 2,016 bits. -/
abbrev FrameBits := BitVec 2016

/-- Link states (R349). -/
inductive LinkSt where
  | dark
  | training
  | up
  | retrain
  | givenUp
  | held
  | doze
  | asleep
deriving DecidableEq, Repr

/-- A frame kept in the replay buffer, with the messages it carries. -/
structure SentFrame where
  seq : BitVec 12
  bits : FrameBits
  msgs : List Msg
deriving DecidableEq, Repr

/-- A message in a receive buffer: slots it occupies, arrival time, hop, and whether it is local. -/
structure RxMsg where
  msg : Msg
  atNs : Nat
  /-- admitted red under DEMOTE (R404) -/
  demoted : Bool
deriving DecidableEq, Repr

/-- One Dexex link (10). -/
structure LinkRec where
  /-- LNK_STATUS.state | 4 | R349, R382 | P: 0, D: 0, L: 3 -/
  st : LinkSt
  /-- LNK_CTRL.hold | 1 | R381 | P: 0, D: 0, L: kept -/
  hold : Bool
  /-- held by a check or by malformed frames | 1 | R381 | P: 0, D: 0 -/
  heldByCheck : Bool
  /-- LNK_STATUS.last_cause | 8 | R382 | P: 0, D: 0, L: kept -/
  lastCause : BitVec 8
  /-- LNK_STATUS.session | 16 | R382 | P: 0, D: 0, L: kept -/
  session : BitVec 16
  /-- LNK_STATUS.peer_link | 8 | R382 | P: 0, D: 0, L: kept -/
  peerLink : BitVec 8
  /-- LNK_STATUS.peer_node | 12 | R382 | P: 0, D: 0, L: kept -/
  peerNode : BitVec 12
  /-- LNK_STATUS.rate in use | 2 | R347, R382 | P: image, D: image -/
  rate : BitVec 2
  /-- the peer's session value | option | R352 | none -/
  peerSession : Option (BitVec 16)
  /-- the peer's READY data of this training | option | R351 | none -/
  peerTrain : Option TrainBody
  /-- IDENT was received in this training | 1 | R350 | 0 -/
  identSeen : Bool
  /-- LNK_TIMERS.giveup_ms | 8 | R383 | P: image, D: image -/
  giveupMs : BitVec 8
  /-- LNK_TIMERS.replay_us | 8 | R383 | P: image, D: image -/
  replayUs : BitVec 8
  /-- replay buffer, oldest first | 128 frames | R365, R384 | P: empty, D: empty, L: kept -/
  replay : List SentFrame
  /-- LNK_SEQ.rx_next, E | 12 | R363, R384 | P: 0, D: 0, L: kept -/
  rxNext : BitVec 12
  /-- LNK_SEQ.tx_acked | 12 | R384 | P: 0xFFF, D: 0xFFF, L: kept -/
  txAcked : BitVec 12
  /-- LNK_SEQ.tx_next | 12 | R384 | P: 0, D: 0, L: kept -/
  txNext : BitVec 12
  /-- LNK_CREDIT vc0..vc15 | 16 each | R361, R385 | P: 0, D: 0, L: kept -/
  credits : List Nat
  /-- slots freed and not yet returned, by channel | 16 | R362 | 0 -/
  owed : List Nat
  /-- receive buffer, oldest first | 2,048 slots | R361 | empty -/
  rx : List RxMsg
  /-- messages queued for this link at its label scheduler | queue | R311, R391 | empty -/
  egress : Wfq Msg
  /-- consecutive replay expiries | 3 | R365 | 0 -/
  expiries : Nat
  /-- identical malformed frames in a row | counter | R360 | 0 -/
  malformedRun : Nat
  /-- the last malformed frame | option | R360 | none -/
  lastMalformed : Option FrameBits
  /-- replayed frames to come: the peer's last number sent before the drop, and the drop in age units | option | R375 | none -/
  rxReplayTo : Option (BitVec 12 × Nat)
  /-- an acknowledgement is owed | 1 | R364 | 0 -/
  ackOwed : Bool
  /-- the time the link entered RETRAIN | option ns | R366 | none -/
  retrainNs : Option Nat
  /-- LNK_ERR0.fec_uncorrectable | 32 | R386 | P: 0, D: 0, L: kept -/
  fecUncorrectable : BitVec 32
  /-- LNK_ERR0.crc_errors | 32 | R386 | P: 0, D: 0, L: kept -/
  crcErrors : BitVec 32
  /-- LNK_ERR1.retrains | 16 | R386 | P: 0, D: 0, L: kept -/
  retrains : BitVec 16
  /-- LNK_ERR1.malformed | 16 | R386 | P: 0, D: 0, L: kept -/
  malformed : BitVec 16
  /-- LNK_ERR1.replays | 32 | R386 | P: 0, D: 0, L: kept -/
  replays : BitVec 32
  /-- LNK_FEC.corrected | 48 | R386 | P: 0, D: 0, L: kept -/
  fecCorrected : BitVec 48
  /-- time of the last frame sent or received | ns | R590 | 0 -/
  frameNs : Nat
  /-- the laser is lit | 1 | R349, R546 | 0 -/
  laser : Bool
  /-- wake-pattern sender: lit by a ROW_WAKE, with its start time | option ns | R335, R593 | none -/
  wakeSince : Option Nat
deriving DecidableEq, Repr

/-- A link after power-on reset; its rate and timers come from the image. -/
def LinkRec.init (rate giveup replay : Nat) : LinkRec where
  st := .dark
  hold := false
  heldByCheck := false
  lastCause := 0
  session := 0
  peerLink := 0
  peerNode := 0
  rate := BitVec.ofNat 2 rate
  peerSession := none
  peerTrain := none
  identSeen := false
  giveupMs := BitVec.ofNat 8 giveup
  replayUs := BitVec.ofNat 8 replay
  replay := []
  rxNext := 0
  txAcked := 0xFFF
  txNext := 0
  credits := List.replicate 16 0
  owed := List.replicate 16 0
  rx := []
  egress := Wfq.empty
  expiries := 0
  malformedRun := 0
  lastMalformed := none
  rxReplayTo := none
  ackOwed := false
  retrainNs := none
  fecUncorrectable := 0
  crcErrors := 0
  retrains := 0
  malformed := 0
  replays := 0
  fecCorrected := 0
  frameNs := 0
  laser := false
  wakeSince := none

/-- What an end-to-end transaction of this device is for; its end acts on it. A line key is owner x 2^42 + line, a block key
owner x 2^38 + block number. -/
inductive Purpose where
  | line (key : Nat)
  | snoop (key : Nat) (node : Node)
  | scopeSnoop (node : Node)
  | writeback (key : Nat)
  | atomicFar (key : Nat)
  | fill (block : Nat)
  | migRead (page : Nat) (block : Nat)
  | migWrite (page : Nat)
  | evictWrite (block : Nat)
  | evictFetch (page : Nat) (block : Nat)
  | free (ring : Nat) (seq : Nat)
  | mirror (seq : Nat) (key : Nat)
  | reserve (extent : Nat)
  | unreserve (extent : Nat)
  | mirrorFree (extent : Nat) (page : Nat) (count : Nat)
  | mirrorRead (page : Nat) (lines : BitVec 64)
  | mirrorPage (page : Nat)
  | mirrorFetch (page : Nat) (block : Nat)
  | mirrorPod (page : Nat)
  | envelope (number : Nat) (fragment : Nat)
deriving DecidableEq, Repr

/-- An open end-to-end transaction (R369 to R374), keyed by queue x 16,384 + tag. -/
structure E2E where
  inc : BitVec 2
  isNew : Bool
  msg : Msg
  purpose : Purpose
  reissued : Bool
  /-- links and nodes of the previous incarnation's path (R313) -/
  avoidLink : Option LinkNo
  avoidNodes : List Node
  /-- it waits to be sent again after NackRetry: its timer stands still (R369) -/
  retryWait : Bool
  nacks : Nat
  /-- pods or lines of the response set that have arrived (R369) -/
  got : List (Nat × Line × Bool)
  need : Nat
  sentNs : Nat
deriving DecidableEq, Repr

/-- An entry of the completed-request table (R376), keyed by tag[31:2]. -/
structure Crt where
  inc : BitVec 2
  kind : BitVec 8
  fromReissue : Bool
  status : BitVec 8
  servedUs : Nat
  line : BitVec 64
  seq : BitVec 32
  mseq : BitVec 32
  /-- at a buddy, the owner whose MirrorWrite brought the entry -/
  mirroredFor : Option Node
  /-- the owner for which the request was executed: this device, or one it acts for or is buddy of -/
  owner : Node
  result : BitVec 256
deriving DecidableEq, Repr

/-- End-to-end delivery (R369 to R387). -/
structure E2EState where
  /-- open transactions by queue x 16,384 + tag | map | R371 | P: empty, D: empty -/
  txs : NMap E2E
  /-- last incarnation used with a tag, unlisted = 3 so that the first send takes 0 | map | R372, R374 | kept in RLD -/
  lastInc : NMap (BitVec 2)
  /-- quarantined tags | list | R374, R387 | P: empty, D: tags open at the reset added -/
  quarantined : List Nat
  /-- quarantined tags whose time runs from Memory Active | list | R374 | empty -/
  resetQuarantine : List Nat
  /-- FAB_E2E_CTRL.timeout_us | 14 | R387 | P: image, D: image -/
  timeoutUs : BitVec 14
  /-- FAB_E2E_STAT.late | 32 | R387 | P: 0, D: 0 -/
  late : BitVec 32
  /-- FAB_E2E_STAT.reissues | 32 | R387 | P: 0, D: 0 -/
  reissues : BitVec 32
  /-- FAB_E2E_DUP.expired | 32 | R387 | P: 0, D: 0 -/
  expired : BitVec 32
  /-- FAB_E2E_DUP.duplicates | 32 | R387 | P: 0, D: 0 -/
  duplicates : BitVec 32
  /-- completed-request table | map | R376 | P: empty, D: kept -/
  crt : NMap Crt
  /-- uncorrectable lines of the completed-request table: (set x 16 + entry, in its mirror half) | list | R47, R459 | P: empty, D: kept -/
  crtBad : List (Nat × Bool)
  /-- sets whose entries are lost, 65,536 + s for every set of stacks s and s + 2: serving time of the loss | map | R459 | P: empty, D: kept -/
  crtLost : NMap Nat
  /-- serving time, µs | Nat | R178 | P: 0, D: kept -/
  servedUs : Nat
  /-- messages that wait at their source with no usable path or for an awake row | list | R314, R335 | empty -/
  waiting : List Msg
  /-- requests that found no free tag in their queue and wait | list | R371 | empty -/
  noTag : List (BitVec 4 × Msg × Purpose)
deriving DecidableEq, Repr

/-- Member states (R317). -/
inductive MemberSt where
  | absent
  | joining
  | inService
  | restarting
  | asleep
  | failed
  | leaving
  | left
deriving DecidableEq, Repr

/-- A member record (R317, R341). -/
structure Member where
  state : MemberSt
  incarnation : BitVec 16
  authority : Node
  version : BitVec 16
  lendable : BitVec 16
deriving DecidableEq, Repr

/-- A member record at reset: ABSENT, all zero (R341). -/
def Member.zero : Member := ⟨.absent, 0, 0, 0, 0⟩

/-- A link-map entry (R306). -/
structure MapEntry where
  vector : BitVec 126
  version : BitVec 16
deriving DecidableEq, Repr

/-- A neighbour as the watcher hears it (R319, R320). -/
structure Heard where
  lastNs : Nat
  sleepReady : Bool
  resetting : Bool
  silent : Bool
deriving DecidableEq, Repr

/-- An answer to a JOIN REQUEST (R324, R326). -/
structure JoinAnswer where
  node : Node
  state : BitVec 4
deriving DecidableEq, Repr

/-- A lease granted to an owner (R329 to R331). -/
structure Lent where
  sizeGib : Nat
  recallTo : Option Nat
  deadlineNs : Nat
  overdue : Bool
deriving DecidableEq, Repr

/-- The fabric and membership (09). -/
structure FabState where
  /-- FAB_NODE.founder | 1 | R339 | P: 0, D: 0 -/
  founder : Bool
  /-- own member state, FAB_NODE.state | 4 | R339 | P: 0, D: 0 -/
  own : MemberSt
  /-- own incarnation | 16 | R317, R324 | P: 0, D: + 1 on restart -/
  incarnation : BitVec 16
  /-- link map, unlisted = zero vector, version 0 | 4,096 x 32 B | R306 | P: empty, D: empty -/
  linkMap : NMap MapEntry
  /-- sequences seen per origin, newest first, at most 64 | map | R305 | empty -/
  seen : NMap (List (BitVec 16))
  /-- own flood sequence | 16 | R305 | P: 0 (DESIGN CHOICE), D: kept -/
  floodSeq : BitVec 16
  /-- member records, unlisted = zero | map | R317, R341 | P: 0, D: 0 -/
  members : NMap Member
  /-- neighbours being watched | map | R319 | empty -/
  heard : NMap Heard
  /-- SUSPECT reports at the authority: (node, reporter) to receipt time | list | R320 | empty -/
  suspects : List (Node × Node × Nat)
  /-- nodes in restart grace at this authority, with its start | map | R322 | empty -/
  grace : NMap Nat
  /-- accepted JOINs in the current millisecond: (ms, count) | pair | R325 | (0, 0) -/
  joinsMs : Nat × Nat
  /-- links with a JOIN to send at the end of a wave | list | R324 | empty -/
  joinPending : List LinkNo
  /-- links in JOIN_WAIT, with the delay in ms | list | R325 | empty -/
  joinWaiting : List (LinkNo × BitVec 7)
  /-- answers to the JOIN held | list | R326 | empty -/
  answers : List JoinAnswer
  /-- row and column peers accepted into the pool, with their incarnation | list | R324, R326 | empty -/
  accepted : List (Node × BitVec 16)
  /-- JOINING devices heard while joining | list | R326 | empty -/
  joiningHeard : List Node
  /-- the device started without the pool | 1 | R327 | 0 -/
  alone : Bool
  /-- FAB_EPOCH.epoch | 32 | R340 | P: 0, D: kept -/
  epoch : BitVec 32
  /-- digest agreed at the current epoch | option | R324, R338 | none, D: kept -/
  digest : Option (BitVec 128)
  /-- EPOCH PREPARE under way: epoch, digest, answers | option | R337 | none -/
  prepare : Option (BitVec 32 × BitVec 128 × List Node × List Node)
  /-- leases granted, by owner | map | R329 | P: empty, D: kept -/
  lent : NMap Lent
  /-- lease requests outstanding at holders, with the size asked | map | R132 | empty -/
  leaseAsked : NMap Nat
  /-- FAB_LEASE flags of leases at holders: overdue | list | R331, R345 | empty, D: kept -/
  overdueAt : List Node
  /-- nodes declared FAILED whose lease and requests still wait for an alias, with the declaration time | map | R332 | empty -/
  leaseFree : NMap Nat
  /-- aliases in force: failed owner to (new owner, serving) | map | R174, R332 | P: empty -/
  aliases : NMap (Node × Bool)
  /-- FAB_ROWS.asleep | 64 | R342 | P: 0, D: 0 -/
  rowsAsleep : BitVec 64
  /-- own row's sleep proposal, with the consents so far | option | R333 | none -/
  proposal : Option (BitVec 6 × List Node)
  /-- earliest time of the next sleep proposal | ns | R333 | 0 -/
  nextProposalNs : Nat
  /-- rows whose PROPOSE came and is not yet answered | list | R135, R333 | empty -/
  consentOwed : List (BitVec 6)
  /-- rows whose wake is pending (ROW_WAKE flooded or received) with its time | map | R335, R336 | empty -/
  waking : NMap Nat
  /-- rows recorded ASLEEP, with the time of the COMMIT | map | R334 | empty -/
  slept : NMap Nat
  /-- FAB_ROUTE.three_hop | 32 | R343 | P: 0, D: 0 -/
  threeHop : BitVec 32
  /-- FAB_ROUTE.discarded | 32 | R343 | P: 0, D: 0 -/
  discarded : BitVec 32
  /-- destinations a 3-hop path has reached | list | R346 | empty -/
  threeHopDst : List Node
  /-- last raise of event 0x221 | option ns | R325 | none -/
  lastThrottleNs : Option Nat
  /-- last raise of event 0x225 | option ns | R346 | none -/
  lastFaultPathNs : Option Nat
  /-- last raise of event 0x227 by destination | map | R314 | empty -/
  unreachableNs : NMap Nat
  /-- last raise of event 0x230 | option ns | R380 | none -/
  lastReissueNs : Option Nat
  /-- last raise of event 0x232 | option ns | R375 | none -/
  lastExpiredNs : Option Nat
  /-- last raise of event 0x231 | option ns | R378 | none -/
  lastCrtFullNs : Option Nat
  /-- FAB_CTRL.restart_grace_s | 8 | R344 | P: 30, D: kept -/
  restartGraceS : BitVec 8
  /-- FAB_CTRL.sleep_veto | 1 | R344 | P: 0, D: kept -/
  sleepVeto : Bool
  /-- FAB_CTRL.rejoin | 1 | R344 | P: 0, D: 0 -/
  rejoin : Bool
  /-- FAB_CTRL.leave | 1 | R344 | P: 0, D: kept -/
  leave : Bool
  /-- FAB_MEMBER_SEL | 12 | R341 | P: 0, D: kept -/
  memberSel : Node
  /-- FAB_LEASE_SEL | 12 | R345 | P: 0, D: kept -/
  leaseSel : Node
  /-- lendable_gib last advertised | 16 | R328 | 0 -/
  advertised : BitVec 16
  /-- routed CTRL messages awaiting an answer, repeated every 100 ms | map by node | R359 | empty -/
  ctrlPending : NMap (List Msg)
  /-- this device learnt it was declared FAILED | 1 | R175 | P: 0, D: 0 -/
  selfFenced : Bool
  /-- the buddy reports its store intact (R172) | 1 | R172, R324 | 0 -/
  buddyIntact : Bool
  /-- pods stored for owners: owner x 2^38 + pod | map | R94 | P: empty, D: kept -/
  lentPods : NMap Line
deriving DecidableEq, Repr

end Sys2Proof.Machine
end

