-- ==== Sys2Proof/Machine/StMem.lean ====
section
/-! DEFINITION. State of the labels and regulation (11), the memory controllers (12), ECC and scrubbing (13), the encryption
units (07) and the compression units (06). -/

namespace Sys2Proof.Machine

/-- The ports of a controller, in the order of R426. -/
inductive Port where
  | host
  | fabric
  | nearfill
  | migrate
  | scrub
  | metaData
  | engine
  | train
deriving DecidableEq, Repr

/-- What a memory access is for; its return acts on it. A line key is owner x 2^42 + line; a block key owner x 2^38 + block. -/
inductive MemUse where
  /-- home read of a line of a Plain page for the open transaction on it -/
  | homeRead (key : Nat)
  /-- home write of a line of a Plain page -/
  | homeWrite (key : Nat)
  /-- near-cache fill of a Packed block -/
  | blockFill (block : Nat)
  /-- near-cache hit read in RLD -/
  | nearRead (key : Nat)
  /-- a holder's pods for a BlkRead -/
  | podRead (tag : Tag) (pod : Nat) (offset : Nat) (vers : BitVec 16) (label : Nat)
  | podWrite
  /-- metadata read, or written back, through the META port: a line of the descriptor table (R92) or an entry of the extent table
  (R163) -/
  | metadata
deriving DecidableEq, Repr

/-- A request at a memory controller. -/
structure MemReq where
  id : Nat
  port : Port
  label : Nat
  /-- label under which it queues: 14 under DEMOTE (R404); 16 more where its message or request does not conform (R392) -/
  qlabel : Nat
  write : Bool
  use : MemUse
  /-- channel address, or address within the stack -/
  addr : Nat
  atNs : Nat
  target : Nat
  counted : Bool
  /-- bytes moved -/
  size : Nat
  /-- the data of a queued write, for reads that meet it (R431) -/
  data : Option Line
deriving DecidableEq, Repr

/-- MEM_POWER.state (R449). -/
inductive MemSt where
  | off
  | training
  | active
  | powerDown
  | selfRefresh
  | custody
  | fenced
  | excluded
deriving DecidableEq, Repr

/-- What saved training settings of a channel were saved with (R437): of each DIMM its SPD's manufacturer, serial and part, and the
speed. -/
structure SavedTraining where
  dimms : List (Option (BitVec 16 × BitVec 32 × BitVec 64))
  speed : Nat
deriving DecidableEq, Repr

/-- One controller: DDR-5 channels 0 to 11, RLD stacks 12 to 15. -/
structure MemCtl where
  /-- MEM_POWER.state | 4 | R449 | P: 0, D: 5 when held, 0 otherwise -/
  st : MemSt
  /-- admission stage | 64 items per label | R391, R410 | empty -/
  sched : Wfq MemReq
  /-- items whose label's queue of the admission stage is full: they wait upstream, in order | list | R410 | empty -/
  upstream : List MemReq
  /-- read queue | 64 | R428 | P: 0, D: 0 -/
  rq : List MemReq
  /-- write queue | 64 | R428 | P: 0, D: 0 -/
  wq : List MemReq
  /-- issued reads whose data has not returned | list | R429 | empty -/
  flight : List MemReq
  /-- MEM_QUEUE.draining | 1 | R430, R447 | P: 0, D: 0 -/
  draining : Bool
  /-- writes issued while draining since urgent reads were last looked for | 7 | R430 | 0 -/
  drained : Nat
  /-- open row per bank, keyed by bank address | map | R429 | empty -/
  openRows : NMap Nat
  /-- MEM_SCHED.drain_burst | 8 | R447 | image -/
  drainBurst : Nat
  /-- MEM_SCHED.wq_high | 8 | R447 | image -/
  wqHigh : Nat
  /-- MEM_SCHED.wq_low | 8 | R447 | image -/
  wqLow : Nat
  /-- MEM_PORT[p].target_ns | 8 x 16 | R448 | image -/
  targets : List Nat
  /-- MEM_PORT[p].urgent3 | 8 x 32 | R448 | P: 0, D: 0 -/
  urgent3 : List (BitVec 32)
  /-- MEM_REFRESH.postponed, per rank | 4 x 3 | R449 | P: 0, D: 0 -/
  postponed : List Nat
  /-- MEM_REFRESH.rate | 2 | R449 | P: 1, D: 1 -/
  rate : Nat
  /-- MEM_REFRESH.postpone_max | 3 | R449 | image -/
  postponeMax : Nat
  /-- MEM_POWER.sr_idle_us | 16 | R449 | image -/
  srIdleUs : Nat
  /-- MEM_POWER.pd_idle_ns | 16 | R449 | image -/
  pdIdleNs : Nat
  /-- MEM_PWRSTAT.sr_entries | 32 | R449 | P: 0, D: 0 -/
  srEntries : BitVec 32
  /-- MEM_PWRSTAT.pd_entries | 32 | R449 | P: 0, D: 0 -/
  pdEntries : BitVec 32
  /-- ranks in power-down | 4 | R434 | 0 -/
  ranksDown : BitVec 4
  /-- the channel's PMICs are on | 1 | R420 | 0 -/
  pmic : Bool
  /-- training settings saved in boot flash, with what they were saved with | option | R436, R437 | P: flash (DESIGN CHOICE none) -/
  saved : Option SavedTraining
  /-- SPD serials last read, by socket position | list | R456 | P: flash (DESIGN CHOICE empty) -/
  serials : List (Option (BitVec 32))
  /-- the HSA lands of the channel's sockets present the resistance of their HID, otherwise an open circuit | 1 | R655 | P: 0, D: 0 -/
  hsa : Bool
deriving DecidableEq, Repr

/-- The training helpers of a channel (R450). -/
structure MemTrn where
  /-- MEM_TRN_CTRL.bursts | 16 | R450 | P: 1, D: 1 -/
  bursts : BitVec 16
  /-- MEM_TRN_CTRL.pattern | 4 | R450 | P: 0, D: 0 -/
  pattern : BitVec 4
  /-- MEM_TRN_CTRL.target | 2 | R450 | P: 0, D: 0 -/
  target : BitVec 2
  /-- MEM_TRN_CTRL.rank | 2 | R450 | P: 0, D: 0 -/
  rank : BitVec 2
  /-- MEM_TRN_CTRL.cid | 2 | R450 | P: 0, D: 0 -/
  cid : BitVec 2
  /-- MEM_TRN_CTRL.subchannel | 1 | R450 | P: 0, D: 0 -/
  subchannel : BitVec 1
  /-- MEM_TRN_CTRL.destructive | 1 | R450 | P: 0, D: 0 -/
  destructive : Bool
  /-- MEM_TRN_CTRL.busy and start | 1 | R450 | P: 0, D: 0 -/
  busy : Bool
  /-- MEM_TRN_SEED.seed | 32 | R450 | P: 0, D: 0 -/
  seed : BitVec 32
  /-- MEM_TRN_STATUS.refused | 1 | R450 | P: 0, D: 0 -/
  refused : Bool
  /-- MEM_TRN_STATUS.failed | 16 | R450 | P: 0, D: 0 -/
  failed : BitVec 16
  /-- MEM_TRN_FAIL[0] | 40 | R450 | P: 0, D: 0 -/
  fail0 : BitVec 40
  /-- MEM_TRN_FAIL[1] | 40 | R450 | P: 0, D: 0 -/
  fail1 : BitVec 40
  /-- MEM_TRN_DELAY.lane | 8 | R450 | P: 0, D: 0 -/
  lane : BitVec 8
  /-- MEM_TRN_DELAY.kind | 2 | R450 | P: 0, D: 0 -/
  kind : BitVec 2
  /-- delays of the lanes by kind x 256 + lane, unlisted = 0 | 9 each | R450 | P: 0, D: 0 -/
  delays : NMap (BitVec 9)
  /-- MEM_TRN_VREF.dram | 8 | R450 | P: 0, D: 0 -/
  dramVref : BitVec 8
  /-- MEM_TRN_VREF.host | 8 | R450 | P: 0, D: 0 -/
  hostVref : BitVec 8
deriving DecidableEq, Repr

/-- Training helpers at reset (R450). -/
def MemTrn.init : MemTrn :=
  ⟨1, 0, 0, 0, 0, 0, false, false, 0, false, 0, 0, 0, 0, 0, [], 0, 0⟩

/-- ECC, scrubbing and poison (13). -/
structure EccState where
  /-- ECC_CTRL.bucket_threshold | 8 | R469 | P: 16, D: kept -/
  threshold : BitVec 8
  /-- ECC_CTRL.leak_s | 16 | R469 | P: 60, D: kept -/
  leakS : BitVec 16
  /-- ECC_CTRL.scrub_period_h | 16 | R469 | P: 24, D: kept -/
  scrubH : BitVec 16
  /-- ECC_CTRL.rld_period_min | 8 | R469 | P: 60, D: kept -/
  rldMin : BitVec 8
  /-- ECC_CTRL.ue_fence | 4 | R469 | P: 8, D: kept -/
  ueFence : BitVec 4
  /-- ECC_CTRL.rld_scrub_off | 1 | R469 | P: 0, D: kept -/
  rldScrubOff : Bool
  /-- ECC_CTRL.scrub_off | 1 | R469 | P: 0, D: kept -/
  scrubOff : Bool
  /-- leaky buckets, unlisted = 0 | 3,840 + 32 x 8 | R455 | P: 0, D: 0 (DESIGN CHOICE) -/
  buckets : NMap (BitVec 8)
  /-- time of a device's last overflow, by bucket | map | R456 | empty -/
  overflowNs : NMap Nat
  /-- marked devices by group (channel x 32 + group), unlisted = none | map | R456, R471 | flash -/
  marks : NMap (Fin 10)
  /-- times of uncorrectable bursts, by n of R470 | map | R457, R459 | empty -/
  ueNs : NMap (List Nat)
  /-- ECC_SCRUB.passes by n | 32 | R470 | P: 0, D: kept -/
  passes : NMap (BitVec 32)
  /-- ECC_SCRUB.lagging: the n for which it is 1 | 1 by n | R470 | P: 0, D: kept -/
  lagging : List Nat
  /-- lines scrubbed in the current pass, by n; progress_pct follows from it | map | R470 | P: 0, D: kept -/
  scrubbed : NMap Nat
  /-- start of the current pass, by n | map | R462 | 0 -/
  passStartNs : NMap Nat
  /-- ECC_COUNT.corrected by n | 32 | R470 | P: 0 -/
  corrected : NMap (BitVec 32)
  /-- ECC_COUNT.uncorrectable by n | 16 | R470 | P: 0 -/
  uncorrectable : NMap (BitVec 16)
  /-- ECC_COUNT.overflows by n | 16 | R470 | P: 0 -/
  overflows : NMap (BitVec 16)
  /-- ECC_LAST: source, finder, recovered, address | 64 | R472 | P: 0, D: 0 -/
  last : BitVec 64
  /-- MEDIA markers written by the scrubber and not yet read: (channel, address / 64) | list | R461, R463 | empty -/
  media : List (Nat × Nat)
deriving DecidableEq, Repr

/-- A token bucket: tokens in hundredths of a byte, so that the 10 ns gain of shape_mbps / 100 bytes is whole (R400). -/
structure Bucket where
  centi : Nat
deriving DecidableEq, Repr

/-- A message held red under DELAY (R404). `freed`: it is in the hold queue, and its receive slots are free; otherwise the queue
was full and it stays in the receive buffer. -/
structure HeldMsg where
  link : LinkNo
  msg : Msg
  atNs : Nat
  freed : Bool
deriving DecidableEq, Repr

/-- Labels and regulation (11). -/
structure QosState where
  /-- QOS_CTRL.police_off | 1 | R412 | P: 0, D: kept -/
  policeOff : Bool
  /-- QOS_CTRL.feedback_off | 1 | R412 | P: 0, D: kept -/
  feedbackOff : Bool
  /-- Qs in 1/65,536 % units (the manual gives no width) | Nat | R406 | P: 0, D: 0 -/
  qs : Nat
  /-- QOS_STATUS.level | 2 | R406, R413 | P: 0, D: 0 -/
  level : Nat
  /-- QOS_STATUS.devload | 2 | R409, R413 | P: 0, D: 0 -/
  devload : BitVec 2
  /-- QOS_STATUS.pause | 1 | R408, R413 | P: 0, D: 0 -/
  pause : Bool
  /-- time since which the level is 2 or 3 | option ns | R408 | none -/
  highNs : Option Nat
  /-- time since which the level is 0 | option ns | R408 | none -/
  zeroNs : Option Nat
  /-- CXL.mem credits withheld since | option ns | R407 | none -/
  withheldNs : Option Nat
  /-- event 0x242 was raised for this one | 1 | R407 | 0 -/
  withheldRaised : Bool
  /-- last raise of event 0x240 | option ns | R409, R411 | none -/
  severeNs : Option Nat
  /-- last raise of event 0x241 by label | map | R409, R411 | empty -/
  redNs : NMap Nat
  /-- scale c_l by label, unlisted = 256 | 14 x 9 | R407, R414 | P: 256, D: 256 -/
  scale : NMap Nat
  /-- requests in progress beyond the ingress queues, by label | map | R407 | 0 -/
  inProgress : NMap Nat
  /-- the request being injected is a non-conforming real-time one (the model's own, between commands 0) | 1 | R392, R400, R402 | 0 -/
  nonConf : Bool
  /-- QOS_SHAPE.rate_mbps by label | 32 | R415 | image -/
  shapeRate : NMap Nat
  /-- QOS_SHAPE.burst_kib by label | 16 | R415 | image -/
  shapeBurst : NMap Nat
  /-- QOS_POLICE.cir_mbps by label | 32 | R416 | image -/
  cir : NMap Nat
  /-- QOS_POLICE.pir_mbps by label | 32 | R416 | image -/
  pir : NMap Nat
  /-- shaper buckets by label | map | R400 | start at the burst -/
  shapeTokens : NMap Bucket
  /-- committed buckets by label | map | R403 | start at the burst -/
  committedTokens : NMap Bucket
  /-- peak buckets by label | map | R403 | start at the burst -/
  peakTokens : NMap Bucket
  /-- hold queues by label, oldest first | 256 slots | R404 | empty -/
  holdQ : NMap (List HeldMsg)
  /-- QOS_COLOUR.red by label | 32 | R417 | P: 0, D: 0 -/
  red : NMap (BitVec 32)
  /-- QOS_COLOUR.yellow by label | 32 | R417 | P: 0, D: 0 -/
  yellow : NMap (BitVec 32)
  /-- QOS_BWM by label | 48 | R417 | P: 0, D: 0 -/
  bwm : NMap (BitVec 48)
  /-- QOS_BWF by label | 48 | R417 | P: 0, D: 0 -/
  bwf : NMap (BitVec 48)
deriving DecidableEq, Repr

/-- A key domain in the secure world's key store (R232 to R237, R251, R519). -/
structure DomKeys where
  /-- XTS_DOM_STAT.current_kgen | 1 | R251 | flash -/
  current : Bool
  /-- keys of the current generation | option | R232 | none until the domain is named -/
  cur : Option KeySet
  /-- the old generation, live while a descriptor names it | option | R235 | none -/
  old : Option KeySet
  /-- XTS_DOM_STAT.rotating | 1 | R251 | P: 0, D: 0 -/
  rotating : Option CmdSrc
  /-- keys the owner supplied for the next generation | option | R236, R519 | none -/
  supplied : Option KeySet
  /-- supply serial last accepted | 32 | R519 | 0 -/
  supplySerial : BitVec 32
deriving DecidableEq, Repr

/-- Encryption and integrity tags (07). -/
structure XtsState where
  /-- XTS_TAGSTAT.tag_fail | 32 | R249 | P: 0, D: 0 -/
  tagFail : BitVec 32
  /-- XTS_TAGSTAT.unrecovered | 32 | R249 | P: 0, D: 0 -/
  unrecovered : BitVec 32
  /-- XTS_DOM_SEL.domain | 12 | R250 | P: 0, D: kept -/
  domSel : BitVec 12
  /-- key store by domain | map | R232, R251 | flash -/
  domains : NMap DomKeys
  /-- tag-failure times per holder | map | R244 | empty -/
  holderFails : NMap (List Nat)
  /-- holders excluded until event 0x169 is acknowledged | list | R244 | empty -/
  holdersOut : List Node
  /-- Remote blocks being read a second time after a tag mismatch | list | R243 | empty -/
  rereads : List Nat
  /-- next serial of a generated key | Nat | R233 | 1 (the model's own) -/
  nextKey : Nat
deriving DecidableEq, Repr

/-- What a compression job is for (R205). -/
inductive JobUse where
  | evict (block : Nat)
  | migrate (page : Nat) (block : Nat)
  | populate (page : Nat) (block : Nat)
  | eval (src : CmdSrc) (index : Nat)
  | copy (key : Nat) (block : Nat)
deriving DecidableEq, Repr

/-- A compression job (R205, R214, R216): the block, the slots it is compressed under in turn, the BLEN values so far, and the label
it is queued under. -/
structure Job where
  use : JobUse
  slots : List (BitVec 6)
  got : List Nat
  label : Nat
  data : List Byte
deriving DecidableEq, Repr

/-- What a decoded block is for. -/
inductive DUse where
  | fill (block : Nat) (label : Nat)
  | migrate (page : Nat) (block : Nat)
deriving DecidableEq, Repr

/-- A block that a decompressor lane has taken and not delivered (R659): what it decodes to. -/
structure DJob where
  use : DUse
  bytes : List Byte
deriving DecidableEq, Repr

/-- CMP_TRIAL (R226). -/
structure Trial where
  bad : Bool
  /-- event 0x165 was raised for this write of the register (R217) -/
  raised : Bool
  enable : Bool
  slot1 : BitVec 6
  slot2 : BitVec 6
  slot3 : BitVec 6
deriving DecidableEq, Repr

/-- CMP_TRIAL at reset. -/
def Trial.zero : Trial := ⟨false, false, false, 0, 0, 0⟩

/-- A PRIMER_EVAL in progress (R218): the slot, result bytes so far by index, and the blocks. -/
structure Eval where
  src : CmdSrc
  slot : BitVec 6
  count : Nat
  results : NMap Nat
  resultAddr : BitVec 64
deriving DecidableEq, Repr

/-- Compression (06). -/
structure CmpState where
  /-- CMP_LANES.clane_fenced | 16 | R220 | P: 0, D: 0 -/
  cFenced : BitVec 16
  /-- CMP_LANES.dlane_fenced | 32 | R220 | P: 0, D: 0 -/
  dFenced : BitVec 32
  /-- CMP_ERRORS.verify_fail | 32 | R221 | P: 0, D: 0 -/
  verifyFail : BitVec 32
  /-- CMP_ERRORS.decode_error | 32 | R221 | P: 0, D: 0 -/
  decodeError : BitVec 32
  /-- admission scheduler: 64 blocks per label; CMP_ADMIT[l] counts label l | queue | R214, R222 | empty -/
  sched : Wfq Job
  /-- jobs in compressor lanes, by lane | map | R658 | empty -/
  lanes : NMap Job
  /-- time of the last VERIFY_FAIL of a lane | map | R215 | empty -/
  vfailNs : NMap Nat
  /-- CMP_PRIMER[n].retire | 64 | R223 | P: 0, D: kept -/
  retire : BitVec 64
  /-- slots whose on-die primer store waits for a reload | 64 | R219 | 0 -/
  reloading : BitVec 64
  /-- CMP_TRIAL[16], unlisted = zero | 20 each | R226 | P: 0, D: kept -/
  trials : NMap Trial
  /-- compressions that wait for the commit point or refusal: jobs | list | R207 | empty -/
  waiting : List Job
  /-- PRIMER_EVAL commands in progress | list | R218 | empty -/
  evals : List Eval
  /-- finished results of whole-page compressions not yet committed: block number to candidate slots and BLEN values | map | R206, R216 | empty -/
  results : NMap (List Nat × List Nat)
  /-- blocks in decompressor lanes that give no result, by lane | map | R658, R659 | empty -/
  dLanes : NMap DJob
  /-- blocks that go to another decompressor lane | list | R659 | empty -/
  dWait : List DJob
  /-- blocks given up whose event waits for the buddy's lines: block number and decoder error, none for a tag failure | list | R198, R243 | empty -/
  reports : List (Nat × Option DecError)
deriving DecidableEq, Repr

end Sys2Proof.Machine
end

