-- ==== Sys2Proof/Machine/StCoh.lean ====
section
/-! DEFINITION. State of pool coherence (08): the owner's directory and transactions, the requester's near cache and
transactions. A line key is owner x 2^42 + line; a block key is owner x 2^38 + block. -/

namespace Sys2Proof.Machine

/-- Directory states (R257, R258). -/
inductive DirSt where
  | u
  | s
  | e
  | m
  | o
deriving DecidableEq, Repr

/-- The owner's host's copy (R257). -/
inductive HostCopy where
  | i
  | s
  | a
deriving DecidableEq, Repr

/-- A directory entry (R257), keyed by its line. Its busy bit is whether a transaction is open on the line (R261). -/
structure DirEnt where
  st : DirSt
  host : HostCopy
  /-- fmt 1: row-bitmap form (R259) -/
  bitmap : Bool
  /-- ptr0: the holder in E, M or O -/
  ptr0 : Option Node
  /-- pointer-form sharers -/
  sharers : List Node
  rows : BitVec 64
  age : Nat
  way : Nat
  alt : Bool
deriving DecidableEq, Repr

/-- A line with no entry: U with host I (R257). -/
def DirEnt.none : DirEnt := ⟨.u, .i, false, Option.none, [], 0, 0, 0, false⟩

/-- What a transaction at the owner is (R269, R270, R278, R283). A host request whose completion is
discarded at a reset has no CXL tag (R499). -/
inductive OwnKind where
  | rdShared
  | rdOwn
  | rdCur
  | wrLine (keep : Keep) (poison : Bool) (mask : BitVec 64) (data : Line)
  | atomicFar (op : BitVec 8) (size : BitVec 3) (seq floor : BitVec 32) (offset : BitVec 6) (operands : BitVec 256)
  | hostRd (mv : MetaVal) (req : Option (BitVec 16))
  | hostWr (mv : MetaVal) (req : Option (BitVec 16)) (data : Line) (mask : BitVec 64) (poison : Bool)
  | hostAtomic (src : CmdSrc) (op : BitVec 8) (size : BitVec 3) (offset : BitVec 6) (operands : BitVec 256) (raddr : BitVec 64)
  | victim (forKey : Nat)
deriving DecidableEq, Repr

/-- Who asked: a peer's request, with what answers it needs, or the owner's host. `qlabel` is the label under which its memory accesses
queue (R404), 16 more where it does not conform (R392). -/
inductive Asker where
  | peer (node : Node) (tag : Tag) (label : Nat) (qlabel : Nat) (isNew : Bool)
  | host (label : Nat) (qlabel : Nat)
  | device
deriving DecidableEq, Repr

/-- Stages of an open transaction. -/
inductive OwnStage where
  /-- snoops and back-invalidates outstanding (R262) -/
  | snooping
  /-- waits for home memory to be read -/
  | reading
  /-- waits for space, the mirror state or a row before it commits -/
  | blocked
  /-- the commit waits for the admission of its write (R21) -/
  | writing
  /-- committed here; waits for the buddy's Cmp (R169) -/
  | mirroring
  /-- ready to be answered -/
  | replying
  /-- waits for the grant's acknowledgement (R264) -/
  | acking
deriving DecidableEq, Repr

/-- An open transaction at the owner, keyed by line (R261). -/
structure OwnTx where
  kind : OwnKind
  who : Asker
  stage : OwnStage
  /-- peers whose answer is outstanding; true: RspEvictInFlight came, the writeback is awaited -/
  snoops : List (Node × Bool)
  /-- a back-invalidate of the host is outstanding, with its start -/
  bisnp : Option Nat
  contended : Bool
  /-- data forwarded from a holder without commit, with poison -/
  fwd : Option (Line × Bool)
  /-- the value the commit is to write, once computed -/
  commit : Option (Line × Bool)
  startNs : Nat
  ackNs : Nat
  /-- the recovery snoop was sent -/
  recovering : Bool
  /-- the read data from home, once there -/
  home : Option (Line × Bool)
  /-- result of an atomic, with poison -/
  result : Option (BitVec 128 × Bool)
  /-- the recorded holder in E, M or O answered with dirty data -/
  xDirty : Bool
  /-- peers whose dirty data the commit covers, with the snoop's tag: they get Cmp (R266) -/
  owedCmp : List (Node × Tag)
  /-- writebacks whose data the commit covers, with new: they get EvictAck (R276) -/
  owedAck : List (Tag × Bool)
  /-- requester recorded as a duplicate whose own records are ignored (R267) -/
  again : Bool
deriving DecidableEq, Repr

/-- A request in the pending table (R279), with the area that holds it. -/
inductive Area where
  | general
  | reserved
  | host
deriving DecidableEq, Repr

/-- A pending request: line, kind, asker and area, oldest first. -/
structure Pend where
  key : Nat
  kind : OwnKind
  who : Asker
  area : Area
deriving DecidableEq, Repr

/-- Line states at a requester (R272). -/
inductive ReqSt where
  | i
  | s
  | e
  | m
  | o
deriving DecidableEq, Repr

/-- A line in a near-cache block: its data, poison and dirt; for another owner's line its state and host copy (R253). -/
structure NcLine where
  data : Line
  poison : Bool
  dirty : Bool
  st : ReqSt
  hf : HostCopy
  hostDirty : Bool
  /-- its last write was a near atomic (R284) -/
  atomic : Bool
  /-- every byte is known: a line kept after a write of some of its bytes has only those (R272) -/
  whole : Bool
deriving DecidableEq, Repr

/-- A near-cache block (R18, R253), keyed by block; lines by position 0 to 15. -/
structure NcBlock where
  lines : NMap NcLine
  /-- an eviction of the block waits or runs: compression, pods or buddy -/
  evicting : Bool
  label : Nat
deriving DecidableEq, Repr

/-- A request of this device's host or of a command, to a line of another owner (R272). A host request whose
completion is discarded at a reset has no CXL tag (R499). -/
inductive ReqWork where
  | read (mv : MetaVal) (req : Option (BitVec 16)) (label : Nat)
  | write (mv : MetaVal) (req : Option (BitVec 16)) (label : Nat) (data : Line) (mask : BitVec 64) (poison : Bool)
  | atomic (src : CmdSrc) (label : Nat) (op : BitVec 8) (size : BitVec 3) (offset : BitVec 6) (operands : BitVec 256)
      (raddr : BitVec 64)
deriving DecidableEq, Repr

/-- What a requester has outstanding on a line (R273). -/
inductive ReqStage where
  | rdShared
  | rdOwn
  | rdCur
  | wrLine
  | farAtomic
  /-- WbDirty or Evict before the request proper, or an eviction -/
  | evicting
  /-- a hit, read from the near cache -/
  | reading
  /-- back-invalidating its own host before an eviction or an atomic -/
  | hostInv
  /-- waits for room in the near cache or in the eviction buffer (R273, R274) -/
  | waiting
deriving DecidableEq, Repr

/-- A requester's outstanding transaction on a line, with the work that waits for it in order. -/
structure ReqTx where
  stage : ReqStage
  work : List ReqWork
  nacks : Nat
  reserved : Bool
  /-- recovery snoop answered: the grant is installed in I (R264) -/
  recovered : Bool
  tag : Tag
  startNs : Nat
  contended : Bool
  /-- eviction buffer data kept until the owner's Cmp (R266) -/
  kept : Option (Line × Bool × Bool)
deriving DecidableEq, Repr

/-- Dirty data sent in answer to a snoop and kept until the owner's Cmp (R266): the snoop's tag, the line and the data. -/
structure SentDirty where
  tag : Tag
  key : Nat
  data : Line
  poison : Bool
deriving DecidableEq, Repr

/-- Why this device's own host is back-invalidated for a line of another owner: a snoop with its operation and tag, an eviction,
an atomic, or a scope snoop (R272, R291). -/
inductive HostWhy where
  | snoop (op : Nat) (tag : Tag)
  | evict
  | atomic
  | scope (tag : Tag)
deriving DecidableEq, Repr

/-- A back-invalidate of this device's own host for a requester line: its start, and what waits for its answer, in order. -/
structure HostSnoop where
  atNs : Nat
  why : List HostWhy
deriving DecidableEq, Repr

/-- Stages of a line in the writeback sink: it waits to be committed, for its write, for the buddy. -/
inductive SinkStage where
  | waiting
  | writing
  | mirroring
deriving DecidableEq, Repr

/-- A line of dirty data in the writeback sink (R265), until it is committed and acknowledged. -/
structure SinkEnt where
  key : Nat
  tag : Tag
  isNew : Bool
  data : Line
  poison : Bool
  /-- snoop data, answered with Cmp; otherwise a writeback, answered with EvictAck -/
  cmp : Bool
  stage : SinkStage
deriving DecidableEq, Repr

/-- Pool coherence (08). -/
structure CohState where
  /-- directory by line key, unlisted = U, host I | 268,435,456 x 16 B | R256, R257 | P: empty, D: kept -/
  dir : NMap DirEnt
  /-- on-die directory cache: the sets it holds, and whether they are newer than RLD | 262,144 sets | R260 | P: empty, D: written back,
  empty -/
  dirCache : NMap Bool
  /-- open transactions by line key | 8,192 | R261 | P: empty, D: empty -/
  txs : NMap OwnTx
  /-- pending table, oldest first | 4,096 | R279 | P: empty, D: empty -/
  pend : List Pend
  /-- standby set of nodes | list | R282 | empty -/
  standby : List Node
  /-- rotating pointer | 12 | R282 | 0 (DESIGN CHOICE) -/
  pointer : Node
  /-- reserved entries held for a node | list | R282 | empty -/
  heldFor : List Node
  /-- writeback sink, oldest first | 4,096 lines | R265 | empty -/
  sink : List SinkEnt
  /-- near cache by block key | map | R18, R253 | P: empty, D: kept as R289 -/
  near : NMap NcBlock
  /-- requester transactions by line key | 8,192 | R273 | P: empty, D: empty but for evicting lines -/
  reqs : NMap ReqTx
  /-- snoop data sent dirty and kept until the owner's Cmp | list | R266 | empty -/
  sentDirty : List SentDirty
  /-- blocks being fetched into the near cache, by block key | list | R17 | empty -/
  fills : List Nat
  /-- predictor counters, unlisted = 1 | 4,096 x 2 | R284 | P: 1 -/
  pred : NMap (BitVec 2)
  /-- COH_CTRL.bisnp_timeout_ms | 8 | R294 | P: 10, D: kept -/
  bisnpMs : BitVec 8
  /-- COH_CTRL.host_flushed | 1 | R294 | P: 0, D: 0 -/
  hostFlushed : Bool
  /-- COH_CTRL.e_grant_off | 1 | R294 | P: 0, D: kept -/
  eGrantOff : Bool
  /-- COH_CTRL.pred_clear | 1 | R294 | P: 0, D: 0 -/
  predClear : Bool
  /-- COH_CTRL.atomic_mode | 2 | R294 | P: 0, D: kept -/
  atomicMode : BitVec 2
  /-- COH_STATUS.unknown_sets: sets unknown | list, at most 64 | R292, R295 | P: 0, D: kept -/
  unknownSets : List Nat
  /-- COH_STATUS.slice_unknown | 4 | R291, R295 | P: 0, D: kept -/
  sliceUnknown : BitVec 4
  /-- slices rebuilt with the host's copies unknown; COH_STATUS.host_unknown | 4 | R291, R295 | P: 0, D: kept -/
  hostUnknown : BitVec 4
  /-- slices folded onto their pair | 4 | R291 | P: 0, D: kept -/
  folded : BitVec 4
  /-- COH_STATUS.serving | 1 | R295 | P: 0, D: 0 -/
  serving : Bool
  /-- COH_NACK.notserving_hint | 8 | R297 | P: 0x84, D: kept -/
  notservingHint : BitVec 8
  /-- COH_NACK.pending_hint | 8 | R297 | P: 0x04, D: kept -/
  pendingHint : BitVec 8
  /-- COH_DIRSTAT.evictions | 32 | R298 | P: 0, D: 0 -/
  evictions : BitVec 32
  /-- COH_ATOMIC.near | 32 | R298 | P: 0, D: 0 -/
  nearCount : BitVec 32
  /-- COH_ATOMIC.far | 32 | R298 | P: 0, D: 0 -/
  farCount : BitVec 32
  /-- last raise of event 0x1A0 | option ns | R293 | none -/
  pendFullNs : Option Nat
  /-- last raise of event 0x1A1 | option ns | R293 | none -/
  resFullNs : Option Nat
  /-- back-invalidates of this device's own host outstanding for requester lines, by line key | map | R272 | empty -/
  hostSnoops : NMap HostSnoop
  /-- scope snoops not yet answered: tag and the line keys still to give up | list | R291 | empty -/
  scopeOwed : List (Tag × List Nat)
  /-- host accesses that wait: to a line of another owner with no free transaction, or for power or space | list | R273, R34 | empty -/
  waitHost : List (BitVec 64 × ReqWork)
  /-- messages held at their sources by credits while the device sleeps, oldest first | list | R34 | empty -/
  asleepIn : List Instr
deriving DecidableEq, Repr

end Sys2Proof.Machine
end

