-- ==== Sys2Proof/Machine/StHost.lean ====
section
/-! DEFINITION. State of the host interface (14) and of the secure world (15), and what leaves the device. -/

namespace Sys2Proof.Machine

/-- A completion (R489): result, SQ head, cid and status; its queue and phase are added at posting. -/
structure Completion where
  result : BitVec 64
  sqHead : Nat
  cid : BitVec 16
  status : BitVec 8
deriving DecidableEq, Repr

/-- A command taken from a queue: its entry, the SQ head after it was taken and its completion once it has finished. -/
structure Taken where
  entry : Line
  head : Nat
  started : Bool
  done : Option Completion
deriving DecidableEq, Repr

/-- A command-queue pair (R485 to R489, R503), keyed by qid. -/
structure Queue where
  vector : BitVec 11
  admin : Bool
  sqEntries : Nat
  cqEntries : Nat
  sqBase : BitVec 64
  cqBase : BitVec 64
  sqHead : Nat
  /-- SQ_TAIL last accepted -/
  sqTail : Nat
  cqHead : Nat
  cqTail : Nat
  phase : Bool
  stopped : Bool
  /-- a QUEUE_DELETE waits for the taken commands -/
  deleting : Bool
  /-- entries between head and tail, in order, that wait to be taken -/
  waiting : List Line
  /-- taken commands whose completion is not posted, in SQ order -/
  taken : List Taken
deriving DecidableEq, Repr

/-- An HDM decoder (R477). -/
structure Decoder where
  setting : HdmSetting
  committed : Bool
  error : Bool
deriving DecidableEq, Repr

/-- A sharing grant (R494), keyed by grant id. -/
structure Grant where
  dpa2m : Nat
  len2m : Nat
  grantee : Node
  revoking : Bool
deriving DecidableEq, Repr

/-- What a CXL event record says (R97 to R99, R464, R481). -/
inductive CxlEvent where
  | addCapacity (dpa len : Nat) (tag : BitVec 128) (region : Nat)
  | releaseCapacity (dpa len : Nat) (tag : BitVec 128) (region : Nat)
  | media (dpa : Nat) (dram : Bool) (cause : BitVec 8)
deriving DecidableEq, Repr

/-- A CXL event record in its log, with its handle and time stamp (R481). -/
structure CxlRec where
  handle : BitVec 16
  time : BitVec 64
  event : CxlEvent
deriving DecidableEq, Repr

/-- A background mailbox command that runs (R482, R483). -/
inductive BgCmd where
  | stageCommit
  | queueDelete (qid : BitVec 10)
  | execEntry (entry : Line)
deriving DecidableEq, Repr

/-- One MSI-X vector's table entry and pending bit (R496). -/
structure MsixEnt where
  addr : BitVec 64
  data : BitVec 32
  masked : Bool
  pending : Bool
deriving DecidableEq, Repr

/-- A table entry at reset: masked, as PCIe leaves it. -/
def MsixEnt.init : MsixEnt := ⟨0, 0, true, false⟩

/-- A firmware transfer in progress (R481). -/
structure FwTransfer where
  slot : Nat
  received : Nat
  bytes : List Byte
deriving DecidableEq, Repr

/-- The host interface (14). -/
structure HostState where
  /-- GEN_HOST.credits_withheld | 1 | R502 | P: 1, D: 1, H: 1 -/
  creditsWithheld : Bool
  /-- GEN_HOST.mem_fenced | 1 | R502 | P: 0, D: 0, H: 0, C: 0 -/
  memFenced : Bool
  /-- GEN_HOST.crs | 1 | R502 | P: 1, D: 1, H: 1 -/
  crs : Bool
  /-- GEN_HOST.info_valid | 1 | R502 | P: 0, D: 0, H: 0 -/
  infoValid : Bool
  /-- GEN_HOST.mem_active | 1 | R502 | P: 0, D: 0, H: 0 -/
  memActive : Bool
  /-- GEN_HOST.width | 6 | R502 | P: 0, D: 0, H: 0 -/
  width : BitVec 6
  /-- GEN_HOST.speed | 4 | R502 | P: 0, D: 0, H: 0 -/
  speed : BitVec 4
  /-- the host link is out of L0: down, L1 or L2 | option | R33, R584, R651 | down -/
  linkLow : Option HostLinkLow
  /-- WAKE# is asserted | 1 | R651 | 0 -/
  wake : Bool
  /-- receiver termination is present (R497 step 1) | 1 | R497, R651 | 0 -/
  termination : Bool
  /-- PERST# is asserted, as filtered (R650) | 1 | R498, R650 | 1 (DESIGN CHOICE) -/
  perst : Bool
  /-- GEN_QUEUE_SEL.qid | 10 | R503 | P: 0, D: 0, H: 0 -/
  queueSel : BitVec 10
  /-- command queues by qid | 1,024 | R485, R503 | P: none, D: none, H: none -/
  queues : NMap Queue
  /-- arrival time of each CXL.mem read in progress, by its CXL tag | ns | R631 event 0x004 | empty -/
  readNs : NMap Nat
  /-- HDM decoders, unlisted = uncommitted, all fields 0 | 8 | R477 | uncommitted -/
  decoders : NMap Decoder
  /-- background mailbox command | option | R482, R483 | none -/
  background : Option BgCmd
  /-- output of the last background command, once it ended | 16 B | R483 | none -/
  bgOutput : Option Completion
  /-- a reset has discarded the output of the command that runs in the background | 1 | R498 | 0 -/
  bgDiscard : Bool
  /-- CXL event logs by log number, oldest first | lists | R97, R481, R498 | P: empty, D: empty (DESIGN CHOICE), H: kept -/
  logs : NMap (List CxlRec)
  /-- next event record handle by log | 16 | R481 | 1 (DESIGN CHOICE) -/
  nextHandle : NMap (BitVec 16)
  /-- event interrupt policy | 40 | R481 | 0 (DESIGN CHOICE) -/
  policy : BitVec 40
  /-- host timestamp: the value set and the time it was set | option | R481 | none -/
  timestamp : Option (BitVec 64 × Nat)
  /-- firmware slots A and B in boot flash | map | R510 | DESIGN CHOICE: slot A a valid firmware of svn 0, slot B empty -/
  fwSlots : NMap FwImage
  /-- slot running since step 0x06 | option | R510, R621 | none -/
  fwActive : Option Nat
  /-- slot that the next device reset activates | option | R510 | none -/
  fwPending : Option Nat
  /-- firmware transfer in progress | option | R481 | none -/
  fwTransfer : Option FwTransfer
  /-- grants by grant id | 4,096 | R494 | P: empty, D: kept -/
  grants : NMap Grant
  /-- next grant id | 32 | R492 | 1 (DESIGN CHOICE) -/
  nextGrant : BitVec 32
  /-- MSI-X table and pending bits, unlisted = masked, 0 | 2,048 | R496 | P: masked, H: masked (PCIe) -/
  msix : NMap MsixEnt
deriving DecidableEq, Repr

/-- One fused owner slot (R512). -/
structure OwnerSlot where
  digest : List Byte
  revoked : Bool
deriving DecidableEq, Repr

/-- The nonce of the latest CHALLENGE (R523). -/
structure Nonce where
  value : BitVec 256
  atNs : Nat
  used : Bool
deriving DecidableEq, Repr

/-- Pairing with the buddy (R520, R521, R523 INFO). -/
inductive Pairing where
  | none
  | sending
  | confirmed
  | refused
deriving DecidableEq, Repr

/-- A change applied to a voted block (R526): when, which, and whether the block was gated and off before. -/
structure PowerApplied where
  atNs : Nat
  change : PowerChange
  gated : Bool
  off : Bool
deriving DecidableEq, Repr

/-- An envelope being received from an owner (R521): its number and fragments by index. -/
structure Envelope where
  number : Nat
  fragments : NMap Line
  stored : Bool
deriving DecidableEq, Repr

/-- The secure world (15). -/
structure SecState where
  /-- lifecycle: true SECURED (LX-9012-P), false BLANK | 1 | R3, R508 | fused (DESIGN CHOICE SECURED) -/
  secured : Bool
  /-- GEN_IDENT.lot_id | 32 | R9 | fused (DESIGN CHOICE 0) -/
  lotId : BitVec 32
  /-- fused owner slots in order | at most 4 | R512 | fused (DESIGN CHOICE none) -/
  slots : List OwnerSlot
  /-- image SVN floor, SEC_FUSE.img_svn_floor | 7 | R524 | fused (DESIGN CHOICE 0) -/
  imgFloor : Nat
  /-- firmware SVN floor, SEC_FUSE.fw_svn_floor | 7 | R524 | fused (DESIGN CHOICE 0) -/
  fwFloor : Nat
  /-- the owner's public key in the boot-flash owner record | 1,793 B | R512 | flash (DESIGN CHOICE none) -/
  ownerKey : Option (List Byte)
  /-- the owner record agrees with the fused digest, checked at every boot | 1 | R512 | true -/
  ownerOk : Bool
  /-- the measurements the alias key of this boot was derived over | bytes | R515 | empty (set at boot) -/
  aliasIn : List Byte
  /-- the node ID in this boot's alias certificate | 12 | R515 | 0 (set at boot) -/
  aliasNode : Nat
  /-- the owner digest in this boot's alias certificate | 32 B | R515 | empty (set at boot) -/
  aliasOwner : List Byte
  /-- the fused 256-bit device secret | 256 | R504, R515 | fused: an opaque serial, value in Config -/
  deviceSecret : Nat
  /-- nonce of the latest CHALLENGE | option | R523 | none -/
  nonce : Option Nonce
  /-- SEC_CMD.in_length | 15 | R522 | P: 0, D: 0 -/
  inLength : BitVec 15
  /-- SEC_CMD.opcode | 8 | R522 | P: 0, D: 0 -/
  opcode : BitVec 8
  /-- SEC_STATUS.out_length | 15 | R522 | P: 0, D: 0 -/
  outLength : BitVec 15
  /-- SEC_STATUS.status | 8 | R522 | P: 0, D: 0 -/
  status : BitVec 8
  /-- SEC_STATUS.busy | 1 | R522 | P: 0, D: 0 -/
  busy : Bool
  /-- SEC_STATUS.done | 1 | R522 | P: 0, D: 0 -/
  done : Bool
  /-- SEC payload window, 16,384 B, unlisted bytes 0 | bytes | R522 | 0 (DESIGN CHOICE) -/
  payload : List Byte
  /-- SEC_HOLD.windows | 32 | R528 | P: 0, D: 0 -/
  windows : BitVec 32
  /-- SEC_HOLD.held | 7 | R528 | P: 0, D: 0 -/
  held : BitVec 7
  /-- pending requests by block; SEC_HOLD.pending_blocks | 7 | R528 | P: 0, D: 0 -/
  requests : NMap PowerChange
  /-- changes applied to voted blocks: their time and what the block's bits were before, by block | map | R526 | empty -/
  applied : NMap PowerApplied
  /-- the pending request on block 0 is an entry into Doze | 1 | R526 | 0 -/
  dozeWait : Bool
  /-- start of the open window | option ns | R525, R527 | none -/
  windowNs : Option Nat
  /-- votes are refused until | ns | R527 | 0 -/
  lockoutNs : Nat
  /-- event 0x2E2 was raised in this window | 1 | R531 | 0 -/
  pendingRaised : Bool
  /-- clock of each voted block is gated | 7 | R526 | 0 -/
  gated : BitVec 7
  /-- each voted block's power is off | 7 | R526 | 0 -/
  off : BitVec 7
  /-- watchdog period, ms, locked for this boot | Nat | R529 | 500 -/
  wdPeriodMs : Nat
  /-- the watchdog counts from | ns | R529 | 0 -/
  wdSinceNs : Nat
  /-- time of the last raise of 0x2E4 | option ns | R505 | none -/
  refusedNs : Option Nat
  /-- pairing state towards the buddy | 2 | R523 | none -/
  pairing : Pairing
  /-- number of the next envelope | counter | R521 | 0 -/
  nextEnvelope : Nat
  /-- envelope fragments sent and not yet answered | list | R521 | empty -/
  envelopeOut : List Nat
  /-- envelopes arriving, by owner | map | R521 | empty -/
  envelopes : NMap Envelope
  /-- SPDM: GET_VERSION received | 1 | R516 | 0 -/
  spdmVersion : Bool
  /-- SPDM: GET_CAPABILITIES done | 1 | R516 | 0 -/
  spdmCaps : Bool
  /-- SPDM: algorithms negotiated | 1 | R517 | 0 -/
  spdmAlg : Bool
  /-- SPDM CHUNK_SEND message being gathered: handle, next sequence, bytes | option | R516 | none -/
  chunkIn : Option (BitVec 8 × Nat × List Byte)
  /-- SPDM large response being read by CHUNK_GET: handle, next sequence, bytes | option | R516 | none -/
  chunkOut : Option (BitVec 8 × Nat × List Byte)
  /-- measurement 2 as of the last device reset | 64 B | R518 | empty digest (set at boot) -/
  measFw : List Byte
  /-- measurement 3 as of the last device reset | 64 B | R518 | empty digest (set at boot) -/
  measImg : List Byte
deriving DecidableEq, Repr

/-- A reply of the mailbox or of a management port, by its fields (R481, R483, R599, R516). -/
inductive Reply where
  | ok
  | bytes (b : List Byte)
  | records (r : List CxlRec)
  | extents (total : Nat) (generation : Nat) (l : List (Nat × Nat × BitVec 128))
  | poisonList (l : List (Nat × Nat))
  | regions (l : List (Nat × Nat × Nat))
  | entry (c : Completion)
  | background
  | invalidLength
  | invalidInput
  | invalidHandle
  | unsupported
  | retryRequired
  | busy
  | spdmError (code : BitVec 8)
  | spdm (code : BitVec 8) (b : List Byte)
  | fltRecords (r : List FltRecord)
  | mctpError
deriving DecidableEq, Repr

/-- The three back-invalidates of a host: BISnpInv, BISnpData, BISnpCur (R269). -/
inductive BiOp where
  | inv
  | data
  | cur
deriving DecidableEq, Repr

/-- What leaves the device: the outputs of commands. -/
inductive Output where
  /-- CXL.mem read data (MemData), with poison (R73, R466) -/
  | hostData (req : BitVec 16) (value : Line) (poison : Bool) (devload : BitVec 2)
  /-- CXL.mem write completion -/
  | hostCmp (req : BitVec 16) (devload : BitVec 2)
  /-- a back-invalidate of the host (R262, R269, R272) -/
  | biSnp (dpa : Nat) (op : BiOp)
  /-- BIConflictAck (R269) -/
  | biConflictAck (dpa : Nat)
  /-- MSI-X message of a vector (R496) -/
  | msix (vector : BitVec 11)
  /-- a completion written to a CQ slot (R487, R489) -/
  | cqe (qid : BitVec 10) (slot : Nat) (c : Completion) (phase : Bool)
  /-- bytes written to host memory by a command's DMA (R218, R495) -/
  | dma (addr : BitVec 64) (b : List Byte)
  /-- a mailbox response (R481 to R483) -/
  | mailbox (r : Reply)
  /-- a frame leaving a link (R353) -/
  | frame (l : LinkNo) (bits : FrameBits) (crc : BitVec 32)
  /-- TRAIN frames leaving a link (R351) -/
  | train (l : LinkNo) (t : TrainBody)
  /-- an SMBus response of Radish (R599) -/
  | smbus (r : Reply)
  /-- an SPDM response (R516) -/
  | spdm (r : Reply)
  /-- what a refused read of a secure resource returns (R505) -/
  | refusedRead (value : Word)
  /-- ALERT_L asserted or released (R545) -/
  | alert (on : Bool)
  /-- a media event record offered to the host's event log interrupt (R481) -/
  | eventInterrupt (log : Nat)
  /-- a grant's revocation, to its grantee; and, to the owner, that the grantee has released what it had under a grant (R79) -/
  | grantRevoked (peer : Node) (grantId : BitVec 32)
  | grantReturned (peer : Node) (grantId : BitVec 32)
deriving DecidableEq, Repr

end Sys2Proof.Machine
end

