-- ==== Sys2Proof/Machine/StPower.lean ====
section
/-! DEFINITION. State of power entry (17), of Radish and the power states (18), and of start-up (19). -/

namespace Sys2Proof.Machine

/-- PWR_FEED.state (R578). -/
inductive FeedSt where
  | absent
  | outOfRange
  | qualify
  | ramp
  | pgQual
  | on
  | retryWait
  | latched
  | unexpected
  | testOff
deriving DecidableEq, Repr

/-- One 12 V feed (R555 to R581). -/
structure FeedRec where
  /-- PWR_FEED.state | 4 | R578 | P: 0, D: kept -/
  st : FeedSt
  /-- the feed's voltage at its last sample | mV | R555 | 0 -/
  mv : Nat
  /-- the feed's current at its last sample | mA | R564 | 0 -/
  ma : Nat
  /-- PWR_FEED.pg | 1 | R578 | P: 0, D: kept -/
  pg : Bool
  /-- PWR_FEED.gate_on | 1 | R578 | P: 0, D: kept -/
  gateOn : Bool
  /-- PWR_FEED.oring_on | 1 | R578 | P: 0, D: kept -/
  oringOn : Bool
  /-- PWR_FEED.trips | 2 | R578 | P: 0, D: kept -/
  trips : Nat
  /-- PWR_FEED.last_trip | 4 | R578 | P: 0, D: kept -/
  lastTrip : BitVec 4
  /-- PWR_FEED.trip_point | 8 | R578 | P: 0xFF, D: kept -/
  tripPoint : BitVec 8
  /-- the current limit holds: the START fault timer runs | 1 | R560 | 0 -/
  limiting : Bool
  /-- the START current limit in force for this ramp, in 0.1 A | 8 | R567 | 0 -/
  rampIlim : Nat
  /-- the START fault timer limit in force for this ramp, in ms | 8 | R567 | 0 -/
  rampTimer : Nat
  /-- curve counters by point, unlisted = 0 | 32 | R564 | 0 -/
  curve : NMap Nat
  /-- PWR_TELEM.voltage_mv | 16 | R580 | P: 0, D: kept -/
  telMv : BitVec 16
  /-- PWR_TELEM.current_ma | 16 | R580 | P: 0, D: kept -/
  telMa : BitVec 16
  /-- PWR_TELEM.power_10mw | 16 | R580 | P: 0, D: kept -/
  telPower : BitVec 16
  /-- PWR_TELEM.peak_10ma | 16 | R580 | P: 0, D: 0 -/
  peak : BitVec 16
  /-- PWR_ENERGY.energy_mj | 48 | R580 | P: 0, D: kept -/
  energy : BitVec 48
  /-- below the present threshold since | option ns | R569 | none -/
  absentNs : Option Nat
  /-- ON since | option ns | R568 | none -/
  onNs : Option Nat
  /-- time of the last release that found the feed not LATCHED | option ns | R569 | none -/
  releaseNs : Option Nat
deriving DecidableEq, Repr

/-- A feed at power-on reset. -/
def FeedRec.init : FeedRec :=
  ⟨.absent, 0, 0, false, false, false, 0, 0, 0xFF, false, 0, 0, [], 0, 0, 0, 0, 0, none, none, none⟩

/-- Power entry (17). -/
structure PwrState where
  /-- feed A: a feed record | record | R555 to R581 | absent -/
  feedA : FeedRec
  /-- feed B: a feed record | record | R555 to R581 | absent -/
  feedB : FeedRec
  /-- PWR_CTRL.test_a | 1 | R577 | P: 0, D: 0 -/
  testA : Bool
  /-- PWR_CTRL.test_b | 1 | R577 | P: 0, D: 0 -/
  testB : Bool
  /-- VBUS is at or above 9.0 V | 1 | R558 | 0 -/
  vbus9 : Bool
  /-- both feeds were lost since the last power-good (R570) | 1 | R570 | 0 -/
  collapsed : Bool
  /-- the image in force expected two feeds ON and one was lost (R573) | 1 | R573 | 0 -/
  single : Bool
  /-- expected feeds: bit 0 VIN_A, bit 1 VIN_B | 2 | R66 | image -/
  expected : BitVec 2
deriving DecidableEq, Repr

/-- AON_STATE.state (R601). -/
inductive PowerSt where
  | run
  | doze
  | rest
  | deep
deriving DecidableEq, Repr

/-- What Radish keeps of one rule (R586): average in 2^-16 units, the condition, ticks held, and whether it fires. -/
structure RuleSt where
  avg : Int
  started : Bool
  cond : Bool
  held : Nat
  firing : Bool
deriving DecidableEq, Repr

/-- A rule nothing has been sampled for. -/
def RuleSt.zero : RuleSt := ⟨0, false, false, 0, false⟩

/-- The run counter of one wake link (R594). -/
structure WakeRun where
  level : Bool
  /-- length of the current run; none before the first change -/
  run : Option Nat
  accepted : Nat
deriving DecidableEq, Repr

/-- Radish (18). -/
structure AonState where
  /-- AON_STATE.state | 4 | R601 | P: 0, D: 0 -/
  st : PowerSt
  /-- AON_STATE.vaux_mv | 16 | R601 | P: 0, D: kept -/
  vauxMv : BitVec 16
  /-- AON_STATE.wake_link | 8 | R601 | P: 0, D: kept -/
  wakeLink : LinkNo
  /-- AON_STATE.wake_cause | 4 | R601 | P: 0, D: kept -/
  wakeCause : BitVec 4
  /-- VAUX is outside 1.7 to 3.6 V: the domain draws from VBUS | 1 | R582 | 1 until VAUX is seen in range -/
  vauxOut : Bool
  /-- AON_IDLE.ticks | 32 | R601 | P: 0, D: 0 -/
  idle : BitVec 32
  /-- the device was active since the last tick | 1 | R584 | 0 -/
  active : Bool
  /-- AON_CUSTODY.ddr | 12 | R602 | P: 0, D: kept -/
  custodyDdr : BitVec 12
  /-- AON_CUSTODY.rld | 4 | R602 | P: 0, D: kept -/
  custodyRld : BitVec 4
  /-- AON_CUSTODY.lost | 1 | R602 | P: 0, D: kept -/
  custodyLost : Bool
  /-- AON_SENSE_SEL.input | 8 | R603 | P: 0, D: kept -/
  selInput : BitVec 8
  /-- AON_SENSE_SEL.index | 8 | R603 | P: 0, D: kept -/
  selIndex : BitVec 8
  /-- AON_CTRL.hold_run | 1 | R603 | P: 0, D: kept -/
  holdRun : Bool
  /-- AON_CTRL.doze_off | 1 | R603 | P: 0, D: kept -/
  dozeOff : Bool
  /-- AON_FIRED | 256 | R604 | P: 0, D: 0 -/
  fired : BitVec 256
  /-- rule states by rule, unlisted = zero | 256 | R586 | P: zero -/
  rules : NMap RuleSt
  /-- latest samples by input x 256 + index | map | R584, R603 | empty -/
  samples : NMap Int
  /-- highest effective severity routed to Radish since the last tick | 3 | R584 | 0 -/
  faultSev : Nat
  /-- HOST_WAKE seen since the last tick | 1 | R584 | 0 -/
  hostWake : Bool
  /-- run counters of the four wake links | 4 | R594 | not started -/
  wakeRuns : NMap WakeRun
  /-- links whose Rest light detector has qualified light | list | R592 | empty -/
  light : List LinkNo
  /-- the last wake from Rest was for light only, at | option ns | R592 | none -/
  lightWakeNs : Option Nat
  /-- a wake came while the entry of the row's sleep was in progress: the exit starts when it ends | 1 | R35, R334 | 0 -/
  wakeOwed : Bool
  /-- a wake came since the last tick | 1 | R35 | 0 -/
  wakeTick : Bool
  /-- a Rest exit runs | 1 | R592 | 0 -/
  exiting : Bool
  /-- the reference oscillator is lost | 1 | R583 | 0 -/
  refLost : Bool
  /-- microseconds of Rest not yet counted | counter | R630 | 0 -/
  restUs : Nat
  /-- microseconds of Deep not yet counted | counter | R630 | 0 -/
  deepUs : Nat
  /-- 7-bit SMBus address from the straps sampled at step 0x01 | 7 | R650 | 0x3B, open straps (DESIGN CHOICE) -/
  smbAddr : BitVec 7
deriving DecidableEq, Repr

/-- A boot journal entry (R622). -/
structure BootEnt where
  step : BitVec 8
  outcome : BitVec 8
  method : BitVec 8
  cause : BitVec 8
  startMs : BitVec 32
  endMs : BitVec 32
  detail : BitVec 16
deriving DecidableEq, Repr

/-- A boot record (R621). -/
structure BootRec where
  seq : BitVec 32
  startCause : BitVec 8
  custody : Bool
  attempt : BitVec 8
  fwSlot : BitVec 8
  imgSlot : BitVec 8
  declaredFailed : Bool
  clearAltTaken : Bool
  incarnation : BitVec 16
  imgSerial : BitVec 32
  startTicks : BitVec 64
  final : BitVec 8
  haltStep : BitVec 8
  entries : List BootEnt
deriving DecidableEq, Repr

/-- BOOT_STATUS.state (R624). -/
inductive BootSt where
  | running
  | serving
  | retrying
  | halted
  | romRecovery
deriving DecidableEq, Repr

/-- A boot step in progress: its step, its start, and its method (R610). -/
structure BootRun where
  step : Nat
  startNs : Nat
  method : BitVec 8
deriving DecidableEq, Repr

/-- Start-up and the boot journal (19). -/
structure BootState where
  /-- BOOT_STATUS.state | 4 | R624 | P: 0, D: 0 -/
  st : BootSt
  /-- BOOT_STATUS.halt_step | 8 | R624 | P: 0xFF, D: 0xFF -/
  haltStep : BitVec 8
  /-- BOOT_STATUS.failed_step | 8 | R624 | P: 0, D: 0 -/
  failedStep : BitVec 8
  /-- BOOT_STATUS.link_step | 8 | R624 | P: 0, D: 0 -/
  linkStep : BitVec 8
  /-- BOOT_STATUS.mem_step | 8 | R624 | P: 0, D: 0 -/
  memStep : BitVec 8
  /-- BOOT_STATUS.start_cause | 4 | R624 | P: 1, D: cause -/
  startCause : BitVec 4
  /-- BOOT_STATUS.attempt | 4 | R624 | P: 0, D: kept -/
  attempt : BitVec 4
  /-- BOOT_CTRL.clear_alt | 1 | R625 | P: 0, D: kept -/
  clearAlt : Bool
  /-- BOOT_ALT.low_rate_waves | 8 | R626 | P: 0, D: 0 -/
  lowRateWaves : BitVec 8
  /-- BOOT_ALT.excluded_channels | 12 | R626 | P: 0, D: 0 -/
  excludedChannels : BitVec 12
  /-- BOOT_ALT.fenced_stacks | 4 | R626 | P: 0, D: 0 -/
  fencedStacks : BitVec 4
  /-- BOOT_ALT.pool_alone | 1 | R626 | P: 0, D: 0 -/
  poolAlone : Bool
  /-- BOOT_ALT.image_alt | 1 | R626 | P: 0, D: 0 -/
  imageAlt : Bool
  /-- BOOT_ALT.fw_alt | 1 | R626 | P: 0, D: 0 -/
  fwAlt : Bool
  /-- BOOT_JSEL.record | 1 | R627 | P: 0, D: 0 -/
  jselRecord : Bool
  /-- BOOT_JSEL.entry | 6 | R627 | P: 0, D: 0 -/
  jselEntry : BitVec 6
  /-- BOOT_TIME.active_ms | 32 | R628 | P: 0, D: 0 -/
  activeMs : BitVec 32
  /-- start of the record, for BOOT_TIME.elapsed_ms | ns | R628 | 0 -/
  startNs : Nat
  /-- steps in progress | list | R605, R606 | P: step 0x01 -/
  running : List BootRun
  /-- steps that ended in this boot, newest first | list | R605 | empty -/
  ended : List Nat
  /-- a step failed: no further step starts | option step | R611 | none -/
  failing : Option Nat
  /-- the current boot record, cached in Radish | record | R620, R621 | P: opened at step 0x01 -/
  current : BootRec
  /-- the previous record | option | R620 | P: from flash -/
  previous : Option BootRec
  /-- boot-flash journal ring, newest first | 256 records | R620 | P: kept -/
  ring : List BootRec
  /-- DRAM contents were held at this start | 1 | R598, R609 | 0 -/
  custody : Bool
  /-- this device recorded that it was declared FAILED | 1 | R617 | P: kept, 0 -/
  declaredFailed : Bool
  /-- step 0x31 waits for the pool after a start without it | 1 | R618 | 0 -/
  settleLater : Bool
  /-- 0x305 was raised in this boot | 1 | R607 | 0 -/
  lateRaised : Bool
  /-- an image commit was accepted since this start: no alternate stays in use at the next | 1 | R610 | 0 -/
  altDrop : Bool
  /-- an alternate in use before this start is not used in this boot | 1 | R610 | P: 1 -/
  altPrimary : Bool
  /-- the time of the last entry | ns | R606 | 0 -/
  entryNs : Nat
  /-- how many entries the cycle of the last entry has | counter | R606 | 0 -/
  entryRun : Nat
  /-- the current record continues from one in flash or in Radish, so that the previous one is valid | 1 | R620 | 0 -/
  chained : Bool
deriving DecidableEq, Repr

/-- An empty boot record: seq 1, start cause power-on (R621). -/
def BootRec.first : BootRec :=
  ⟨1, 1, false, 0, 0xFF, 0xFF, false, false, 0, 0, 0, 0xFF, 0xFF, []⟩

end Sys2Proof.Machine
end

