-- ==== Sys2Proof/Machine/State.lean ====
section
/-! DEFINITION. The state of the device: one record of the units' records, and the machine after power-on reset. -/

namespace Sys2Proof.Machine

/-- The state of the LX-9012. Plain data: every field is a number, a bit vector, a Bool, or a list or record of these. -/
structure State where
  /-- the model's time in nanoseconds (the model's own) | Nat | R25 | 0 -/
  clockNs : Nat
  /-- counter of free values used (the model's own) | Nat | - | 0 -/
  freeIdx : Nat
  /-- what has left the device, newest first (the model's own) | list | - | empty -/
  out : List Output
  /-- commands that wait, first in first out (the model's own) | list | - | empty -/
  pending : List Instr
  /-- window memory: bytes of the pages stored here by DPA, unlisted = 0 (R91) | list | R71, R91 | empty -/
  mem : List Host.Cell
  /-- next id of a memory-controller request (the model's own) | Nat | - | 0 -/
  nextReq : Nat
  /-- image unit (02): a record of its own | record | R51 to R68 | see its fields -/
  img : ImgState
  /-- fault collector (16): a record of its own | record | R534 to R554 | see its fields -/
  flt : FltState
  /-- performance counters (20): a record of its own | record | R629 to R640 | see its fields -/
  pmc : PmcState
  /-- Chard: placement, journal, mirror (03, 04, 05): a record of its own | record | R71 to R187 | see its fields -/
  chd : ChdState
  /-- fabric membership (09): a record of its own | record | R299 to R346 | see its fields -/
  fab : FabState
  /-- end-to-end delivery (10): a record of its own | record | R371 to R387 | see its fields -/
  e2e : E2EState
  /-- Dexex links by number, unlisted = a link at reset with the image's rate and timers | 256 | R300, R349 | P: reset -/
  links : NMap LinkRec
  /-- memory controllers, DDR-5 channels 0 to 11 and RLD stacks 12 to 15, unlisted = at reset with the image's settings | 16 | R445 | P: reset -/
  ctls : NMap MemCtl
  /-- training helpers by channel, unlisted = at reset | 12 | R450 | P: reset -/
  trns : NMap MemTrn
  /-- ECC and poison (13): a record of its own | record | R454 to R472 | see its fields -/
  ecc : EccState
  /-- labels and regulation (11): a record of its own | record | R388 to R417 | see its fields -/
  qos : QosState
  /-- encryption (07): a record of its own | record | R227 to R251 | see its fields -/
  xts : XtsState
  /-- compression (06): a record of its own | record | R188 to R226 | see its fields -/
  cmp : CmpState
  /-- pool coherence (08): a record of its own | record | R252 to R298, R661 | see its fields -/
  coh : CohState
  /-- host interface (14): a record of its own | record | R473 to R503 | see its fields -/
  host : HostState
  /-- secure world (15): a record of its own | record | R504 to R531 | see its fields -/
  sec : SecState
  /-- power entry (17): a record of its own | record | R555 to R581 | see its fields -/
  pwr : PwrState
  /-- Radish (18): a record of its own | record | R582 to R604 | see its fields -/
  aon : AonState
  /-- boot controller (19): a record of its own | record | R605 to R628 | see its fields -/
  boot : BootState
deriving DecidableEq, Repr

/-- The reasons the block stops with a fault. The manual gives none: every error of the device is an event, a status or a
poisoned answer, and the block goes on. -/
inductive Fault where
deriving DecidableEq, Repr

/-- The reasons a command is refused. -/
inductive Refusal where
  /-- Raised by a dispatch arm whose command has no meaning yet. Safe: the block stops where the hardware goes on. -/
  | notModelled (mnemonic : String)
deriving DecidableEq, Repr

/-- A controller at reset, with its settings from the image (R440, R441, R447 to R449) or the RLD defaults (R442, R451). -/
def MemCtl.init (i : Img) (n : Nat) : MemCtl where
  st := .off
  sched := Wfq.empty
  upstream := []
  rq := []
  wq := []
  flight := []
  draining := false
  drained := 0
  openRows := []
  drainBurst := if n < 12 then i.fld secMem 0 8 else 8
  wqHigh := if n < 12 then i.fld secMem 0 6 else 48
  wqLow := if n < 12 then i.fld secMem 0 7 else 16
  targets := if n < 12 then (List.range 8).map (unpackNat 2 (i.fld secMem 0 9)) else rldTargets
  urgent3 := List.replicate 8 0
  postponed := [0, 0, 0, 0]
  rate := 1
  postponeMax := if n < 12 then i.fld secMem 0 2 else 2
  srIdleUs := if n < 12 then i.fld secMem (n + 1) 0 else 0
  pdIdleNs := if n < 12 then i.fld secMem 0 5 else 200
  srEntries := 0
  pdEntries := 0
  ranksDown := 0
  pmic := false
  saved := none
  serials := []
  hsa := false

/-- A link at reset: its timers from the image in force, its rate from the geometry in force (R347, R382, R383). -/
def LinkRec.ofImg (i g : Img) : LinkRec :=
  LinkRec.init (g.fld secGeometry 0 3) i.basic.linkGiveupMs i.basic.replayTimerUs

/-- Labels and regulation at reset under an image (R400, R401, R412 to R417). -/
def QosState.init (i : Img) : QosState where
  policeOff := false
  feedbackOff := false
  qs := 0
  level := 0
  devload := 0
  pause := false
  highNs := none
  zeroNs := none
  withheldNs := none
  withheldRaised := false
  severeNs := none
  redNs := []
  scale := []
  inProgress := []
  nonConf := false
  shapeRate := (List.range 16).map (fun l => (l, i.fld secLabels l 3))
  shapeBurst := (List.range 16).map (fun l => (l, i.fld secLabels l 6))
  cir := (List.range 16).map (fun l => (l, i.fld secLabels l 4))
  pir := (List.range 16).map (fun l => (l, i.fld secLabels l 5))
  shapeTokens := (List.range 16).map (fun l => (l, ⟨i.fld secLabels l 6 * 102400⟩))
  committedTokens := (List.range 16).map (fun l => (l, ⟨i.fld secLabels l 7 * 102400⟩))
  peakTokens := (List.range 16).map (fun l => (l, ⟨i.fld secLabels l 8 * 102400⟩))
  holdQ := []
  red := []
  yellow := []
  bwm := []
  bwf := []

/-- The fault collector after power-on reset (R534, R549 to R554). -/
def FltState.init : FltState := ⟨[], 0, false, 0, false, false, [], 0, 0, [], false, none, false, [], [], []⟩

/-- The performance counters after power-on reset (R636 to R640). -/
def PmcState.init : PmcState := ⟨0, false, false, false, 0, [], [], [], [], none, [], 0, none⟩

/-- The image unit at the first power-on: slot A holds the all-default image, committed. DESIGN CHOICE. -/
def ImgState.init : ImgState where
  slots := [(0, ⟨true, Img.default, true, none, []⟩)]
  activeSlot := 0
  active := Img.default
  restart := Img.default
  pool := Img.default
  geom := Img.default
  restartPending := false
  refoldActive := false
  poolPending := false
  stage := .idle
  cause := 0
  declared := 0
  ranges := []
  verified := none
  changing := 0
  primerRecord := []

/-- Translation, placement, migration, journal and mirror after power-on reset. -/
def ChdState.init : ChdState where
  extents := []
  pages := []
  tc := []
  heatSeq := 0
  epoch := 0
  lastPassMs := 0
  walkDone := none
  passRunning := false
  epochStartNs := 0
  passInsertFailed := false
  ledger := []
  ledgerMib := Img.default.fld secPolicy 0 20
  ledgerGap := false
  epochStretched := false
  reserveState := 0
  sampleOff := false
  holdLend := false
  holdBackground := false
  cands := []
  segs := []
  pods := []
  borrows := []
  localTokens := 0
  fabricTokens := 0
  migs := []
  evicts := []
  rowHeld := []
  committed := 0
  aborted := 0
  deferred := []
  refold := []
  repack := []
  extPending := []
  pageDom := []
  ring0 := Ring.empty
  ring1 := Ring.empty
  mirror := .none
  ackedSeq := 0
  nextMirror := 1
  mirrorTags := []
  resync := []
  resyncDone := 0
  copyRuns := []
  actResync := []
  repair := 0
  resilver := false
  copies := []
  buddyOf := []
  acting := []
  ownedAway := none
  atomicNext := []
  atomicFloor := []
  reserveWaitNs := none
  leaseWantedNs := none

/-- End-to-end delivery after power-on reset under an image (R387). -/
def E2EState.init (i : Img) : E2EState :=
  ⟨[], [], [], [], BitVec.ofNat 14 i.basic.e2eTimeoutUs, 0, 0, 0, 0, [], [], [], 0, [], []⟩

/-- The fabric after power-on reset (R339 to R345). -/
def FabState.init : FabState where
  founder := false
  own := .absent
  incarnation := 0
  linkMap := []
  seen := []
  floodSeq := 0
  members := []
  heard := []
  suspects := []
  grace := []
  joinsMs := (0, 0)
  joinPending := []
  joinWaiting := []
  answers := []
  accepted := []
  joiningHeard := []
  alone := false
  epoch := 0
  digest := none
  prepare := none
  lent := []
  leaseAsked := []
  overdueAt := []
  leaseFree := []
  aliases := []
  rowsAsleep := 0
  proposal := none
  nextProposalNs := 0
  consentOwed := []
  waking := []
  slept := []
  threeHop := 0
  discarded := 0
  threeHopDst := []
  lastThrottleNs := none
  lastFaultPathNs := none
  unreachableNs := []
  lastReissueNs := none
  lastExpiredNs := none
  lastCrtFullNs := none
  restartGraceS := 30
  sleepVeto := false
  rejoin := false
  leave := false
  memberSel := 0
  leaseSel := 0
  advertised := 0
  ctrlPending := []
  selfFenced := false
  buddyIntact := false
  lentPods := []

/-- ECC, scrubbing and poison after power-on reset (R469 to R472). -/
def EccState.init : EccState where
  threshold := 16
  leakS := 60
  scrubH := 24
  rldMin := 60
  ueFence := 8
  rldScrubOff := false
  scrubOff := false
  buckets := []
  overflowNs := []
  marks := []
  ueNs := []
  passes := []
  lagging := []
  scrubbed := []
  passStartNs := []
  corrected := []
  uncorrectable := []
  overflows := []
  last := 0
  media := []

/-- Encryption and tags after power-on reset (R249 to R251). -/
def XtsState.init : XtsState := ⟨0, 0, 0, [], [], [], [], 1⟩

/-- Compression after power-on reset (R220 to R226). -/
def CmpState.init : CmpState := ⟨0, 0, 0, 0, Wfq.empty, [], [], 0, 0, [], [], [], [], [], [], []⟩

/-- Pool coherence after power-on reset (R294 to R298). -/
def CohState.init : CohState where
  dir := []
  dirCache := []
  txs := []
  pend := []
  standby := []
  pointer := 0
  heldFor := []
  sink := []
  near := []
  reqs := []
  sentDirty := []
  fills := []
  pred := []
  bisnpMs := 10
  hostFlushed := false
  eGrantOff := false
  predClear := false
  atomicMode := 0
  unknownSets := []
  sliceUnknown := 0
  hostUnknown := 0
  folded := 0
  serving := false
  notservingHint := 0x84
  pendingHint := 0x04
  evictions := 0
  nearCount := 0
  farCount := 0
  pendFullNs := none
  resFullNs := none
  hostSnoops := []
  scopeOwed := []
  waitHost := []
  asleepIn := []

/-- The host interface after power-on reset (R498, R502, R503). Boot flash holds one firmware of svn 0 in slot A. DESIGN
CHOICE: the firmware, and what the manual gives no reset value. -/
def HostState.init : HostState where
  creditsWithheld := true
  memFenced := false
  crs := true
  infoValid := false
  memActive := false
  width := 0
  speed := 0
  linkLow := some .down
  wake := false
  termination := false
  perst := true
  queueSel := 0
  queues := []
  readNs := []
  decoders := []
  background := none
  bgOutput := none
  bgDiscard := false
  logs := []
  nextHandle := []
  policy := 0
  timestamp := none
  fwSlots := [(0, ⟨1, 0, true, [], true⟩)]
  fwActive := none
  fwPending := none
  fwTransfer := none
  grants := []
  nextGrant := 1
  msix := []

/-- The secure world after power-on reset of a part as shipped: SECURED, unowned, floors 0. DESIGN CHOICE of the fused values. -/
def SecState.init : SecState where
  secured := true
  lotId := 0
  slots := []
  imgFloor := 0
  fwFloor := 0
  ownerKey := none
  ownerOk := true
  aliasIn := []
  aliasNode := 0
  aliasOwner := []
  deviceSecret := 0
  nonce := none
  inLength := 0
  opcode := 0
  outLength := 0
  status := 0
  busy := false
  done := false
  payload := []
  windows := 0
  held := 0
  requests := []
  applied := []
  dozeWait := false
  windowNs := none
  lockoutNs := 0
  pendingRaised := false
  gated := 0
  off := 0
  wdPeriodMs := 500
  wdSinceNs := 0
  refusedNs := none
  pairing := .none
  nextEnvelope := 0
  envelopeOut := []
  envelopes := []
  spdmVersion := false
  spdmCaps := false
  spdmAlg := false
  chunkIn := none
  chunkOut := none
  measFw := []
  measImg := []

/-- Power entry after power-on reset (R577 to R581). -/
def PwrState.init (i : Img) : PwrState :=
  ⟨FeedRec.init, FeedRec.init, false, false, false, false, false, BitVec.ofNat 2 i.basic.feedsExpected⟩

/-- Radish after power-on reset (R601 to R604). -/
def AonState.init : AonState where
  st := .run
  vauxMv := 0
  wakeLink := 0
  wakeCause := 0
  vauxOut := false
  idle := 0
  active := false
  custodyDdr := 0
  custodyRld := 0
  custodyLost := false
  selInput := 0
  selIndex := 0
  holdRun := false
  dozeOff := false
  fired := 0
  rules := []
  samples := []
  faultSev := 0
  hostWake := false
  wakeRuns := []
  light := []
  lightWakeNs := none
  wakeOwed := false
  wakeTick := false
  exiting := false
  refLost := false
  restUs := 0
  deepUs := 0
  smbAddr := 0x3B

/-- The boot controller after power-on reset (R624 to R628). Step 0x01 starts once VAUX is in range or a feed is ON (R605). -/
def BootState.init : BootState where
  st := .running
  haltStep := 0xFF
  failedStep := 0
  linkStep := 0
  memStep := 0
  startCause := 1
  attempt := 0
  clearAlt := false
  lowRateWaves := 0
  excludedChannels := 0
  fencedStacks := 0
  poolAlone := false
  imageAlt := false
  fwAlt := false
  jselRecord := false
  jselEntry := 0
  activeMs := 0
  startNs := 0
  running := []
  ended := []
  failing := none
  current := BootRec.first
  previous := none
  ring := []
  custody := false
  declaredFailed := false
  settleLater := false
  lateRaised := false
  altDrop := false
  altPrimary := true
  entryNs := 0
  entryRun := 0
  chained := false

/-- The machine right after power-on reset (R11): every register at the value the manual states for P, or at the value the
assumption log names. -/
def State.reset : State where
  clockNs := 0
  freeIdx := 0
  out := []
  pending := []
  mem := []
  nextReq := 0
  img := ImgState.init
  flt := FltState.init
  pmc := PmcState.init
  chd := ChdState.init
  fab := FabState.init
  e2e := E2EState.init Img.default
  links := []
  ctls := []
  trns := []
  ecc := EccState.init
  qos := QosState.init Img.default
  xts := XtsState.init
  cmp := CmpState.init
  coh := CohState.init
  host := HostState.init
  sec := SecState.init
  pwr := PwrState.init Img.default
  aon := AonState.init
  boot := BootState.init

end Sys2Proof.Machine
end

