-- ==== Sys2Proof/Machine/Ops.lean ====
section
/-! DEFINITION. Shared operations of every unit: outputs, free values, time, interrupts, performance counters (20), and the
raising of an event at the fault collector (16). -/

namespace Sys2Proof.Machine

/-- Record that something leaves the device. -/
def emit (s : State) (o : Output) : State := { s with out := o :: s.out }

/-- Record several outputs, the first leaving first. -/
def emitAll (s : State) (os : List Output) : State := { s with out := os.reverse ++ s.out }

/-- A fresh free value, and the state after its use. -/
def free (s : State) : Nat × State := (Config.freeNat s.freeIdx, { s with freeIdx := s.freeIdx + 1 })

/-- A choice among `n` things that the manual leaves open (FREE VALUE); `k` numbers the choices made together. -/
def choice (s : State) (k n : Nat) : Nat := Config.freeNat (s.freeIdx + k) % max 1 n

/-- The state after `k` choices. -/
def chosen (s : State) (k : Nat) : State := { s with freeIdx := s.freeIdx + k }

/-- The current millisecond, microsecond. -/
def nowMs (s : State) : Nat := s.clockNs / 1000000
def nowUs (s : State) : Nat := s.clockNs / 1000

/-- Has a span passed since a recorded time, or was none recorded? For the rules of the form "at most once per". -/
def elapsed (s : State) (since : Option Nat) (span : Nat) : Bool :=
  match since with
  | none => true
  | some t => t + span ≤ s.clockNs

/-- This device's node ID (R44 NODE, R299). -/
def myNode (s : State) : Nat := s.img.restart.fld secNode 0 0

/-- Rows, columns and links per pair of the fabric geometry in force (R64, R299). -/
def geoRows (s : State) : Nat := s.img.geom.fld secGeometry 0 0
def geoCols (s : State) : Nat := s.img.geom.fld secGeometry 0 1
def geoK (s : State) : Nat := s.img.geom.fld secGeometry 0 2

/-- Number of neighbours P of this device (R299). -/
def geoP (s : State) : Nat := neighbours (geoRows s) (geoCols s)

/-- Is a node inside the geometry? -/
def inGeometry (s : State) (n : Nat) : Bool := n / 64 < geoRows s && n % 64 < geoCols s

/-- Is a node populated: inside the geometry with ROUTES populated 1 (R44, R299)? -/
def populated (s : State) (n : Nat) : Bool := inGeometry s n && s.img.pool.fld secRoutes n 0 == 1

/-- The buddy this device's DURABILITY record names, or none (R44). -/
def myBuddy (s : State) : Option Nat :=
  let b := s.img.active.fld secDurability 0 0
  if b = 0xFFFF then none else some b

/-- The peer and the peer's link number of a link of this device (R300). -/
def peerOf (s : State) (l : Nat) : Option (Nat × Nat) := linkPeer (geoRows s) (geoCols s) (geoK s) (myNode s) l

/-- Is a link used: it has a populated peer (R300)? -/
def linkUsed (s : State) (l : Nat) : Bool :=
  match peerOf s l with
  | some (n, _) => populated s n
  | none => false

/-- The links of this device that are used, ascending. -/
def usedLinks (s : State) : List Nat := (List.range 256).filter (linkUsed s)

/-- The record of a link. -/
def link (s : State) (l : Nat) : LinkRec := mgetD s.links l (LinkRec.ofImg s.img.active s.img.geom)

/-- Replace a link's record. -/
def setLink (s : State) (l : Nat) (r : LinkRec) : State := { s with links := mset s.links l r }

/-- Change a link's record. -/
def modLink (s : State) (l : Nat) (f : LinkRec → LinkRec) : State := setLink s l (f (link s l))

/-- A memory controller: DDR-5 channels 0 to 11, RLD stacks 12 to 15. -/
def ctl (s : State) (n : Nat) : MemCtl := mgetD s.ctls n (MemCtl.init s.img.restart n)

/-- Replace a controller. -/
def setCtl (s : State) (n : Nat) (c : MemCtl) : State := { s with ctls := mset s.ctls n c }

/-- Change a controller. -/
def modCtl (s : State) (n : Nat) (f : MemCtl → MemCtl) : State := setCtl s n (f (ctl s n))

/-- The training helpers of a channel. -/
def trn (s : State) (c : Nat) : MemTrn := mgetD s.trns c MemTrn.init

/-- Replace a channel's training helpers. -/
def setTrn (s : State) (c : Nat) (t : MemTrn) : State := { s with trns := mset s.trns c t }

/-- The host link is in L0 (R584). -/
def hostL0 (s : State) : Bool := s.host.speed != 0 && s.host.linkLow == none

/-- The table entry of an MSI-X vector. -/
def msixEnt (s : State) (v : Nat) : MsixEnt := mgetD s.host.msix v MsixEnt.init

/-- Change a vector's entry. -/
def modMsix (s : State) (v : Nat) (f : MsixEnt → MsixEnt) : State :=
  { s with host := { s.host with msix := mset s.host.msix v (f (msixEnt s v)) } }

/-- Signal an MSI-X vector: a masked vector, or one whose message cannot leave, is left pending (R496); WAKE# is asserted
while a message is pending and the host link is in L2 (R651). -/
def signalMsix (s : State) (v : Nat) : State :=
  if (msixEnt s v).masked || !hostL0 s then
    let s := modMsix s v (fun e => { e with pending := true })
    if !(msixEnt s v).masked && s.host.linkLow == some .l2 then { s with host := { s.host with wake := true } } else s
  else emit s (.msix (BitVec.ofNat 11 v))

/-- A mailbox response, with the mailbox's interrupt on vector 0 (R481, R496). -/
def mbReply (s : State) (r : Reply) : State := signalMsix (emit s (.mailbox r)) 0

/-- Send the pending messages of unmasked vectors (R496). -/
def flushMsix (s : State) : State :=
  if hostL0 s then
    (s.host.msix.filter (fun e => e.2.pending && !e.2.masked)).foldl
      (fun s e => emit (modMsix s e.1 (fun m => { m with pending := false })) (.msix (BitVec.ofNat 11 e.1))) s
  else s

/-- Add to one programmable counter and note its overflows: the new state and how often it passed 2^48 - 1 (R629, R633). -/
def addCtr (s : State) (n : Nat) (sel : PmcSel) (k : Nat) : State × Nat :=
  let v := (mgetD s.pmc.ctr n 0).toNat + k
  let ov := v / 2 ^ 48
  let s := { s with pmc := { s.pmc with ctr := mset s.pmc.ctr n (BitVec.ofNat 48 v) } }
  if ov = 0 then (s, 0)
  else
    let s := { s with pmc := { s.pmc with ovf := s.pmc.ovf ||| (1 <<< n) } }
    (if sel.ovfIe then signalMsix s s.pmc.vector.toNat else s, ov)

/-- What a programmable counter adds for `k` occurrences of an event, its predecessor having overflowed `ov` times
(R632, R633). -/
def ctrAdds (sel : PmcSel) (n : Nat) (ev : Nat) (label : Option Nat) (k : Nat) (prev : Nat × Nat) : Nat :=
  if !sel.enable then 0
  else if sel.chain && n != 0 then (if prev.1 + 1 = n then prev.2 else 0)
  else if sel.event.toNat = ev ∧ (!sel.labelEn || label == some sel.label.toNat) then k
  else 0

/-- Go through the selected counters in ascending number, each overflow reaching the next (R633). -/
def addCtrs (ev : Nat) (label : Option Nat) (k : Nat) : NMap PmcSel → State → Nat × Nat → State
  | [], s, _ => s
  | (n, sel) :: m, s, prev =>
    let add := ctrAdds sel n ev label k prev
    if add = 0 then addCtrs ev label k m s (n, 0)
    else
      let r := addCtr s n sel add
      addCtrs ev label k m r.1 (n, r.2)

/-- The selections in force: a PMC_SEL write applies from the next cycle (R639). -/
def selNow (s : State) : NMap PmcSel :=
  match s.pmc.selOld with
  | some x => if x.1 = s.clockNs then x.2 else s.pmc.sel
  | none => s.pmc.sel

/-- An event is counted by its fixed counter and by those that select it (R629 to R633). -/
def countEvent (s : State) (ev : Nat) (label : Option Nat) (k : Nat) : State :=
  let v := (mgetD s.pmc.fix ev 0).toNat + k
  let s := { s with pmc := { s.pmc with fix := mset s.pmc.fix ev (BitVec.ofNat 48 v) } }
  if s.pmc.freezeProg then s else addCtrs ev label k (selNow s) s (0, 0)

/-- The counters are noted before the first event of a cycle, and then its events (R530, R634). -/
def snapCycle (s : State) (ev : Nat) (label : Option Nat) (k : Nat) : State :=
  let x := match s.pmc.before with
    | some x => if x.atNs = s.clockNs then x else ⟨s.clockNs, s.pmc.fix, s.pmc.ctr, s.pmc.ovf, []⟩
    | none => ⟨s.clockNs, s.pmc.fix, s.pmc.ctr, s.pmc.ovf, []⟩
  { s with pmc := { s.pmc with before := some { x with events := x.events ++ [(ev, label, k)] } } }

/-- Software writes programmable counters, or clears their overflow bits, in a cycle: the events of that cycle are added after the
write, and a bit that one of them sets stays set (R8, R634, R636). Their interrupts have been signalled. -/
def rewriteCtrs (s : State) (ctr : NMap (BitVec 48) → NMap (BitVec 48)) (ovf : BitVec 128 → BitVec 128) : State :=
  let put := fun (s : State) (c : NMap (BitVec 48)) (o : BitVec 128) =>
    { s with pmc := { s.pmc with ctr := ctr c, ovf := ovf o } }
  match s.pmc.before with
  | none => put s s.pmc.ctr s.pmc.ovf
  | some x =>
    if x.atNs = s.clockNs then
      let s := put s x.ctr x.ovf
      let s := { s with pmc := { s.pmc with before := some { x with ctr := s.pmc.ctr, ovf := s.pmc.ovf } } }
      if s.pmc.freezeProg then s
      else
        let sel := mmap (selNow s) (fun _ c => { c with ovfIe := false })
        x.events.foldl (fun s e => addCtrs e.1 e.2.1 e.2.2 sel s (0, 0)) s
    else put s s.pmc.ctr s.pmc.ovf

/-- An event while a window is open is noted for its cycle (R530). -/
def noteLate (s : State) (ev : Nat) (label : Option Nat) (k : Nat) : State :=
  { s with pmc := { s.pmc with
    late := (if s.pmc.lateNs = s.clockNs then s.pmc.late else []) ++ [(ev, label, k)]
    lateNs := s.clockNs } }

/-- A window opens: the events of this cycle are not counted (R530). -/
def uncountCycle (s : State) : State :=
  match s.pmc.before with
  | some x =>
    if x.atNs = s.clockNs then { s with pmc := { s.pmc with fix := x.fix, ctr := x.ctr, ovf := x.ovf, before := none } } else s
  | none => s

/-- Count `k` occurrences of a performance event, with its label where it carries one (R629 to R633). Nothing is counted
before the end of step 0x05 or while a secure window holds the counters (R530, R630). -/
def countN (s : State) (ev : Nat) (label : Option Nat) (k : Nat) : State :=
  if s.pmc.counting && !s.pmc.frozen then countEvent (snapCycle s ev label k) ev label k
  else if s.pmc.counting then noteLate s ev label k
  else s

/-- A window closes: the events of this cycle are counted after all (R530). -/
def countLate (s : State) : State :=
  let evs := if s.pmc.lateNs = s.clockNs then s.pmc.late else []
  evs.foldl (fun s x => countN s x.1 x.2.1 x.2.2) { s with pmc := { s.pmc with late := [] } }

/-- Count one occurrence of an event without a label. -/
def count (s : State) (ev : Nat) : State := countN s ev none 1

/-- Count one occurrence of an event under a label. -/
def countL (s : State) (ev label : Nat) : State := countN s ev (some label) 1

/-- Data units are encrypted, decrypted (R227; performance events 0x030, 0x031). -/
def encrypted (s : State) (k : Nat) : State := countN s 0x030 none k
def decrypted (s : State) (k : Nat) : State := countN s 0x031 none k

/-- Pods are written to this device's storage (performance event 0x025). -/
def podsWritten (s : State) (label k : Nat) : State := countN s 0x025 (some label) k

/-- The FAULT_MAP record of an event in the active image: severity, route, vector (R44, R537). -/
def faultMap (s : State) (ev : Nat) : Nat × Nat × Nat :=
  let r := (s.img.active.rcd secFaults ev).getD [0, 0, 0]
  (r.getD 0 0, r.getD 1 0, r.getD 2 0)

/-- The level a cause is fixed at, if its chapter fixes one (R219, R379, R444, R468, R529, R533, R576, R600). The last lane's
fence of R215 is cause 1 of events 0x162 and 0x163 (DESIGN CHOICE: assumption 15; the manual numbers no cause there). -/
def fixedLevel (ev cause : Nat) : Option Nat :=
  if ev = 0x2E1 ∨ ev = 0x2C1 then some 4
  else if ev < 0x100 then (if [0x01, 0x04, 0x05, 0x09].contains cause then some 0 else none)
  else if ev < 0x160 then (if [0x03, 0x06, 0x09, 0x0E].contains cause then some 0 else none)
  else if ev = 0x280 ∨ ev = 0x281 then
    (if [0x02, 0x08, 0x0A].contains cause then some 0
     else if [0x03, 0x04, 0x05, 0x06, 0x07].contains cause then some 1 else none)
  else if (ev = 0x162 ∨ ev = 0x163) ∧ cause = 0x01 then some 4
  else if 0x340 ≤ ev ∧ cause = 0x03 then some 4
  else none

/-- The level that is a floor for a cause (R535, R444, R468, R576). -/
def floorLevel (ev cause : Nat) : Nat :=
  if 0x100 ≤ ev ∧ ev < 0x160 then (if [0x05, 0x07, 0x0C, 0x0D].contains cause then 3 else if [0x0A, 0x0B].contains cause then 2 else 0)
  else if (ev = 0x280 ∨ ev = 0x281) ∧ cause = 0x09 then 3
  else 0

/-- The mapped severity of a raise (R535). -/
def mappedLevel (s : State) (ev cause : Nat) : Nat :=
  match fixedLevel ev cause with
  | some l => l
  | none => max (floorLevel ev cause) (faultMap s ev).1

/-- Is a raise escalated (R539)? -/
def escalates (mapped : Nat) (classUnacked resetUnacked : Bool) : Bool :=
  decide (2 ≤ mapped) && (classUnacked || (decide (mapped = 4) && resetUnacked))

/-- The effective severity: one level above the mapped one where escalated, at most S5 (R539). -/
def effectiveLevel (mapped : Nat) (escalated : Bool) : Nat := if escalated then min 5 (mapped + 1) else mapped

/-- A class of the collector. -/
def cls (s : State) (ev : Nat) : FltClass := mgetD s.flt.classes ev FltClass.zero

/-- Replace a class. -/
def setCls (s : State) (ev : Nat) (c : FltClass) : State :=
  { s with flt := { s.flt with classes := mset s.flt.classes ev c } }

/-- ALERT_L: any unacknowledged class whose last raise was routed to it, or the S5 latch (R545). -/
def alertL (s : State) : Bool := s.flt.latch || s.flt.classes.any (fun e => e.2.unacked && e.2.lastAlert)

/-- Does an unacknowledged class whose last raise was routed to the pool stand (R545)? -/
def poolFault (s : State) : Bool := s.flt.classes.any (fun e => e.2.unacked && e.2.lastPool)

/-- Drive ALERT_L after a change of what asserts it. -/
def driveAlert (before : State) (s : State) : State := if alertL before = alertL s then s else emit s (.alert (alertL s))

/-- Nanoseconds of the CXL timestamp, or since power-on reset (R548). -/
def stamp (s : State) : BitVec 64 :=
  match s.host.timestamp with
  | some (v, t) => v + BitVec.ofNat 64 (s.clockNs - t)
  | none => BitVec.ofNat 64 s.clockNs

/-- Post a record to a CXL event log, with its interrupt by the policy (R97, R481, R496). -/
def postEvent (s : State) (log : Nat) (ev : CxlEvent) : State :=
  let h := mgetD s.host.nextHandle log 1
  let r : CxlRec := ⟨h, stamp s, ev⟩
  let s := emit { s with host := { s.host with
    logs := mset s.host.logs log (mgetD s.host.logs log [] ++ [r])
    nextHandle := mset s.host.nextHandle log (if h = 0xFFFF then 1 else h + 1) } } (.eventInterrupt log)
  let p := s.host.policy.toNat / 256 ^ log % 256
  if p % 4 = 1 then signalMsix s (p / 16) else s

/-- A record goes in as the newest; those of one time stand in ascending event number order (R549). -/
def putRecord (r : FltRecord) : List FltRecord → List FltRecord
  | [] => [r]
  | x :: xs => if x.time = r.time ∧ !x.carried ∧ r.event.toNat < x.event.toNat then x :: putRecord r xs else r :: x :: xs

/-- Write a record to the on-die log; the oldest of 512 is overwritten and counted as lost (R549). -/
def logRecord (s : State) (r : FltRecord) : State :=
  if s.flt.log.length < 512 then { s with flt := { s.flt with log := putRecord r s.flt.log } }
  else { s with flt := { s.flt with log := putRecord r (s.flt.log.take 511), lost := s.flt.lost + 1 } }

/-- What a class was at the start of the present cycle (R540). -/
def FltClass.atCycle (c : FltClass) (now : Nat) : FltClass :=
  if c.startNs = now then c else { c with startNs := now, startUnacked := c.unacked, fresh := 0 }

/-- Was the reset class unacknowledged at the start of the present cycle, or is it now (R539, R540)? -/
def resetClaims (s : State) : Bool := s.flt.resetUnacked || (decide (s.flt.resetNs = s.clockNs) && s.flt.resetStart)

/-- A raise at S4 or S5 belongs to the reset class (R534). -/
def resetRaised (s : State) : State :=
  { s with flt := { s.flt with
    resetStart := if s.flt.resetNs = s.clockNs then s.flt.resetStart else s.flt.resetUnacked
    resetUnacked := true
    resetNs := s.clockNs
    resetFresh := true } }

/-- The reaction a raise starts (R542 to R544). A raise registered while a device reset runs starts no second reset. -/
def reactionOf (eff ev : Nat) (part : Part) (during : Bool) : List Reaction :=
  if eff = 3 then (if part = .none then [] else [.fence (BitVec.ofNat 10 ev) part])
  else if eff = 4 then (if during then [] else [.deviceReset (if ev = 0x2E1 then 3 else 2)])
  else if eff = 5 then [.latch]
  else []

/-- Register a raise at the collector: map, escalate, record, route, and start its reaction (R534 to R550).
Radish keeps the records at S3 or higher, and that of event 0x283 (R550, R570). -/
def register (s : State) (ev cause : Nat) (part : Part) (info : Nat) (during : Bool) : State :=
  let before := s
  let c := (cls s ev).atCycle s.clockNs
  let m := mappedLevel s ev cause
  let esc := escalates m (c.unacked || c.startUnacked) (resetClaims s)
  let eff := effectiveLevel m esc
  let route := (faultMap s ev).2.1
  let vector := (faultMap s ev).2.2
  let r : FltRecord := {
    event := BitVec.ofNat 10 ev
    cause := BitVec.ofNat 8 cause
    effective := BitVec.ofNat 3 eff
    mapped := BitVec.ofNat 3 m
    escalated := esc
    route := BitVec.ofNat 4 route
    carried := false
    resetPart := esc && decide (m = 4) && resetClaims s
    vector := BitVec.ofNat 11 vector
    time := stamp s
    info := BitVec.ofNat 128 info }
  let low := decide (eff < 2)
  let write := !low || elapsed s c.lowNs 1000000
  let c' : FltClass := { c with
    count := c.count + 1
    lastCause := BitVec.ofNat 8 cause
    unacked := c.unacked || !low
    pending := if low then c.pending else BitVec.ofNat 3 (max c.pending.toNat eff)
    lastAlert := nbit route 1
    lastPool := nbit route 3
    lowNs := if low && write then some s.clockNs else c.lowNs
    fresh := if low then c.fresh else BitVec.ofNat 3 (max c.fresh.toNat eff)
    excluded := match part with
      | .peer n => if 3 ≤ eff && !c.excluded.contains n then n :: c.excluded else c.excluded
      | _ => c.excluded }
  let s := setCls s ev c'
  let s := if write then logRecord s r else s
  let s := if 3 ≤ eff ∨ ev = 0x283 then { s with flt := { s.flt with radish := (putRecord r s.flt.radish).take 16 } } else s
  let s := if 4 ≤ eff then resetRaised s else s
  let s := if eff = 5 then { s with flt := { s.flt with latchRecord := some r } } else s
  let s := if nbit route 2 then { s with aon := { s.aon with faultSev := max s.aon.faultSev eff } } else s
  let s := if nbit route 0 then signalMsix s vector else s
  let s := driveAlert before s
  { s with flt := { s.flt with react := s.flt.react ++ reactionOf eff ev part during } }

/-- Raise an event with a cause, the part it names and its info bytes. While the collector is in reset the source holds the
raise until step 0x05 (R550). -/
def raiseP (s : State) (ev cause : Nat) (part : Part) (info : Nat) : State :=
  if s.flt.inReset then
    { s with flt := { s.flt with held := s.flt.held ++ [⟨BitVec.ofNat 10 ev, BitVec.ofNat 8 cause, part, BitVec.ofNat 128 info⟩] } }
  else register s ev cause part info false

/-- Raise an event that names no part. -/
def raise (s : State) (ev cause : Nat) : State := raiseP s ev cause .none 0

/-- Raise the event of a link (R379). -/
def raiseLink (s : State) (l cause : Nat) : State := raiseP s l cause (.link (BitVec.ofNat 8 l)) 0

/-- Raise the event of a memory controller: DDR-5 channel 0x100 + c, RLD stack 0x140 + s (R444, R468). -/
def raiseCtl (s : State) (n cause : Nat) : State :=
  if h : n < 12 then raiseP s (0x100 + n) cause (.channel ⟨n, h⟩) 0
  else if h : n - 12 < 4 then raiseP s (0x140 + (n - 12)) cause (.stack ⟨n - 12, h⟩) 0
  else s

/-- An activity of the device, for Radish's IDLE (R584). -/
def active (s : State) : State := { s with aon := { s.aon with active := true } }

/-- In Doze every link that carries no frame for 1 µs goes to DOZE (R590). -/
def idleLinksDoze (s : State) : State :=
  { s with links := mmap s.links (fun _ r => if r.st = .up ∧ r.frameNs + 1000 ≤ s.clockNs then { r with st := .doze } else r) }

/-- One microsecond of the state the device is in is counted: Run and Doze at once, Rest and Deep on the return to Run
(R630, R631), withheld credits (0x003) and draining channels (0x130 + c). Serving time runs while the device serves (R178). -/
def countMicro (s : State) : State :=
  let s := match s.aon.st with
    | .run => count s 0x070
    | .doze => idleLinksDoze (count s 0x071)
    | .rest => { s with aon := { s.aon with restUs := s.aon.restUs + 1 } }
    | .deep => { s with aon := { s.aon with deepUs := s.aon.deepUs + 1 } }
  let s := if s.qos.withheldNs.isSome then count s 0x003 else s
  let s := if s.coh.serving then { s with e2e := { s.e2e with servedUs := s.e2e.servedUs + 1 } } else s
  ((List.range 12).filter (fun c => (ctl s c).draining)).foldl (fun s c => count s (0x130 + c)) s

/-- One nanosecond passes: what the block does on an empty queue. -/
def tick (s : State) : State :=
  let s := { s with clockNs := s.clockNs + 1 }
  if s.clockNs % 1000 = 0 then countMicro s else s

/-- The answer of a meaning before the reactions of its raises: the state. -/
abbrev Body := State → State

end Sys2Proof.Machine
end

