-- ==== Sys2Proof/Machine/Pmc.lean ====
section
/-! DEFINITION. Performance counters (20): the writes of PMC_CTR, PMC_CTRL.clear_prog, PMC_SEL and PMC_UPAGE, and what a user
page shows. -/

namespace Sys2Proof.Machine

/-- A counter's selection. -/
def pmcSel (s : State) (n : Nat) : PmcSel := mgetD s.pmc.sel n PmcSel.zero

/-- A counter's selection in force (R639). -/
def pmcSelNow (s : State) (n : Nat) : PmcSel := mgetD (selNow s) n PmcSel.zero

/-- Does a programmable counter count at present (R530, R630, R632)? -/
def pmcCounts (s : State) (n : Nat) : Bool :=
  s.pmc.counting && !s.pmc.frozen && !s.pmc.freezeProg && (pmcSelNow s n).enable

/-- PMC_CTR_WRITE (R634): the counter is set, then the occurrences of the same cycle are added and an overflow goes on as any
other (R633). -/
def pmcCtrWrite (s : State) (n : Nat) (value : Word) (occurrences : Nat) : State :=
  let s := rewriteCtrs s (fun m => mset m n (value.setWidth 48)) id
  if pmcCounts s n then
    let r := addCtr s n (pmcSelNow s n) occurrences
    addCtrs 0 none 0 ((selNow r.1).filter (fun x => decide (n < x.1))) r.1 (n, r.2)
  else s

/-- PMC_CLEAR (R636): every PMC_CTR to 0 and PMC_OVF cleared; the occurrences of that cycle are added after the clear. -/
def pmcClear (s : State) : State := rewriteCtrs s (fun _ => []) (fun _ => 0)

/-- The fields of a PMC_UPAGE write (R640). -/
def upageOf (value : Word) : PmcUpage := ⟨(value >>> 16).setWidth 8, (value >>> 8).setWidth 7, value.setWidth 2⟩

/-- Is a PMC_UPAGE write ignored as a whole (R640)? -/
def upageIgnored (u : PmcUpage) : Bool :=
  u.kind == 3 || (u.kind == 2 && (u.count == 0 || decide (128 < u.base.toNat + u.count.toNat)))

/-- PMC_UPAGE_WRITE (R640). -/
def pmcUpageWrite (s : State) (u : Nat) (value : Word) : State :=
  if upageIgnored (upageOf value) then s else { s with pmc := { s.pmc with upage := mset s.pmc.upage u (upageOf value) } }

/-- A PMC_SEL write (R639): PMC_SEL[0].chain stays 0 (R633). -/
def pmcSelOf (n : Nat) (value : Word) : PmcSel where
  enable := value.getLsbD 31
  chain := value.getLsbD 30 && n != 0
  ovfIe := value.getLsbD 29
  labelEn := value.getLsbD 28
  label := (value >>> 24).setWidth 4
  event := value.setWidth 9

/-- What an 8-byte read at an offset of a user page returns (R635). -/
def upageRead (s : State) (u offset : Nat) : BitVec 48 :=
  let p := mgetD s.pmc.upage u ⟨0, 0, 0⟩
  let i := offset / 8
  if p.kind = 1 then (if i < 512 then mgetD s.pmc.fix i 0 else 0)
  else if p.kind = 2 then (if i < p.count.toNat then mgetD s.pmc.ctr (p.base.toNat + i) 0 else 0)
  else 0

end Sys2Proof.Machine
end

