-- ==== Sys2Proof/Machine/Ecc.lean ====
section
/-! DEFINITION. The error-correcting codes of the memories (13: R452 to R454, R458): two finite fields, systematic Reed–Solomon codes
over them, the poison markers, and the decoders. -/

namespace Sys2Proof.Machine

/-- A field GF(2^m) by its polynomial; α is the class of x. -/
structure Gf where
  m : Nat
  poly : Nat
deriving DecidableEq, Repr

/-- The fields of the DDR-5 code (R452) and of the RLD code (R458). -/
def gfDdr : Gf := ⟨16, 0x1100B⟩
def gfRld : Gf := ⟨8, 0x11D⟩

/-- The product with α, and with α^n. -/
def Gf.byX (f : Gf) (a : Nat) : Nat := if 2 * a < 2 ^ f.m then 2 * a else Nat.xor (2 * a) f.poly
def Gf.byPow (f : Gf) : Nat → Nat → Nat
  | 0, a => a
  | n + 1, a => f.byPow n (f.byX a)

/-- The product of two elements, and the inverse of one: a^(2^m - 2). -/
def Gf.mul (f : Gf) (a b : Nat) : Nat :=
  (List.range f.m).foldr (fun i acc => Nat.xor (f.byX acc) (if b.testBit i then a else 0)) 0
def Gf.inv (f : Gf) (a : Nat) : Nat :=
  ((List.range (f.m - 1)).foldl (fun (x : Nat × Nat) _ => let q := f.mul x.1 x.1
    (q, f.mul x.2 q)) (a, 1)).2

/-- The sum of products of two lists. -/
def Gf.dot (f : Gf) (a b : List Nat) : Nat := (a.zip b).foldl (fun s x => Nat.xor s (f.mul x.1 x.2)) 0

/-- The polynomial with the given roots, coefficients from the constant on. -/
def Gf.ofRoots (f : Gf) (xs : List Nat) : List Nat :=
  xs.foldl (fun p x => List.zipWith Nat.xor (0 :: p) (p.map (f.mul x) ++ [0])) [1]

/-- The generator: roots α^0 to α^7 (R452, R458). -/
def Gf.generator (f : Gf) : List Nat := f.ofRoots ((List.range 8).map (fun i => f.byPow i 1))

/-- The check symbols of data: the remainder of the data polynomial times x^8 by the generator. -/
def Gf.check (f : Gf) (data : List Nat) : List Nat :=
  let g := f.generator
  data.foldr (fun d (r : List Nat) =>
    let fb := Nat.xor d (r.getD 7 0)
    List.zipWith (fun a c => Nat.xor a (f.mul fb c)) (0 :: r.take 7) g) (List.replicate 8 0)

/-- The systematic codeword of data: check symbol j is coefficient j, data symbol q coefficient 8 + q. -/
def Gf.encode (f : Gf) (data : List Nat) : List Nat := f.check data ++ data

/-- The eight syndromes of a word (R453). -/
def Gf.syndromes (f : Gf) (w : List Nat) : List Nat :=
  (List.range 8).map (fun i => w.foldr (fun v acc => Nat.xor v (f.byPow i acc)) 0)

/-- Are syndromes those of an error confined to some coefficients? Exactly where they follow the recurrence of the polynomial with
those locators as roots. -/
def Gf.confined (f : Gf) (s ks : List Nat) : Bool :=
  let p := f.ofRoots (ks.map (fun k => f.byPow k 1))
  (List.range (8 - ks.length)).all (fun i => f.dot p (s.drop i) == 0)

/-- The error of given syndromes on one of the coefficients it is confined to. -/
def Gf.errorAt (f : Gf) (s ks : List Nat) (k : Nat) : Nat :=
  let x := f.byPow k 1
  let others := (ks.filter (· != k)).map (fun l => f.byPow l 1)
  f.mul (f.dot (f.ofRoots others) s) (f.inv (others.foldl (fun d y => f.mul d (Nat.xor x y)) 1))

/-- A word with the error on some coefficients taken away. -/
def Gf.correct (f : Gf) (w s ks : List Nat) : List Nat :=
  w.zipIdx.map (fun x => if ks.contains x.2 then Nat.xor x.1 (f.errorAt s ks x.2) else x.1)

/-- Outcome of a decode (R453, R458): `corrected` names the DRAM device the error is confined to, `marker` a poison marker, HOST or
MEDIA. -/
inductive EccOutcome where
  | clean
  | marker (media : Bool)
  | corrected (device : Fin 10)
  | uncorrectable
deriving DecidableEq, Repr

/-- The lanes of a line's data (R452): beat b carries line bytes 4b to 4b + 3, and bit i of byte 4b + j is on DQ 8j + i. -/
def dataLanes (l : Line) : List Nat :=
  (List.range 32).map (fun q => ((List.range 16).map (fun b => if l.getLsbD (32 * b + q) then 2 ^ b else 0)).sum)
def lanesLine (lanes : List Nat) : Line :=
  BitVec.ofNat 512 (((List.range 16).map (fun b =>
    ((List.range 32).map (fun q => if (lanes.getD q 0).testBit b then 2 ^ (32 * b + q) else 0)).sum)).sum)

/-- The burst that stores a line, and those of the two poison markers (R452, R454). -/
def ddrBurst (l : Line) : List Nat := gfDdr.encode (dataLanes l)
def hostMarker : List Nat := List.replicate 8 0xFFFF ++ List.replicate 32 0
def mediaMarker : List Nat := List.replicate 8 0xAAAA ++ List.replicate 32 0

/-- The coefficients of a device's four lanes: devices 0 to 7 carry DQ 0 to 31, devices 8 and 9 the check lanes (R452). -/
def deviceLanes (d : Nat) : List Nat := (List.range 4).map (fun i => if d < 8 then 8 + 4 * d + i else 4 * (d - 8) + i)

/-- The DDR-5 decoder (R453): the first row that applies, and the burst as corrected. -/
def ddrDecode (mark : Option (Fin 10)) (w : List Nat) : EccOutcome × List Nat :=
  let s := gfDdr.syndromes w
  let on := fun (d : Nat) => gfDdr.confined s (deviceLanes d)
  let fix := fun (d : Nat) => (EccOutcome.corrected (Fin.ofNat 10 d), gfDdr.correct w s (deviceLanes d))
  if s.all (· == 0) then (.clean, w)
  else if s = gfDdr.syndromes hostMarker then (.marker false, w)
  else if s = gfDdr.syndromes mediaMarker then (.marker true, w)
  else match mark with
    | some d => if on d.val then fix d.val else (.uncorrectable, w)
    | none => match (List.range 10).find? on with
      | some d => fix d
      | none => (.uncorrectable, w)

/-- The word that stores an RLD line, and the RLD poison marker (R458). -/
def rldBytes (l : Line) : List Nat := (lineBytes l).map (·.toNat)
def rldWord (l : Line) : List Nat := gfRld.encode (rldBytes l)
def rldMarker : List Nat := List.replicate 8 0xFF ++ List.replicate 64 0

/-- The RLD decoder (R458): the marker first, then any error of up to two bytes. -/
def rldDecode (w : List Nat) : EccOutcome × List Nat :=
  let s := gfRld.syndromes w
  let pairs := (List.range 72).flatMap (fun a => (List.range a).map (fun b => [b, a]))
  if w = rldMarker then (.marker false, w)
  else if s.all (· == 0) then (.clean, w)
  else match ((List.range 72).map (fun a => [a]) ++ pairs).find? (gfRld.confined s) with
    | some ks => (.corrected 0, gfRld.correct w s ks)
    | none => (.uncorrectable, w)

/-- The symbols of an error: 40 lanes of 16 bits, or 72 bytes, from coefficient 0 on. -/
def errorLanes (e : BitVec 640) : List Nat := (List.range 40).map (fun k => e.toNat / 2 ^ (16 * k) % 2 ^ 16)
def errorBytes (e : BitVec 640) : List Nat := (List.range 72).map (fun k => e.toNat / 2 ^ (8 * k) % 2 ^ 8)

/-- A stored word as it is read with an error. -/
def withError (w e : List Nat) : List Nat := List.zipWith Nat.xor w e

/-- What a DDR-5 burst is read as (R453, R454): the outcome and the line. `media`: it holds a MEDIA marker. -/
def readDdr (mark : Option (Fin 10)) (media : Bool) (stored : Line) (e : BitVec 640) : EccOutcome × Line :=
  if e = 0 then (if media then .marker true else .clean, stored)
  else
    let r := ddrDecode mark (withError (if media then mediaMarker else ddrBurst stored) (errorLanes e))
    (r.1, lanesLine (r.2.drop 8))

/-- What an RLD line is read as (R458). `poison`: it holds the poison marker. -/
def readRld (poison : Bool) (stored : Line) (e : BitVec 640) : EccOutcome × Line :=
  if e = 0 then (if poison then .marker false else .clean, stored)
  else
    let r := rldDecode (withError (if poison then rldMarker else rldWord stored) (errorBytes e))
    (r.1, bytesLine ((r.2.drop 8).map (BitVec.ofNat 8)))

end Sys2Proof.Machine
end

