-- ==== Sys2Proof/Machine/Sched.lean ====
section
/-! DEFINITION. Virtual-time fair queuing, the service order of every scheduler (11: R391 to R396), and the
admission stage of the memory controllers (R427). -/

namespace Sys2Proof.Machine

/-- The weight of a label in the active image (R396, R397). -/
def labelWeight (s : State) (l : Nat) : Nat := max 1 (s.img.active.fld secLabels l 0)

/-- Is a label real-time, guaranteed (R397)? -/
def labelRt (s : State) (l : Nat) : Bool := s.img.active.fld secLabels l 1 == 1
def labelGuaranteed (s : State) (l : Nat) : Bool := s.img.active.fld secLabels l 2 == 1

/-- Does tag a precede tag b, modulo 2^48 (R395)? Equal tags do not precede one another. -/
def tagBefore (a b : BitVec 48) : Bool := a != b && decide ((b - a).toNat < 2 ^ 47)

/-- The later of two tags. -/
def tagMax (a b : BitVec 48) : BitVec 48 := if tagBefore a b then b else a

/-- The finish tag of an item of `size` bytes that joins label `l` of weight `w` (R393, R394). -/
def finishTag {α : Type} (q : Wfq α) (l w size : Nat) : BitVec 48 :=
  tagMax q.v (mgetD q.tags l 0) + BitVec.ofNat 48 (size * 65536 / w)

/-- An item joins a scheduler (R393). -/
def wfqPush {α : Type} (q : Wfq α) (l w size : Nat) (conform : Bool) (x : α) : Wfq α :=
  let f := finishTag q l w size
  { q with tags := mset q.tags l f, items := q.items ++ [⟨x, l, f, conform⟩] }

/-- The first, in arrival order, of the best elements under a strict order `lt` (lower is better). -/
def bestOf {α : Type} (lt : α → α → Bool) : List α → Option α
  | [] => none
  | x :: xs =>
    match bestOf lt xs with
    | none => some x
    | some y => if lt y x then some y else some x

/-- The class of service of an item (R391): 0 CTRL, 1 label 15, 2 conforming real-time, 3 every other item. -/
def serviceClass {α : Type} (rt : Nat → Bool) (ctrl : α → Bool) (i : Queued α) : Nat :=
  if ctrl i.item then 0 else if i.label = 15 then 1 else if rt i.label && i.conform then 2 else 3

/-- Does item `a` take the turn before item `b` (R391, R395)? Fair queuing compares finish tags, and gives equal ones to the lower label.
Ages are those of link messages; elsewhere they are 0. -/
def servedBefore {α : Type} (rt : Nat → Bool) (ctrl : α → Bool) (age : α → Nat) (a b : Queued α) : Bool :=
  let ca := serviceClass rt ctrl a
  let cb := serviceClass rt ctrl b
  if ca ≠ cb then decide (ca < cb)
  else if ca ≤ 1 then decide (age b.item < age a.item)
  else if ca = 2 then
    if a.label ≠ b.label then decide (a.label < b.label) else decide (age b.item < age a.item)
  else if a.finish ≠ b.finish then tagBefore a.finish b.finish
  else decide (a.label < b.label)

/-- Remove the first queued item equal to the one selected. -/
def dropItem {α : Type} [DecidableEq α] (x : Queued α) : List (Queued α) → List (Queued α)
  | [] => []
  | y :: ys => if y = x then ys else y :: dropItem x ys

/-- The item of a label served in a turn of fair queuing: at link egress the oldest by age (R391). -/
def oldestOf {α : Type} (age : α → Nat) (x : Queued α) (same : List (Queued α)) : Queued α :=
  (bestOf (fun a b => decide (age b.item < age a.item)) same).getD x

/-- Select an item among the eligible ones; fair queuing sets the virtual time to the turn's tag (R391, R393). Where a label's older
message goes in the turn of a younger one, the two exchange their tags (DESIGN CHOICE: assumption 149). -/
def wfqPick {α : Type} [DecidableEq α] (q : Wfq α) (rt : Nat → Bool) (ctrl eligible : α → Bool) (age : α → Nat) :
    Option (Queued α × Wfq α) :=
  match bestOf (servedBefore rt ctrl age) (q.items.filter (fun i => eligible i.item)) with
  | none => none
  | some x =>
    if serviceClass rt ctrl x = 3 then
      let y := oldestOf age x (q.items.filter (fun i => eligible i.item && i.label == x.label && serviceClass rt ctrl i == 3))
      let items := if y = x then dropItem x q.items
        else (dropItem y q.items).map (fun i => if i = x then { i with finish := y.finish } else i)
      some (y, { q with v := x.finish, items := items })
    else some (x, { q with items := dropItem x q.items })

/-- The number of items a label holds in a scheduler. -/
def wfqCount {α : Type} (q : Wfq α) (l : Nat) : Nat := (q.items.filter (fun i => i.label == l)).length

/-- The target of a port at a controller (R426, R427). -/
def portIndex : Port → Nat
  | .host => 0
  | .fabric => 1
  | .nearfill => 2
  | .migrate => 3
  | .scrub => 4
  | .metaData => 5
  | .engine => 6
  | .train => 7

/-- The label under which a memory access queues: 14 under DEMOTE (R404), and 16 more for a non-conforming one (R392). -/
def queueLabel (label : Nat) (demoted yellow : Bool) : Nat := (if demoted then 14 else label) + (if yellow then 16 else 0)

/-- A request enters the admission stage of a controller: its age counts from here, against its port's target (R391, R427). -/
def memJoin (s : State) (n : Nat) (r : MemReq) : State :=
  let c := ctl s n
  let r := { r with atNs := s.clockNs, target := c.targets.getD (portIndex r.port) 0 }
  let l := r.qlabel % 16
  setCtl s n { c with sched := wfqPush c.sched l (labelWeight s l) r.size (decide (r.qlabel < 16)) r }

/-- A request for a controller: it enters the admission stage, or waits upstream while its label holds 64 items there (R410). -/
def memPush (s : State) (n : Nat) (port : Port) (label qlabel : Nat) (write : Bool) (use : MemUse) (addr size : Nat)
    (data : Option Line) : State :=
  let c := ctl s n
  let r : MemReq := {
    id := s.nextReq
    port := port
    label := label
    qlabel := qlabel
    write := write
    use := use
    addr := addr
    atNs := s.clockNs
    target := 0
    counted := false
    size := size
    data := data }
  let s := { s with nextReq := s.nextReq + 1 }
  if wfqCount c.sched (qlabel % 16) < 64 then memJoin s n r else setCtl s n { c with upstream := c.upstream ++ [r] }

/-- An item of a label has left the admission stage: the first that waits upstream enters (R410). -/
def memRefill (s : State) (n l : Nat) : State :=
  let c := ctl s n
  match takeFirst (fun (r : MemReq) => r.qlabel % 16 == l) c.upstream with
  | some (r, rest) => if wfqCount c.sched l < 64 then memJoin (setCtl s n { c with upstream := rest }) n r else s
  | none => s

end Sys2Proof.Machine
end

