-- ==== Sys2Proof/Machine/Msg.lean ====
section
/-! DEFINITION. Messages and frames on the wire: header slots, bodies, CTRL fields and frames (10: R353 to R360, R664). -/

namespace Sys2Proof.Machine

/-- Pack fields of given widths from bit 0 upward. -/
def packF : List (Nat × Nat) → Nat
  | [] => 0
  | (w, v) :: fs => v % 2 ^ w + 2 ^ w * packF fs

/-- Total width of packed fields. -/
def widthF : List (Nat × Nat) → Nat
  | [] => 0
  | (w, _) :: fs => w + widthF fs

/-- The body of a message (R356): 55 bits. -/
def Msg.body (m : Msg) : Nat := m.bodyHi.toNat * 2 ^ 32 + m.word1.toNat % 2 ^ 32

/-- The end-to-end tag of a message (R356). -/
def Msg.tag (m : Msg) : Tag := BitVec.ofNat 32 (m.word1.toNat / 2 ^ 32)

/-- The class of a message: 0 REQ, 1 SNP, 2 RSP, 3 WB, 4 BULK, 5 CTRL (R310). -/
def Msg.cls (m : Msg) : Nat := m.vc.toNat / 3

/-- The hop a message is on, from its channel (R310, R356). -/
def Msg.hop (m : Msg) : Nat := m.vc.toNat % 3 + 1

/-- Is a message a CTRL message? -/
def Msg.isCtrl (m : Msg) : Bool := m.vc == 15

/-- The slots of a message, its CONT included (R356, R358). -/
def Msg.slotCount (m : Msg) : Nat := 1 + m.slots.length + (match m.cont with | some c => 1 + c.slots.length | none => 0)

/-- A message of a class, not yet routed: hop 1, direct form (R356). -/
def mkMsg (cls op dst label : Nat) (tag : Tag) (isNew : Bool) (body : List (Nat × Nat)) (slots : List (BitVec 128)) : Msg where
  vc := BitVec.ofNat 4 (3 * cls)
  op := BitVec.ofNat 3 op
  dst := BitVec.ofNat 12 dst
  form := 0
  coord := 0
  label := BitVec.ofNat 4 label
  age := 0
  isNew := isNew
  joined := false
  bodyHi := BitVec.ofNat 23 (packF body / 2 ^ 32)
  word1 := BitVec.ofNat 64 (tag.toNat * 2 ^ 32 + packF body % 2 ^ 32)
  slots := slots
  cont := none
  yellow := false
  rx := none

/-- The four data slots of a 64 B line, in slot order. -/
def lineSlots (d : Line) : List (BitVec 128) := (List.range 4).map (fun i => (d >>> (128 * i)).setWidth 128)

/-- The line held in four slots. -/
def slotsLine (ss : List (BitVec 128)) : Line :=
  (List.range 4).foldl (fun a i => a ||| ((ss.getD i 0).setWidth 512 <<< (128 * i))) 0

/-- A CONT of `n` slots from its K fields (R358): K[63:0] in word 1, K[86:64] in the body, then the further slots. -/
def mkCont (n : Nat) (k : Nat) : Cont where
  word1 := BitVec.ofNat 64 k
  bodyHi := BitVec.ofNat 23 (k / 2 ^ 64)
  slots := (List.range (n - 1)).map (fun i => BitVec.ofNat 128 (k / 2 ^ (87 + 128 * i)))

/-- The K fields of a CONT. -/
def Cont.fields (c : Cont) : Nat :=
  c.word1.toNat + 2 ^ 64 * (c.bodyHi.toNat + 2 ^ 23 * packF (c.slots.map (fun x => (128, x.toNat))))

/-- Join a CONT to a message. -/
def Msg.withCont (m : Msg) (n k : Nat) : Msg := { m with joined := true, cont := some (mkCont n k) }

/-- A CTRL message (R359): its type, operation, origin, flood sequence and fields C from bit 0. -/
def mkCtrl (type opn dst origin flood : Nat) (fields : List (Nat × Nat)) : Msg where
  vc := 15
  op := BitVec.ofNat 3 type
  dst := BitVec.ofNat 12 dst
  form := 0
  coord := 0
  label := 15
  age := 0
  isNew := false
  joined := false
  bodyHi := BitVec.ofNat 23 (packF ((4, opn) :: fields) / 2 ^ 36)
  word1 := BitVec.ofNat 64 (origin * 2 ^ 52 + flood * 2 ^ 36 + packF ((4, opn) :: fields) % 2 ^ 36)
  slots := (List.range (ceilDiv (4 + widthF fields - 59) 128)).map
    (fun i => BitVec.ofNat 128 (packF ((4, opn) :: fields) / 2 ^ (59 + 128 * i)))
  cont := none
  yellow := false
  rx := none

/-- The C fields of a CTRL message (R359). -/
def Msg.ctrl (m : Msg) : Nat :=
  m.word1.toNat % 2 ^ 36 + 2 ^ 36 * (m.bodyHi.toNat + 2 ^ 23 * packF (m.slots.map (fun x => (128, x.toNat))))

/-- Word 0 of a header slot (R356). -/
def headWord (vc len op dst form coord label age : Nat) (isNew joined : Bool) (bodyHi : Nat) : Nat :=
  packF [(23, bodyHi), (1, b2n joined), (1, b2n isNew), (4, age), (4, label), (6, coord), (3, form), (12, dst), (3, op), (3, len),
    (4, vc)]

/-- The slots of a message on the wire, its CONT following it. -/
def Msg.wire (m : Msg) : List (BitVec 128) :=
  let h := headWord m.vc.toNat (1 + m.slots.length) m.op.toNat m.dst.toNat m.form.toNat m.coord.toNat m.label.toNat m.age.toNat
    m.isNew m.joined m.bodyHi.toNat
  BitVec.ofNat 128 (h + 2 ^ 64 * m.word1.toNat) :: m.slots ++
    (match m.cont with
     | none => []
     | some c =>
       BitVec.ofNat 128 (headWord m.vc.toNat (1 + c.slots.length) 7 m.dst.toNat m.form.toNat m.coord.toNat m.label.toNat
         m.age.toNat false false c.bodyHi.toNat + 2 ^ 64 * c.word1.toNat) :: c.slots)

/-- The highest op of a class that is a message (R357): CONT apart. -/
def topOp (cls : Nat) : Nat :=
  match cls with
  | 0 => 5
  | 1 => 3
  | 2 => 6
  | 3 => 2
  | 4 => 6
  | _ => 7

/-- A message read from its header slot and further slots, without its CONT. -/
def readMsg (h : Nat) (slots : List (BitVec 128)) (yellow : Bool) : Msg where
  vc := BitVec.ofNat 4 (bits h 63 60)
  op := BitVec.ofNat 3 (bits h 56 54)
  dst := BitVec.ofNat 12 (bits h 53 42)
  form := BitVec.ofNat 3 (bits h 41 39)
  coord := BitVec.ofNat 6 (bits h 38 33)
  label := BitVec.ofNat 4 (bits h 32 29)
  age := BitVec.ofNat 4 (bits h 28 25)
  isNew := nbit h 24
  joined := nbit h 23
  bodyHi := BitVec.ofNat 23 h
  word1 := BitVec.ofNat 64 (h / 2 ^ 64)
  slots := slots
  cont := none
  yellow := yellow
  rx := none

/-- Attach a CONT to the last message read. -/
def attach (m : Msg) (c : Msg) : Msg := { m with cont := some ⟨c.word1, c.bodyHi, c.slots⟩ }

/-- Read the messages of a frame's slots, or none when a message breaks R360: `prev` is the message read last, `ctrl` whether
only CTRL messages have come, `bypass` whether only they may come. `fuel` bounds the messages of a frame. -/
def readSlots (yellow : Nat) (bypass : Bool) : Nat → Nat → Bool → Option Msg → List (BitVec 128) → Option (List Msg)
  | 0, _, _, prev, _ => match prev with
    | none => some []
    | some p => if p.joined && p.cont == none then none else some [p]
  | fuel + 1, i, ctrl, prev, ss =>
    match ss with
    | [] => (match prev with
      | none => some []
      | some p => if p.joined && p.cont == none then none else some [p])
    | h :: rest =>
      let w := h.toNat
      let len := bits w 59 57
      let m := readMsg w (rest.take (len - 1)) (nbit yellow i)
      let rest' := rest.drop (len - 1)
      if len = 0 ∨ 5 < len ∨ rest.length < len - 1 then none
      else if m.isCtrl then
        if !ctrl || m.joined || m.op == 0 then none
        else match prev with
          | none => readSlots yellow bypass fuel (i + len) true (some m) rest'
          | some p => (readSlots yellow bypass fuel (i + len) true (some m) rest').map (p :: ·)
      else if bypass then none
      else if m.op == 7 then
        match prev with
        | some p =>
          if p.joined && p.cont == none then
            readSlots yellow bypass fuel (i + len) false (some (attach p m)) rest'
          else none
        | none => none
      else if m.op == 0 || decide (topOp m.cls < m.op.toNat) then none
      else match prev with
        | none => readSlots yellow bypass fuel (i + len) false (some m) rest'
        | some p =>
          if p.joined && p.cont == none then none
          else (readSlots yellow bypass fuel (i + len) false (some m) rest').map (p :: ·)

/-- Header fields of a frame (R354). -/
structure FrameHead where
  type : Nat
  seq : Nat
  ack : Nat
  craVc : Nat
  craCount : Nat
  crbVc : Nat
  crbCount : Nat
  yellow : Nat
  used : Nat
deriving DecidableEq, Repr

/-- The header of a frame (R354). -/
def frameHead (b : FrameBits) : FrameHead :=
  let w := b.toNat % 2 ^ 64
  ⟨bits w 63 62, bits w 61 50, bits w 49 38, bits w 37 34, bits w 33 29, bits w 28 25, bits w 24 20, bits w 19 5, bits w 4 1⟩

/-- Slot `i` of a frame (R353). -/
def frameSlot (b : FrameBits) (i : Nat) : BitVec 128 := BitVec.ofNat 128 (b.toNat / 2 ^ (64 + 128 * i))

/-- The slots in use of a frame. -/
def frameSlots (b : FrameBits) : List (BitVec 128) := (List.range (frameHead b).used).map (frameSlot b)

/-- Starting slots of messages laid out in order. -/
def starts : Nat → List Msg → List (Nat × Msg)
  | _, [] => []
  | i, m :: ms => (i, m) :: starts (i + m.slotCount) ms

/-- The yellow bits a frame of these messages must carry (R354). -/
def yellowBits (ms : List Msg) : Nat :=
  (starts 0 ms).foldl (fun a x => if x.2.yellow then a + 2 ^ x.1 else a) 0

/-- A frame of messages (R353, R354). -/
def buildFrame (type seq ack craVc craCount crbVc crbCount : Nat) (ms : List Msg) : FrameBits :=
  let slots := (ms.map Msg.wire).flatten
  let h := packF [(1, 0), (4, slots.length), (15, yellowBits ms), (5, crbCount), (4, crbVc), (5, craCount), (4, craVc), (12, ack),
    (12, seq), (2, type)]
  BitVec.ofNat 2016 (h + 2 ^ 64 * packF (slots.map (fun x => (128, x.toNat))))

/-- The slots at which a message or a CONT starts: where a yellow bit may be set (R360). -/
def startBits (ms : List Msg) : Nat :=
  (starts 0 ms).foldl (fun a x => a + 2 ^ x.1 + (if x.2.cont.isSome then 2 ^ (x.1 + 1 + x.2.slots.length) else 0)) 0

/-- One bit step of CRC-32 (IEEE 802.3, reflected). -/
def crcBit (c : Nat) : Nat := if c % 2 = 1 then (c / 2) ^^^ 0xEDB88320 else c / 2

/-- Eight bit steps. -/
def crcByte (c : Nat) (b : Nat) : Nat :=
  crcBit (crcBit (crcBit (crcBit (crcBit (crcBit (crcBit (crcBit (c ^^^ b))))))))

/-- CRC-32 (IEEE 802.3) of bytes. -/
def crc32 (bs : List Nat) : Nat := bs.foldl crcByte 0xFFFFFFFF ^^^ 0xFFFFFFFF

/-- The CRC of a frame over its bytes 0 to 251 (R353). -/
def frameCrc (b : FrameBits) : BitVec 32 :=
  BitVec.ofNat 32 (crc32 ((List.range 252).map (fun i => b.toNat / 256 ^ i % 256)))

/-- CRC-16/CCITT-FALSE of bytes (R622). -/
def crc16 (bs : List Nat) : Nat :=
  bs.foldl (fun c b => (List.range 8).foldl
    (fun c _ => if 0x8000 ≤ c then (c * 2 ^^^ 0x1021) % 65536 else c * 2 % 65536) (c ^^^ (b * 256))) 0xFFFF

/-- The next node of a message's path, as a device computes it from its own position, dst, form and coord (R308, R356). -/
def nextNode (me : Nat) (m : Msg) : Nat :=
  let d := m.dst.toNat
  let x := m.coord.toNat
  let r := me / 64
  let c := me % 64
  match m.form.toNat with
  | 1 => if c = x then d else r * 64 + x
  | 2 => if r = x then d else x * 64 + c
  | 3 => if c = d % 64 then d else r * 64 + d % 64
  | 4 => if r = d / 64 then d else d / 64 * 64 + c
  | 5 => if c ≠ x ∧ r ≠ d / 64 then r * 64 + x else if r ≠ d / 64 then d / 64 * 64 + c else d
  | 6 => if r ≠ x ∧ c ≠ d % 64 then x * 64 + c else if c ≠ d % 64 then r * 64 + d % 64 else d
  | _ => d

end Sys2Proof.Machine
end

