-- ==== Sys2Proof/Machine/Route.lean ====
section
/-! DEFINITION. Paths, sending, flooding (09: R299 to R314, R335) and end-to-end delivery at the source (10: R369 to R374). -/

namespace Sys2Proof.Machine

/-- The member record of a node (R317). -/
def memberOf (s : State) (n : Nat) : Member := mgetD s.fab.members n Member.zero

/-- The member state of a node: this device's own from its own record (R339). -/
def memberState (s : State) (n : Nat) : MemberSt := if n = myNode s then s.fab.own else (memberOf s n).state

/-- Is a node in service? Only IN_SERVICE counts (R317). -/
def inService (s : State) (n : Nat) : Bool := memberState s n == .inService

/-- Is a row ASLEEP (R333, R342)? -/
def rowAsleep (s : State) (r : Nat) : Bool := s.fab.rowsAsleep.getLsbD r

/-- Does a link carry traffic: a link counts as down once it has left UP or DOZE (R349)? -/
def LinkRec.isUp (r : LinkRec) : Bool := r.st == .up || r.st == .doze

/-- The links of this device to a neighbour (R300). -/
def linksBetween (s : State) (n : Nat) : List Nat :=
  if isNeighbour (myNode s) n && inGeometry s n then
    (List.range (geoK s)).map (fun j => j * geoP s + neighbourIndex (geoRows s) (myNode s) n)
  else []

/-- The links to a neighbour that are up. -/
def upLinksTo (s : State) (n : Nat) : List Nat := (linksBetween s n).filter (fun l => (link s l).isUp)

/-- Is a link between two other nodes up, by the link map (R306, R309)? -/
def mapUp (s : State) (a b : Nat) : Bool :=
  isNeighbour a b && ((mgetD s.fab.linkMap a ⟨0, 0⟩).vector.getLsbD (neighbourIndex (geoRows s) a b))

/-- The ROUTES record of a node in force (R315): paths, transit_ok, max_hops. -/
def routePaths (s : State) (n : Nat) : Nat := s.img.pool.fld secRoutes n 1
def transitOk (s : State) (n : Nat) : Bool := s.img.pool.fld secRoutes n 2 == 1
def maxHops (s : State) (n : Nat) : Nat := s.img.pool.fld secRoutes n 3

/-- A path: its form and coordinate on the wire and its intermediates (R308, R356). -/
structure Path where
  form : Nat
  coord : Nat
  via : List Nat
deriving DecidableEq, Repr

/-- Rows, and columns, of the geometry other than two given ones. -/
def otherRows (s : State) (a b : Nat) : List Nat := (List.range (geoRows s)).filter (fun y => y != a && y != b)
def otherCols (s : State) (a b : Nat) : List Nat := (List.range (geoCols s)).filter (fun x => x != a && x != b)

/-- The path forms of R308 of a given hop count. -/
def pathForms (s : State) (d hops : Nat) : List Path :=
  let me := myNode s
  let r := me / 64
  let c := me % 64
  let rd := d / 64
  let cd := d % 64
  if hops = 1 then (if isNeighbour me d then [⟨0, 0, []⟩] else [])
  else if hops = 2 then
    if r = rd then (otherCols s c cd).map (fun x => ⟨1, x, [r * 64 + x]⟩)
    else if c = cd then (otherRows s r rd).map (fun y => ⟨2, y, [y * 64 + c]⟩)
    else [⟨3, 0, [r * 64 + cd]⟩, ⟨4, 0, [rd * 64 + c]⟩]
  else
    (otherCols s c cd).map (fun x => ⟨5, x, [r * 64 + x, rd * 64 + x]⟩) ++
      ((otherRows s r rd).filter (fun y => !rowAsleep s y)).map (fun y => ⟨6, y, [y * 64 + c, y * 64 + cd]⟩)

/-- Do the links after the first hop stand, by the link map? -/
def restUp (s : State) (d : Nat) : List Nat → Bool
  | [] => true
  | [a] => mapUp s a d
  | a :: b :: rest => mapUp s a b && restUp s d (b :: rest)

/-- Is a path usable to `d` within `limit` hops (R309)? -/
def pathUsable (s : State) (d limit : Nat) (p : Path) : Bool :=
  let me := myNode s
  let first := p.via.headD d
  let cross := decide (me / 64 ≠ d / 64) && decide (me % 64 ≠ d % 64)
  let rowFirst := decide (first / 64 = me / 64)
  !(upLinksTo s first).isEmpty && restUp s d p.via &&
    p.via.all (fun n => inService s n && !rowAsleep s (n / 64) && transitOk s n && n != me && n != d) &&
    decide (p.via.length + 1 ≤ min (maxHops s d) limit) &&
    (!cross || p.via.isEmpty || (if rowFirst then nbit (routePaths s d) 0 else nbit (routePaths s d) 1))

/-- The usable paths to a destination, by hop count. -/
def usablePaths (s : State) (d limit hops : Nat) : List Path := (pathForms s d hops).filter (pathUsable s d limit)

/-- A first hop: the path and its link. -/
structure Hop where
  path : Path
  link : Nat
deriving DecidableEq, Repr

/-- Every first hop of a list of paths. -/
def firstHops (s : State) (d : Nat) (ps : List Path) : List Hop :=
  (ps.map (fun p => (upLinksTo s (p.via.headD d)).map (fun l => (⟨p, l⟩ : Hop)))).flatten

/-- Is first hop `a` chosen before `b` (R311): more free credits, fewer queued, lower L XOR t? -/
def hopBefore (s : State) (vc t : Nat) (a b : Hop) : Bool :=
  let ra := link s a.link
  let rb := link s b.link
  let ca := ra.credits.getD vc 0
  let cb := rb.credits.getD vc 0
  if ca ≠ cb then decide (cb < ca)
  else if ra.egress.items.length ≠ rb.egress.items.length then decide (ra.egress.items.length < rb.egress.items.length)
  else decide (Nat.xor a.link t < Nat.xor b.link t)

/-- The first choice among the hop counts that offer a path. -/
def chooseHop (s : State) (d vc t limit : Nat) (keep : Hop → Bool) : Option Hop :=
  let pick := fun h => bestOf (hopBefore s vc t) ((firstHops s d (usablePaths s d limit h)).filter keep)
  match pick 1 with
  | some h => some h
  | none => match pick 2 with
    | some h => some h
    | none => pick 3

/-- The first hop of a message (R311), a reissue first avoiding the link and the intermediates of its last incarnation
(R313). -/
def routeHop (s : State) (d vc t : Nat) (avoidLink : Option Nat) (avoidNodes : List Nat) : Option Hop :=
  match chooseHop s d vc t 3 (fun h => some h.link != avoidLink && h.path.via.all (fun n => !avoidNodes.contains n)) with
  | some h => some h
  | none => chooseHop s d vc t 3 (fun _ => true)

/-- Queue a message at a link's label scheduler (R391, R393). -/
def enqueue (s : State) (l : Nat) (m : Msg) : State :=
  modLink s l (fun r => { r with
    egress := wfqPush r.egress m.label.toNat (labelWeight s m.label.toNat) (16 * m.slotCount) (!m.yellow) m })

/-- Queue a CTRL message to a neighbour on the first of its links that is up, with the neighbour as dst (R359). -/
def sendNeighbour (s : State) (n : Nat) (m : Msg) : State :=
  match upLinksTo s n with
  | [] => s
  | l :: _ => enqueue s l { m with dst := BitVec.ofNat 12 n }

/-- The neighbours of this device. -/
def neighbourList (s : State) : List Nat := (List.range (geoP s)).map (neighbourNode (geoRows s) (myNode s))

/-- Forward a flooded message to every IN_SERVICE neighbour but one (R305). -/
def floodOn (s : State) (m : Msg) (except : Option Nat) : State :=
  ((neighbourList s).filter (fun n => inService s n && some n != except)).foldl (fun s n => sendNeighbour s n m) s

/-- Flood an operation of this device's own with its next flood sequence (R305, R359). -/
def flood (s : State) (type opn : Nat) (fields : List (Nat × Nat)) : State :=
  let q := s.fab.floodSeq
  let s := { s with fab := { s.fab with floodSeq := q + 1 } }
  floodOn s (mkCtrl type opn 0 (myNode s) q.toNat fields) none

/-- The window of flood sequences seen from an origin: is `q` new, that is outside the window or not in it (R305)? -/
def floodNew (s : State) (origin : Nat) (q : BitVec 16) : Bool := !(mgetD s.fab.seen origin []).contains q

/-- Note a flood sequence: the 64 latest are kept (R305). -/
def noteFlood (s : State) (origin : Nat) (q : BitVec 16) : State :=
  { s with fab := { s.fab with seen := mset s.fab.seen origin ((q :: mgetD s.fab.seen origin []).take 64) } }

/-- The wake links of another device: 0, 8, 16 and 24 where it has 25 or more used links, otherwise its first four. NODE sections are
not pool-wide, so a peer's own choice is not known here; R50's default is PRESUMED (assumption 21). -/
def wakeLinksOf (s : State) (n : Nat) : List Nat :=
  let used := (List.range (geoP s * geoK s)).filter (fun l => match linkPeer (geoRows s) (geoCols s) (geoK s) n l with
    | some (m, _) => populated s m
    | none => false)
  if 25 ≤ used.length then [0, 8, 16, 24] else used.take 4

/-- An awake device lights its links that lead to a wake link of a device in a row, and sends the wake pattern (R335, R593). -/
def lightRow (s : State) (row : Nat) : State :=
  if myNode s / 64 = row then s
  else
    let ls := (usedLinks s).filter (fun l => match peerOf s l with
      | some (n, pl) => n / 64 == row && (wakeLinksOf s n).contains pl
      | none => false)
    ls.foldl (fun s l => if (link s l).isUp then s else modLink s l (fun r => { r with laser := true, wakeSince := some s.clockNs })) s

/-- Flood ROW_WAKE for a row once while its wake is pending (R335); performance event 0x063. -/
def floodRowWake (s : State) (row : Nat) : State :=
  if mhas s.fab.waking row then s
  else
    let s := lightRow { s with fab := { s.fab with waking := mset s.fab.waking row s.clockNs } } row
    count (flood s 4 6 [(6, row)]) 0x063

/-- Does a message wake its destination's row: REQ, SNP or BULK other than BlkFree (R335)? -/
def wakesRow (m : Msg) : Bool := m.cls == 0 || m.cls == 1 || (m.cls == 4 && m.op != 3)

/-- A message waits at its source (R314, R335). -/
def waitAtSource (s : State) (m : Msg) : State := { s with e2e := { s.e2e with waiting := s.e2e.waiting ++ [m] } }

/-- Note the first 3-hop path to a destination, and event 0x225 at most once per second (R346). -/
def noteThreeHop (s : State) (d : Nat) : State :=
  let s := { s with fab := { s.fab with threeHop := s.fab.threeHop + 1 } }
  let s := count s 0x062
  if s.fab.threeHopDst.contains (BitVec.ofNat 12 d) then s
  else
    let s := { s with fab := { s.fab with threeHopDst := BitVec.ofNat 12 d :: s.fab.threeHopDst } }
    if elapsed s s.fab.lastFaultPathNs 1000000000 then
      raise { s with fab := { s.fab with lastFaultPathNs := some s.clockNs } } 0x225 0
    else s

/-- Event 0x227, at most once per second per destination (R314). -/
def noteUnreachable (s : State) (d : Nat) : State :=
  if elapsed s (mget s.fab.unreachableNs d) 1000000000 then
    raiseP { s with fab := { s.fab with unreachableNs := mset s.fab.unreachableNs d s.clockNs } } 0x227 0 (.peer (BitVec.ofNat 12 d)) 0
  else s

/-- The new owner that ROUTE ALIAS gives a failed node (R174). -/
def aliasOf (s : State) (d : Nat) : Nat :=
  match mget s.fab.aliases d with
  | some (n, _) => n.toNat
  | none => d

/-- The place of messages of this device to itself, after its 256 links: an acting owner's host reaches its regions so. -/
def selfLink : Nat := 256

/-- A message to this device itself arrives at once. -/
def loopBack (s : State) (m : Msg) : State := modLink s selfLink (fun r => { r with rx := r.rx ++ [⟨m, s.clockNs, false⟩] })

/-- Send a message from this device as its source: choose the path and queue it, hold it for a row wake, or let it wait for a
path (R311 to R314, R335). Gives the first hop taken. -/
def sendFrom (s : State) (m : Msg) (avoidLink : Option Nat) (avoidNodes : List Nat) : State × Option Hop :=
  let d := m.dst.toNat
  if d = myNode s then (loopBack s m, none)
  else if rowAsleep s (d / 64) && !m.isCtrl then
    let s := waitAtSource s m
    (if wakesRow m then floodRowWake s (d / 64) else s, none)
  else
    match routeHop s d (if m.isCtrl then 15 else 3 * m.cls) (m.tag.toNat % 256) avoidLink avoidNodes with
    | none => (noteUnreachable (waitAtSource s m) d, none)
    | some h =>
      let s := if h.path.via.length = 2 then noteThreeHop s d else s
      let m := { m with
        vc := if m.isCtrl then 15 else BitVec.ofNat 4 (3 * m.cls)
        form := BitVec.ofNat 3 h.path.form
        coord := BitVec.ofNat 6 h.path.coord }
      (enqueue s h.link m, some h)

/-- Send a message. -/
def sendMsg (s : State) (m : Msg) : State := (sendFrom s m none []).1

/-- Send a routed CTRL message (R359); one that needs an answer is kept for repetition every 100 ms. -/
def sendCtrl (s : State) (dst type opn : Nat) (fields : List (Nat × Nat)) (answered : Bool) : State :=
  let m := mkCtrl type opn dst (myNode s) 0 fields
  let s := if answered then
    { s with fab := { s.fab with ctrlPending := mset s.fab.ctrlPending dst (mgetD s.fab.ctrlPending dst [] ++ [m]) } } else s
  sendMsg s m

/-- An answer to a routed CTRL message came: stop repeating those of the type to the node. -/
def ctrlAnswered (s : State) (dst type : Nat) (opn : Nat) : State :=
  let left := (mgetD s.fab.ctrlPending dst []).filter (fun m => !(m.op.toNat == type && m.ctrl % 16 == opn))
  { s with fab := { s.fab with ctrlPending := mset s.fab.ctrlPending dst left } }

/-- The key of a tag: queue x 16,384 + tag number (R371). -/
def tagKey (t : Tag) : Nat := bits t.toNat 19 16 * 16384 + bits t.toNat 15 2

/-- The source node of a tag (R371). -/
def tagSource (t : Tag) : Nat := bits t.toNat 31 20

/-- The incarnation of a tag (R371). -/
def tagInc (t : Tag) : BitVec 2 := BitVec.ofNat 2 t.toNat

/-- The tag of this device with a key and an incarnation (R371). -/
def mkTag (s : State) (key : Nat) (inc : BitVec 2) : Tag :=
  BitVec.ofNat 32 (myNode s * 2 ^ 20 + key / 16384 * 2 ^ 16 + key % 16384 * 4 + inc.toNat)

/-- Is a tag free: not open and not quarantined (R371, R374)? -/
def tagFree (s : State) (key : Nat) : Bool :=
  !mhas s.e2e.txs key && !s.e2e.quarantined.contains key && !s.e2e.resetQuarantine.contains key

/-- A free tag of a queue. Which one is open: a FREE VALUE (assumption 14). -/
def freeTag (s : State) (queue : Nat) : Option Nat :=
  firstRound (fun k => tagFree s k) (queue * 16384) 16384 (choice s 0 16384)
    (s.e2e.txs.length + s.e2e.quarantined.length + s.e2e.resetQuarantine.length + 1)

/-- Put a tag into a message (R356). -/
def Msg.setTag (m : Msg) (t : Tag) : Msg := { m with word1 := BitVec.ofNat 64 (t.toNat * 2 ^ 32 + m.word1.toNat % 2 ^ 32) }

/-- Pods or lines a response set needs (R369): a BlkRead's count, a MirrorCtl READ's lines, one otherwise. -/
def needOf (m : Msg) : Nat :=
  if m.cls = 4 ∧ m.op = 1 then bits m.body 44 38
  else if m.cls = 4 ∧ m.op = 5 ∧ m.body % 16 = 4 then bits (m.slots.getD 0 0).toNat 12 8
  else 1

/-- Mark a message's colour at its source (R402): it does not conform, or its label is not guaranteed and the feedback level is 2 or 3. -/
def colourAtSource (s : State) (m : Msg) : Msg :=
  { m with yellow := m.yellow || (s.qos.nonConf && labelRt s m.label.toNat) ||
    (!labelGuaranteed s m.label.toNat && decide (2 ≤ s.qos.level)) }

/-- Open an end-to-end transaction and make its first send (R371, R372); with no free tag it waits at its source. -/
def openTx (s : State) (queue : Nat) (m : Msg) (p : Purpose) : State :=
  match freeTag s queue with
  | none => { s with e2e := { s.e2e with noTag := s.e2e.noTag ++ [(BitVec.ofNat 4 queue, m, p)] } }
  | some key =>
    let s := chosen s 1
    let inc := mgetD s.e2e.lastInc key 3 + 1
    let m := colourAtSource s { m.setTag (mkTag s key inc) with isNew := true }
    let r := sendFrom s m none []
    let tx : E2E := {
      inc := inc
      isNew := true
      msg := m
      purpose := p
      reissued := false
      avoidLink := r.2.map (fun h => BitVec.ofNat 8 h.link)
      avoidNodes := (match r.2 with | some h => h.path.via.map (BitVec.ofNat 12) | none => [])
      retryWait := false
      nacks := 0
      got := []
      need := needOf m
      sentNs := s.clockNs }
    let s := r.1
    { s with e2e := { s.e2e with txs := mset s.e2e.txs key tx, lastInc := mset s.e2e.lastInc key inc } }

/-- Is a message an unsent copy of a transaction's earlier incarnation (R372)? -/
def sameTx (key src : Nat) (m : Msg) : Bool := !m.isCtrl && m.cls != 2 && tagKey m.tag == key && tagSource m.tag == src

/-- Remove the unsent copies of a transaction from the source's queues (R372). -/
def dropUnsent (s : State) (key : Nat) : State :=
  let me := myNode s
  { s with
    links := mmap s.links (fun _ r => { r with egress := { r.egress with
      items := r.egress.items.filter (fun i => !sameTx key me i.item) } })
    e2e := { s.e2e with waiting := s.e2e.waiting.filter (fun m => !sameTx key me m) } }

/-- Reissue a transaction: incarnation + 1, new 0, a path that avoids the last one (R372, R373, R313). -/
def reissue (s : State) (key : Nat) : State :=
  match mget s.e2e.txs key with
  | none => s
  | some tx =>
    let inc := tx.inc + 1
    let m := { tx.msg.setTag (mkTag s key inc) with isNew := false, dst := BitVec.ofNat 12 (aliasOf s tx.msg.dst.toNat) }
    let s := dropUnsent s key
    let r := sendFrom s m (tx.avoidLink.map BitVec.toNat) (tx.avoidNodes.map BitVec.toNat)
    let s := r.1
    let tx := { tx with
      inc := inc
      isNew := false
      msg := m
      reissued := true
      retryWait := false
      avoidLink := (match r.2 with | some h => some (BitVec.ofNat 8 h.link) | none => tx.avoidLink)
      avoidNodes := (match r.2 with | some h => h.path.via.map (BitVec.ofNat 12) | none => tx.avoidNodes)
      sentNs := s.clockNs }
    let s := { s with e2e := { s.e2e with
      txs := mset s.e2e.txs key tx
      lastInc := mset s.e2e.lastInc key inc
      reissues := s.e2e.reissues + 1 } }
    count s 0x060

/-- Send again the current incarnation, as a retry after NackRetry does: tag, incarnation and new are kept (R281, R369). -/
def resend (s : State) (key : Nat) : State :=
  match mget s.e2e.txs key with
  | none => s
  | some tx =>
    let s := sendMsg s tx.msg
    { s with e2e := { s.e2e with txs := mset s.e2e.txs key { tx with retryWait := false, sentNs := s.clockNs } } }

/-- Requests that waited for a free tag take the tags that are now free. -/
def retryNoTag (s : State) : State :=
  match takeFirst (fun w => (freeTag s w.1.toNat).isSome) s.e2e.noTag with
  | none => s
  | some ((q, m, p), rest) => openTx { s with e2e := { s.e2e with noTag := rest } } q.toNat m p

/-- A transaction ends: its tag is free again, or quarantined when it was reissued (R374). -/
def closeTx (s : State) (key : Nat) : State :=
  match mget s.e2e.txs key with
  | none => s
  | some tx =>
    let s := dropUnsent s key
    let s := { s with e2e := { s.e2e with
      txs := mdel s.e2e.txs key
      quarantined := if tx.reissued then key :: s.e2e.quarantined else s.e2e.quarantined } }
    retryNoTag s

/-- The open transaction a response answers: this device's own tag, still open (R370). -/
def txFor (s : State) (t : Tag) : Option (Nat × E2E) :=
  if tagSource t = myNode s then (mget s.e2e.txs (tagKey t)).map (fun tx => (tagKey t, tx)) else none

/-- A response that completes nothing is late: it is discarded and counted (R370). -/
def lateResponse (s : State) : State := { s with e2e := { s.e2e with late := s.e2e.late + 1 } }

/-- An answer of class RSP to the tag of a request: it goes to the tag's source under the request's label (R371, R389). -/
def respond (s : State) (op : Nat) (t : Tag) (label : Nat) (body : List (Nat × Nat)) (slots : List (BitVec 128)) : State :=
  sendMsg s (colourAtSource s (mkMsg 2 op (tagSource t) label t false body slots))

/-- Cmp (R357): status, contended, vers. -/
def respondCmp (s : State) (t : Tag) (label status : Nat) (contended : Bool) (vers : Nat) : State :=
  respond s 3 t label [(3, status), (1, b2n contended), (16, vers)] []

/-- NackRetry (R280, R357); performance event 0x042. -/
def respondNack (s : State) (t : Tag) (label cause hint : Nat) : State :=
  count (respond s 4 t label [(4, cause), (8, hint)] []) 0x042

/-- Data of a line (R357). -/
def respondData (s : State) (op : Nat) (t : Tag) (label : Nat) (poison contended dirty hostDirty bulk : Bool) (vers pod : Nat)
    (d : Line) : State :=
  respond s op t label
    [(1, b2n poison), (1, b2n contended), (1, b2n dirty), (1, b2n hostDirty), (1, b2n bulk), (16, vers), (6, pod)] (lineSlots d)

/-- Data with an atomic result of up to 16 B (R357). -/
def respondResult (s : State) (t : Tag) (label : Nat) (poison contended : Bool) (r : BitVec 128) : State :=
  respond s 1 t label [(1, b2n poison), (1, b2n contended)] [r]

/-- EvictAck or RspEvictInFlight for a line, under label 15 (R357, R389). -/
def respondLine (s : State) (op : Nat) (t : Tag) (line : Nat) : State := respond s op t 15 [(42, line)] []

/-- Messages that wait at their source choose again, as at every change of the link map or the end of a row wake (R314,
R336). -/
def retryWaiting (s : State) : State :=
  let ms := s.e2e.waiting
  ms.foldl (fun s m => sendMsg s m) { s with e2e := { s.e2e with waiting := [] } }

end Sys2Proof.Machine
end

