-- ==== Sys2Proof/Machine/Link.lean ====
section
/-! DEFINITION. The Dexex link layer (10): frames, credits, replay, training, retraining and give-up, and the timers of
end-to-end delivery. -/

namespace Sys2Proof.Machine

/-- Initial credits, and receive buffer slots, of a channel (R361). -/
def creditInit (vc : Nat) : Nat :=
  if vc < 6 then 64 else if vc < 9 then 256 else if vc < 12 then 128 else if vc < 15 then 160 else 32

/-- The initial credits of the sixteen channels. -/
def creditsInit : List Nat := (List.range 16).map creditInit

/-- The age unit, e2e_timeout_us / 8, in ns (R375). -/
def ageUnitNs (s : State) : Nat := max 1 (s.e2e.timeoutUs.toNat * 125)

/-- Slots of a receive buffer are freed: they are owed to the peer (R362). -/
def freeSlots (s : State) (l vc n : Nat) : State :=
  modLink s l (fun r => { r with owed := r.owed.set vc (r.owed.getD vc 0 + n) })

/-- The vector of R306 as the links stand: a neighbour with a trained link that has not given up. -/
def ownVector (s : State) : BitVec 126 :=
  BitVec.ofNat 126 ((List.range (geoP s)).foldl (fun a i =>
    if (List.range (geoK s)).any (fun j =>
        let st := (link s (j * geoP s + i)).st
        st == .up || st == .doze || st == .retrain || st == .asleep)
    then a + 2 ^ i else a) 0)

/-- Flood this device's vector with version + 1 (R307). -/
def floodLinkstate (s : State) : State :=
  let me := myNode s
  let e := mgetD s.fab.linkMap me ⟨0, 0⟩
  let e' : MapEntry := ⟨ownVector s, e.version + 1⟩
  let s := { s with fab := { s.fab with linkMap := mset s.fab.linkMap me e' } }
  flood s 6 1 [(16, e'.version.toNat), (126, e'.vector.toNat)]

/-- After a change of a link: when the vector has changed it is flooded, and waiting messages choose again (R307, R314). -/
def linksChanged (s : State) : State :=
  if (mgetD s.fab.linkMap (myNode s) ⟨0, 0⟩).vector = ownVector s then s
  else retryWaiting (floodLinkstate s)

/-- A message is discarded for its age: counted, its slots freed, event 0x232 at most once per millisecond (R375, R380). -/
def discardOld (s : State) (m : Msg) : State :=
  let s := { s with e2e := { s.e2e with expired := s.e2e.expired + 1 } }
  let s := match m.rx with
    | some (l, _) => freeSlots s l.toNat (m.vc.toNat - 1) m.slotCount
    | none => s
  if elapsed s s.fab.lastExpiredNs 1000000 then
    raise { s with fab := { s.fab with lastExpiredNs := some s.clockNs } } 0x232 0
  else s

/-- A forwarded message is discarded for want of a path: counted, event 0x226 (R312). -/
def discardForward (s : State) (m : Msg) : State :=
  let s := { s with fab := { s.fab with discarded := s.fab.discarded + 1 } }
  let s := match m.rx with
    | some (l, _) => freeSlots s l.toNat (m.vc.toNat - 1) m.slotCount
    | none => s
  raise s 0x226 0

/-- Forward a message one hop: along its path, or by a path of this device's own within 3 hops when its next link is down
(R311, R312). `hop` is the hop it arrived on. -/
def forward (s : State) (m : Msg) (hop : Nat) : State :=
  let me := myNode s
  let vc' := m.vc.toNat + 1
  let n := nextNode me m
  let t := m.tag.toNat % 256
  let hops := (upLinksTo s n).map (fun l => (⟨⟨m.form.toNat, m.coord.toNat, []⟩, l⟩ : Hop))
  if 3 ≤ hop then discardForward s { m with vc := BitVec.ofNat 4 vc' }
  else match bestOf (hopBefore s vc' t) hops with
    | some h => enqueue s h.link { m with vc := BitVec.ofNat 4 vc' }
    | none =>
      match chooseHop s m.dst.toNat vc' t (min 3 (maxHops s m.dst.toNat) - hop) (fun _ => true) with
      | some h => enqueue s h.link
          { m with vc := BitVec.ofNat 4 vc', form := BitVec.ofNat 3 h.path.form, coord := BitVec.ofNat 6 h.path.coord }
      | none => discardForward s { m with vc := BitVec.ofNat 4 vc' }

/-- Forward a CTRL message that is routed through this device. -/
def forwardCtrl (s : State) (m : Msg) : State :=
  let hops := (upLinksTo s (nextNode (myNode s) m)).map (fun l => (⟨⟨0, 0, []⟩, l⟩ : Hop))
  match bestOf (hopBefore s 15 0) hops with
  | some h => enqueue s h.link m
  | none => match chooseHop s m.dst.toNat 15 0 3 (fun _ => true) with
    | some h => enqueue s h.link { m with form := BitVec.ofNat 3 h.path.form, coord := BitVec.ofNat 6 h.path.coord }
    | none => { s with fab := { s.fab with discarded := s.fab.discarded + 1 } }

/-- What becomes of the messages of a discarded replay buffer (R368): own transactions are reissued, forwarded messages
counted. -/
def lostMsgs (s : State) (ms : List Msg) : State :=
  let me := myNode s
  let keys := (ms.filter (fun m => m.rx.isNone && !m.isCtrl && m.cls != 2 && tagSource m.tag == me)).map (fun m => tagKey m.tag)
  let fwd := (ms.filter (fun m => m.rx.isSome)).length
  let s := { s with fab := { s.fab with discarded := s.fab.discarded + BitVec.ofNat 32 fwd } }
  keys.eraseDups.foldl reissue s

/-- Queued messages of a link that is lost choose another way. -/
def requeue (s : State) (l : Nat) : State :=
  let items := (link s l).egress.items
  let s := modLink s l (fun r => { r with egress := { r.egress with items := [] } })
  items.foldl (fun s i =>
    let m := i.item
    match m.rx with
    | some _ => if m.isCtrl then forwardCtrl s m else forward s { m with vc := m.vc - 1 } m.hop.pred
    | none => if m.isCtrl && m.word1.toNat / 2 ^ 36 % 2 ^ 16 ≠ 0 then s else sendMsg s m) s

/-- Discard a link's replay buffer, and act for its messages (R352, R360, R368). -/
def dropReplay (s : State) (l : Nat) : State :=
  let ms := ((link s l).replay.map (·.msgs)).flatten
  lostMsgs (modLink s l (fun r => { r with replay := [] })) ms

/-- Record a cause of R379 in the link and raise its event. -/
def linkCause (s : State) (l cause : Nat) : State :=
  raiseLink (modLink s l (fun r => { r with lastCause := BitVec.ofNat 8 cause })) l cause

/-- A link that served leaves the routes, its transactions going by other paths: event 0x1F4, part class 4 (R179). -/
def linkExcluded (s : State) (served : Bool) : State :=
  let s := linksChanged s
  if served then raiseP s 0x1F4 0 .none 4 else s

/-- A link goes to HELD by a check or by malformed frames: dark, its replay buffer discarded (R349, R360). -/
def holdLink (s : State) (l : Nat) : State :=
  let served := (link s l).isUp || (link s l).st == .retrain
  let s := modLink s l (fun r => { r with st := .held, heldByCheck := true, laser := false })
  linkExcluded (requeue (dropReplay s l) l) served

/-- A TRAIN frame of this end (R351). -/
def ownTrain (s : State) (l : Nat) (ready : Bool) : TrainBody :=
  let r := link s l
  ⟨BitVec.ofNat 12 (myNode s), BitVec.ofNat 8 l, r.rate.setWidth 8, r.session, r.rxNext, r.txNext - 1, !r.replay.isEmpty,
    r.st == .retrain, ready⟩

/-- Send a TRAIN frame, of phase READY or IDENT. The frame of a phase is sent again and again until the phase ends; the model sends
it once, at the start of the phase (DESIGN CHOICE: assumption 25). -/
def sendTrain (s : State) (l : Nat) (ready : Bool) : State := emit s (.train (BitVec.ofNat 8 l) (ownTrain s l ready))

/-- A link leaves UP for RETRAIN (R366); its replay buffer is kept. -/
def toRetrain (s : State) (l : Nat) : State :=
  let r := link s l
  if r.isUp then
    sendTrain (setLink s l { r with st := .retrain, retrains := r.retrains + 1, retrainNs := some s.clockNs, peerTrain := none,
                                    identSeen := false, expiries := 0 }) l false
  else s

/-- A link enters full training with a new session value (R350, R352). The random value is free. -/
def toTraining (s : State) (l : Nat) : State :=
  let f := free s
  sendTrain (modLink f.2 l (fun r => { r with st := .training, session := BitVec.ofNat 16 f.1, laser := true, identSeen := false,
                                              peerTrain := none, heldByCheck := false })) l false

/-- Sequence numbers and credits as after training or a restart (R352, R361). -/
def LinkRec.fresh (r : LinkRec) : LinkRec :=
  { r with replay := [], rxNext := 0, txAcked := 0xFFF, txNext := 0, credits := creditsInit, owed := List.replicate 16 0,
           expiries := 0, malformedRun := 0, lastMalformed := none, ackOwed := false, retrainNs := none, rxReplayTo := none }

/-- Apply a cumulative acknowledgement (R364): it frees every frame up to it; an older one changes nothing. -/
def applyAck (r : LinkRec) (ack : BitVec 12) : LinkRec :=
  let n := (ack - r.txAcked).toNat
  if 0 < n ∧ n ≤ r.replay.length then { r with replay := r.replay.drop n, txAcked := ack, expiries := 0 } else r

/-- Apply one credit return (R362). -/
def applyCredit (r : LinkRec) (vc n : Nat) : LinkRec := { r with credits := r.credits.set vc (r.credits.getD vc 0 + n) }

/-- Does a message's channel match the hop at which it arrives (R310, R360)? A first hop comes from the message's source, which for a
request is the source of its tag (R371); and no fourth hop follows a third (DEDUCED: assumption 148). -/
def hopMatches (s : State) (r : LinkRec) (m : Msg) : Bool :=
  m.isCtrl || ((m.hop != 1 || m.cls == 2 || tagSource m.tag == r.peerNode.toNat) && (m.hop != 3 || m.dst.toNat == myNode s))

/-- Would a frame's credit returns raise the send credits above their initial value (R360)? Only a frame that is accepted has its
returns applied (R362). -/
def overCredit (r : LinkRec) (h : FrameHead) : Bool :=
  (h.type == 0 || h.type == 2) && BitVec.ofNat 12 h.seq == r.rxNext &&
    (decide (creditInit h.craVc < r.credits.getD h.craVc 0 + h.craCount + (if h.craVc = h.crbVc then h.crbCount else 0)) ||
      decide (creditInit h.crbVc < r.credits.getD h.crbVc 0 + h.crbCount))

/-- Is a frame with a valid CRC malformed at a link (R360)? `ms` is what its slots read as. -/
def malformed (s : State) (r : LinkRec) (h : FrameHead) (ms : Option (List Msg)) : Bool :=
  match ms with
  | none => true
  | some ms =>
    (h.yellow &&& (2 ^ 15 - 1)) != (h.yellow &&& startBits ms) ||
    !ms.all (hopMatches s r) ||
    (h.type == 1 && (h.used != 0 || h.seq != 0 || h.yellow != 0 || h.craCount != 0 || h.crbCount != 0)) ||
    decide (2048 ≤ (r.txNext - 1 - BitVec.ofNat 12 h.ack).toNat) ||
    overCredit r h

/-- The ack field of a frame header (R354). -/
def ackMask : FrameBits := BitVec.ofNat 2016 (0xFFF * 2 ^ 38)

/-- A frame's bits but for its ack field, for the comparison of R360. -/
def maskAck (b : FrameBits) : FrameBits := b &&& ~~~ackMask

/-- A malformed frame (R360): counted; the third identical one in a row holds the link. -/
def onMalformed (s : State) (l : Nat) (b : FrameBits) : State :=
  let r := link s l
  let n := if r.lastMalformed = some (maskAck b) then r.malformedRun + 1 else 1
  let s := setLink s l { r with malformed := r.malformed + 1, malformedRun := n, lastMalformed := some (maskAck b) }
  if n = 3 then holdLink (linkCause s l 0x07) l else s

/-- The policing mode of a label (R397). -/
def policeMode (s : State) (l : Nat) : Nat := s.img.active.fld secLabels l 9

/-- The tokens of a bucket, in hundredths of a byte (R400, R403). -/
def bucket (m : NMap Bucket) (l : Nat) : Nat := (mgetD m l ⟨0⟩).centi

/-- Count a red message; the first of its label in a second raises event 0x241 (R411, R417). -/
def countRed (s : State) (l : Nat) : State :=
  let first := elapsed s (mget s.qos.redNs l) 1000000000
  let s := { s with qos := { s.qos with red := mupd s.qos.red l 0 (· + 1) } }
  if first then raise { s with qos := { s.qos with redNs := mset s.qos.redNs l s.clockNs } } 0x241 0 else s

/-- Take tokens from the peak bucket, and from the committed one for a green message (R403). -/
def takeTokens (s : State) (l n : Nat) (green : Bool) : State :=
  let q := s.qos
  let q := { q with peakTokens := mset q.peakTokens l ⟨bucket q.peakTokens l - n⟩ }
  { s with qos := if green then { q with committedTokens := mset q.committedTokens l ⟨bucket q.committedTokens l - n⟩ } else q }

/-- Count a message metered yellow (R417). -/
def countYellow (s : State) (l : Nat) : State := { s with qos := { s.qos with yellow := mupd s.qos.yellow l 0 (· + 1) } }

/-- Outcome of metering a message (R403): it passes (with its colour), waits red, or is admitted red and demoted. -/
inductive Metered where
  | pass
  | hold
  | demote
deriving DecidableEq, Repr

/-- Meter a REQ or BULK message at its destination (R403, R404, R405). -/
def meter (s : State) (m : Msg) : State × Metered :=
  let l := m.label.toNat
  let mode := policeMode s l
  if s.qos.policeOff || decide (13 < l) || mode = 0 || !(m.cls == 0 || m.cls == 4) then (s, .pass)
  else
    let n := 16 * m.slotCount * 100
    let aware := decide (3 ≤ mode)
    if bucket s.qos.peakTokens l < n then (countRed s l, if mode % 2 = 1 then .hold else .demote)
    else if (aware && m.yellow) || bucket s.qos.committedTokens l < n then (countYellow (takeTokens s l n false) l, .pass)
    else (takeTokens s l n true, .pass)

/-- Put a message of this device into its receive buffer, where the row of its kind takes it; red messages are delayed or
demoted (R403, R404). -/
def deliverLocal (s : State) (l : Nat) (m : Msg) : State :=
  let keep := fun (s : State) => modLink s l (fun r => { r with rx := r.rx ++ [⟨m, s.clockNs, false⟩] })
  match meter s m with
  | (s, .pass) => keep s
  | (s, .demote) => modLink s l (fun r => { r with rx := r.rx ++ [⟨m, s.clockNs, true⟩] })
  | (s, .hold) =>
    let q := mgetD s.qos.holdQ m.label.toNat []
    let fits := q.all (·.freed) && decide ((q.map (fun h => h.msg.slotCount)).sum + m.slotCount ≤ 256)
    let s := { s with qos := { s.qos with holdQ := mset s.qos.holdQ m.label.toNat (q ++ [⟨BitVec.ofNat 8 l, m, s.clockNs, fits⟩]) } }
    if fits then freeSlots s l m.vc.toNat m.slotCount else s

/-- One message of an accepted frame: to this device, or onward (R312, R363). -/
def deliver (l : Nat) (s : State) (m : Msg) : State :=
  let s := countN s (0x080 + m.label.toNat) none 1
  if m.dst.toNat = myNode s then
    let s := if m.isCtrl || m.cls == 2 then s else active s
    deliverLocal s l m
  else
    let m' := { m with rx := some (BitVec.ofNat 8 l, s.clockNs) }
    if m.isCtrl then forwardCtrl (freeSlots s l 15 m.slotCount) { m' with rx := none } else forward s m' m.hop

/-- The age a replayed message takes on hops 2 and 3: the whole units of the drop (R375). -/
def ageReplayed (r : LinkRec) (seq : BitVec 12) (m : Msg) : Msg :=
  match r.rxReplayTo with
  | some (last, units) =>
    if (last - seq).toNat < 2048 ∧ 2 ≤ m.hop ∧ !m.isCtrl then { m with age := BitVec.ofNat 4 (min 15 (m.age.toNat + units)) } else m
  | none => m

/-- Accept a sequenced frame in order (R362, R363): its credit returns, its messages in slot order, E. -/
def acceptFrame (s : State) (l : Nat) (h : FrameHead) (ms : List Msg) : State :=
  let r := link s l
  let seq := BitVec.ofNat 12 h.seq
  let ms := ms.map (ageReplayed r seq)
  let r := applyCredit (applyCredit r h.craVc h.craCount) h.crbVc h.crbCount
  let replayed := match r.rxReplayTo with
    | some (last, _) => decide ((last - r.rxNext - 1).toNat < 2048)
    | none => false
  let r := { r with rxNext := r.rxNext + 1, ackOwed := true, rxReplayTo := if replayed then r.rxReplayTo else none }
  let s := count (setLink s l r) (0x190 + l / 8)
  ms.foldl (fun s m => if 12 ≤ m.age.toNat then
    discardOld (freeSlots s l m.vc.toNat m.slotCount) m else deliver l s m) s

/-- A frame that arrives is a wake: no sleep state is entered in its tick (R35, R590). -/
def frameWakes (s : State) : State := { s with aon := { s.aon with wakeTick := true } }

/-- A frame with a valid CRC arrives at a link (R360, R363, R364). Frames flow only on a link that is UP; one that dozes comes
back to UP (R590). -/
def receiveFrame (s : State) (l : Nat) (b : FrameBits) : State :=
  let r := link s l
  if !r.isUp then s
  else
    let s := frameWakes (setLink s l { r with st := .up, frameNs := s.clockNs })
    let r := link s l
    let h := frameHead b
    if h.type = 3 then s
    else
      let ms := readSlots h.yellow (h.type == 2) 15 0 true none (frameSlots b)
      if malformed s r h ms then onMalformed s l b
      else
        let r := applyAck { r with malformedRun := 0, lastMalformed := none } (BitVec.ofNat 12 h.ack)
        let s := setLink s l r
        if h.type = 1 then s
        else
          let d := (BitVec.ofNat 12 h.seq - r.rxNext).toNat
          if d = 0 then acceptFrame s l h (ms.getD [])
          else if 2048 ≤ d then setLink s l { r with ackOwed := true }
          else s

/-- The channels that owe credit returns, with what one frame can return of each. -/
def owing (r : LinkRec) : List (Nat × Nat) := ((List.range 16).map (fun v => (v, min 31 (r.owed.getD v 0)))).filter (fun x => 0 < x.2)

/-- The two channels whose freed slots a frame returns (R362). Which two is open: a FREE VALUE (assumption 12). -/
def returnsOf (r : LinkRec) (h1 h2 : Nat) : List (Nat × Nat) :=
  let all := owing r
  let first := (all[h1 % max 1 all.length]?).toList
  let rest := all.filter (fun x => !first.contains x)
  first ++ (rest[h2 % max 1 rest.length]?).toList

/-- Send one sequenced frame of the given messages with the credit returns due (R353 to R365). -/
def sendFrame (s : State) (l type : Nat) (ms : List Msg) : State :=
  let r := link s l
  let ret := returnsOf r (choice s 0 16) (choice s 1 16)
  let s := chosen s 2
  let a := ret.getD 0 (0, 0)
  let c := ret.getD 1 (0, 0)
  let b := buildFrame type r.txNext.toNat (r.rxNext - 1).toNat a.1 a.2 c.1 c.2 ms
  let owed := ret.foldl (fun o x => o.set x.1 (o.getD x.1 0 - x.2)) r.owed
  let r := { r with replay := r.replay ++ [⟨r.txNext, b, ms⟩], txNext := r.txNext + 1, owed := owed, ackOwed := false, st := .up, frameNs := s.clockNs }
  let s := emit (setLink s l r) (.frame (BitVec.ofNat 8 l) b (frameCrc b))
  let s := ms.foldl (fun s m =>
    let q := { s.qos with bwf := mupd s.qos.bwf m.label.toNat 0 (· + BitVec.ofNat 48 (16 * m.slotCount)) }
    let s := { s with qos := q }
    match m.rx with
    | some (f, _) => freeSlots s f.toNat (m.vc.toNat - 1) m.slotCount
    | none => s) s
  count s (0x170 + l / 8)

/-- The age of a message as it leaves: the whole units it waited in this device's receive buffer are added (R375). -/
def ageAt (s : State) (m : Msg) : Nat :=
  match m.rx with
  | some (_, t) => m.age.toNat + (s.clockNs - t) / ageUnitNs s
  | none => m.age.toNat

/-- Fill a frame from the link's scheduler in the order of R391: messages with credits that fit the slots left. -/
def fillFrame (l : Nat) (ctrlOnly : Bool) : Nat → State → Nat → List Msg → State × List Msg
  | 0, s, _, ms => (s, ms)
  | fuel + 1, s, room, ms =>
    let r := link s l
    let ok := fun (m : Msg) => (!ctrlOnly || m.isCtrl) && decide (m.slotCount ≤ room) &&
      decide (m.slotCount ≤ r.credits.getD m.vc.toNat 0) && (!m.isCtrl || ms.all (·.isCtrl))
    match wfqPick r.egress (labelRt s) Msg.isCtrl ok (fun m => ageAt s m) with
    | none => (s, ms)
    | some (x, q) =>
      let m := x.item
      let s := setLink s l { r with egress := q }
      if 12 ≤ ageAt s m then fillFrame l ctrlOnly fuel (discardOld s m) room ms
      else
        let m := { m with age := BitVec.ofNat 4 (ageAt s m) }
        let s := modLink s l (fun r => { r with credits := r.credits.set m.vc.toNat (r.credits.getD m.vc.toNat 0 - m.slotCount) })
        fillFrame l ctrlOnly fuel s (room - m.slotCount) (ms ++ [m])

/-- FRAME_SEND: a frame leaves a link that is up, DATA while fewer than 120 frames are unacknowledged and BYPASS while fewer
than 128 are (R355). With nothing eligible the transmitter sends idle fill. -/
def frameSendBody (s : State) (l : Nat) : State :=
  let r := link s l
  if !r.isUp || decide (128 ≤ r.replay.length) then s
  else
    let byp := decide (120 ≤ r.replay.length)
    let f := fillFrame l byp 15 s 15 []
    if f.2.isEmpty then f.1 else sendFrame f.1 l (if byp then 2 else 0) f.2

/-- Send every unacknowledged frame again, oldest first, with the current ack (R365). -/
def replayAll (s : State) (l : Nat) : State :=
  let r := link s l
  let s := if r.replay.isEmpty then s else setLink s l { r with ackOwed := false, frameNs := s.clockNs }
  r.replay.foldl (fun s f =>
    let b : FrameBits := (f.bits &&& ~~~ackMask) ||| (((r.rxNext - 1).setWidth 2016) <<< 38)
    emit s (.frame (BitVec.ofNat 8 l) b (frameCrc b))) s

/-- The replay timer expires (R365). -/
def replayExpiry (s : State) (l : Nat) : State :=
  let r := link s l
  if r.replay.isEmpty || !r.isUp then s
  else
    let s := count (setLink s l { r with replays := r.replays + 1, expiries := r.expiries + 1 }) (0x1B0 + l / 8)
    if r.expiries + 1 = 4 then toRetrain (linkCause s l 0x08) l else replayAll s l

/-- The NODE record of a link: used, expected node, expected peer link (R52, R66). -/
def linkExpect (s : State) (l : Nat) : Nat × Nat × Nat :=
  (s.img.restart.fld secNode (0x100 + l) 0, s.img.restart.fld secNode (0x100 + l) 1, s.img.restart.fld secNode (0x100 + l) 2)

/-- A TRAIN frame arrives: the peer is checked under R66, and the first one is answered with READY; READY gives the peer's sequence
state (R350, R351). One on a link that is UP takes it to RETRAIN (R366). -/
def trainBody (s : State) (l : Nat) (b : TrainBody) : State :=
  let s := toRetrain s l
  let r := link s l
  if r.st == .training || r.st == .retrain then
    let s := setLink s l { r with peerNode := b.node, peerLink := b.link }
    let e := linkExpect s l
    if e.1 ≠ 1 then holdLink (linkCause s l 0x04) l
    else if b.node.toNat ≠ e.2.1 ∨ b.link.toNat ≠ e.2.2 then holdLink (linkCause s l 0x03) l
    else if b.rate.toNat ≠ r.rate.toNat then holdLink (linkCause s l 0x02) l
    else
      let s := modLink s l (fun r => { r with identSeen := true, peerTrain := if b.ready then some b else r.peerTrain })
      if r.identSeen then s else sendTrain s l true
  else s

/-- A link is UP after full training: fresh sequence numbers and credits (R350, R361). A JOIN leaves on it (R324). -/
def linkComesUp (s : State) (l : Nat) : State :=
  let ps := (link s l).peerTrain.map (·.session)
  let s := modLink s l (fun r => { r.fresh with st := .up, peerSession := ps })
  let s := { s with fab := { s.fab with joinPending := s.fab.joinPending ++ [BitVec.ofNat 8 l] } }
  linksChanged s

/-- Full training ends: UP, or cause TRAIN_FAIL and a retry as from GIVEN_UP (R350, R379; DESIGN CHOICE: assumption 13). -/
def trainingDone (s : State) (l : Nat) (ok : Bool) : State :=
  let r := link s l
  if r.st != .training then s
  else if ok && r.peerTrain.isSome then linkComesUp s l
  else linksChanged (modLink (linkCause s l 0x02) l (fun r => { r with st := .givenUp }))

/-- A retrain ends within the give-up time: the link resumes and replays from the peer's rx_next, or restarts (R352, R366,
R375). -/
def retrainDone (s : State) (l units : Nat) : State :=
  let r := link s l
  if r.st != .retrain then s
  else
    let resume := match r.peerTrain with
      | some t => t.resume && r.peerSession == some t.session
      | none => false
    match r.peerTrain, resume with
    | some t, true =>
      let n := (t.rxNext - 1 - r.txAcked).toNat
      let r := if n ≤ r.replay.length then { r with replay := r.replay.drop n, txAcked := t.rxNext - 1 } else r
      let r := { r with st := .up, laser := true, retrainNs := none, expiries := 0,
                        rxReplayTo := if t.txLastValid then some (t.txLast, units) else none }
      let s := linkCause (setLink s l r) l 0x05
      linksChanged (replayAll s l)
    | pt, _ =>
      let s := dropReplay s l
      let s := modLink s l (fun r => { r.fresh with st := .up, laser := true, peerSession := pt.map (·.session) })
      linksChanged (linkCause s l 0x09)

/-- The give-up time passes in RETRAIN (R368). -/
def giveUp (s : State) (l : Nat) : State :=
  if (link s l).st != .retrain then s
  else
    let s := modLink s l (fun r => { r with st := .givenUp, retrainNs := none })
    let s := linkCause s l 0x06
    linkExcluded (requeue (dropReplay s l) l) true

/-- Does the timer of a transaction stand still: it waits for a row wake (R20) or for a retry (R369), or its first-hop link is
in RETRAIN (R367)? -/
def timerStands (s : State) (key : Nat) (tx : E2E) : Bool :=
  tx.retryWait ||
  (s.e2e.waiting.any (sameTx key (myNode s)) && rowAsleep s (tx.msg.dst.toNat / 64)) ||
  (match tx.avoidLink with
   | some l => (link s l.toNat).st == .retrain
   | none => false)

/-- Event 0x230, at most once per second (R380). -/
def noteReissue (s : State) : State :=
  if elapsed s s.fab.lastReissueNs 1000000000 then
    raise { s with fab := { s.fab with lastReissueNs := some s.clockNs } } 0x230 0
  else s

/-- Take a message of this device from the receive buffers: the first that satisfies a test. Its slots are freed (R362). Gives
the link and the message with its waiting time. -/
def takeRx (p : Msg → Bool) : NMap LinkRec → Option (Nat × RxMsg × LinkRec)
  | [] => none
  | (l, r) :: m =>
    match takeFirst (fun (x : RxMsg) => p x.msg) r.rx with
    | some (x, rest) => some (l, x, { r with rx := rest })
    | none => takeRx p m

/-- What consuming an arrival found. `demoted` is R404's DEMOTE; `old` says that the message's age has reached 12 (R375); `yellow` is
its colour (R392, R402). -/
structure Consumed where
  demoted : Bool
  old : Bool
  yellow : Bool
deriving DecidableEq, Repr

/-- Consume the arrival a row stands for: take its message from the receive buffers where it waits there (a row may stand for
an arrival that no frame row brought), and free its slots. -/
def consume (s : State) (p : Msg → Bool) : State × Consumed :=
  match takeRx p s.links with
  | none => (s, ⟨false, false, false⟩)
  | some (l, x, r) =>
    let s := freeSlots (setLink s l r) l x.msg.vc.toNat x.msg.slotCount
    if !x.msg.isCtrl ∧ 12 ≤ x.msg.age.toNat + (s.clockNs - x.atNs) / ageUnitNs s then (discardOld s x.msg, ⟨x.demoted, true, x.msg.yellow⟩)
    else (s, ⟨x.demoted, false, x.msg.yellow⟩)

/-- Consume a message by class, operation and tag. -/
def consumeTag (s : State) (cls op : Nat) (t : Tag) : State × Consumed :=
  consume s (fun m => !m.isCtrl && m.cls == cls && m.op.toNat == op && m.tag == t)

/-- Consume a CTRL message by type, operation and origin. -/
def consumeCtrl (s : State) (type opn origin : Nat) : State :=
  (consume s (fun m => m.isCtrl && m.op.toNat == type && m.ctrl % 16 == opn && m.word1.toNat / 2 ^ 52 == origin)).1

/-- ACK_ONLY_TIMER: an acknowledgement is owed and no frame has gone: an ACK frame goes (R364). -/
def ackOnly (s : State) (l : Nat) : State :=
  let r := link s l
  if r.isUp && r.ackOwed then
    let b := buildFrame 1 0 (r.rxNext - 1).toNat 0 0 0 0 []
    emit (setLink s l { r with ackOwed := false, frameNs := s.clockNs }) (.frame (BitVec.ofNat 8 l) b (frameCrc b))
  else s

/-- CREDIT_RETURN_TIMER: returns are pending and no sequenced frame has gone: a DATA frame with used 0 carries them (R362). -/
def creditReturn (s : State) (l : Nat) : State :=
  let r := link s l
  if r.isUp && !(owing r).isEmpty && decide (r.replay.length < 120) then sendFrame s l 0 [] else s

/-- LOSS_OF_SIGNAL: signal, alignment or eight uncorrectable codewords: RETRAIN (R366). The frames that overlap such codewords are counted
as they are discarded (R348). -/
def lossOfSignal (s : State) (l : Nat) (_kind : LossKind) : State :=
  match peerOf s l with
  | some (n, _) =>
    if (link s l).isUp && rowAsleep s (n / 64) then modLink s l (fun r => { r with st := .asleep, laser := false }) else toRetrain s l
  | none => toRetrain s l

/-- LIGHT_PRESENT: a dark link is trained in full, one that is ASLEEP is relit and retrains; in training it is the light that both
ends now have (R303, R350). -/
def lightPresent (s : State) (l : Nat) : State :=
  let r := link s l
  match r.st with
  | .dark => if r.hold then s else toTraining s l
  | .asleep =>
    sendTrain (setLink s l { r with st := .retrain, laser := true, wakeSince := none, retrains := r.retrains + 1,
                                    retrainNs := some s.clockNs, peerTrain := none, identSeen := false }) l false
  | .training => sendTrain s l false
  | _ => s

/-- GIVEN_UP_RETRY: every 100 ms a link that gave up tries full training (R349). -/
def givenUpRetry (s : State) (l : Nat) : State :=
  if (link s l).st == .givenUp then toTraining s l else s

/-- LINK_RESET: a link that is UP retrains with its replay buffer kept (R366, R381, R382); absorbed by a device reset (R12). -/
def linkReset (s : State) (l : Nat) : State := if s.flt.inReset then s else toRetrain s l

/-- LINK_CLEAR: the error counters are cleared (R381). -/
def linkClear (s : State) (l : Nat) : State :=
  modLink s l (fun r => { r with fecUncorrectable := 0, crcErrors := 0, retrains := 0, malformed := 0, replays := 0,
                                 fecCorrected := 0 })

/-- LINK_HOLD: 1 holds the link dark; 0 releases one held by the bit alone into full training (R381). -/
def linkHold (s : State) (l : Nat) (hold : Bool) : State :=
  let r := link s l
  if hold then
    let s := setLink s l { r with hold := true, st := .held, laser := false }
    if r.hold then s else linksChanged (requeue (dropReplay s l) l)
  else
    let s := setLink s l { r with hold := false }
    if r.hold && r.st == .held && !r.heldByCheck then toTraining s l else s

/-- LINK_RETRAIN: HELD or GIVEN_UP is released into full training; ignored while hold is 1 (R360, R381). -/
def linkRetrain (s : State) (l : Nat) : State :=
  let r := link s l
  if !r.hold && (r.st == .held || r.st == .givenUp) then toTraining s l else s

/-- FRAME_BAD_CRC: a frame with a bad CRC, or one that overlaps an uncorrectable codeword, is discarded and counted (R348,
R386). -/
def frameBadCrc (s : State) (l : Nat) (uncorrectable : Bool) : State :=
  if uncorrectable then modLink s l (fun r => { r with fecUncorrectable := r.fecUncorrectable + 1 })
  else count (modLink s l (fun r => { r with crcErrors := r.crcErrors + 1, malformedRun := 0, lastMalformed := none })) (0x1D0 + l / 8)

/-- The reissue of a transaction at its end-to-end timeout (R373), unless its timer stands still. -/
def timeoutTx (s : State) (key : Nat) : State :=
  match mget s.e2e.txs key with
  | none => s
  | some tx => if timerStands s key tx then s else noteReissue (reissue s key)

/-- TAG_QUARANTINE_END: a quarantined tag is free again (R374); tags open at a device reset wait for Memory Active. -/
def quarantineEnd (s : State) (key : Nat) : State :=
  let s := { s with e2e := { s.e2e with
    quarantined := s.e2e.quarantined.filter (fun k => k != key || (s.e2e.resetQuarantine.contains key && !s.host.memActive))
    resetQuarantine := if s.host.memActive then s.e2e.resetQuarantine.filter (· != key) else s.e2e.resetQuarantine } }
  retryNoTag s

end Sys2Proof.Machine
end

