-- ==== Sys2Proof/Machine/Page.lean ====
section
/-! DEFINITION. Window memory, page descriptors, extents, metadata and local space (03: R71 to R104; 04: R107, R118; 12: R422 to
R425). -/

namespace Sys2Proof.Machine

/-- What an unlisted byte of window memory reads as: zero, the contents of an unpopulated page (R91). -/
def memDefault : Byte := 0

/-- Read one byte of window memory. -/
def readByte (m : List Host.Cell) (a : Nat) : Byte := mgetD m a memDefault

/-- Write one byte of window memory, keeping the canonical form: a byte that an unlisted address reads as is not listed. -/
def writeByte (m : List Host.Cell) (a : Nat) (b : Byte) : List Host.Cell := if b = memDefault then mdel m a else mset m a b

/-- Write bytes at rising addresses. -/
def writeBytes : List Host.Cell → Nat → List Byte → List Host.Cell
  | m, _, [] => m
  | m, a, b :: bs => writeBytes (writeByte m a b) (a + 1) bs

/-- Read `n` bytes at rising addresses. -/
def readBytes (m : List Host.Cell) (a n : Nat) : List Byte := (List.range n).map (fun i => readByte m (a + i))

/-- Keys rise strictly and no listed byte is the one an unlisted address reads as. -/
def memSorted : List Host.Cell → Bool
  | [] => true
  | [(_, b)] => b != memDefault
  | (a, b) :: (a', b') :: m => b != memDefault && decide (a < a') && memSorted ((a', b') :: m)

/-- The canonical form of window memory. -/
abbrev Memory.wf (m : List Host.Cell) : Prop := memSorted m = true

/-- The line at a line number of this device's window (R6). -/
def readLine (s : State) (line : Nat) : Line := bytesLine (readBytes s.mem (64 * line) 64)

/-- Write a line of this device's window. -/
def writeLine (s : State) (line : Nat) (d : Line) : State := { s with mem := writeBytes s.mem (64 * line) (lineBytes d) }

/-- The 1,024 bytes of a block of this device's window. -/
def readBlock (s : State) (block : Nat) : List Byte := readBytes s.mem (1024 * block) 1024

/-- Write a block of this device's window. -/
def writeBlock (s : State) (block : Nat) (bs : List Byte) : State := { s with mem := writeBytes s.mem (1024 * block) bs }

/-- Forget the bytes of a page: they read as zeros. -/
def clearPage (s : State) (p : Nat) : State :=
  { s with mem := s.mem.filter (fun c => c.1 / 4096 != p) }

/-- Tiers of a descriptor (R82). -/
def tierNone : Nat := 0
def tierPlain : Nat := 1
def tierPacked : Nat := 2
def tierRemote : Nat := 3
def tierMoving : Nat := 4

/-- A field of a descriptor. -/
def dGet (d : Desc) (hi lo : Nat) : Nat := bits d.toNat hi lo

/-- Set a field of a descriptor. -/
def dSet (d : Desc) (hi lo v : Nat) : Desc :=
  let w := hi + 1 - lo
  let m : Desc := BitVec.ofNat 128 ((2 ^ w - 1) * 2 ^ lo)
  (d &&& ~~~m) ||| BitVec.ofNat 128 (v % 2 ^ w * 2 ^ lo)

/-- The fields of R82. -/
def dTier (d : Desc) : Nat := dGet d 127 125
def dKgen (d : Desc) : Bool := d.getLsbD 124
def dPrimer (d : Desc) : Nat := dGet d 123 118
def dMirror (d : Desc) : Bool := d.getLsbD 117
def dInteg (d : Desc) : Bool := d.getLsbD 116
def dPin (d : Desc) : Bool := d.getLsbD 115
def dPoison (d : Desc) : Bool := d.getLsbD 114
def dBlens (d : Desc) : Nat := dGet d 103 84
def dLoc (d : Desc) : Nat := dGet d 83 46
def dNode (d : Desc) : Nat := dGet d 45 34
def dVers (d : Desc) : Nat := dGet d 33 18

/-- The BLEN of a block (R82, R83). -/
def dBlen (d : Desc) (b : Nat) : Nat := dBlens d / 32 ^ b % 32

/-- The pods of a page: the sum of its BLEN values (R83, R85). -/
def dPods (d : Desc) : Nat := dBlen d 0 + dBlen d 1 + dBlen d 2 + dBlen d 3

/-- The first pod of a block (R85). -/
def dBlockLoc (d : Desc) (b : Nat) : Nat := dLoc d + ((List.range b).map (dBlen d)).sum

/-- Does the descriptor name its primer slot: a Packed, Remote or Moving page with a compressed block (R86)? -/
def dNamesPrimer (d : Desc) : Bool :=
  decide (2 ≤ dTier d) && decide (dTier d ≤ 4) && (List.range 4).any (fun b => decide (1 ≤ dBlen d b) && decide (dBlen d b ≤ 15))

/-- Build a descriptor (R82). -/
def mkDesc (tier : Nat) (kgen : Bool) (primer : Nat) (mirror integ pin poison : Bool) (blens loc node vers : Nat) : Desc :=
  BitVec.ofNat 128 (packF [(18, 0), (16, vers), (12, node), (38, loc), (20, blens), (10, 0), (1, b2n poison), (1, b2n pin),
    (1, b2n integ), (1, b2n mirror), (6, primer), (1, b2n kgen), (3, tier)])

/-- The BLEN field of four block lengths. -/
def packBlens (bs : List Nat) : Nat := packF (bs.map (fun b => (5, b)))

/-- A page with nothing in its tables. -/
def Page.zero : Page := ⟨0, 0, 0, 0, false⟩

/-- The tables of a page (R80). -/
def page (s : State) (p : Nat) : Page := mgetD s.chd.pages p Page.zero

/-- Set the tables of a page; a page whose tables are all zero is not listed. -/
def setPage (s : State) (p : Nat) (x : Page) : State :=
  { s with chd := { s.chd with pages := if x = Page.zero then mdel s.chd.pages p else mset s.chd.pages p x } }

/-- Change the tables of a page. -/
def modPage (s : State) (p : Nat) (f : Page → Page) : State := setPage s p (f (page s p))

/-- The accepted extent, own or shared, that holds a 2 MiB unit of the window. -/
def extentAt (s : State) (unit : Nat) : Option (Nat × Extent) :=
  s.chd.extents.find? (fun e => e.2.state == .accepted && decide (e.2.dpa2m ≤ unit) && decide (unit < e.2.dpa2m + e.2.len2m))

/-- The accepted extent that holds a byte offset. -/
def extentOf (s : State) (dpa : Nat) : Option (Nat × Extent) := extentAt s (dpa / 2097152)

/-- The extent that holds a 2 MiB unit for requests that were taken: an accepted one, or one whose release waits for them (R99). -/
def extentTaken (s : State) (unit : Nat) : Option (Nat × Extent) :=
  s.chd.extents.find? (fun e => (e.2.state == .accepted || e.2.state == .releasing) && decide (e.2.dpa2m ≤ unit) &&
    decide (unit < e.2.dpa2m + e.2.len2m))

/-- The extent that holds a page. -/
def extentOfPage (s : State) (p : Nat) : Option (Nat × Extent) := extentTaken s (p / 512)

/-- The attributes of the extent that holds a page, or those of no extent. -/
def attrsOf (s : State) (p : Nat) : Attrs :=
  match extentOfPage s p with
  | some (_, e) => e.attrs
  | none => ⟨14, 0, false, 0, 0⟩

/-- A field of the policy of a page: policy fields from its policy, global ones from policy 0 (R139). -/
def policyFld (s : State) (policy f : Nat) : Nat := s.img.active.fld secPolicy (if f < 9 then policy else 0) f
def pagePolicy (s : State) (p f : Nat) : Nat := policyFld s (attrsOf s p).policy f
def globalPolicy (s : State) (f : Nat) : Nat := policyFld s 0 f

/-- mix64 of R107. -/
def mix64 (x : BitVec 64) : BitVec 64 :=
  let x := (x ^^^ (x >>> 33)) * 0xFF51AFD7ED558CCD
  let x := (x ^^^ (x >>> 33)) * 0xC4CEB9FE1A85EC53
  x ^^^ (x >>> 33)

/-- Capacity of one channel in GiB, K (R422): its DIMM records. -/
def channelGib (s : State) (c : Nat) : Nat :=
  let i := s.img.restart
  ((i.dimmRec (2 * c)).map (fun r => r.getD 1 0)).getD 0 + ((i.dimmRec (2 * c + 1)).map (fun r => r.getD 1 0)).getD 0

/-- The interleave set: channels with DIMM records, ascending (R422). -/
def interleaveSet (s : State) : List Nat := (List.range 12).filter (fun c => channelGib s c != 0)

/-- log2 of the granule (R422, R440). -/
def granuleLog (s : State) : Nat := s.img.restart.fld secMem 0 0

/-- Does a channel take no data: excluded, fenced or off for good (R425)? -/
def channelOut (s : State) (c : Nat) : Bool := (ctl s c).st == .excluded || (ctl s c).st == .fenced

/-- The channel of a DDR-5 physical address (R422). -/
def paChannel (s : State) (pa : Nat) : Nat :=
  let set := interleaveSet s
  set.getD (pa / 2 ^ granuleLog s % max 1 set.length) 0

/-- The channel address of a physical address (R422). -/
def paChannelAddr (s : State) (pa : Nat) : Nat :=
  let g := 2 ^ granuleLog s
  pa / g / max 1 (interleaveSet s).length * g + pa % g

/-- Frames of DDR-5 physical space, P x 2^18 (R118, R422): channels out of service do not count. -/
def framesP (s : State) : Nat := (((interleaveSet s).filter (fun c => !channelOut s c)).map (channelGib s)).sum * 262144

/-- All frames of the physical address space, whatever the channels' state. -/
def framesAll (s : State) : Nat := ((interleaveSet s).map (channelGib s)).sum * 262144

/-- Metadata bytes of an extent: 25 B per page, 57 B with tag tables; none for a shared extent (R77, R80). -/
def extentMeta (e : Extent) : Nat := if e.shared.isSome then 0 else e.len2m * 512 * (if e.tagTables then 57 else 25)

/-- Bytes of metadata that a reservation for copies of another device's pages takes: a 16-byte descriptor per page (R170). -/
def copyMeta (units : Nat) : Nat := units * 512 * 16

/-- 2 MiB units whose copies this device has reserved metadata for (R97, R664). -/
def copyUnits (s : State) : Nat := (s.chd.buddyOf.map (fun b => (b.2.reserved.map (·.2)).sum)).sum

/-- The 256 MiB areas that spill copies of the rings take, in MiB (R166). -/
def spillMib (s : State) : Nat :=
  256 * (b2n (s.chd.ring0.spill || s.chd.ring0.spillBuilding) + b2n (s.chd.ring1.spill || s.chd.ring1.spillBuilding))

/-- The metadata store in use, in MiB: the extents' tables, the descriptors of copies held as buddy, the cold ledger and the spill
copies (R80, R102, R118, R141, R166, R170). -/
def metaMib (s : State) : Nat :=
  ceilDiv ((s.chd.extents.map (fun e => extentMeta e.2)).sum + copyMeta (copyUnits s)) 1048576 + s.chd.ledgerMib + spillMib s

/-- Frames in use by Plain pages, and by arenas (R118). -/
def segFrames (s : State) (u : SegUse) : Nat := ((s.chd.segs.filter (fun g => g.use == u)).map (·.count)).sum

/-- Lent-out, in frames (R118). -/
def lentFrames (s : State) : Nat := ((s.fab.lent.map (fun l => l.2.sizeGib)).sum) * 262144

/-- Buddy: frames and arenas that hold copies of another device's Mirrored pages (R118, R170). -/
def buddyFrames (s : State) : Nat := segFrames s .buddy + segFrames s .buddyArena

/-- Data space D in frames (R118). -/
def framesD (s : State) : Nat := framesP s - metaMib s * 256

/-- The Plain reserve F in frames (R118). -/
def framesF (s : State) : Nat :=
  framesD s - segFrames s .plain - segFrames s .arena - lentFrames s - buddyFrames s

/-- The watermarks of R118, in whole frames. -/
def reserveHigh (s : State) : Nat := framesD s * globalPolicy s 12 / 100
def reserveLow (s : State) : Nat := framesD s * globalPolicy s 11 / 100
def plainCap (s : State) : Nat := framesD s * globalPolicy s 10 / 100
def lendCap (s : State) : Nat := framesD s * globalPolicy s 13 / 100
def pinCap (s : State) : Nat := framesD s * globalPolicy s 14 / 100

/-- The reserve band that F gives; 3 while a write has waited for space for 10 ms (R118, R127). -/
def spaceBand (s : State) : Nat := if reserveHigh s ≤ framesF s then 0 else if reserveLow s ≤ framesF s then 1 else 2
def reserveBand (s : State) : Nat := if s.chd.reserveState == 3 then 3 else spaceBand s

/-- Recompute CHD_STATUS.reserve_state after a change of F or D; entry to band 2 raises event 0x1E4 (R118). It has no value before
step 0x20 has ended (R146). -/
def reserveChanged (s : State) : State :=
  if s.chd.reserveState == 3 || !s.boot.ended.contains 0x20 then s
  else
    let b := reserveBand s
    let was := s.chd.reserveState.toNat
    let s := { s with chd := { s.chd with reserveState := BitVec.ofNat 3 b } }
    if b = 2 ∧ was ≠ 2 then raise s 0x1E4 0 else s

/-- Does a frame lie in an allocated run? -/
def frameUsed (s : State) (f : Nat) : Bool := s.chd.segs.any (fun g => decide (g.start ≤ f) && decide (f < g.start + g.count))

/-- Is a frame free and on a channel in service (R425)? -/
def frameFree (s : State) (f : Nat) : Bool := !frameUsed s f && !channelOut s (paChannel s (4096 * f))

/-- A free frame, when F leaves room for one. Which one is open: a FREE VALUE (assumption 14). -/
def findFrame (s : State) : Option Nat :=
  if framesF s = 0 then none
  else firstRound (frameFree s) 0 (framesAll s) (choice s 0 (framesAll s)) (13 * ((s.chd.segs.map (·.count)).sum + 1))

/-- Allocate a frame for a Plain page, or for a Plain copy held as buddy. -/
def allocFrameFor (s : State) (use : SegUse) : Option (Nat × State) :=
  (findFrame s).map (fun f => (f, reserveChanged { chosen s 1 with chd := { s.chd with segs := ⟨f, 1, use⟩ :: s.chd.segs } }))
def allocFrame (s : State) : Option (Nat × State) := allocFrameFor s .plain

/-- Free the frame of a Plain page, or of a Plain copy. -/
def freeFrameOf (s : State) (use : SegUse) (f : Nat) : State :=
  reserveChanged { s with chd := { s.chd with segs := s.chd.segs.filter (fun g => !(g.use == use && g.start == f)) } }
def freeFrame (s : State) (f : Nat) : State := freeFrameOf s .plain f

/-- Do `n` pods from `a` overlap an allocated range? -/
def podsOverlap (rs : List (Nat × Nat)) (a n : Nat) : Bool := rs.any (fun r => decide (a < r.1 + r.2) && decide (r.1 < a + n))

/-- A start of `n` free pods of one arena, of `cap` pods from `base`: the first, counted round from `base + h`, of `base + h`, the
arena's start and the ends of ranges that fits. -/
def fitPods (rs : List (Nat × Nat)) (base cap n h : Nat) : Option Nat :=
  let far := fun (a : Nat) => (a + cap - (base + h)) % max 1 cap
  bestOf (fun a b => decide (far a < far b)) (((base + h) :: base :: rs.map (fun r => r.1 + r.2)).filter
    (fun a => decide (base ≤ a) && decide (a + n ≤ base + cap) && !podsOverlap rs a n))

/-- Does a run of pods avoid the channels out of service (R425)? -/
def podsInService (s : State) (a n : Nat) : Bool :=
  (List.range (n / 64 + 2)).all (fun i => decide (a / 64 + i > (a + n - 1) / 64) || !channelOut s (paChannel s (4096 * (a / 64 + i))))

/-- Allocate `n` pods that lie in one arena of 32,768 pods for pages or for copies, opening a new arena where none of `ok` has room
(R85, R118, R150). Which pods and which arena is open: FREE VALUES (assumption 14). -/
def allocPodsFor (s : State) (use : SegUse) (ok : Nat → Bool) (n : Nat) : Option (Nat × State) :=
  if n = 0 then some (0, s)
  else
    let arenas := ((s.chd.segs.filter (fun g => g.use == use)).map (fun g => g.start * 64)).filter (fun b => ok (b / 32768))
    let take := fun (s : State) (a : Nat) => (a, reserveChanged { chosen s 3 with chd := { s.chd with pods := (a, n) :: s.chd.pods } })
    let fits := (arenas.filterMap (fun b => fitPods s.chd.pods b 32768 n (choice s 0 32768))).filter (fun a => podsInService s a n)
    match fits[choice s 1 fits.length]? with
    | some a => some (take s a)
    | none =>
      if framesF s < 512 then none
      else
        match firstRound (fun k => (List.range 512).all (fun i => !frameUsed s (512 * k + i)) && podsInService s (32768 * k) n) 0
            (framesAll s / 512) (choice s 2 (framesAll s / 512)) (13 * (s.chd.segs.length + 1)) with
        | none => none
        | some k =>
          some (take { s with chd := { s.chd with segs := ⟨512 * k, 512, use⟩ :: s.chd.segs } } (32768 * k))

/-- Pods for a Packed page, in any arena; in an arena other than one (R150); in one arena where it has room, else in another
(R663). -/
def allocPods (s : State) (n : Nat) : Option (Nat × State) := allocPodsFor s .arena (fun _ => true) n
def allocPodsApart (s : State) (arena n : Nat) : Option (Nat × State) := allocPodsFor s .arena (fun a => a != arena) n
def allocPodsNear (s : State) (arena n : Nat) : Option (Nat × State) :=
  match (fitPods s.chd.pods (32768 * arena) 32768 n (choice s 0 32768)).filter (fun a => podsInService s a n) with
  | some a => if n = 0 then some (0, s)
    else some (a, reserveChanged { chosen s 1 with chd := { s.chd with pods := (a, n) :: s.chd.pods } })
  | none => allocPods s n

/-- Free pods; an arena left empty gives its frames back. -/
def freePods (s : State) (a n : Nat) : State :=
  if n = 0 then s
  else
    let pods := s.chd.pods.filter (fun r => !(r.1 == a && r.2 == n))
    let segs := s.chd.segs.filter (fun g => !((g.use == .arena || g.use == .buddyArena) && !podsOverlap pods (g.start * 64) 32768))
    reserveChanged { s with chd := { s.chd with pods := pods, segs := segs } }

/-- Shrink an allocation of pods to its first `n`. -/
def trimPods (s : State) (a old n : Nat) : State :=
  if old = n then s
  else if n = 0 then freePods s a old
  else reserveChanged { s with chd := { s.chd with pods := s.chd.pods.map (fun r => if r.1 == a && r.2 == old then (a, n) else r) } }

/-- Free what a descriptor's local storage takes, given the tier its storage has. -/
def freeLocal (s : State) (tier : Nat) (d : Desc) : State :=
  if tier = tierPlain then freeFrame s (dLoc d) else if tier = tierPacked then freePods s (dLoc d) (dPods d) else s

/-- The tier a page is served from: a Moving page from its source (R84). -/
def servingTier (s : State) (p : Nat) : Nat :=
  let t := dTier (page s p).desc
  if t = tierMoving then (match mget s.chd.migs p with | some m => dTier m.src | none => tierNone) else t

/-- The rules of R90 for a descriptor of a page; those of a Moving one are its source tier's (R84). -/
def descInvalid (s : State) (p : Nat) (d : Desc) : Bool :=
  let t := if dTier d = tierMoving then servingTier s p else dTier d
  decide (5 ≤ t) || dGet d 113 104 != 0 || dGet d 17 0 != 0 ||
    (List.range 4).any (fun b => decide (17 ≤ dBlen d b)) ||
    (t == tierPlain && (dBlens d != 0 || decide (framesAll s ≤ dLoc d))) ||
    (t == tierPacked && decide (framesAll s * 64 < dLoc d + dPods d)) ||
    (t == tierRemote && (dNode d == myNode s ||
      decide ((match mget s.chd.borrows (dNode d) with | some b => b.sizeGib | none => 0) * 16777216 < dLoc d + dPods d)))

/-- Is a line of this device's window poisoned? -/
def linePoisoned (s : State) (line : Nat) : Bool := (page s (line / 64)).poison.getLsbD (line % 64)

/-- The key domain's record: integ and key_source (R44). -/
def domainInteg (s : State) (d : Nat) : Bool := s.img.active.fld secDomains d 0 == 1
def domainSource (s : State) (d : Nat) : Nat := s.img.active.fld secDomains d 1

/-- A key domain's entry in the key store (R232). -/
def DomKeys.zero : DomKeys := ⟨false, none, none, none, none, 0⟩
def domKeys (s : State) (d : Nat) : DomKeys := mgetD s.xts.domains d DomKeys.zero
def setDom (s : State) (d : Nat) (k : DomKeys) : State := { s with xts := { s.xts with domains := mset s.xts.domains d k } }

/-- The owner, the extent index and the page index of a copy's key. -/
def copyOwner (k : Nat) : Nat := k / 2 ^ 44
def copyExt (k : Nat) : Nat := k / 2 ^ 28 % 2 ^ 16
def copyPg (k : Nat) : Nat := k % 2 ^ 28

/-- The page number at its owner of a copy, and its owner's key domain (R170, R230). -/
def copyPageNo (k : Nat) : Nat := Config.extentBase (copyOwner k) (copyExt k) * 512 + copyPg k
def copyDomain (k : Nat) : Nat := Config.copyDomain (copyOwner k) (copyExt k)

/-- The keys under which a page is encrypted: its domain's generation that KGEN names (R89). -/
def pageKeys (s : State) (domain : Nat) (kgen : Bool) : KeySet :=
  let k := domKeys s domain
  let g := if k.current == kgen then k.cur else k.old
  g.getD (Config.keyValues 0)

/-- The current KGEN of a domain (R89). -/
def currentKgen (s : State) (domain : Nat) : Bool := (domKeys s domain).current

end Sys2Proof.Machine
end

