-- ==== Sys2Proof/Machine/Journal.lean ====
section
/-! DEFINITION. The journal (05: R158 to R166), descriptor changes under it (R162), the translation cache's dirty lines (R92),
and the heat bytes, cold ledger and candidate queues of the placement engine (04: R105 to R117). -/

namespace Sys2Proof.Machine

/-- Journal record types (R161). -/
def recMigOpen : Nat := 1
def recMigCommit : Nat := 2
def recMigAbort : Nat := 3
def recDescSet : Nat := 4
def recFree : Nat := 5
def recFreeDone : Nat := 6
def recExtentAdd : Nat := 7
def recExtentRelease : Nat := 8
def recEpoch : Nat := 9
def recMirrorMark : Nat := 10
def recCheckpoint : Nat := 11
def recImage : Nat := 12
def recOwner : Nat := 13

/-- The page hash H (R108). -/
def pageHash (p : Nat) : Nat := (mix64 (BitVec.ofNat 64 p)).toNat

/-- The ring of a page's records (R158). -/
def pageRing (p : Nat) : Nat := bits (pageHash p) 12 12

/-- A ring. -/
def ring (s : State) (r : Nat) : Ring := if r = 0 then s.chd.ring0 else s.chd.ring1

/-- Replace a ring. -/
def setRing (s : State) (r : Nat) (x : Ring) : State :=
  if r = 0 then { s with chd := { s.chd with ring0 := x } } else { s with chd := { s.chd with ring1 := x } }

/-- Size of an RLD area on each stack, in MiB (R44, R47). -/
def rldAreaMib (s : State) (area : Nat) : Nat := s.img.restart.fld secRld area 1

/-- Slots of a ring: each stack of its pair holds one copy, in its journal area (R47, R158). -/
def ringSlots (s : State) : Nat := rldAreaMib s 3 * 16384

/-- Free slots of a ring: those before its tail may be reused (R163). -/
def ringFree (s : State) (r : Nat) : Nat := ringSlots s - ((ring s r).nextSeq - (ring s r).tail)

/-- Free slots of the fuller ring, and the space state of R185. -/
def spaceOf (n : Nat) : Nat := if n < 65536 then 2 else if n < 262144 then 1 else 0
def freeMin (s : State) : Nat := min (ringFree s 0) (ringFree s 1)
def spaceState (s : State) : Nat := spaceOf (freeMin s)

/-- The 64 bytes of a record, little-endian, with a value in its crc field (R160). -/
def recBytes (x : JRec) (crc : Nat) : List Nat :=
  let n := packF [(8, x.type.toNat), (8, x.kind.toNat), (16, 0), (32, crc), (64, x.seq), (64, x.ref), (16, x.extent.toNat),
    (16, x.count.toNat), (32, x.page.toNat), (128, x.descA.toNat), (128, x.descB.toNat)]
  (List.range 64).map (fun i => n / 256 ^ i % 256)

/-- The CRC-32 of a record over its bytes with the crc field taken as 0 (R160). -/
def recCrc (x : JRec) : BitVec 32 := BitVec.ofNat 32 (crc32 (recBytes x 0))

/-- The stack that holds copy `c` of a ring (R47, R158): ring r is on stacks r and r XOR 2. -/
def copyStack (r c : Nat) : Nat := if c = 0 then r else Nat.xor r 2

/-- Is a record durable in a copy of its ring: on its stack, or in the spill that takes the lost stack's place (R158, R166)? -/
def copyHolds (g : Ring) (c seq : Nat) : Bool :=
  !g.lost.contains c || ((g.spill || g.spillBuilding) && g.lost.head? == some c && decide (g.spillFrom ≤ seq))

/-- Write a record to a ring: it is durable when both copies are in the RLD write queues, or the spill holds one (R158).
Event 0x1F2 when the free slots of the ring fall below 262,144 (R164). -/
def jwrite (s : State) (r : Nat) (x : JRec) : State :=
  let before := spaceOf (ringFree s r)
  let g := ring s r
  let x := { x with seq := g.nextSeq }
  let s := setRing s r { g with
    recs := { x with crc := recCrc x } :: g.recs
    nextSeq := g.nextSeq + 1
    firstAfterNs := (match g.firstAfterNs with | some t => some t | none => some s.clockNs) }
  if before = 0 ∧ spaceOf (ringFree s r) ≠ 0 then raise s 0x1F2 0 else s

/-- A record with no page. -/
def plainRec (type : Nat) (a b : BitVec 128) : JRec := ⟨BitVec.ofNat 8 type, 0, 0, 0, 0, 0, 0, a, b, 0, none⟩

/-- A page's record: extent index and page index (R160). -/
def pageRec (s : State) (p type kind ref cnt : Nat) (a b : BitVec 128) : JRec :=
  let e := extentOfPage s p
  { type := BitVec.ofNat 8 type
    kind := BitVec.ofNat 8 kind
    seq := 0
    ref := ref
    extent := BitVec.ofNat 16 ((e.map (·.2.mext)).getD 0)
    count := BitVec.ofNat 16 cnt
    page := BitVec.ofNat 28 (match e with | some x => p - x.2.mbase * 512 | none => 0)
    descA := a
    descB := b
    crc := 0
    forOwner := none }

/-- Journal a page's record on its ring. -/
def jpage (s : State) (p type kind ref cnt : Nat) (a b : BitVec 128) : State :=
  jwrite s (pageRing p) (pageRec s p type kind ref cnt a b)

/-- The sequence number the next record of a page's ring takes. -/
def nextSeqOf (s : State) (p : Nat) : Nat := (ring s (pageRing p)).nextSeq

/-! ### The translation cache (R92) -/

/-- Sets of the translation cache: 16 lines of 64 B each, in its area on every stack. -/
def tcSets (s : State) : Nat := max 1 (4 * rldAreaMib s 2 * 16384 / 16)

/-- The set of a line, and the stack that holds it. Which line goes to which set and stack is open: DESIGN CHOICE (log 126). -/
def tcSet (s : State) (q : Nat) : Nat := q % tcSets s
def tcStack (s : State) (q : Nat) : Nat := tcSet s q % 4

/-- The line of the descriptor table that holds four pages' descriptors, as a DDR-5 address (R80); where the metadata store lies is
open: Config.tableLine. -/
def tableAddr (s : State) (q : Nat) : Nat := 64 * (Config.tableLine q % max 1 (framesAll s * 64))

/-- A transfer of metadata through the META port, under label 14 (R92). -/
def metaPort (s : State) (write : Bool) (pa : Nat) (data : Option Line) : State :=
  memPush s (paChannel s pa) .metaData 14 14 write .metadata (paChannelAddr s pa) 64 data

/-- The four descriptors of a line, as the cache has them, and as 64 bytes. -/
def tcDescs (s : State) (q : Nat) : List Desc := (List.range 4).map (fun i => (page s (4 * q + i)).desc)
def descLine (ds : List Desc) : Line := BitVec.ofNat 512 (packF (ds.map (fun d => (128, d.toNat))))

/-- A dirty line enters the DDR-5 write queue; a clean one stays as it is. -/
def tcClean (s : State) (q : Nat) : State :=
  match mget s.chd.tc q with
  | none => s
  | some l =>
    if l.dirtyNs.isNone then s
    else
      let s := metaPort s true (tableAddr s q) (some (descLine (tcDescs s q)))
      { s with chd := { s.chd with tc := mset s.chd.tc q TcLine.clean } }

/-- A full set gives up a line, a dirty one with its write-back. Which line is open: a FREE VALUE (assumption 14). -/
def tcEvict (s : State) (set : Nat) : State :=
  let ls := ((s.chd.tc.filter (fun x => tcSet s x.1 == set)).map (·.1))
  if ls.length < 16 then s
  else
    let q := ls.getD (choice s 0 ls.length) 0
    let s := tcClean (chosen s 1) q
    { s with chd := { s.chd with tc := mdel s.chd.tc q } }

/-- A line is in the cache: a miss fetches it through the META port. -/
def tcFetch (s : State) (q : Nat) : State :=
  if mhas s.chd.tc q then s
  else
    let s := metaPort (tcEvict s (tcSet s q)) false (tableAddr s q) none
    { s with chd := { s.chd with tc := mset s.chd.tc q TcLine.clean } }

/-- The line of a page is dirty from the record just written on (R92, R163). -/
def markDirty (s : State) (p : Nat) (before : List Desc) : State :=
  let q := p / 4
  let s := tcFetch s q
  let r := pageRing p
  let seq := nextSeqOf s p - 1
  let note := fun (k : Nat) (o : Option Nat) => if r = k then some (o.getD seq) else o
  { s with chd := { s.chd with tc := mmod s.chd.tc q (fun l => { l with
      dirtyNs := some (l.dirtyNs.getD s.clockNs)
      seq0 := note 0 l.seq0
      seq1 := note 1 l.seq1
      stored := if l.dirtyNs.isSome then l.stored else before }) } }

/-- Change a page's descriptor after its record is durable (R162). -/
def putDesc (s : State) (p : Nat) (d : Desc) : State :=
  let before := tcDescs s (p / 4)
  markDirty (modPage s p (fun x => { x with desc := d })) p before

/-- A DESC_SET and its change (R161, R162). -/
def descSet (s : State) (p : Nat) (d : Desc) : State := putDesc (jpage s p recDescSet 0 0 0 d 0) p d

/-- Set or clear poison bits of a page; a change of POISON is a descriptor change under journal (R87, R161). -/
def poisonMask (s : State) (p : Nat) (mask : BitVec 64) : State :=
  let x := page s p
  let d := dSet x.desc 114 114 (b2n (mask != 0))
  let s := setPage s p { x with poison := mask }
  if d = x.desc then s else descSet s p d

/-- Poison one line, or a block's lines, of a page of this device. -/
def poisonOne (s : State) (line : Nat) : State :=
  poisonMask s (line / 64) ((page s (line / 64)).poison ||| ((1 : BitVec 64) <<< (line % 64)))
def poisonBlock (s : State) (block : Nat) : State :=
  poisonMask s (block / 4) ((page s (block / 4)).poison ||| ((0xFFFF : BitVec 64) <<< (16 * (block % 4))))

/-- Clear the poison of one line. -/
def cleanOne (s : State) (line : Nat) : State :=
  poisonMask s (line / 64) ((page s (line / 64)).poison &&& ~~~((1 : BitVec 64) <<< (line % 64)))

/-- Fence a page under R90: every line poisoned, never moved again; the change is journaled (R161, R162). -/
def fencePage (s : State) (p : Nat) : State :=
  let x := page s p
  let s := setPage s p { x with poison := BitVec.allOnes 64, fenced := true }
  let s := descSet s p (dSet x.desc 114 114 1)
  { s with chd := { s.chd with ledger := mdel s.chd.ledger p } }

/-- A descriptor is fetched, through the translation cache (R92): an invalid one poisons and fences its page and raises event 0x1E2
(R90). -/
def fetchDesc (s : State) (p : Nat) : State :=
  let s := tcFetch s (p / 4)
  if descInvalid s p (page s p).desc && !(page s p).fenced then
    raiseP (fencePage s p) 0x1E2 0 (.page (BitVec.ofNat 36 p)) 0
  else s

/-- Is a FREE record still without its FREE_DONE? -/
def freeOpen (g : Ring) (x : JRec) : Bool :=
  x.type.toNat == recFree && !(g.recs.any (fun y => y.type.toNat == recFreeDone && y.ref == x.seq))

/-- Is a MIG_OPEN record without its MIG_COMMIT or MIG_ABORT? -/
def migOpen (g : Ring) (x : JRec) : Bool :=
  x.type.toNat == recMigOpen &&
    !(g.recs.any (fun y => (y.type.toNat == recMigCommit || y.type.toNat == recMigAbort) && y.ref == x.seq))

/-- Is a record the oldest whose change a line of the translation cache has not written back? -/
def tcNeeds (s : State) (r seq : Nat) : Bool := s.chd.tc.any (fun q => (if r = 0 then q.2.seq0 else q.2.seq1) == some seq)

/-- Is a record needed under the first four items of R163? A FREE whose BlkFree waits in the deferred-free list is not. An abort's descriptor is its MIG_OPEN's, which stays as long. -/
def recNeeded (s : State) (r : Nat) (x : JRec) : Bool :=
  (freeOpen (ring s r) x && !(s.chd.deferred.any (fun d => d.ring == r && d.freeSeq == x.seq))) ||
    migOpen (ring s r) x || tcNeeds s r x.seq ||
    (x.type.toNat == recMigOpen && (ring s r).recs.any (fun y => y.type.toNat == recMigAbort && y.ref == x.seq && tcNeeds s r y.seq)) ||
    (decide (r = 0) && s.chd.extPending.contains x.seq)

/-- Is a record the latest of its kind in the ring: EPOCH, MIRROR_MARK, IMAGE, OWNER per region, or the EXTENT_RELEASE of a
release that has not ended (R163)? -/
def latestKept (s : State) (g : Ring) (x : JRec) : Bool :=
  let t := x.type.toNat
  if t = recEpoch ∨ t = recMirrorMark ∨ t = recImage then
    (g.recs.find? (fun y => y.type == x.type)) == some x
  else if t = recOwner then
    (List.range 8).any (fun i => nbit x.descB.toNat i &&
      (g.recs.find? (fun y => y.type == x.type && bits y.descA.toNat 11 0 == bits x.descA.toNat 11 0 && nbit y.descB.toNat i)) == some x)
  else if t = recExtentRelease then
    (match mget s.chd.extents x.extent.toNat with
     | some e => e.state == .releasing
     | none => false) && (g.recs.find? (fun y => y.type == x.type && y.extent == x.extent)) == some x
  else false

/-- The changed entries of the extent table are written to the metadata store (R163): at the checkpoint that follows them, log
126. -/
def writeExtents (s : State) : State :=
  let n := s.chd.extPending.length
  let s := (List.range n).foldl (fun s i => metaPort s true (64 * (Config.tableLine (2 ^ 34 + i) % max 1 (framesAll s * 64))) none) s
  { s with chd := { s.chd with extPending := [] } }

/-- CHECKPOINT: records needed only under the last two items of R163 are copied to the ring's head; the record's ref is the
oldest record still needed, and slots before it may be reused. A ring without a record since the last gets none. -/
def checkpointRing (s : State) (r : Nat) : State :=
  let g := ring s r
  match g.firstAfterNs with
  | none => s
  | some _ =>
    let keep := g.recs.filter (recNeeded s r)
    let copies := (g.recs.filter (fun x => latestKept s g x && !recNeeded s r x)).reverse
    let s := copies.foldl (fun s x => jwrite s r x) s
    let g' := ring s r
    let kept := keep.map (·.seq) ++ (List.range copies.length).map (g.nextSeq + ·)
    let own := g'.nextSeq
    let ref := (bestOf (fun a b => decide (a < b)) kept).getD own
    let s := jwrite s r { plainRec recCheckpoint 0 0 with ref := ref }
    let g'' := ring s r
    let s := setRing s r { g'' with
      recs := g''.recs.filter (fun x => decide (ref ≤ x.seq))
      tail := ref
      lastCheckpoint := own
      firstAfterNs := none }
    if r = 0 then writeExtents s else s

/-- Has the cleaner a line to write back (R92): dirty for 100 ms, or its oldest unwritten change 1,048,576 or more records behind its
ring's newest? -/
def cleanerDue (s : State) (l : TcLine) : Bool :=
  let far := fun (r : Nat) (o : Option Nat) => match o with
    | some q => decide (q + 1048576 ≤ (ring s r).nextSeq - 1)
    | none => false
  match l.dirtyNs with
  | some t => decide (t + 100000000 ≤ s.clockNs) || far 0 l.seq0 || far 1 l.seq1
  | none => false

/-- TRANSLATION_WRITEBACK: the background cleaner reaches a line (R92). -/
def translationWriteback (s : State) (quad : Nat) : State :=
  match mget s.chd.tc quad with
  | some l => if cleanerDue s l then tcClean s quad else s
  | none => s

/-- The descriptor that a ring's records leave a page with, where they name it: the latest one that sets it (R161, R165). -/
def journalDesc (recs : List JRec) (ext pg : Nat) : Option Desc :=
  let mine := recs.filter (fun x => x.extent.toNat == ext && x.page.toNat == pg && x.forOwner.isNone)
  match mine.find? (fun x => x.type.toNat == recMigOpen || x.type.toNat == recMigCommit || x.type.toNat == recMigAbort ||
      x.type.toNat == recDescSet) with
  | none => none
  | some x =>
    let t := x.type.toNat
    if t = recMigOpen then some (dSet x.descA 127 125 tierMoving)
    else if t = recMigAbort then (mine.find? (fun y => y.type.toNat == recMigOpen && y.seq == x.ref)).map (·.descA)
    else some x.descA

/-- The descriptor of a page rebuilt from the DDR-5 copy and the journal (R92). -/
def rebuiltDesc (s : State) (l : TcLine) (p : Nat) : Desc :=
  let r := pageRec s p recDescSet 0 0 0 0 0
  match journalDesc (ring s (pageRing p)).recs r.extent.toNat r.page.toNat with
  | some d => d
  | none => if l.dirtyNs.isSome then l.stored.getD (p % 4) 0 else (page s p).desc

/-- Lines of the translation cache are lost: a dirty one is rebuilt from the journal, a clean one is fetched again (R92, R459). -/
def tcRebuild (s : State) (lost : NMap TcLine) : State :=
  let s := lost.foldl (fun s x => (List.range 4).foldl (fun s i =>
    let p := 4 * x.1 + i
    modPage s p (fun y => { y with desc := rebuiltDesc s x.2 p })) s) s
  lost.foldl (fun s x =>
    let s := if x.2.dirtyNs.isSome then metaPort s true (tableAddr s x.1) (some (descLine (tcDescs s x.1))) else s
    { s with chd := { s.chd with tc := mdel s.chd.tc x.1 } }) s

/-- The lines of the translation cache on a lost stack. -/
def tcLost (s : State) (stack : Nat) : State := tcRebuild s (s.chd.tc.filter (fun x => tcStack s x.1 == stack))

/-- The line of the translation cache at a place of a stack's area: the ways of a set one after another (log 126). -/
def tcLineLost (s : State) (stack off : Nat) : State :=
  tcRebuild s ((s.chd.tc.filter (fun x => tcSet s x.1 == 4 * (off / 16) + stack)).drop (off % 16) |>.take 1)

/-- A stack of a ring's pair is fenced (R166): the spill copy is begun from the checkpoint on, in a 256 MiB area of the metadata
store; the second loss of a pair has no copy left to build from. -/
def spillStart (s : State) (stack : Nat) : State :=
  let r := stack % 2
  let g := ring s r
  let c := if stack = r then 0 else 1
  if g.lost.contains c then s
  else setRing s r { g with
    lost := g.lost ++ [c]
    spillBuilding := g.spillBuilding || g.lost.isEmpty
    spillFrom := if g.lost.isEmpty then g.tail else g.spillFrom }

/-- SPILL_COPY_BUILT: the spill copy of a ring stands and takes the place of the lost stack (R166). -/
def spillBuilt (s : State) (r : Nat) : State :=
  let g := ring s r
  if g.spillBuilding then setRing s r { g with spillBuilding := false, spill := true } else s

/-- Remove a page's ledger entry (R114). -/
def ledgerDrop (s : State) (p : Nat) : State := { s with chd := { s.chd with ledger := mdel s.chd.ledger p } }

/-- Capacity of the ledger in entries (R149): a lowered ledger_mib takes effect only at a device reset (R141). -/
def ledgerCapacity (s : State) : Nat := s.chd.ledgerMib * 131072

/-- May a page enter the ledger (R115)? -/
def ledgerTakes (s : State) (p : Nat) : Bool :=
  !dPin (page s p).desc && !(page s p).fenced && pagePolicy s p 6 == 1

/-- Insert or replace a page's ledger entry; a full ledger sets ledger_gap and raises event 0x1E7 (R116). -/
def ledgerPut (s : State) (p : Nat) (st : BitVec 16) : State :=
  if !ledgerTakes s p then s
  else if mhas s.chd.ledger p || decide (s.chd.ledger.length < ledgerCapacity s) then
    { s with chd := { s.chd with ledger := mset s.chd.ledger p st } }
  else raise { s with chd := { s.chd with ledgerGap := true, passInsertFailed := true } } 0x1E7 0

/-- The stamp of the current epoch (R113). -/
def epochStamp (s : State) : BitVec 16 := s.chd.epoch.setWidth 16

/-- A page's cold age, if it has an entry (R113). -/
def coldAge (s : State) (p : Nat) : Option Nat := (mget s.chd.ledger p).map (fun t => (epochStamp s - t).toNat)

/-- Post a candidate: a full queue drops it (R119 ff.). -/
def postCand (s : State) (k : CandKind) (p : Nat) : State :=
  let c : CandKind × PageNo := (k, BitVec.ofNat 36 p)
  if s.chd.cands.contains c || decide (65536 ≤ (s.chd.cands.filter (fun x => x.1 == k)).length) then s
  else { s with chd := { s.chd with cands := s.chd.cands ++ [c] } }

/-- Drop a page's candidates of a kind. -/
def dropCand (s : State) (k : CandKind) (p : Nat) : State :=
  { s with chd := { s.chd with cands := s.chd.cands.filter (fun x => !(x.1 == k && x.2.toNat == p)) } }

/-- Heat has been reached: post PROMOTE for a Packed page, RECALL for a Remote one (R119, R121). -/
def heatReached (s : State) (p : Nat) : State :=
  let x := page s p
  let t := dTier x.desc
  if t = tierPacked ∧ pagePolicy s p 0 ≤ x.heat.toNat then postCand s .promote p
  else if t = tierRemote ∧ pagePolicy s p 2 ≤ x.heat.toNat then postCand s .recall p
  else s

/-- Is access number `seq` to a page sampled (R107)? -/
def sampled (p : Nat) (seq k : Nat) : Bool :=
  (mix64 (BitVec.ofNat 64 p ^^^ BitVec.ofNat 64 (seq * 2 ^ 36))).toNat % 2 ^ k == 0

/-- A counted access at the owner's translation step: seq advances, and a sampled access adds 1 to the heat byte of a populated
page; one that finds heat 0 removes the ledger entry first (R105 to R107, R114). -/
def heatAccess (s : State) (p : Nat) : State :=
  let seq := s.chd.heatSeq
  let s := { s with chd := { s.chd with heatSeq := seq + 1 } }
  let x := page s p
  if s.chd.sampleOff || dTier x.desc == tierNone || !sampled p seq.toNat (pagePolicy s p 3) then s
  else
    let s := if x.heat = 0 then ledgerDrop s p else s
    let s := modPage s p (fun x => { x with heat := if x.heat = 255 then 255 else x.heat + 1 })
    heatReached s p

/-- A page's stored form is encrypted, or tagged, otherwise than its extent's attributes ask (R60, R76, R237, R239): it is to be
written again. A page of an extent that waits for tag tables keeps INTEG 0 (R81). -/
def wantsRewrite (s : State) (p : Nat) : Bool :=
  match extentOfPage s p with
  | none => false
  | some (_, e) =>
    let d := (page s p).desc
    let t := dTier d
    let stored := t == tierPacked || t == tierRemote
    t != tierNone && !e.tagWait && (mhas s.chd.pageDom p || dKgen d != currentKgen s e.attrs.domain ||
      (stored && dInteg d != (e.tagTables && domainInteg s e.attrs.domain)))

/-- A page of a Mirrored extent that has no copy at the buddy yet (R76). -/
def wantsMirror (s : State) (p : Nat) : Bool :=
  match extentOfPage s p with
  | none => false
  | some (_, e) => dTier (page s p).desc != tierNone && e.attrs.mirrored && !dMirror (page s p).desc

/-- The refold of a page is wanted (R60, R76). The pages of an extent whose refold waits for tag tables want it too (R81). -/
def wantsRefold (s : State) (p : Nat) : Bool :=
  wantsRewrite s p || wantsMirror s p ||
    (match extentOfPage s p with
     | some (_, e) => e.tagWait && (dTier (page s p).desc == tierPacked || dTier (page s p).desc == tierRemote)
     | none => false)

/-- A page's stored form names a slot other than its extent's primer (R76, R205, R209). -/
def otherPrimer (s : State) (p : Nat) : Bool :=
  match extentOfPage s p with
  | none => false
  | some (_, e) =>
    let d := (page s p).desc
    dNamesPrimer d && dPrimer d != e.attrs.primer

/-- A page passes the walker while a slot retires: it is refold work when its PRIMER is the slot and its extent's primer is
another (R209). -/
def wantsRepack (s : State) (p : Nat) : Bool := otherPrimer s p && s.cmp.retire.getLsbD (dPrimer (page s p).desc)

/-- The populated pages of accepted non-shared extents, with their extent's index, in the walker's order (R109). -/
def walkOrder (s : State) : List (Nat × Nat) :=
  (s.chd.extents.filter (fun e => e.2.state == .accepted && e.2.shared.isNone)).flatMap (fun e =>
    (s.chd.pages.filter (fun x => decide (e.2.dpa2m * 512 ≤ x.1) && decide (x.1 < (e.2.dpa2m + e.2.len2m) * 512) &&
      dTier x.2.desc != tierNone)).map (fun x => (e.1, x.1)))

/-- The page the walker processes next: the first, in its order, after the one it processed last (R109). -/
def walkNext (s : State) : Option (Nat × Nat) :=
  (walkOrder s).find? (fun x => match s.chd.walkDone with
    | none => true
    | some d => decide (d.1 < x.1) || (d.1 == x.1 && decide (d.2 < x.2)))

/-- The walker processes one page: halve its heat, then enter the ledger or post candidates (R109, R110, R114, R116, R119 to
R121, R209). -/
def walkPage (s : State) (p : Nat) : State :=
  let x := page s p
  let t := dTier x.desc
  if t = tierNone then s
  else
    let h := x.heat.toNat / 2
    let s := modPage s p (fun x => { x with heat := BitVec.ofNat 8 h })
    let kept := t == tierPlain || t == tierPacked || t == tierRemote
    let s := if kept && x.heat == 1 && h == 0 then ledgerPut s p (epochStamp s)
      else if s.chd.ledgerGap && (t == tierPlain || t == tierPacked) && h == 0 && !mhas s.chd.ledger p then
        ledgerPut s p (epochStamp s)
      else s
    let s := heatReached s p
    let s := if t = tierPlain ∧ !dPin x.desc ∧ pagePolicy s p 7 = 1 ∧ h ≤ pagePolicy s p 1 then postCand s .demote p else s
    if wantsRepack s p then postCand s .refold p else s

/-- The pass ends: its duration is recorded, ledger_gap is cleared where no insertion failed, a pass longer than epoch_ms is
reported (R109, R116, R147). -/
def passEnd (s : State) : State :=
  let ns := s.clockNs - s.chd.epochStartNs
  let long := decide (globalPolicy s 9 * 1000000 < ns)
  let s := { s with chd := { s.chd with
    passRunning := false
    lastPassMs := BitVec.ofNat 16 (min 65535 (ns / 1000000))
    epochStretched := long
    ledgerGap := s.chd.ledgerGap && s.chd.passInsertFailed } }
  if long then raise s 0x1E5 0 else s

/-- WALKER_PAGE: the walker's next page (R109). -/
def walkerPage (s : State) (p : Nat) : State :=
  match walkNext s with
  | none => if s.chd.passRunning then passEnd s else s
  | some x =>
    if !s.chd.passRunning || x.2 != p then s
    else
      let s := walkPage { s with chd := { s.chd with walkDone := some x } } p
      if (walkNext s).isNone then passEnd s else s

/-- One ledger entry meets the scan: LEND or REHOME becomes due, and an old stamp is pulled up (R117, R125, R126). -/
def scanEntry (s : State) (p : Nat) : State :=
  match coldAge s p with
  | none => s
  | some age =>
    let d := (page s p).desc
    let t := dTier d
    let s := if pagePolicy s p 4 ≤ age ∧ (t = tierPlain ∨ t = tierPacked) ∧ !dPin d ∧ pagePolicy s p 6 = 1 then
      postCand s .lend p else s
    let s := if t = tierRemote ∧ !nbit (s.img.geom.fld secGeometry 0 4) (dNode d / 64) ∧ pagePolicy s p 5 ≤ age ∧
        pagePolicy s p 8 = 1 ∧ s.img.geom.fld secGeometry 0 4 ≠ 0 then postCand s .rehome p else s
    if 30000 < age then
      { s with chd := { s.chd with ledger := mset s.chd.ledger p (epochStamp s - 30000) } }
    else s

/-- EPOCH_START: the epoch advances under journal, the walker's pass begins, and every 64th epoch scans the ledger (R109, R117,
R147). An epoch does not start while a pass runs, nor before epoch_ms, nor before Memory Active. -/
def epochStart (s : State) : State :=
  let s := if s.chd.passRunning && (walkNext s).isNone then passEnd s else s
  if s.chd.passRunning || !s.host.memActive ||
      decide (s.clockNs < s.chd.epochStartNs + globalPolicy s 9 * 1000000 ∧ s.chd.epochStartNs ≠ 0) then s
  else
    let e := s.chd.epoch + 1
    let s := jwrite s 0 (plainRec recEpoch (e.setWidth 128) 0)
    let s := { s with chd := { s.chd with
      epoch := e
      epochStartNs := s.clockNs
      passInsertFailed := false
      walkDone := none
      passRunning := true } }
    let s := if e.toNat % 64 = 0 then (mkeys s.chd.ledger).foldl scanEntry s else s
    if (walkNext s).isNone then passEnd s else s

end Sys2Proof.Machine
end

