-- ==== Sys2Proof/Machine/Stored.lean ====
section
/-! DEFINITION. Stored forms of pages: block data, compression, encryption and tags (06: R188 to R189; 07: R227 to R241),
pods in holder leases (03, 04), and the messages an owner sends to holders and to its buddy (10: R357, R664). -/

namespace Sys2Proof.Machine

/-- A line of a page of this device's window, a poisoned line as zeros (R189). -/
def lineOrZero (s : State) (line : Nat) : Line := if linePoisoned s line then 0 else readLine s line

/-- The 1,024 bytes of a block as the compressor takes them (R189). -/
def blockBytes (s : State) (block : Nat) : List Byte :=
  ((List.range 16).map (fun i => lineBytes (lineOrZero s (16 * block + i)))).flatten

/-- The primer in a slot of the active image; an empty slot has no phrases (R202). -/
def primerOf (s : State) (slot : Nat) : Primer := (mget s.img.active.primers slot).getD Primer.empty

/-- Is a slot installed (R204), and may new compressions use it (R209)? -/
def slotInstalled (s : State) (slot : Nat) : Bool := mhas s.img.active.primers slot
def slotUsable (s : State) (slot : Nat) : Bool := slotInstalled s slot && !s.cmp.retire.getLsbD slot

/-- The fingerprint of a slot, 0 when it is not installed (R224). -/
def slotFingerprint (s : State) (slot : Nat) : BitVec 64 :=
  match mget s.img.active.primers slot with
  | some p => primerFingerprint p.bytes
  | none => 0

/-- The stored image of a block in clear, given its BLEN (R83, R188): nothing, whole pods of stream, or the raw bytes. -/
def clearImage (pr : Primer) (blen : Nat) (bs : List Byte) : List Byte :=
  if blen = 0 then []
  else if blen = 16 then bytesAt bs 0 1024
  else match compressBlock pr bs with
    | .packed _ st => bytesAt st 0 (64 * blen)
    | _ => bytesAt bs 0 (64 * blen)

/-- The BLEN of a compression result (R188). -/
def resultBlen : BlockResult → Nat
  | .zero => 0
  | .packed n _ => n
  | .nogain => 16
  | .verifyFail => 16

/-- The tweak of a block of a page (R229, R230). -/
def blockTweak (domain home p b : Nat) (kgen : Bool) : BitVec 128 := xtsTweak domain home (unitOfBlock (4096 * p + 1024 * b)) kgen

/-- Home node and key domain of a page of this device's window (R230). -/
def pageHome (s : State) (p : Nat) : Nat :=
  match extentOfPage s p with
  | some (_, e) => e.home.toNat
  | none => myNode s
def pageDomain (s : State) (p : Nat) : Nat := mgetD s.chd.pageDom p (attrsOf s p).domain

/-- Encrypt a stored image (R227, R229); an empty image stays empty. -/
def sealImage (s : State) (domain home p b : Nat) (kgen : Bool) (img : List Byte) : List Byte :=
  if img.isEmpty then [] else xtsEncrypt (pageKeys s domain kgen) (blockTweak domain home p b kgen) img

/-- Decrypt a stored image. -/
def openImage (s : State) (domain home p b : Nat) (kgen : Bool) (img : List Byte) : List Byte :=
  if img.isEmpty then [] else xtsDecrypt (pageKeys s domain kgen) (blockTweak domain home p b kgen) img

/-- The ciphertext of block `b` of a page of this device's window with a given domain, BLEN, primer and generation. -/
def sealedIn (s : State) (dom p b blen slot : Nat) (kgen : Bool) : List Byte :=
  sealImage s dom (pageHome s p) p b kgen (clearImage (primerOf s slot) blen (blockBytes s (4 * p + b)))

/-- The ciphertext of a block under the domain its page is stored in. -/
def sealedBlock (s : State) (p b blen slot : Nat) (kgen : Bool) : List Byte := sealedIn s (pageDomain s p) p b blen slot kgen

/-- The tag of a ciphertext at a position (R240). -/
def imageTag (s : State) (domain home p b : Nat) (kgen : Bool) (img : List Byte) : BitVec 64 :=
  if img.isEmpty then 0 else blockTag (pageKeys s domain kgen) (blockTweak domain home p b kgen) img

/-- Put a block's tag into a tag record: entry b at byte 8b (R240). -/
def putTag (tags : BitVec 256) (b : Nat) (t : BitVec 64) : BitVec 256 :=
  (tags &&& ~~~(((BitVec.allOnes 64).setWidth 256) <<< (64 * b))) ||| ((t.setWidth 256) <<< (64 * b))

/-- Entry b of a tag record. -/
def getTag (tags : BitVec 256) (b : Nat) : BitVec 64 := (tags >>> (64 * b)).setWidth 64

/-- Are tags computed for a page: its domain has integ 1 and its extent has tag tables (R80, R81, R241)? -/
def taggedPage (s : State) (p : Nat) : Bool :=
  match extentOfPage s p with
  | some (_, e) => e.tagTables && domainInteg s e.attrs.domain
  | none => false

/-- Decode a stored image in clear: the block's bytes, or a decoder error (R193, R196). -/
def decodeImage (pr : Primer) (blen : Nat) (img : List Byte) : Except DecError (List Byte) :=
  if blen = 0 then .ok (List.replicate 1024 0)
  else if blen = 16 then .ok (bytesAt img 0 1024)
  else decodeBlock pr blen img

/-- The descriptor a page's data is served by: its migration's source while it is Moving (R84). -/
def servedDesc (s : State) (p : Nat) : Desc :=
  let d := (page s p).desc
  if dTier d = tierMoving then (match mget s.chd.migs p with | some m => m.src | none => d) else d

/-- The lines of a byte string. -/
def linesOf (bs : List Byte) : List Line := (chunks 64 (bs.length / 64) bs).map bytesLine

/-- A lease of this owner at a holder. -/
def borrow (s : State) (n : Nat) : Borrow := mgetD s.chd.borrows n ⟨0, [], none, []⟩
def setBorrow (s : State) (n : Nat) (b : Borrow) : State := { s with chd := { s.chd with borrows := mset s.chd.borrows n b } }

/-- Pods a lease may be used up to: its size, or the recalled size (R329, R331). -/
def leasePods (b : Borrow) : Nat := (match b.recallTo with | some r => min r b.sizeGib | none => b.sizeGib) * 16777216

/-- Pods of a lease in use: allocated, or freed and not yet known free at the holder (R159). -/
def leaseUsed (b : Borrow) : Nat := ((b.ranges ++ b.freeing).map (·.2)).sum

/-- Free pods of a lease. -/
def leaseRoom (b : Borrow) : Nat := leasePods b - leaseUsed b

/-- A start of `n` free pods in a lease, from a place on (R159). -/
def leaseFit (b : Borrow) (n h : Nat) : Option Nat := fitPods (b.ranges ++ b.freeing) 0 (leasePods b) n (h % max 1 (leasePods b))

/-- Allocate pods in a lease. -/
def leaseTake (s : State) (node a n : Nat) : State :=
  let b := borrow s node
  if n = 0 then s else setBorrow s node { b with ranges := (a, n) :: b.ranges }

/-- Return pods of a lease that hold nothing. -/
def leaseDrop (s : State) (node a n : Nat) : State :=
  let b := borrow s node
  setBorrow s node { b with ranges := b.ranges.filter (fun r => !(r.1 == a && r.2 == n)) }

/-- Shrink an allocation in a lease to its first `n` pods. -/
def leaseTrim (s : State) (node a old n : Nat) : State :=
  if n = 0 then leaseDrop s node a old
  else
    let b := borrow s node
    setBorrow s node { b with ranges := b.ranges.map (fun r => if r.1 == a && r.2 == old then (a, n) else r) }

/-- The pods of an owner's lease move from allocated to being freed (R159). -/
def leaseFreeing (s : State) (node a n : Nat) : State :=
  let b := borrow s node
  setBorrow s node { b with ranges := b.ranges.filter (fun r => !(r.1 == a && r.2 == n)), freeing := (a, n) :: b.freeing }

/-- The freed pods may be used again (R159). -/
def leaseFreed (s : State) (node a n : Nat) : State :=
  let b := borrow s node
  setBorrow s node { b with freeing := b.freeing.filter (fun r => !(r.1 == a && r.2 == n)) }

/-- BlkRead of a block's pods (R357, R371): queue 0 to serve a host or fabric read, queue 4 for placement. -/
def sendBlkRead (s : State) (queue node pod cnt vers label : Nat) (p : Purpose) : State :=
  openTx s queue (mkMsg 4 1 node label 0 false [(38, pod), (7, cnt)] [BitVec.ofNat 128 vers]) p

/-- BlkWrite of one pod (R357). -/
def sendBlkWrite (s : State) (node pod vers label : Nat) (d : Line) (p : Purpose) : State :=
  openTx s 4 (mkMsg 4 2 node label 0 false [(38, pod), (16, vers)] (lineSlots d)) p

/-- BlkWrites of a block's ciphertext from a first pod on. -/
def sendImage (s : State) (node pod vers label : Nat) (img : List Byte) (p : Purpose) : State :=
  ((linesOf img).zipIdx).foldl (fun s x => sendBlkWrite s node (pod + x.2) vers label x.1 p) s

/-- May a BlkFree or a buddy free leave now: its row is awake (R100), and a buddy is in service? -/
def freeMayLeave (s : State) (node : Nat) : Bool := !rowAsleep s (node / 64)

/-- BlkFree of pods whose FREE record is durable; one for a sleeping row waits in the deferred-free list (R100, R159). -/
def sendBlkFree (s : State) (node pod cnt page ringNo seq : Nat) : State :=
  if freeMayLeave s node then
    openTx s 4 (mkMsg 4 3 node 14 0 false [(38, pod), (7, cnt)] []) (.free ringNo seq)
  else { s with chd := { s.chd with
    deferred := s.chd.deferred ++ [⟨BitVec.ofNat 12 node, true, pod, cnt, page, ringNo, seq⟩] } }

/-- Free the holder pods of a descriptor: FREE under journal, then BlkFree (R159). -/
def freeHolder (s : State) (p : Nat) (d : Desc) : State :=
  let n := dPods d
  if n = 0 then s
  else
    let r := pageRing p
    let seq := (ring s r).nextSeq
    let s := jpage s p recFree 0 0 n d 0
    sendBlkFree (leaseFreeing s (dNode d) (dLoc d) n) (dNode d) (dLoc d) n p r seq

/-- The storage descriptor of `n` pods at a holder, as a FREE record names it (R161). -/
def podsDesc (node a n : Nat) : Desc :=
  mkDesc tierRemote false 0 false false false false (packBlens [min n 16, min (n - 16) 16, min (n - 32) 16, min (n - 48) 16]) a node 0

/-- A range of pods at a holder that was reserved and never committed: the owner frees it with FREE and BlkFree once it wrote there,
or just drops it. -/
def freeHolderRange (s : State) (p node a n : Nat) (written : Bool) : State :=
  if n = 0 then s
  else if written then freeHolder s p (podsDesc node a n)
  else leaseDrop s node a n

/-- Free the storage of a committed descriptor, by the tier it has (R159). -/
def freeStorage (s : State) (p tier : Nat) (d : Desc) : State :=
  if tier = tierRemote then freeHolder s p d else freeLocal s tier d

/-- Does the descriptor of a page and the extent's durability make its writes Mirrored (R167)? -/
def mirroredExtent (s : State) (p : Nat) : Bool := (attrsOf s p).mirrored

/-- The extent index and page index of a page (R160). -/
def pageIndex (s : State) (p : Nat) : Nat × Nat :=
  match extentOfPage s p with
  | some (_, e) => (e.mext, p - e.mbase * 512)
  | none => (0, 0)

/-- A MirrorCtl message (R357, R664). -/
def mirrorCtl (node sub ext pg : Nat) (word : Nat) (label : Nat) : Msg :=
  mkMsg 4 5 node label 0 false [(4, sub), (16, ext), (28, pg)] [BitVec.ofNat 128 word]

/-- MirrorCtl READ of lines of a page at the buddy (R664): first line, count; `lines` names those wanted. -/
def mirrorRead (s : State) (p first cnt : Nat) (lines : BitVec 64) : State :=
  match myBuddy s with
  | none => s
  | some b =>
    let x := pageIndex s p
    openTx s 5 (mirrorCtl b 4 x.1 x.2 (first + 2 ^ 8 * cnt) 14) (.mirrorRead p lines)

/-- MirrorCtl FREE of a page's copy at the buddy (R76, R99, R664); it waits while the buddy is not in service or its row sleeps
(R100). -/
def mirrorFree (s : State) (ext pg cnt : Nat) : State :=
  match myBuddy s with
  | none => s
  | some b =>
    if inService s b && freeMayLeave s b then openTx s 5 (mirrorCtl b 3 ext pg cnt 14) (.mirrorFree ext pg cnt)
    else { s with chd := { s.chd with
      deferred := s.chd.deferred ++ [⟨BitVec.ofNat 12 b, false, pg, cnt, ext, 0, 0⟩] } }

/-- MirrorCtl PAGE: the stored form of a page with its primer's fingerprint, or raw (R210, R664). A Plain page has no stored
form in pods and is sent raw. -/
def mirrorPage (s : State) (p : Nat) (raw : Bool) : State :=
  match myBuddy s with
  | none => s
  | some b =>
    let x := pageIndex s p
    let d := (page s p).desc
    let t := servingTier s p
    let raw := raw || decide (t = tierPlain)
    let w := (if raw then 0 else dBlens d) + 2 ^ 20 * b2n (dKgen d) + 2 ^ 21 * b2n (dInteg d) + 2 ^ 22 * b2n raw
    let f := if raw || !dNamesPrimer d then 0 else (slotFingerprint s (dPrimer d)).toNat
    let s := { s with chd := { s.chd with copyRuns := mset s.chd.copyRuns p (raw, 1) } }
    openTx s 6 (mirrorCtl b 5 x.1 x.2 (w + 2 ^ 64 * f) 14) (.mirrorPage p)

/-- A MirrorPod (R357, R664). -/
def mirrorPod (s : State) (p index : Nat) (raw : Bool) (d : Line) : State :=
  match myBuddy s with
  | none => s
  | some b =>
    let x := pageIndex s p
    let s := { s with chd := { s.chd with
      copyRuns := mset s.chd.copyRuns p (raw, (mgetD s.chd.copyRuns p (raw, 0)).2 + 1) } }
    openTx s 6 (mkMsg 4 6 b 14 0 false [(16, x.1), (28, x.2), (6, index), (1, b2n raw)] (lineSlots d)) (.mirrorPod p)

/-- Bytes of the stored form of a page (R172): the frame of a Plain page, 64 B per pod otherwise. -/
def storedBytes (s : State) (p : Nat) : Nat :=
  let d := (page s p).desc
  if servingTier s p = tierPlain then 4096 else if dTier d = tierNone then 0 else 64 * dPods d

/-- A mirrored page's pages still to copy, in MiB of stored form (R187). -/
def resyncLeft (s : State) : Nat := ((s.chd.resync.map (fun p => storedBytes s p.toNat)).sum) / 1048576

end Sys2Proof.Machine
end

