-- ==== Sys2Proof/Machine/Cmp.lean ====
section
/-! DEFINITION. The compressor and decompressor lanes, their admission and their fences, and whole-page compression (06: R205 to
R217, R658, R659). -/

namespace Sys2Proof.Machine

/-- Number of descriptors, owner-side and buddy-side, that name a primer slot (R206, R225). -/
def slotUse (s : State) (slot : Nat) : Nat :=
  (s.chd.pages.filter (fun x => dNamesPrimer x.2.desc && dPrimer x.2.desc == slot)).length +
    (s.chd.copies.filter (fun x => dNamesPrimer x.2.desc && dPrimer x.2.desc == slot)).length

/-- The slots a job compresses under. -/
def Job.names (j : Job) (n : Nat) : Bool := j.slots.any (fun x => x.toNat == n)

/-- Is a primer slot in use (R59, R206): a descriptor names it, or a compression result not yet committed or discarded does, in a
lane, among the results of a page still being compressed, in a migration's destination, in an eviction or in a copy? -/
def slotInUse (s : State) (n : Nat) : Bool :=
  decide (slotUse s n ≠ 0) || s.cmp.lanes.any (fun l => l.2.names n) || s.cmp.results.any (fun r => r.2.1.contains n) ||
    s.chd.migs.any (fun m => m.2.primer == n && m.2.blocks.any (fun b => b != .waiting)) ||
    s.chd.evicts.any (fun e => e.2.slot == n) ||
    s.chd.copies.any (fun c => match c.2.packing with
      | some k => k.1 == n && !k.2.isEmpty
      | none => false)

/-- Is a slot one that a staged commit changes, until its commit point or refusal (R207)? -/
def slotHeld (s : State) (slot : Nat) : Bool := s.img.changing.getLsbD slot

/-- Does a compression wait for a commit point or refusal (R207): it would make a changed slot newly in use? PRIMER_EVAL stores
nothing. -/
def jobHeld (s : State) (j : Job) : Bool :=
  match j.use with
  | .eval _ _ => false
  | _ => j.slots.any (fun n => slotHeld s n.toNat && !slotInUse s n.toNat)

/-- Is a compressor lane free to take a block, and the lowest-numbered such lane (R658)? -/
def laneFree (s : State) (i : Nat) : Bool := !s.cmp.cFenced.getLsbD i && !mhas s.cmp.lanes i
def freeLane (s : State) : Option Nat := firstFrom (laneFree s) 0 16

/-- Does a job wait for the reload of a slot it names (R219)? -/
def jobReloads (s : State) (j : Job) : Bool := j.slots.any (fun n => s.cmp.reloading.getLsbD n.toNat)

/-- Admit blocks to free lanes, by weighted fair queuing (R214, R391), with a bound on their number. -/
def admitJobs : Nat → State → State
  | 0, s => s
  | fuel + 1, s =>
    match freeLane s with
    | none => s
    | some lane =>
      match wfqPick s.cmp.sched (labelRt s) (fun _ => false) (fun j => !jobReloads s j && !jobHeld s j) (fun _ => 0) with
      | none => s
      | some (x, q) =>
        admitJobs fuel { s with cmp := { s.cmp with sched := q, lanes := mset s.cmp.lanes lane x.item } }

/-- Let every lane that is free take a block. -/
def runLanes (s : State) : State := admitJobs 16 s

/-- A job reaches admission; one that would make a slot newly in use that a commit is changing waits (R207, R214). -/
def pushJob (s : State) (j : Job) : State :=
  if jobHeld s j then { s with cmp := { s.cmp with waiting := s.cmp.waiting ++ [j] } }
  else runLanes { s with cmp := { s.cmp with
    sched := wfqPush s.cmp.sched j.label (labelWeight s j.label) 1024 true j } }

/-- From step 1 of a staged commit on, jobs that are queued and not in a lane wait too where they must (R207). -/
def holdJobs (s : State) : State :=
  let held := (s.cmp.sched.items.filter (fun i => jobHeld s i.item)).map (·.item)
  { s with cmp := { s.cmp with
    waiting := s.cmp.waiting ++ held
    sched := { s.cmp.sched with items := s.cmp.sched.items.filter (fun i => !jobHeld s i.item) } } }

/-- A job under one slot, and under the candidates of a trial. -/
def jobOf (use : JobUse) (slots : List Nat) (label : Nat) (data : List Byte) : Job :=
  ⟨use, slots.map (BitVec.ofNat 6), [], label, data⟩

/-- Blocks waiting in a label's admission queue, 0 to 64 (R222); further blocks wait at their sources (R214). -/
def admitLevel (s : State) (l : Nat) : Nat := min 64 (wfqCount s.cmp.sched l)

/-- Fence a compressor lane: event 0x162, at S4 for the last lane (R215). Its job goes to another lane (R659). -/
def fenceCLane (s : State) (i : Nat) : State :=
  if s.cmp.cFenced.getLsbD i then s
  else
    let mask := s.cmp.cFenced ||| ((1 : BitVec 16) <<< i)
    let j := mget s.cmp.lanes i
    let s := { s with cmp := { s.cmp with cFenced := mask, lanes := mdel s.cmp.lanes i } }
    let s := raiseP s 0x162 (if mask = BitVec.allOnes 16 then 1 else 0) (.clane (Fin.ofNat 16 i)) i
    match j with
    | some j => pushJob s j
    | none => runLanes s

/-- The lowest-numbered free unfenced decompressor lane, but for one (R658). -/
def freeDLane (s : State) (but : Option Nat) : Option Nat :=
  firstFrom (fun i => !s.cmp.dFenced.getLsbD i && !mhas s.cmp.dLanes i && decide (some i ≠ but)) 0 32

/-- Fence a decompressor lane: event 0x163, at S4 for the last lane (R215). Its job goes to another lane (R659). -/
def fenceDLane (s : State) (i : Nat) : State :=
  if s.cmp.dFenced.getLsbD i then s
  else
    let mask := s.cmp.dFenced ||| ((1 : BitVec 32) <<< i)
    let s := { s with cmp := { s.cmp with
      dFenced := mask
      dWait := s.cmp.dWait ++ (mget s.cmp.dLanes i).toList
      dLanes := mdel s.cmp.dLanes i } }
    raiseP s 0x163 (if mask = BitVec.allOnes 32 then 1 else 0) (.dlane (Fin.ofNat 32 i)) i

/-- A decompressor lane takes a block and gives no result (R659): the lowest-numbered free one (R658), or the block waits for one. -/
def dLaneTakes (s : State) (j : DJob) : State :=
  match freeDLane s none with
  | some i => { s with cmp := { s.cmp with dLanes := mset s.cmp.dLanes i j } }
  | none => { s with cmp := { s.cmp with dWait := s.cmp.dWait ++ [j] } }

/-- VERIFY_FAIL of a lane: counted, event 0x160, and the second within 1 s fences the lane (R188, R215, R221). -/
def verifyFail (s : State) (i : Nat) : State :=
  let last := mget s.cmp.vfailNs i
  let s := { s with cmp := { s.cmp with verifyFail := s.cmp.verifyFail + 1, vfailNs := mset s.cmp.vfailNs i s.clockNs } }
  let s := raiseP s 0x160 0 .none i
  match last with
  | some t => if s.clockNs ≤ t + 1000000000 then fenceCLane s i else s
  | none => s

/-- A lane ends its block under a slot: the BLEN value (R188), 17 for VERIFY_FAIL where the command reports it (R218). A block of a
trial stays in its lane for the next candidate (R216); the job is given once every candidate has its result. -/
def laneEnd (s : State) (i : Nat) (shadowOk : Bool) : State × Option Job :=
  match mget s.cmp.lanes i with
  | none => (s, none)
  | some j =>
    let r := compressBlock (primerOf s ((j.slots.getD j.got.length 0).toNat)) j.data
    let j := { j with got := j.got ++ [if shadowOk then resultBlen r else 17] }
    let more := decide (j.got.length < j.slots.length)
    let s := { s with cmp := { s.cmp with lanes := if more then mset s.cmp.lanes i j else mdel s.cmp.lanes i } }
    let s := countL s (if !shadowOk then 0x023 else match r with
      | .packed _ _ => 0x020
      | .zero => 0x022
      | _ => 0x021) j.label
    (if shadowOk then s else verifyFail s i, if more then none else some j)

/-- The stored BLEN of a result: a VERIFY_FAIL is stored RAW (R188). -/
def storedBlen (n : Nat) : Nat := min 16 n

/-- The candidates of a trial in order, those skipped left out (R216, R217): slots that are installed, not retiring and named for
the first time. Where none is left the page's own slot is used alone. -/
def trialSlots (s : State) (primer policy : Nat) : List Nat :=
  let t := mgetD s.cmp.trials policy Trial.zero
  if t.enable then
    let l := [primer, t.slot1.toNat, t.slot2.toNat, t.slot3.toNat].foldl
      (fun l c => if slotUsable s c && !l.contains c then l ++ [c] else l) []
    if l.isEmpty then [primer] else l
  else [primer]

/-- The candidate slots of a whole-page compression of a page (R205, R216). -/
def pageSlots (s : State) (p : Nat) : List Nat := trialSlots s (attrsOf s p).primer (attrsOf s p).policy

/-- A trial starts: a skipped candidate sets bad and raises event 0x165, once per write of the register (R217). -/
def noteTrial (s : State) (p : Nat) : State :=
  let policy := (attrsOf s p).policy
  let t := mgetD s.cmp.trials policy Trial.zero
  let skipped := decide (([(attrsOf s p).primer, t.slot1.toNat, t.slot2.toNat, t.slot3.toNat].foldl
      (fun l c => if slotUsable s c && !l.contains c then l ++ [c] else l) []).length < 4)
  if t.enable && skipped then
    let s := { s with cmp := { s.cmp with trials := mset s.cmp.trials policy { t with bad := true, raised := true } } }
    if t.raised then s else raise s 0x165 0
  else s

/-- Start the whole-page compression of a page under candidate slots: each block that is not ZERO goes to a lane (R205, R211,
R216). -/
def compressPage (s : State) (slots : List Nat) (block : Nat → List Byte) (use : Nat → JobUse) : State :=
  (List.range 4).foldl (fun s b =>
    let bs := block b
    if bs.all (· == 0) then countL s 0x022 14 else pushJob s (jobOf (use b) slots 14 bs)) s

/-- The results of a page's blocks are dropped. -/
def dropResults (s : State) (p : Nat) : State :=
  { s with cmp := { s.cmp with results := mfilter s.cmp.results (fun k _ => k / 4 != p) } }

/-- The BLEN values of a page under candidate `c`, once every result is in; a ZERO block needs none (R211). -/
def candidateBlens (s : State) (p c : Nat) (zero : Nat → Bool) : Option (List Nat) :=
  (List.range 4).foldr (fun b l => match l, (if zero b then some 0 else (mget s.cmp.results (4 * p + b)).bind (fun r => r.2[c]?)) with
    | some l, some n => some (storedBlen n :: l)
    | _, _ => none) (some [])

/-- The candidate with the smallest total, the lower position among equals (R216): its position and BLEN values. -/
def bestTrial (s : State) (p n : Nat) (zero : Nat → Bool) : Option (Nat × List Nat) :=
  let cs := (List.range n).map (fun c => (candidateBlens s p c zero).map (fun l => (c, l)))
  if cs.all (·.isSome) then bestOf (fun a b => decide (a.2.sum < b.2.sum)) (cs.filterMap id) else none

/-- The candidate of one block's results that is kept: slot and BLEN (R216). -/
def bestOne (j : Job) : Nat × Nat :=
  let l := (j.slots.map (·.toNat)).zip (j.got.map storedBlen)
  (bestOf (fun a b => decide (a.2 < b.2)) l).getD (0, 16)

/-- The boot-flash record of in-use primers follows the descriptors: a slot newly in use is entered, one no longer in use is
removed, and a retiring slot that has become free raises event 0x166 (R208, R209). -/
def primerUsed (s : State) (slot : Nat) : State :=
  if slotUse s slot = 0 then s
  else { s with img := { s.img with primerRecord := mset s.img.primerRecord slot (slotFingerprint s slot) } }
def primerFreed (s : State) (slot : Nat) : State :=
  if slotUse s slot = 0 ∧ mhas s.img.primerRecord slot then
    let s := { s with img := { s.img with primerRecord := mdel s.img.primerRecord slot } }
    if s.cmp.retire.getLsbD slot then raiseP s 0x166 0 .none slot else s
  else s
def primerMoved (s : State) (old new : Desc) : State :=
  let s := if dNamesPrimer new then primerUsed s (dPrimer new) else s
  if dNamesPrimer old then primerFreed s (dPrimer old) else s

end Sys2Proof.Machine
end

