-- ==== Sys2Proof/Machine/Mig.lean ====
section
/-! DEFINITION. Placement decisions and migrations (04: R118 to R138; 05: R150 to R157, R662): which work may start, the copy
passes, the freeze, commit and abort. -/

namespace Sys2Proof.Machine

/-- Codes of the migration kinds (R150). -/
def kindCode : MigKind → Nat
  | .pack => 1
  | .unpack => 2
  | .compact => 3
  | .lend => 4
  | .recall => 5
  | .rehome => 6
  | .thaw => 7
  | .refold => 8
  | .mirrorAdd => 9

/-- Is a candidate posted? -/
def hasCand (s : State) (k : CandKind) (p : Nat) : Bool := s.chd.cands.any (fun c => c.1 == k && c.2.toNat == p)

/-- Would R119 promote a page now? -/
def promoteOk (s : State) (p : Nat) : Bool :=
  decide (reserveHigh s ≤ framesF s) && decide (segFrames s .plain + 1 ≤ plainCap s) &&
    (pagePolicy s p 7 == 1 || dPin (page s p).desc)

/-- Has a page no migration open, and is it one of an own accepted extent and not fenced? -/
def movable (s : State) (p : Nat) : Bool :=
  !mhas s.chd.migs p && !(page s p).fenced &&
    (match extentAt s (p / 512) with
     | some (_, e) => e.shared.isNone
     | none => false)

/-- Lies a page in a part of a lease that its holder recalls (R129)? -/
def vacates (s : State) (d : Desc) : Bool :=
  match (borrow s (dNode d)).recallTo with
  | some r => dTier d == tierRemote && decide (r * 16777216 < dLoc d + dPods d)
  | none => false

/-- The occupancy of a page's arena is below half (R118). -/
def sparseArena (s : State) (d : Desc) : Bool :=
  let a := dLoc d / 32768
  decide (((s.chd.pods.filter (fun r => r.1 / 32768 == a)).map (·.2)).sum < 16384)

/-- The page that step 4, and step 5, of R127 takes next; pages alike come in the walker's order. -/
def reclaim4 (s : State) : Option Nat :=
  let ok := fun (p : Nat) =>
    let x := page s p
    dTier x.desc == tierPlain && movable s p && !dPin x.desc && pagePolicy s p 7 == 1 && decide (x.heat.toNat < pagePolicy s p 0)
  bestOf (fun (a b : Nat) => decide ((page s a).heat.toNat < (page s b).heat.toNat)) (((walkOrder s).map (·.2)).filter ok)
def reclaim5 (s : State) : Option Nat :=
  let lt := fun (a b : Nat) => match coldAge s a, coldAge s b with
    | some x, some y => decide (y < x)
    | some _, none => true
    | none, _ => false
  let ok := fun (p : Nat) =>
    let x := page s p
    (dTier x.desc == tierPlain || dTier x.desc == tierPacked) && movable s p && !dPin x.desc && pagePolicy s p 6 == 1 && x.heat == 0
  bestOf lt (((walkOrder s).map (·.2)).filter ok)

/-- The place of a piece of work in the order of R137, or none where it is no work now: vacating a recalled lease part is never
refused (0), then reclaim in band 2 (10 to 14), pins (20), RECALL (30), PROMOTE (40), reclaim in band 1 (50 to 53), DEMOTE (60),
LEND (70), REHOME (80), COMPACT (90), refold (100). -/
def workRank (s : State) (k : MigKind) (p : Nat) : Option Nat :=
  if !movable s p then none
  else
    let d := (page s p).desc
    let t := dTier d
    let reclaim := decide (framesF s < reserveHigh s)
    let band2 := reclaim && decide (framesF s < reserveLow s)
    let base := if band2 then 10 else 50
    let lowOk := decide (reserveLow s ≤ framesF s)
    match k with
    | .pack =>
      if t != tierPlain || dPin d || pagePolicy s p 7 != 1 then none
      else if hasCand s .demote p then some (if reclaim then base + 1 else 60)
      else if band2 && reclaim4 s == some p then some 14
      else none
    | .unpack =>
      if t != tierPacked then none
      else if dPin d then (if lowOk then some 20 else none)
      else if hasCand s .promote p && promoteOk s p then some 40
      else none
    | .recall =>
      if t != tierRemote then none
      else if vacates s d then some 0
      else if dPin d then (if lowOk then some 20 else none)
      else if hasCand s .recallFirst p then some 30
      else if hasCand s .recall p && lowOk then some 31
      else none
    | .lend =>
      if (t != tierPlain && t != tierPacked) || dPin d || pagePolicy s p 6 != 1 then none
      else if hasCand s .lend p then some (if reclaim then base + 2 else 70)
      else if band2 && reclaim5 s == some p then some 15
      else none
    | .rehome =>
      if t != tierRemote then none
      else if vacates s d then some 0
      else if hasCand s .rehome p then some 80
      else none
    | .compact =>
      if t != tierPacked || !sparseArena s d || dPods d == 0 then none
      else some (if reclaim then base + 3 else 90)
    | .refold =>
      if t != tierPlain && t != tierPacked && t != tierRemote then none
      else if (hasCand s .refold p || s.chd.refold.contains (BitVec.ofNat 36 p)) && (wantsRewrite s p || wantsRepack s p) then some 100
      else none
    | .mirrorAdd =>
      if t != tierPlain && t != tierPacked && t != tierRemote then none
      else if s.chd.refold.contains (BitVec.ofNat 36 p) && wantsMirror s p && s.chd.mirror == .mirrored then some 100 else none
    | .thaw => none

/-- The bytes a migration counts against its bucket (R136). -/
def migBytes (d : Desc) : Nat := if dTier d = tierPlain then 4096 else 64 * dPods d

/-- Does a kind draw on the local, or the fabric, bucket (R136)? -/
def drawsLocal : MigKind → Bool
  | .pack => true
  | .unpack => true
  | .compact => true
  | .refold => true
  | _ => false
def drawsFabric : MigKind → Bool
  | .lend => true
  | .recall => true
  | .rehome => true
  | _ => false

/-- Does the bucket hold what a migration will count (R136)? -/
def budgetOk (s : State) (k : MigKind) (d : Desc) (rank : Nat) : Bool :=
  rank == 0 || (if drawsLocal k then decide (migBytes d ≤ s.chd.localTokens)
    else if drawsFabric k then decide (migBytes d ≤ s.chd.fabricTokens) else true)

/-- Draw on the bucket. -/
def drawBudget (s : State) (k : MigKind) (n : Nat) : State :=
  if drawsLocal k then { s with chd := { s.chd with localTokens := s.chd.localTokens - n } }
  else if drawsFabric k then { s with chd := { s.chd with fabricTokens := s.chd.fabricTokens - n } }
  else s

/-- What the local, and the fabric, bucket holds at most: 1 ms of its rate, four times it in band 2 (R127, R136). -/
def bucketMax (s : State) (fabric : Bool) : Nat :=
  globalPolicy s (if fabric then 17 else 16) * (if decide (framesF s < reserveLow s) then 4000 else 1000)

/-- BUCKET_REFILL: every 1 ms the buckets refill (R136). -/
def bucketRefill (s : State) : State :=
  { s with chd := { s.chd with localTokens := bucketMax s false, fabricTokens := bucketMax s true } }

/-- Do the regulator's pause, the holds and the journal's space let a piece of work start (R138, R145, R164)? -/
def mayStart (s : State) (k : MigKind) (rank : Nat) : Bool :=
  let must := decide (rank ≤ 20)
  (must || !(s.qos.pause || s.chd.holdBackground)) &&
    (!(s.chd.holdLend && (k == .lend || k == .rehome)) || (decide (10 ≤ rank) && decide (rank < 20))) &&
    (spaceState s == 0 || (spaceState s == 1 && decide (10 ≤ rank) && decide (rank < 20))) &&
    decide (s.chd.migs.length < globalPolicy s 19)

/-- The class order of R128 for a page: 0 first. A page that is not cold enough never goes to a sleepable row. -/
def holderClass (s : State) (p node : Nat) : Option Nat :=
  let sleepable := nbit (s.img.geom.fld secGeometry 0 4) (node / 64)
  let own := decide (node / 64 = myNode s / 64)
  let cold := (match coldAge s p with | some a => decide (pagePolicy s p 5 ≤ a) | none => false) && pagePolicy s p 8 == 1
  if cold then (if sleepable then some 0 else if own then some 1 else some 2)
  else if sleepable then none else if own then some 0 else some 1

/-- The pod count of a page that a holder must have room for (R128): 64 for a Plain page, the stored form otherwise. -/
def lendPods (d : Desc) : Nat := if dTier d = tierPlain then 64 else dPods d

/-- Is a peer out of the eligible holders while the class that fenced it is unacknowledged (R543)? -/
def peerExcluded (s : State) (n : Nat) : Bool := s.flt.classes.any (fun c => c.2.unacked && c.2.excluded.contains (BitVec.ofNat 12 n))

/-- Is a holder eligible (R128, R244)? One whose row is asleep is; what goes there waits (R134). -/
def holderEligible (s : State) (p node : Nat) : Bool :=
  let d := (page s p).desc
  let b := borrow s node
  node != myNode s && (inService s node || (memberOf s node).state == .asleep) && decide (b.sizeGib ≠ 0) && decide (lendPods d ≤ leaseRoom b) &&
    (leaseFit b (lendPods d) 0).isSome && !(dMirror d && myBuddy s == some node) &&
    !s.xts.holdersOut.contains (BitVec.ofNat 12 node) && !peerExcluded s node && !(dTier d == tierRemote && dNode d == node) &&
    (holderClass s p node).isSome

/-- Is a node's row sleepable (R128)? -/
def sleepableNode (s : State) (node : Nat) : Bool := nbit (s.img.geom.fld secGeometry 0 4) (node / 64)

/-- The holder for a LEND or REHOME of a page (R128): class, then free space, then node XOR H[11:0]; `sleepable`: only one in a
sleepable row (R126). -/
def chooseHolder (s : State) (p : Nat) (sleepable : Bool) : Option Nat :=
  let h := pageHash p % 4096
  let key := fun n => ((holderClass s p n).getD 9, leaseRoom (borrow s n), Nat.xor n h)
  bestOf (fun a b =>
    let x := key a
    let y := key b
    if x.1 ≠ y.1 then decide (x.1 < y.1) else if x.2.1 ≠ y.2.1 then decide (y.2.1 < x.2.1) else decide (x.2.2 < y.2.2))
    ((mkeys s.chd.borrows).filter (fun n => holderEligible s p n && (!sleepable || sleepableNode s n)))

/-- The holder a LEND or REHOME goes to: one in a sleepable row for a REHOME that does not vacate a recalled part (R126, R129). -/
def holderFor (s : State) (p : Nat) (k : MigKind) : Option Nat :=
  chooseHolder s p (k == .rehome && !vacates s (page s p).desc)

/-- The next device to ask for a lease, in the class order for a page (R132): one that advertises room (R328) and has not been
asked. -/
def leaseCandidate (s : State) (p : Nat) : Option Nat :=
  bestOf (fun a b => decide ((holderClass s p a).getD 9 < (holderClass s p b).getD 9))
    ((mkeys s.fab.members).filter (fun n => n != myNode s && inService s n && (memberOf s n).lendable != 0 &&
      !mhas s.fab.leaseAsked n && (holderClass s p n).isSome))

/-- LEASE REQUEST to the next candidate: the current size plus max(lease_headroom_gib, 1), at most 12,288 GiB (R132, R329). -/
def requestLease (s : State) (p : Nat) : State :=
  let s := if s.chd.leaseWantedNs.isNone then { s with chd := { s.chd with leaseWantedNs := some s.clockNs } } else s
  if s.fab.own == .leaving then s
  else match leaseCandidate s p with
    | none => s
    | some n =>
      let size := min 12288 ((borrow s n).sizeGib + max (globalPolicy s 21) 1)
      if size ≤ (borrow s n).sizeGib then s
      else
        let s := { s with fab := { s.fab with leaseAsked := mset s.fab.leaseAsked n size } }
        sendCtrl s n 5 1 [(14, size), (2, 0), (12, 0)] true

/-- Unused room across all leases is below lease_headroom_gib (R132): ask for more. No page is named there, so the class order is
page 0's: DESIGN CHOICE (log 130). -/
def leaseHeadroom (s : State) : State :=
  let room := (s.chd.borrows.map (fun b => leaseRoom b.2)).sum
  if room < globalPolicy s 21 * 16777216 then requestLease s 0 else s

/-- The candidate slots of a migration that compresses its page afresh (R205): from a Plain source, or a repack by the refold that
next writes it (R76, R209); none for one that keeps stored forms. -/
def migSlots (s : State) (p : Nat) (k : MigKind) : List Nat :=
  let d := (page s p).desc
  match k with
  | .pack => pageSlots s p
  | .lend => if dTier d = tierPlain then pageSlots s p else []
  | .refold => if dTier d ≠ tierPlain && otherPrimer s p then pageSlots s p else []
  | _ => []

/-- Where a migration's page goes: tier, location, node and pods reserved, with the state after the reservation (R150, R152). -/
def reserveDst (s : State) (p : Nat) (k : MigKind) : Option (Nat × Nat × Nat × Nat × State) :=
  let d := (page s p).desc
  let me := myNode s
  let plain := (allocFrame s).map (fun r => (tierPlain, r.1, me, 0, r.2))
  let packed := (allocPods s 64).map (fun r => (tierPacked, r.1, me, 64, r.2))
  let beside := (allocPodsNear s (dLoc d / 32768) 64).map (fun r => (tierPacked, r.1, me, 64, r.2))
  let remote := fun (node : Nat) => (leaseFit (borrow s node) 64 (choice s 0 (2 ^ 38))).map (fun a => (tierRemote, a, node, 64, leaseTake (chosen s 1) node a 64))
  match k with
  | .pack => packed
  | .compact => (allocPodsApart s (dLoc d / 32768) 64).map (fun r => (tierPacked, r.1, me, 64, r.2))
  | .unpack => plain
  | .thaw => plain
  | .recall => if dPin d || (decide (pagePolicy s p 0 ≤ (page s p).heat.toNat) && promoteOk s p) then plain else packed
  | .lend => (holderFor s p k).bind remote
  | .rehome => (holderFor s p k).bind remote
  | .refold => if dTier d = tierPlain then plain else if dTier d = tierPacked then beside else remote (dNode d)
  | .mirrorAdd => some (dTier d, dLoc d, dNode d, 0, s)

/-- The row that sleeps of a holder a piece of work touches (R134): the source's, or the destination's. -/
def sleepingRow (s : State) (k : MigKind) (p : Nat) : Option Nat :=
  let d := (page s p).desc
  let src := if dTier d = tierRemote then [dNode d] else []
  let dst := if k = .lend ∨ k = .rehome then (holderFor s p k).toList else []
  ((src ++ dst).find? (fun n => rowAsleep s (n / 64))).map (· / 64)

/-- Can a piece of work start now? -/
def startable (s : State) (k : MigKind) (p : Nat) : Bool :=
  match workRank s k p with
  | none => false
  | some r => mayStart s k r && budgetOk s k (page s p).desc r && (reserveDst s p k).isSome

/-- The work that stands ready: what the candidate queues name, pinned pages (R123), parts of leases to vacate (R129), sparse arenas
and the pages that reclaim takes without a candidate (R127). Refold work goes before nothing. -/
def readyWork (s : State) : List (MigKind × Nat) :=
  let cand := fun (c : CandKind) => match c with
    | .recallFirst => [MigKind.recall]
    | .recall => [.recall]
    | .promote => [.unpack]
    | .demote => [.pack]
    | .lend => [.lend]
    | .rehome => [.rehome]
    | .compact => [.compact]
    | .refold => []
  s.chd.cands.flatMap (fun c => (cand c.1).map (fun k => (k, c.2.toNat))) ++
    s.chd.pages.flatMap (fun x =>
      let d := x.2.desc
      let t := dTier d
      if t = tierPacked then (if dPin d then [(MigKind.unpack, x.1)] else []) ++ [(.compact, x.1)]
      else if t = tierRemote ∧ (dPin d || vacates s d) then [(.recall, x.1), (.rehome, x.1)]
      else []) ++
    (reclaim4 s).toList.map (fun p => (MigKind.pack, p)) ++ (reclaim5 s).toList.map (fun p => (MigKind.lend, p))

/-- Is there ready work that goes before one of a rank (R127, R137)? Work held for a sleeping row is not ready (R134). -/
def outranked (s : State) (rank : Nat) : Bool :=
  (readyWork s).any (fun w => match workRank s w.1 w.2 with
    | some r => decide (r < rank) && startable s w.1 w.2 && (sleepingRow s w.1 w.2).isNone
    | none => false)

/-- The blocks of a migration of which no copy is there yet. -/
def migBlocks (s : State) (p : Nat) : List BlockDone := match mget s.chd.migs p with | some m => m.blocks | none => []

/-- Change an open migration. -/
def modMig (s : State) (p : Nat) (f : Mig → Mig) : State := { s with chd := { s.chd with migs := mmod s.chd.migs p f } }

/-- A block of a migration has been read and transformed: its BLEN value and primer at the destination. -/
def blockDone (s : State) (p b blen primer : Nat) : State :=
  modMig s p (fun m => { m with blocks := m.blocks.set b (.done blen primer) })

/-- The BLEN value of a block that has been copied. -/
def doneBlen : BlockDone → Option Nat
  | .waiting => none
  | .done n _ => some n

/-- The BLEN values of a migration once every block is there. -/
def migBlens (m : Mig) : Option (List Nat) :=
  if m.blocks.all (fun b => b != .waiting) then some (m.blocks.filterMap doneBlen) else none

/-- The blocks whose destination pods must be written: those not written yet or copied again, and every one behind a length that
has changed (R153). -/
def unsentBlocks (m : Mig) (bl : List Nat) : List Nat :=
  (List.range 4).filter (fun b => m.resend.contains b ||
    (List.range (b + 1)).any (fun i => m.sent.getD i none != some (bl.getD i 0)))

/-- Is the stored form of a migration's blocks new ciphertext? Otherwise it is copied byte for byte (R231). -/
def recoded (m : Mig) : Bool :=
  decide (m.dstTier = tierPlain) || decide (dTier m.src = tierPlain) || !m.slots.isEmpty || m.kgen != dKgen m.src

/-- Performance events of the blocks that a copy of a migration stores at its destination (R631): units encrypted, pods written. -/
def countStored (s : State) (m : Mig) (blens : List Nat) : State :=
  let n := if m.dstTier = tierPlain then 16 * blens.length else (blens.filter (· != 0)).length
  let s := if recoded m then encrypted s n else s
  if m.dstTier = tierPacked then podsWritten s 14 blens.sum else s

/-- Performance events of the blocks that a migration reads from its source (R631): units decrypted, blocks decompressed. -/
def countTaken (s : State) (m : Mig) (blens : List Nat) : State :=
  let n := if dTier m.src = tierPlain then 16 * blens.length else (blens.filter (· != 0)).length
  let s := if recoded m then decrypted s n else s
  if dTier m.src ≠ tierPlain && (decide (m.dstTier = tierPlain) || !m.slots.isEmpty) then
    countN s 0x024 (some 14) (blens.filter (fun n => decide (1 ≤ n) && decide (n ≤ 15))).length
  else s

/-- Once every block is there, a Remote destination is written with BlkWrites (R152, R153). -/
def migWriteOut (s : State) (p : Nat) : State :=
  match mget s.chd.migs p with
  | none => s
  | some m =>
    match migBlens m with
    | none => s
    | some bl =>
      if m.dstTier ≠ tierRemote then s
      else
        let todo := unsentBlocks m bl
        let primer := m.primer
        let step := fun (s : State) b =>
          let n := bl.getD b 0
          let img := match mget m.images b with
            | some i => i
            | none => sealedIn s m.domain p b n primer m.kgen
          sendImage s m.dstNode.toNat (m.dstLoc + (bl.take b).sum) (dVers m.src) 14 img (.migWrite p)
        let s := todo.foldl step s
        let k := (todo.map (fun b => bl.getD b 0)).sum
        modMig s p (fun m => { m with waiting := m.waiting + k, sent := bl.map some, resend := [] })

/-- The blocks of a page that is compressed afresh go to the lanes, once their data is there (R205, R216). -/
def startPack (s : State) (p : Nat) : State :=
  match mget s.chd.migs p with
  | none => s
  | some m =>
    let block := fun b => blockBytes s (4 * p + b)
    let s' := compressPage (dropResults s p) m.slots block (.migrate p)
    if (List.range 4).all (fun b => (block b).all (· == 0)) then
      migWriteOut ((List.range 4).foldl (fun s b => blockDone s p b 0 0) s') p
    else s'

/-- Copy blocks of an open migration from its source (R152): a Remote source is read with BlkRead, blocks that are compressed afresh
go to the lanes, another local copy is there at once. -/
def copyBlocks (s : State) (p : Nat) (blocks : List Nat) : State :=
  match mget s.chd.migs p with
  | none => s
  | some m =>
    let d := m.src
    let blocks := if m.slots.isEmpty then blocks else List.range 4
    let s := modMig s p (fun m => { m with
      blocks := m.blocks.zipIdx.map (fun x => if blocks.contains x.2 then .waiting else x.1)
      resend := (m.resend ++ blocks).eraseDups })
    if dTier d = tierRemote then
      let s := blocks.foldl (fun s b =>
        let n := dBlen d b
        if n = 0 then (if m.slots.isEmpty then blockDone (countStored s m [0]) p b 0 0 else s)
        else
          let s := modMig s p (fun m => { m with waiting := m.waiting + 1 })
          sendBlkRead s 4 (dNode d) (dBlockLoc d b) n (dVers d) 14 (.migRead p b)) s
      if m.slots.isEmpty then migWriteOut s p
      else if blocks.all (fun b => dBlen d b == 0) then startPack s p else s
    else if !m.slots.isEmpty then startPack (countTaken s m (blocks.map (dBlen d))) p
    else
      let stored := blocks.map (fun b => if m.dstTier = tierPlain then 0 else dBlen d b)
      let s := countStored (countTaken s m (blocks.map (dBlen d))) m stored
      migWriteOut (blocks.foldl (fun s b => blockDone s p b (if m.dstTier = tierPlain then 0 else dBlen d b) m.sourcePrimer) s) p

/-- A migration of a page is opened under journal and its first pass begins (R152, steps 1 and 2). A page that is written takes its
domain's current generation (R89): a refold, one from a Plain source, one to Plain. -/
def openMig (s : State) (k : MigKind) (p : Nat) (dst : Nat × Nat × Nat × Nat) (drawn : Nat) : State :=
  let x := page s p
  let src := x.desc
  let a := attrsOf s p
  let seq := nextSeqOf s p
  let slots := migSlots s p k
  let writes := decide (k ≠ .mirrorAdd) && (decide (k = .refold) || decide (dTier src = tierPlain) || decide (dst.1 = tierPlain))
  let s := if slots.isEmpty then s else noteTrial s p
  let s := jpage s p recMigOpen (kindCode k) 0 dst.2.2.2 src (mkDesc dst.1 false 0 false false false false 0 dst.2.1 dst.2.2.1 0)
  let m : Mig := {
    kind := k
    phase := .passing
    pass := 1
    dirty := 0
    src := src
    dstTier := dst.1
    dstLoc := dst.2.1
    dstNode := BitVec.ofNat 12 dst.2.2.1
    dstPods := dst.2.2.2
    blocks := List.replicate 4 .waiting
    waiting := 0
    sent := List.replicate 4 none
    resend := []
    images := []
    failedFreezes := 0
    abortPending := false
    openSeq := seq
    drawn := drawn
    kgen := if writes then currentKgen s a.domain else dKgen src
    domain := if writes then a.domain else pageDomain s p
    primer := if slots.isEmpty then dPrimer src else a.primer
    sourcePrimer := dPrimer src
    slots := slots
    hint := none }
  let s := { s with chd := { s.chd with
    migs := mset s.chd.migs p m
    cands := s.chd.cands.filter (fun c => c.2.toNat != p)
    rowHeld := s.chd.rowHeld.filter (fun h => h.2.1.toNat != p) } }
  let s := putDesc s p (dSet src 127 125 tierMoving)
  if k = .mirrorAdd then modMig (mirrorPage s p false) p (fun m => { m with waiting := 1 })
  else copyBlocks s p (List.range 4)

/-- MIGRATION_START: Chard starts a piece of work that is ready and not outranked. With a holder in a sleeping row it is held in
the row's list; a LEND or REHOME with no holder asks for a lease; a candidate whose condition fails is dropped (R119 to R138). -/
def migrationStart (s : State) (k : MigKind) (p : Nat) : State :=
  match workRank s k p with
  | none =>
    match k with
    | .unpack => dropCand s .promote p
    | .recall => if reserveLow s ≤ framesF s then s else dropCand s .recall p
    | _ => s
  | some r =>
    if !(mayStart s k r && budgetOk s k (page s p).desc r) || outranked s r then s
    else match sleepingRow s k p with
      | some row =>
        let h : MigKind × PageNo × BitVec 6 := (k, BitVec.ofNat 36 p, BitVec.ofNat 6 row)
        if s.chd.rowHeld.contains h then s else { s with chd := { s.chd with rowHeld := s.chd.rowHeld ++ [h] } }
      | none =>
        match reserveDst s p k with
        | none => if k = .lend ∨ k = .rehome then requestLease s p else s
        | some (tier, loc, node, pods, s') =>
          let n := if drawsLocal k || drawsFabric k then migBytes (page s p).desc else 0
          leaseHeadroom (openMig (drawBudget s' k n) k p (tier, loc, node, pods) n)

/-- Dirty lines of a page in the near cache are merged into its frame, and its blocks leave the near cache (R662). -/
def mergeNear (s : State) (p : Nat) : State :=
  let base := myNode s * 2 ^ 38
  let step := fun (s : State) b =>
    match mget s.coh.near (base + 4 * p + b) with
    | none => s
    | some blk =>
      let s := (blk.lines.filter (fun l => l.2.dirty)).foldl (fun s l =>
        let ln := 16 * (4 * p + b) + l.1
        let s := writeLine s ln l.2.data
        if l.2.poison then poisonOne s ln else if linePoisoned s ln then cleanOne s ln else s) s
      { s with coh := { s.coh with near := mdel s.coh.near (base + 4 * p + b) } }
  (List.range 4).foldl step s

/-- Owner-side and buddy-side descriptors that name the generation of a domain that is not current (R251). -/
def pagesOld (s : State) (domain : Nat) : Nat :=
  let old := !currentKgen s domain
  (s.chd.pages.filter (fun x => dTier x.2.desc != tierNone && pageDomain s x.1 == domain && dKgen x.2.desc == old)).length +
    (s.chd.copies.filter (fun x => dTier x.2.desc != tierNone && copyDomain x.1 == domain && dKgen x.2.desc == old)).length

/-- The old generation of a domain that no descriptor names any more is destroyed, and event 0x16A is raised (R237). -/
def retireKey (s : State) (domain : Nat) : State :=
  let k := domKeys s domain
  if k.old.isSome ∧ pagesOld s domain = 0 then raiseP (setDom s domain { k with old := none }) 0x16A 0 .none domain else s

/-- Old generations that the last descriptor has left are destroyed (R237 step 6). -/
def retireKeys (s : State) : State := (mkeys s.xts.domains).foldl retireKey s

/-- How far a refold has come, as an IMAGE record tells it (R161): pages still to move, and with them the pages that the journal's
pending list names as not yet repacked (R76). How the two stand in the field is open: DESIGN CHOICE (log 127). -/
def refoldProgress (s : State) : Nat := s.chd.refold.length % 2 ^ 32 + 2 ^ 32 * (s.chd.repack.length % 2 ^ 32)

/-- An IMAGE record (R161). -/
def noteRefold (s : State) : State :=
  jwrite s 0 (plainRec recImage (BitVec.ofNat 128 (s.img.active.serial.toNat + 2 ^ 64 * refoldProgress s)) 0)

/-- A refold has ended once no page is left to move or copy; pages not yet repacked are named in the pending list (R76): event 0x1F0.
An extent that waits for tag tables keeps it open (R81). -/
def refoldEnds (s : State) : State :=
  if s.img.refoldActive && s.chd.refold.isEmpty && !s.chd.extents.any (fun e => e.2.tagWait) then
    raise { s with img := { s.img with refoldActive := false } } 0x1F0 0
  else s

/-- Refold work on a page is done (R60, R76): it leaves the pending lists. -/
def refoldDone (s : State) (p : Nat) : State :=
  let q : PageNo := BitVec.ofNat 36 p
  let s := if s.chd.repack.contains q && !otherPrimer s p then
      noteRefold { s with chd := { s.chd with repack := s.chd.repack.filter (· != q) } }
    else s
  if !s.chd.refold.contains q || wantsRefold s p then s
  else refoldEnds (noteRefold { s with chd := { s.chd with refold := s.chd.refold.filter (· != q) } })

/-- Migration counters (R187). -/
def countCommitted (s : State) (k : MigKind) : State :=
  count { s with chd := { s.chd with committed := s.chd.committed + 1 } } (0x050 + kindCode k)

/-- The tags of a page's stored blocks, ZERO blocks reading 0 (R240, R241). -/
def pageTags (s : State) (p : Nat) (d : Desc) : BitVec 256 :=
  (List.range 4).foldl (fun t b =>
    putTag t b (imageTag s (pageDomain s p) (pageHome s p) p b (dKgen d) (sealedBlock s p b (dBlen d b) (dPrimer d) (dKgen d)))) 0

/-- A migration has ended: a placement hint that came meanwhile takes effect (R142, R144), and the page's heat is looked at again. -/
def hintEnds (s : State) (p : Nat) (hint : Option Nat) : State :=
  match hint with
  | none => s
  | some k =>
    let s := heatReached s p
    if k = 2 ∧ dTier (page s p).desc = tierPlain ∧ !dPin (page s p).desc ∧ pagePolicy s p 7 = 1 then postCand s .demote p else s

/-- Commit: MIG_COMMIT is durable, the descriptor switches with VERS + 1, the near cache's lines are merged into a Plain page, the
source is freed and unused pods return (R152 step 6 and 7, R159, R662). -/
def commitMig (s : State) (p : Nat) : State :=
  match mget s.chd.migs p with
  | none => s
  | some m =>
    match migBlens m with
    | none => s
    | some bl =>
      let d := m.src
      let cur := (page s p).desc
      let add := decide (m.kind = .mirrorAdd)
      let bl := if m.dstTier = tierPlain then [0, 0, 0, 0] else bl
      let named := bl.any (fun n => decide (1 ≤ n) && decide (n ≤ 15))
      let stored := m.dstTier = tierPacked ∨ m.dstTier = tierRemote
      let dst := mkDesc m.dstTier m.kgen (if named then m.primer else 0) (dMirror cur || add) (decide stored && taggedPage s p)
        (dPin cur) (dPoison cur) (packBlens bl) m.dstLoc m.dstNode.toNat (dVers d + 1)
      let dst := if add then dSet (dSet (dSet (dSet d 117 117 1) 115 115 (b2n (dPin cur))) 33 18 (dVers d + 1)) 127 125 (dTier d) else dst
      let s := if m.dstTier = tierPlain ∧ m.kind ≠ .mirrorAdd then mergeNear s p else s
      let dst := dSet dst 114 114 (b2n ((page s p).poison != 0))
      let s := jpage s p recMigCommit (kindCode m.kind) m.openSeq 0 dst 0
      let s := { s with chd := { s.chd with migs := mdel s.chd.migs p } }
      let s := putDesc s p dst
      let old := pageDomain s p
      let s := if !add && decide (m.domain = (attrsOf s p).domain) then { s with chd := { s.chd with pageDom := mdel s.chd.pageDom p } } else s
      let s := if add then s else modPage s p (fun x => { x with tags := if dInteg dst then pageTags s p dst else 0 })
      let s := if add then s
        else
          let s := freeStorage s p (dTier d) d
          if m.dstTier = tierPacked then trimPods s m.dstLoc m.dstPods bl.sum
          else if m.dstTier = tierRemote then leaseTrim s m.dstNode.toNat m.dstLoc m.dstPods bl.sum
          else s
      let s := if m.dstTier = tierRemote ∧ !add then clearPage s p else s
      let s := if m.dstTier = tierRemote ∧ nbit (s.img.geom.fld secGeometry 0 4) (m.dstNode.toNat / 64) ∧ !add then ledgerDrop s p
        else s
      let s := primerMoved s d dst
      let s := retireKey (retireKey s m.domain) old
      let s := countCommitted s m.kind
      hintEnds (refoldDone s p) p m.hint

/-- The jobs of a page's migration leave the queues. -/
def dropMigJobs (s : State) (p : Nat) : State :=
  let other := fun (j : Job) => match j.use with
    | .migrate q _ => q != p
    | _ => true
  let s := dropResults s p
  { s with cmp := { s.cmp with
    sched := { s.cmp.sched with items := s.cmp.sched.items.filter (fun i => other i.item) }
    waiting := s.cmp.waiting.filter other
    dWait := s.cmp.dWait.filter (fun j => match j.use with
      | .migrate q _ => q != p
      | _ => true) } }

/-- Abort: MIG_ABORT under journal leaves the source in force and frees the destination; what of PIN, POISON and MIRROR has changed
meanwhile is set by a DESC_SET (R156, R159, R161). -/
def abortMig (s : State) (p : Nat) : State :=
  match mget s.chd.migs p with
  | none => s
  | some m =>
    let cur := (page s p).desc
    let s := jpage s p recMigAbort (kindCode m.kind) m.openSeq 0 0 0
    let back := dSet (dSet (dSet m.src 115 115 (b2n (dPin cur))) 114 114 (b2n (dPoison cur))) 117 117 (b2n (dMirror cur))
    let s := { s with chd := { s.chd with migs := mdel s.chd.migs p, aborted := s.chd.aborted + 1 } }
    let s := putDesc s p m.src
    let s := if back = m.src then s else descSet s p back
    let s := dropMigJobs s p
    let s :=
      if m.kind = .mirrorAdd then { s with chd := { s.chd with copyRuns := mdel s.chd.copyRuns p } }
      else if m.dstTier = tierPlain then freeFrame s m.dstLoc
      else if m.dstTier = tierPacked then freePods s m.dstLoc m.dstPods
      else freeHolderRange s p m.dstNode.toNat m.dstLoc m.dstPods (m.sent.any (·.isSome))
    let s := if dTier m.src = tierRemote then clearPage s p else s
    hintEnds (count s 0x05F) p m.hint

/-- An event of R156 reaches an open migration: before its freeze it aborts, after it the abort is pending. -/
def stopMig (s : State) (p : Nat) : State :=
  match mget s.chd.migs p with
  | none => s
  | some m => if m.phase = .passing then abortMig s p else modMig s p (fun m => { m with abortPending := true })

/-- The code of a decoder error in a record, 0 for none: the order of R196. -/
def errCode : Option DecError → Nat
  | none => 0
  | some .truncated => 1
  | some .invalid => 2
  | some .expansion => 3
  | some .short => 4

/-- The record of a block's failure: page, block, tier, holder, recovered, and the decoder error (R198, R243). The places of the fields
are open: DESIGN CHOICE (log 128). -/
def blockInfo (s : State) (p b : Nat) (ok : Bool) (e : Option DecError) : Nat :=
  packF [(36, p), (2, b), (3, servingTier s p), (12, dNode (servedDesc s p)), (1, b2n ok), (3, errCode e)]

/-- Event 0x161, or 0x168, for a block (R198, R243). -/
def blockEvent (s : State) (p b : Nat) (ok : Bool) (e : Option DecError) : State :=
  raiseP s (if e.isSome then 0x161 else 0x168) 0 (.page (BitVec.ofNat 36 p)) (blockInfo s p b ok e)

/-- May lines of an own page be taken from the buddy? -/
def mirrorable (s : State) (p : Nat) : Bool := dMirror (page s p).desc && (myBuddy s).isSome

/-- A block is given up after a decoder error, or a tag failure: with a copy at the buddy its event waits for what that has (R198,
R243). -/
def blockFailed (s : State) (p b : Nat) (e : Option DecError) : State :=
  if mirrorable s p then { s with cmp := { s.cmp with reports := (4 * p + b, e) :: s.cmp.reports } }
  else blockEvent s p b false e

/-- A decoder error in both lanes (R198 step 2): counted, and the block's lines are poisoned. -/
def decodeLost (s : State) (p b : Nat) (e : DecError) : State :=
  let s := { s with cmp := { s.cmp with decodeError := s.cmp.decodeError + 1 } }
  blockFailed (poisonBlock s (4 * p + b)) p b (some e)

/-- The first lane erred and a second one decoded the block (R198 step 1, R658): the first is fenced. -/
def decodeCleared (s : State) : State :=
  match freeDLane s none with
  | some i => fenceDLane s i
  | none => s

/-- A first decode, as the command reports it, of an image that decodes to `r`: an error of the image itself shows in both lanes. -/
def decodeOf (dec : DecOutcome) (r : Except DecError (List Byte)) : DecOutcome :=
  match r with
  | .error e => .failed e
  | .ok _ => dec

/-- Are lines of an own page on their way from the buddy? -/
def pageFetching (s : State) (p : Nat) : Bool :=
  s.e2e.txs.any (fun x => match x.2.purpose with
    | .mirrorRead q _ => q == p
    | _ => false)

/-- Blocks' lines are fetched from the buddy for a migration, with event 0x1F8 (R157). -/
def migFetch (s : State) (p : Nat) (bad : BitVec 64) : State :=
  raiseP (((List.range 4).filter (fun b => (bad >>> (16 * b)) &&& 0xFFFF != 0)).foldl
    (fun s b => mirrorRead s p (16 * b) 16 bad) s) 0x1F8 0 (.page (BitVec.ofNat 36 p)) 0

/-- A copy of blocks met uncorrectable lines (R157): they are fetched from the buddy where the page has MIRROR 1, and poisoned
otherwise. No migration fails for it. -/
def migBad (s : State) (p : Nat) (bad : BitVec 64) : State :=
  if bad = 0 then s
  else if mirrorable s p then migFetch s p bad
  else poisonMask s p ((page s p).poison ||| bad)

/-- The decode of a block that a migration read came to an outcome (R157, R198). A lane without a result is handled as one that erred
and was cleared: its job moved (R659). -/
def migDecode (s : State) (p b : Nat) (dec : DecOutcome) : State :=
  match dec with
  | .ok => s
  | .cleared => decodeCleared s
  | .hung => decodeCleared s
  | .failed e =>
    let s := decodeLost s p b e
    if mirrorable s p then migFetch s p ((0xFFFF : BitVec 64) <<< (16 * b)) else s

/-- The number of blocks in a dirty mask. -/
def dirtyCount (m : BitVec 4) : Nat := popCount 4 m.toNat

/-- The blocks of a dirty mask. -/
def dirtyBlocks (m : BitVec 4) : List Nat := (List.range 4).filter (fun b => m.getLsbD b)

/-- The budget of a LEND from a Plain source returns, once, what its first pass did not send (R136). -/
def returnBudget (s : State) (p : Nat) (m : Mig) : State :=
  let n := 64 * ((migBlens m).getD []).sum
  if m.kind = .lend ∧ dTier m.src = tierPlain ∧ m.pass = 1 ∧ n < m.drawn then
    modMig { s with chd := { s.chd with fabricTokens := min (bucketMax s true) (s.chd.fabricTokens + (m.drawn - n)) } } p
      (fun m => { m with drawn := n })
  else s

/-- May a copy pass of a migration end: every block is copied and acknowledged, and no line is on its way from the buddy? -/
def passReady (s : State) (p : Nat) (m : Mig) : Bool :=
  m.phase == .passing && m.waiting == 0 && (migBlens m).isSome && !pageFetching s p

/-- A copy pass ends: every block is copied and acknowledged, and no line of the page is on its way from the buddy. The dirty mask is
read and cleared; with at most one dirty block, or after pass 8, or when the journal runs short, the freeze begins; else another pass
recopies the dirty blocks (R152, R157, R164). -/
def passEndMig (s : State) (p : Nat) (bad : BitVec 64) (decs : List (Nat × DecOutcome)) : State :=
  match mget s.chd.migs p with
  | none => s
  | some m =>
    if !passReady s p m then s
    else
      let s := decs.foldl (fun s x => migDecode s p x.1 x.2) (migBad s p bad)
      if pageFetching s p then s
      else
        let s := returnBudget s p m
        let dirty := m.dirty
        let freeze := decide (dirtyCount dirty ≤ 1) || decide (8 ≤ m.pass) || spaceState s == 2
        let s := modMig s p (fun m => { m with
          dirty := 0
          pass := if freeze then m.pass else m.pass + 1
          phase := if freeze then .frozen else .passing })
        if dirty = 0 then s else copyBlocks s p (dirtyBlocks dirty)

/-- Is a write of a page under way to the DDR-5 write queue (R154)? -/
def writesUnderWay (s : State) (p : Nat) : Bool :=
  s.coh.txs.any (fun x => x.2.stage == .writing && x.1 == myNode s * 2 ^ 42 + x.1 % 2 ^ 42 && x.1 % 2 ^ 42 / 64 == p) ||
    s.coh.sink.any (fun x => x.stage == .writing && x.key == myNode s * 2 ^ 42 + x.key % 2 ^ 42 && x.key % 2 ^ 42 / 64 == p)

/-- MIGRATION_COMMIT: writes and evictions under way complete, inside the freeze the remaining dirty blocks are copied; then MIG_COMMIT (R152 step 6, R154). -/
def migrationCommit (s : State) (p : Nat) : State :=
  match mget s.chd.migs p with
  | none => s
  | some m =>
    if m.phase ≠ .frozen || writesUnderWay s p || mhas s.chd.evicts p || pageFetching s p then s
    else if m.dirty ≠ 0 then copyBlocks (modMig s p (fun m => { m with dirty := 0 })) p (dirtyBlocks m.dirty)
    else if m.waiting ≠ 0 ∨ (migBlens m).isNone then s
    else commitMig s p

/-- FREEZE_TIMEOUT: the freeze reaches 2 µs without commit and ends; after the fourth the migration aborts with event 0x1F1, and
a pending event of R156 aborts it (R154, R156). -/
def freezeTimeout (s : State) (p : Nat) : State :=
  match mget s.chd.migs p with
  | none => s
  | some m =>
    if m.phase ≠ .frozen then s
    else if m.abortPending then abortMig s p
    else if 3 ≤ m.failedFreezes then raiseP (abortMig s p) 0x1F1 0 (.page (BitVec.ofNat 36 p)) 0
    else modMig s p (fun m => { m with phase := .passing, failedFreezes := m.failedFreezes + 1 })

/-- The results of a block of a migration's whole-page compression (R216): with the last block's the best candidate is taken. -/
def migResult (s : State) (p b : Nat) (j : Job) : State :=
  match mget s.chd.migs p with
  | none => s
  | some m =>
    let s := { s with cmp := { s.cmp with results := mset s.cmp.results (4 * p + b) (j.slots.map (·.toNat), j.got) } }
    match bestTrial s p m.slots.length (fun b => (blockBytes s (4 * p + b)).all (· == 0)) with
    | none => s
    | some (c, bl) =>
      let slot := m.slots.getD c 0
      let s := countStored (dropResults s p) m bl
      let s := modMig s p (fun m => { m with blocks := bl.map (fun n => .done n slot), primer := slot })
      migWriteOut s p

/-- A holder acknowledged a BlkWrite of a migration. -/
def migAcked (s : State) (p : Nat) : State := modMig s p (fun m => { m with waiting := m.waiting - 1 })

/-- A block of a Remote source is here, decoded or given up (R153, R157): it is done, or once every block is here the page is
compressed afresh. -/
def migBlockHere (s : State) (p b blen : Nat) : State :=
  match mget s.chd.migs p with
  | none => s
  | some m =>
    if m.slots.isEmpty then
      migWriteOut (blockDone (countStored s m [blen]) p b (if m.dstTier = tierPlain then 0 else blen) (if blen = 0 then 0 else dPrimer m.src)) p
    else if m.waiting = 0 then startPack s p else s

/-- A block of a Remote source is lost (R157): its lines come from the buddy, or are poisoned; it goes on as a block of zeros. -/
def migBlockLost (s : State) (p b : Nat) (lines : BitVec 64) : State :=
  let s := modMig s p (fun m => { m with waiting := m.waiting - 1 })
  migBlockHere (migBad (writeBlock s (4 * p + b) (List.replicate 1024 0)) p lines) p b 0

/-- The pods of a block of a Remote source have arrived: its stored image is kept for a holder, and its data decrypted and decoded
(R152, R231). A form that is moved as it is runs through no lane; one that cannot be decoded is found here: DESIGN CHOICE (log 129). -/
def migArrived (s : State) (p b : Nat) (img : List Byte) (dec : DecOutcome) : State :=
  match mget s.chd.migs p with
  | none => s
  | some m =>
    let n := dBlen m.src b
    let clear := openImage s (pageDomain s p) (pageHome s p) p b (dKgen m.src) img
    let r := decodeImage (primerOf s (dPrimer m.src)) n clear
    let good := fun (s : State) (bs : List Byte) =>
      let s := modMig (writeBlock s (4 * p + b) bs) p (fun m => { m with waiting := m.waiting - 1 })
      let s := if m.kind = .rehome then modMig s p (fun m => { m with images := mset m.images b img }) else s
      migBlockHere s p b n
    let s := countTaken s m [n]
    let decodes := decide (m.dstTier = tierPlain) || !m.slots.isEmpty
    match decodeOf (if decodes then dec else .ok) r, r with
      | .failed e, _ => migBlockHere (modMig (migDecode (writeBlock s (4 * p + b) (List.replicate 1024 0)) p b (.failed e)) p
          (fun m => { m with waiting := m.waiting - 1 })) p b 0
      | .hung, .ok bs => dLaneTakes s ⟨.migrate p b, bs⟩
      | o, .ok bs => good (migDecode s p b o) bs
      | _, .error _ => s

/-- Another lane has decoded a block of a Remote source (R659). -/
def migDecoded (s : State) (p b : Nat) (bs : List Byte) : State :=
  match mget s.chd.migs p with
  | none => s
  | some m => migBlockHere (modMig (writeBlock s (4 * p + b) bs) p (fun m => { m with waiting := m.waiting - 1 })) p b (dBlen m.src b)

/-- A write or a pod rewrite changes a block's stored form at the source of an open migration (R151, R154). -/
def markBlock (s : State) (block : Nat) : State :=
  modMig s (block / 4) (fun m => { m with dirty := m.dirty ||| ((1 : BitVec 4) <<< (block % 4)) })

/-- Is a page frozen: writes and evictions to it are held at their sources (R154)? -/
def pageFrozen (s : State) (p : Nat) : Bool :=
  match mget s.chd.migs p with
  | some m => m.phase == .frozen
  | none => false

/-- Migrations with a holder in a row (R135), or with one holder (R130). -/
def migsWith (s : State) (f : Nat → Bool) : List Nat :=
  (s.chd.migs.filter (fun m => (m.2.dstTier == tierRemote && f m.2.dstNode.toNat) ||
    (dTier m.2.src == tierRemote && f (dNode m.2.src)))).map (·.1)

/-- May Chard consent to a row's sleep: no migration is open with a holder in it (R135)? -/
def chardConsents (s : State) (row : Nat) : Bool := (migsWith s (fun n => n / 64 == row)).isEmpty

end Sys2Proof.Machine
end

