-- ==== Sys2Proof/Machine/Mem.lean ====
section
/-! DEFINITION. The DDR-5 and RLD controllers (12: R419 to R451) and error correction, marking and scrub pacing (13: R452 to
R472): admission, issue order, refresh, power-down, training helpers, buckets and marks. -/

namespace Sys2Proof.Machine

/-- A DIMM record of a channel's position 0: ranks, capacity_gib, speed_mts (R44). -/
def dimm0 (s : State) (c : Nat) : List Nat := (s.img.restart.dimmRec (2 * c)).getD []
def dimmsOf (s : State) (c : Nat) : Nat :=
  b2n (s.img.restart.dimmRec (2 * c)).isSome + b2n (s.img.restart.dimmRec (2 * c + 1)).isSome

/-- Rank bits r, chip-ID bits c and row bits of a channel (R419, R423). -/
def chanRankBits (s : State) (c : Nat) : Nat := rankBits (max 1 ((dimm0 s c).getD 0 1)) (max 1 (dimmsOf s c))
def perRank (s : State) (c : Nat) : Nat := (dimm0 s c).getD 1 0 / max 1 ((dimm0 s c).getD 0 1)
def chanCidBits (s : State) (c : Nat) : Nat := if perRank s c ≤ 64 then 0 else if perRank s c ≤ 128 then 1 else 2
def chanRowBits (s : State) (c : Nat) : Nat := if perRank s c ≤ 32 then 16 else 17

/-- XOR mask k of R424. -/
def xorMask (s : State) (k : Nat) : Nat := unpackNat 3 (s.img.restart.fld secMem 0 10) k % 2 ^ 17

/-- The parity of the row bits a mask selects (R424). -/
def maskParity (s : State) (k row : Nat) : Nat := popCount 17 (row &&& xorMask s k) % 2

/-- A DRAM address within a channel (R423, R424). -/
structure DramAddr where
  sc : Nat
  rank : Nat
  cid : Nat
  bg : Nat
  ba : Nat
  row : Nat
  col : Nat
deriving DecidableEq, Repr

/-- The cell of a channel address (R423, R424). -/
def dramAddr (s : State) (c ca : Nat) : DramAddr :=
  let r := chanRankBits s c
  let cb := chanCidBits s c
  let rb := 19 + r + cb
  let row := ca / 2 ^ rb
  let flip := fun k v => if maskParity s k row = 1 then Nat.xor v 1 else v
  let bit := fun i => ca / 2 ^ i % 2
  let bg := flip 1 (bit 7) + 2 * flip 2 (bit 8) + 4 * flip 3 (bit 9)
  let ba := flip 4 (bit 17) + 2 * flip 5 (bit 18)
  let rank := if r = 0 then 0 else if r = 1 then flip 6 (bit 19) else flip 6 (bit 19) + 2 * flip 7 (bit 20)
  ⟨flip 0 (bit 6), rank, ca / 2 ^ (19 + r) % 2 ^ cb, bg, ba, row, ca / 2 ^ 10 % 128⟩

/-- The internal channel and bank of an RLD address (R442). -/
def rldChannel (a : Nat) : Nat := Nat.xor (a / 64 % 8) (a / 32768 % 8)
def rldBank (a : Nat) : Nat := Nat.xor (a / 512 % 16) (a / 262144 % 16)

/-- The bank and the row of an address at a controller, and its rank. -/
def bankOf (s : State) (n a : Nat) : Nat × Nat :=
  if n < 12 then
    let d := dramAddr s n a
    ((((d.rank * 4 + d.cid) * 2 + d.sc) * 8 + d.bg) * 4 + d.ba, d.row)
  else (rldChannel a * 16 + rldBank a, a / 4194304)
def rankOf (s : State) (n a : Nat) : Nat := if n < 12 then (dramAddr s n a).rank else 0

/-- Is a controller in service: it takes requests (R449)? -/
def ctlServes (c : MemCtl) : Bool :=
  c.st == .active || c.st == .powerDown || c.st == .selfRefresh

/-- A request's urgency (R427). -/
def urgency (now : Nat) (r : MemReq) : Nat :=
  let a := now - r.atNs
  if r.target ≤ a then 3 else if 3 * r.target ≤ 4 * a then 2 else if r.target ≤ 2 * a then 1 else 0

/-- Count the requests of a controller that have reached urgency 3 since (R427, R448; performance event 0x090 + l). -/
def countUrgent (s : State) (n : Nat) : State :=
  let c := ctl s n
  let due := fun (r : MemReq) => !r.counted && urgency s.clockNs r == 3
  let hit := (c.sched.items.map (·.item) ++ c.rq ++ c.wq).filter due
  if hit.isEmpty then s
  else
    let mark := fun (r : MemReq) => if due r then { r with counted := true } else r
    let u := hit.foldl (fun (u : List (BitVec 32)) r => u.set (portIndex r.port) (u.getD (portIndex r.port) 0 + 1)) c.urgent3
    let s := setCtl s n { c with
      sched := { c.sched with items := c.sched.items.map (fun i => { i with item := mark i.item }) }
      rq := c.rq.map mark
      wq := c.wq.map mark
      urgent3 := u }
    hit.foldl (fun s r => countL s (0x090 + r.label) r.label) s

/-- A channel leaves self-refresh for a request, and its rank power-down (R434). -/
def wakeCtl (s : State) (n rank : Nat) : State :=
  modCtl s n (fun c =>
    if c.st == .selfRefresh then { c with st := .active, ranksDown := 0 }
    else if c.ranksDown.getLsbD rank then { c with st := .active, ranksDown := c.ranksDown &&& ~~~((1 : BitVec 4) <<< rank) }
    else c)

/-- Draining starts at wq_high entries and stops at wq_low (R430). -/
def drainUpdate (c : MemCtl) : MemCtl :=
  let on := if c.draining then decide (c.wqLow < c.wq.length) else decide (c.wqHigh ≤ c.wq.length)
  { c with draining := on, drained := if on then c.drained else 0 }

/-- The line an access covers, for the rules of R431. -/
def sameLine (a b : MemReq) : Bool := a.addr / 64 == b.addr / 64 && a.size == 64 && b.size == 64

/-- Admission: select a waiting read, or write, by the order of R391 while its queue has room (R428). A write that finds a queued
write to its line replaces its data in place (R431). Gives the request admitted. -/
def memAdmit (s : State) (n : Nat) (write : Bool) : State × Option MemReq :=
  let s := countUrgent s n
  let c := ctl s n
  if !ctlServes c || decide (64 ≤ (if write then c.wq.length else c.rq.length)) then (s, none)
  else
    match wfqPick c.sched (labelRt s) (fun _ => false) (fun r => r.write == write) (fun _ => 0) with
    | none => (s, none)
    | some (x, q) =>
      let r := x.item
      let s := memRefill (wakeCtl (setCtl s n { c with sched := q }) n (rankOf s n r.addr)) n x.label
      let s := { s with qos := { s.qos with bwm := mupd s.qos.bwm r.label 0 (· + BitVec.ofNat 48 r.size) } }
      let c := ctl s n
      let c :=
        if write then
          let c := if c.wq.any (sameLine r) then { c with wq := modFirst (sameLine r) (fun w => { w with data := r.data }) c.wq }
            else { c with wq := c.wq ++ [r] }
          drainUpdate c
        else { c with rq := c.rq ++ [r] }
      (setCtl s n c, some r)

/-- Does a request hit an open row? -/
def rowHit (s : State) (n : Nat) (c : MemCtl) (r : MemReq) : Bool :=
  let b := bankOf s n r.addr
  mget c.openRows b.1 == some b.2

/-- The read to issue next among those whose bank timing allows it (R429). -/
def nextRead (s : State) (n : Nat) (c : MemCtl) (blocked : List Nat) : Option MemReq :=
  bestOf (fun a b =>
    let ua := urgency s.clockNs a
    let ub := urgency s.clockNs b
    if ua ≠ ub then decide (ub < ua)
    else if rowHit s n c a ≠ rowHit s n c b then rowHit s n c a
    else decide (a.id < b.id)) (c.rq.filter (fun r => !blocked.contains r.id))

/-- The write to issue next: a row hit first, then the oldest (R430). -/
def nextWrite (s : State) (n : Nat) (c : MemCtl) (blocked : List Nat) : Option MemReq :=
  bestOf (fun a b => rowHit s n c a && !rowHit s n c b) (c.wq.filter (fun r => !blocked.contains r.id))

/-- The request a controller issues in a cycle (R429, R430): while draining a write, but one read of urgency 3 after every
drain_burst writes; otherwise a read, and a write only when no read is queued. -/
def issueChoice (s : State) (n : Nat) (c : MemCtl) (blocked : List Nat) : Option MemReq :=
  if c.draining then
    let urgent := (nextRead s n c blocked).filter (fun r => urgency s.clockNs r == 3)
    if c.drainBurst ≤ c.drained ∧ urgent.isSome then urgent else nextWrite s n c blocked
  else if c.rq.isEmpty then nextWrite s n c blocked
  else nextRead s n c blocked

/-- Performance events of an issued burst (R631). -/
def countBurst (s : State) (n : Nat) (write hit : Bool) : State :=
  if n < 12 then
    let s := count s ((if write then 0x110 else 0x100) + n)
    if hit then count s (0x120 + n) else s
  else count s ((if write then 0x144 else 0x140) + (n - 12))

/-- MEM_ISSUE: a read issues and its data is in flight; a write leaves the write queue for the DRAM (R429, R430). -/
def memIssue (s : State) (n : Nat) (blocked : List Nat) : State :=
  let s := countUrgent s n
  let c := ctl s n
  if !ctlServes c then s
  else
    match issueChoice s n c blocked with
    | none => s
    | some r =>
      let hit := rowHit s n c r
      let b := bankOf s n r.addr
      let c := { c with openRows := mset c.openRows b.1 b.2 }
      let c :=
        if r.write then
          drainUpdate { c with
            wq := c.wq.filter (fun w => w.id != r.id)
            drained := if c.drainBurst ≤ c.drained then 1 else c.drained + 1 }
        else { c with rq := c.rq.filter (fun w => w.id != r.id), flight := c.flight ++ [r], drained := 0 }
      countBurst (setCtl s n c) n r.write hit

/-- The read whose data returns: the oldest in flight; one that found a queued write to its line has that write's data (R431). -/
def takeReturn (s : State) (n : Nat) : Option (MemReq × State) :=
  match (ctl s n).flight with
  | [] => none
  | r :: rest => some (r, modCtl s n (fun c => { c with flight := rest }))

/-- REFRESH_DUE: postponed while a read of urgency 2 or 3 to the rank is queued, up to the limit; then issued, its rank's rows
closed (R433). -/
def refreshDue (s : State) (n rank : Nat) : State :=
  let c := ctl s n
  if !(c.st == .active || c.st == .powerDown) then s
  else
    let k := c.postponed.getD rank 0
    let urgent := c.rq.any (fun r => rankOf s n r.addr == rank && decide (2 ≤ urgency s.clockNs r))
    if urgent && decide (k < c.postponeMax) then setCtl s n { c with postponed := c.postponed.set rank (k + 1) }
    else setCtl s n { c with
      postponed := c.postponed.set rank 0
      openRows := c.openRows.filter (fun x => decide (n < 12) && decide (x.1 / 256 ≠ rank)) }

/-- POWER_DOWN_ENTRY: a rank without a command for pd_idle_ns enters power-down (R434). -/
def powerDownEntry (s : State) (n rank : Nat) : State :=
  let c := ctl s n
  let ranks := if n < 12 then 2 ^ chanRankBits s n else 1
  if c.st != .active || c.pdIdleNs == 0 || decide (ranks ≤ rank) || c.ranksDown.getLsbD rank ||
      (c.rq ++ c.wq).any (fun r => rankOf s n r.addr == rank) then s
  else
    let down := c.ranksDown ||| ((1 : BitVec 4) <<< rank)
    setCtl s n { c with
      ranksDown := down
      pdEntries := c.pdEntries + 1
      st := if popCount 4 down.toNat = ranks then .powerDown else .active }

/-- SELF_REFRESH_ENTRY: a channel with both queues empty and no admission for sr_idle_us; an admission wins (R434). -/
def selfRefreshEntry (s : State) (n : Nat) : State :=
  let c := ctl s n
  if !(c.st == .active || c.st == .powerDown) || c.srIdleUs == 0 || !c.rq.isEmpty || !c.wq.isEmpty || !c.flight.isEmpty ||
      !c.sched.items.isEmpty then s
  else setCtl s n { c with st := .selfRefresh, srEntries := c.srEntries + 1, openRows := [], ranksDown := 0 }

/-- Switch a channel off for good: fenced, or excluded by an alternate; its PMICs go off and D shrinks (R118, R420, R425). -/
def channelGoes (s : State) (n : Nat) (st : MemSt) : State :=
  reserveChanged (modCtl s n (fun c => { c with
    st := st
    pmic := false
    hsa := c.hsa && st != .excluded
    sched := Wfq.empty
    upstream := []
    rq := []
    wq := []
    flight := []
    draining := false
    openRows := [] }))

/-- MEM_TRN_START: a run starts; without destructive, a write run and every pattern but the mode-register one are refused
(R450). -/
def trnStart (s : State) (c : Nat) : State :=
  let t := trn s c
  if (ctl s c).st != .training || t.busy then s
  else if (t.target == 2 || t.pattern != 6) && !t.destructive then setTrn s c { t with refused := true }
  else setTrn s c { t with busy := true, refused := false }

/-- MEM_TRN_RUN_END: the run ends with its failing bursts and lanes (R450). -/
def trnEnd (s : State) (c : Nat) (failed : BitVec 16) (l0 l1 : BitVec 40) : State :=
  let t := trn s c
  if !t.busy then s else setTrn s c { t with busy := false, failed := failed, fail0 := l0, fail1 := l1 }

/-- Is an image field of the MEMCTL global record locked for a controller: never for an RLD stack (R63, R451)? -/
def memLocked (s : State) (n f : Nat) : Bool := decide (n < 12) && s.img.active.locks secMem 0 f

/-- MEM_SCHED_WRITE and RLD_SCHED: ignored as a whole when a field is out of range; a locked field keeps its value (R63, R447). -/
def memSchedWrite (s : State) (n : Nat) (v : Word) : State :=
  let c := ctl s n
  let lo := bits v.toNat 7 0
  let hi := bits v.toNat 15 8
  let db := bits v.toNat 23 16
  let ok := fun lo hi db => decide (lo ≤ 63) && decide (lo + 1 ≤ hi) && decide (hi ≤ 64) && decide (1 ≤ db) && decide (db ≤ 64)
  let lo' := if memLocked s n 7 then c.wqLow else lo
  let hi' := if memLocked s n 6 then c.wqHigh else hi
  let db' := if memLocked s n 8 then c.drainBurst else db
  if ok lo hi db && ok lo' hi' db' then setCtl s n (drainUpdate { c with wqLow := lo', wqHigh := hi', drainBurst := db' }) else s

/-- The group of a DRAM address: rank index x 8 + chip ID x 2 + subchannel (R471). -/
def dramGroup (d : DramAddr) : Nat := d.rank * 8 + d.cid * 2 + d.sc

/-- The number of a leaky bucket (R455): 3,840 for DRAM devices, then 32 for RLD internal channels. -/
def bucketNo (s : State) (n addr dev : Nat) : Nat :=
  if n < 12 then (n * 32 + dramGroup (dramAddr s n addr)) * 10 + dev
  else 3840 + (n - 12) * 8 + rldChannel addr

/-- The marked device of a group (R456). -/
def markOf (s : State) (c g : Nat) : Option (Fin 10) := mget s.ecc.marks (c * 32 + g)

/-- Does a channel lose service for the second marked device of a group, or is a device newly marked, at an overflow (R456)? -/
inductive Overflow where
  | first
  | mark
  | fence
deriving DecidableEq, Repr

/-- What an overflow of a DDR-5 device's bucket means (R456). -/
def overflowKind (s : State) (n addr : Nat) (dev : Fin 10) : Overflow :=
  let g := dramGroup (dramAddr s n addr)
  match markOf s n g with
  | some m => if m = dev then .first else .fence
  | none =>
    match mget s.ecc.overflowNs (bucketNo s n addr dev.val) with
    | some t => if s.clockNs ≤ t + 86400000000000 then .mark else .first
    | none => .first

/-- A corrected burst: counted, its bucket filled; an overflow raises CE_BUCKET, and marks the device, which is protected again at once
(event 0x1F4, part class 0: R179), or asks for the fence of its channel (R455, R456, R470). Gives whether the channel must be fenced. -/
def corrected (s : State) (n addr : Nat) (dev : Fin 10) : State × Bool :=
  let k := bucketNo s n addr dev.val
  let b := (mgetD s.ecc.buckets k 0).toNat + 1
  let s := { s with ecc := { s.ecc with corrected := mupd s.ecc.corrected n 0 (· + 1) } }
  if b < s.ecc.threshold.toNat then ({ s with ecc := { s.ecc with buckets := mset s.ecc.buckets k (BitVec.ofNat 8 b) } }, false)
  else
    let kind := if n < 12 then overflowKind s n addr dev else .first
    let s := { s with ecc := { s.ecc with
      buckets := mdel s.ecc.buckets k
      overflows := mupd s.ecc.overflows n 0 (· + 1)
      overflowNs := mset s.ecc.overflowNs k s.clockNs } }
    let s := raiseCtl s n 0x09
    match kind with
    | .first => (s, false)
    | .mark =>
      let g := dramGroup (dramAddr s n addr)
      let s := raiseCtl { s with ecc := { s.ecc with marks := mset s.ecc.marks (n * 32 + g) dev } } n 0x0B
      (raiseP s 0x1F4 0 .none 0, false)
    | .fence => (s, true)

/-- BUCKET_LEAK: every leak_s each bucket falls by 1, down to 0 (R455). -/
def bucketLeak (s : State) : State :=
  { s with ecc := { s.ecc with buckets := (s.ecc.buckets.filter (fun b => decide (1 < b.2.toNat))).map (fun b => (b.1, b.2 - 1)) } }

/-- Finders of ECC_LAST (R472). -/
def finderRead : Nat := 1
def finderScrub : Nat := 2
def finderMigration : Nat := 3

/-- An uncorrectable burst or line: counted, reported in ECC_LAST and as cause 0x0A (R457, R459, R468, R470, R472). Gives whether
the channel or stack must be fenced: ue_fence bursts of demand and scrub reads within 24 h, or 4 lines within 1 h. -/
def uncorrected (s : State) (n finder addr : Nat) (recovered : Bool) : State × Bool :=
  let span := if n < 12 then 86400000000000 else 3600000000000
  let limit := if n < 12 then s.ecc.ueFence.toNat else 4
  let old := (mgetD s.ecc.ueNs n []).filter (fun t => decide (s.clockNs ≤ t + span))
  let counts := decide (12 ≤ n) || finder != finderMigration
  let times := if counts then s.clockNs :: old else old
  let last := BitVec.ofNat 64 (packF [(42, addr / 64), (15, 0), (1, b2n recovered), (2, finder), (4, n)])
  let s := { s with ecc := { s.ecc with
    uncorrectable := mupd s.ecc.uncorrectable n 0 (· + 1)
    ueNs := mset s.ecc.ueNs n (times.take 16)
    last := last } }
  (raiseCtl s n 0x0A, counts && decide (limit ≤ times.length))

/-- Lines of a channel or stack to scrub in a pass (R460). -/
def scrubTotal (s : State) (n : Nat) : Nat := if n < 12 then channelGib s n * 16777216 else 134217728

/-- The period of a pass in ns (R460). -/
def scrubPeriod (s : State) (n : Nat) : Nat :=
  if n < 12 then s.ecc.scrubH.toNat * 3600000000000 else s.ecc.rldMin.toNat * 60000000000

/-- One line of a pass is done; at the last the pass ends, late or in time (R462, R470). -/
def scrubStep (s : State) (n : Nat) : State :=
  let k := mgetD s.ecc.scrubbed n 0 + 1
  let late := decide (mgetD s.ecc.passStartNs n 0 + 2 * scrubPeriod s n < s.clockNs)
  let was := s.ecc.lagging.contains n
  let s := if late && !was then raiseCtl { s with ecc := { s.ecc with lagging := n :: s.ecc.lagging } } n 0x0E else s
  if k < scrubTotal s n then { s with ecc := { s.ecc with scrubbed := mset s.ecc.scrubbed n k } }
  else { s with ecc := { s.ecc with
    scrubbed := mdel s.ecc.scrubbed n
    passes := mupd s.ecc.passes n 0 (· + 1)
    passStartNs := mset s.ecc.passStartNs n s.clockNs
    lagging := if late then s.ecc.lagging else s.ecc.lagging.filter (· != n) } }

/-- Does the scrubber work on a channel or stack now (R462)? -/
def scrubRuns (s : State) (n : Nat) : Bool :=
  (ctl s n).st == .active && s.aon.st == .run && !(if n < 12 then s.ecc.scrubOff else s.ecc.rldScrubOff)

end Sys2Proof.Machine
end

