-- ==== Sys2Proof/Machine/Dir.lean ====
section
/-! DEFINITION. The directory (08: R256 to R260, R277), the completed-request table (10: R376 to R378) and the completion of
commands (14: R489). -/

namespace Sys2Proof.Machine

/-- Line keys and block keys: owner x 2^42 + line, owner x 2^38 + block. -/
def lineKey (owner line : Nat) : Nat := owner * 2 ^ 42 + line
def keyOwner (key : Nat) : Nat := key / 2 ^ 42
def keyLine (key : Nat) : Nat := key % 2 ^ 42
def blockKey (owner block : Nat) : Nat := owner * 2 ^ 38 + block
def blockOwner (k : Nat) : Nat := k / 2 ^ 38
def blockNo (k : Nat) : Nat := k % 2 ^ 38

/-- The block of a line key. -/
def keyBlock (key : Nat) : Nat := blockKey (keyOwner key) (keyLine key / 16)

/-- The set of a line number (R256). -/
def dirSetOf (ln : Nat) : Nat :=
  let tag := ln / 2 ^ 24 % 2 ^ 18
  Nat.xor (ln % 2 ^ 24) (Nat.xor (tag * 64) tag)

/-- The line of an entry, from its set and tag (R256). -/
def dirLineOf (tag set : Nat) : Nat := tag * 2 ^ 24 + Nat.xor set (Nat.xor (tag * 64) tag)

/-- The set that serves a line, and whether it is the folded set: a folded slice stands on the same set of stack s XOR 2
(R291). -/
def dirSet (s : State) (key : Nat) : Nat × Bool :=
  let st := dirSetOf (keyLine key)
  if s.coh.folded.getLsbD (st % 4) then (Nat.xor st 2, true) else (st, false)

/-- A line's entry; a line with none is U with host I (R257). -/
def dirEnt (s : State) (key : Nat) : DirEnt := mgetD s.coh.dir key DirEnt.none

/-- The recorded peers: ptr0 and the sharers of the pointer form. -/
def DirEnt.named (e : DirEnt) : List Node := e.ptr0.toList ++ e.sharers

/-- Has the entry sharers beside ptr0? -/
def DirEnt.shared (e : DirEnt) : Bool := if e.bitmap then e.rows != 0 else !e.sharers.isEmpty

/-- A way is free when state is U and host is I (R257). -/
def DirEnt.isFree (e : DirEnt) : Bool := e.st == .u && e.host == .i

/-- The entries of a set. -/
def setEntries (s : State) (set : Nat) : NMap DirEnt := s.coh.dir.filter (fun e => (dirSet s e.1).1 == set)

/-- A free way of a set (R277). -/
def freeWay (s : State) (set : Nat) : Option Nat :=
  firstFrom (fun w => (setEntries s set).all (fun e => e.2.way != w)) 0 16

/-- The codes of the states and of the host's copy in an entry (R257). -/
def DirSt.code : DirSt → Nat
  | .u => 0
  | .s => 1
  | .e => 2
  | .m => 3
  | .o => 4
def HostCopy.code : HostCopy → Nat
  | .i => 0
  | .s => 1
  | .a => 2

/-- An entry of a line as RLD holds it (R257): the first pointer in ptr0, the others in the sharers field, or the row bitmap. -/
def DirEnt.bits (e : DirEnt) (line : Nat) (busy : Bool) : BitVec 128 :=
  let ps := (if e.bitmap then e.ptr0.toList else e.named).map (·.toNat)
  let others := if e.bitmap then e.rows.toNat * 2 ^ 19
    else ps.getD 1 0 * 2 ^ 71 + ps.getD 2 0 * 2 ^ 59 + ps.getD 3 0 * 2 ^ 47
  BitVec.ofNat 128 (packF [(1, b2n e.alt), (83, others), (12, ps.getD 0 0), (4, e.age), (3, if e.bitmap then 0 else ps.length),
    (1, b2n e.bitmap), (2, e.host.code), (1, b2n busy), (3, e.st.code), (18, line / 2 ^ 24)])

/-- The 256 B of a set (R256): way w at offset 16 × w. -/
def setLines (s : State) (set : Nat) : List Line :=
  let es := setEntries s set
  let way := fun (w : Nat) => match es.find? (fun e => e.2.way == w) with
    | some e => (e.2.bits (keyLine e.1) (mhas s.coh.txs e.1)).toNat
    | none => 0
  (List.range 4).map (fun i => BitVec.ofNat 512 (packF ((List.range 4).map (fun j => (128, way (4 * i + j))))))

/-- The place of a set on its stack (R256), in the directory area of RLD_LAYOUT (R47). -/
def setAddr (s : State) (set : Nat) : Nat := s.img.restart.fld secRld 0 0 * 2 ^ 20 + set / 4 * 256

/-- A transfer of a set through the META port of its stack, under label 15 (R399). -/
def setAccess (s : State) (set : Nat) (data : Option (List Line)) : State :=
  (List.range 4).foldl (fun s i =>
    memPush s (12 + set % 4) .metaData 15 15 data.isSome .metadata (setAddr s set + 64 * i) 64
      (data.map (fun ls => ls.getD i 0))) s

/-- A full directory cache gives up a set, written back to RLD where it is newer (R260). Which set is open: a FREE VALUE
(assumption 14). -/
def dirEvict (s : State) : State :=
  if s.coh.dirCache.length < 262144 then s
  else
    let x := s.coh.dirCache.getD (choice s 0 s.coh.dirCache.length) (0, false)
    let s := chosen s 1
    let s := if x.2 then setAccess s x.1 (some (setLines s x.1)) else s
    { s with coh := { s.coh with dirCache := mdel s.coh.dirCache x.1 } }

/-- A set is used: one that is not in the directory cache is read from RLD; a change makes it newer than RLD (R260). -/
def dirTouch (s : State) (set : Nat) (change : Bool) : State :=
  match mget s.coh.dirCache set with
  | some d => if change && !d then { s with coh := { s.coh with dirCache := mset s.coh.dirCache set true } } else s
  | none =>
    let s := setAccess (dirEvict s) set none
    { s with coh := { s.coh with dirCache := mset s.coh.dirCache set change } }

/-- Store a line's entry; one that is free again is freed (R258). A used entry becomes the most recent of its set. -/
def setEnt (s : State) (key : Nat) (e : DirEnt) : State :=
  let s := if e.isFree && !mhas s.coh.dir key then s else dirTouch s (dirSet s key).1 true
  if e.isFree then { s with coh := { s.coh with dir := mdel s.coh.dir key } }
  else
    let st := dirSet s key
    let old := mget s.coh.dir key
    let way := (match old with | some o => o.way | none => (freeWay s st.1).getD 0)
    let age := (match old with | some o => o.age | none => 16)
    let dir := s.coh.dir.map (fun x => if (dirSet s x.1).1 == st.1 && decide (x.2.age < age) then
      (x.1, { x.2 with age := min 15 (x.2.age + 1) }) else x)
    { s with coh := { s.coh with dir := mset dir key { e with way := way, age := 0, alt := st.2 } } }

/-- Add a sharer (R259): up to four pointers, ptr0 among them; a fifth converts the entry to bitmap form. -/
def DirEnt.addSharer (e : DirEnt) (n : Node) : DirEnt :=
  let bit := fun (m : Node) => (1 : BitVec 64) <<< (m.toNat / 64)
  if e.bitmap then { e with rows := e.rows ||| bit n }
  else if e.sharers.contains n || e.ptr0 == some n then e
  else if e.sharers.length + b2n e.ptr0.isSome < 4 then { e with sharers := e.sharers ++ [n] }
  else { e with bitmap := true, sharers := [], rows := (n :: e.sharers).foldl (fun r m => r ||| bit m) 0 }

/-- The entry with no sharer beside ptr0 returns to pointer form (R259). -/
def DirEnt.dropSharers (e : DirEnt) : DirEnt := { e with bitmap := false, sharers := [], rows := 0 }

/-- Remove a peer from the records; the state follows (R265). -/
def DirEnt.dropPeer (e : DirEnt) (n : Node) : DirEnt :=
  let e := { e with sharers := e.sharers.filter (· != n) }
  let e := if e.ptr0 == some n then
    { e with ptr0 := Option.none, st := (match e.st with | .o => .s | _ => .u) } else e
  if e.st == .s && !e.shared then { e with st := .u } else e

/-- Does the entry record a node in E, M or O; does it record it at all? -/
def DirEnt.owns (e : DirEnt) (n : Node) : Bool := (e.st == .e || e.st == .m || e.st == .o) && e.ptr0 == some n
def DirEnt.records (e : DirEnt) (n : Node) : Bool := e.owns n || e.sharers.contains n ||
  (e.bitmap && e.rows.getLsbD (n.toNat / 64))

/-- Has membership declared a node FAILED (R288)? -/
def declaredFailed (s : State) (n : Nat) : Bool := memberState s n == .failed

/-- The peers a snoop of every recorded peer goes to, but for one node (R259, R288). -/
def snoopPeers (s : State) (e : DirEnt) (except : Option Node) : List Node :=
  let me := myNode s
  let byRow := if e.bitmap then
    ((mkeys s.fab.members).filter (fun n => e.rows.getLsbD (n / 64) && inService s n)).map (BitVec.ofNat 12) else []
  ((e.named ++ byRow).eraseDups).filter (fun n => some n != except && n.toNat != me && !declaredFailed s n.toNat)

/-- Is the slice or the set of a line unknown, so that requests to it wait (R291, R292)? -/
def lineUnknown (s : State) (key : Nat) : Bool :=
  let st := dirSetOf (keyLine key)
  s.coh.sliceUnknown.getLsbD (st % 4) || s.coh.unknownSets.contains st

/-- Are the host's copies of a line unknown: its slice was rebuilt, it has no entry (R291)? -/
def hostUnknownFor (s : State) (key : Nat) : Bool :=
  s.coh.hostUnknown.getLsbD (dirSetOf (keyLine key) % 4) && !mhas s.coh.dir key

/-- The key of the completed-request table: tag[31:2] (R376). -/
def crtKey (t : Tag) : Nat := t.toNat / 4

/-- The set of a key (R376). -/
def crtSet (k : Nat) : Nat := (mix64 (BitVec.ofNat 64 k)).toNat % 65536

/-- The floor recorded for a requester at an owner (R177). -/
def floorKey (requester owner : Nat) : Nat := requester + 4096 * owner
def floorOf (s : State) (requester owner : Nat) : BitVec 32 := mgetD s.chd.atomicFloor (floorKey requester owner) 0

/-- Is an entry within its retention: four end-to-end timeouts of serving time, and for an atomic until its requester's floor passes
it (R178)? A buddy keeps a mirrored entry until its owner's retire floor passes it (R173). -/
def crtHeld (s : State) (k : Nat) (c : Crt) : Bool :=
  let floor := floorOf s (k / 2 ^ 18) c.owner.toNat
  c.mirroredFor.isSome || decide (s.e2e.servedUs < c.servedUs + 4 * s.e2e.timeoutUs.toNat) ||
    (c.kind == 5 && !decide ((floor - c.seq).toNat < 2 ^ 31 ∧ floor ≠ c.seq))

/-- The entry a request duplicates, if it does (R377). -/
def crtDuplicate (s : State) (t : Tag) (isNew : Bool) : Option Crt :=
  match mget s.e2e.crt (crtKey t) with
  | none => none
  | some c =>
    let x := tagInc t
    if x = c.inc then some c
    else if !isNew && !c.fromReissue && x == c.inc + 1 then some c
    else if isNew && c.fromReissue && x == c.inc - 1 then some c
    else none

/-- Were a set's entries lost within the retention they had (R459)? -/
def crtSetGone (s : State) (set : Nat) : Bool :=
  [set, 65536 + set % 2].any (fun i => match mget s.e2e.crtLost i with
    | some t => decide (s.e2e.servedUs < t + 4 * s.e2e.timeoutUs.toNat)
    | none => false)

/-- Does a recorded request find its set full of entries within retention (R378), or its entries lost (R459)? -/
def crtFull (s : State) (t : Tag) : Bool :=
  !mhas s.e2e.crt (crtKey t) &&
    (crtSetGone s (crtSet (crtKey t)) ||
      decide (16 ≤ (s.e2e.crt.filter (fun c => crtSet c.1 == crtSet (crtKey t) && crtHeld s c.1 c.2)).length))

/-- Both halves of an entry have failed: its set's entries are lost (R459). -/
def crtLoseSet (s : State) (set : Nat) : State :=
  { s with e2e := { s.e2e with
    crt := mfilter s.e2e.crt (fun k _ => crtSet k != set)
    crtBad := s.e2e.crtBad.filter (fun b => b.1 / 16 != set)
    crtLost := mset s.e2e.crtLost set s.e2e.servedUs } }

/-- An uncorrectable line of the completed-request area of a stack (R47, R459): its primary half holds the sets of that stack, its mirror
half those of stack s XOR 2, 16 lines a set. The other half serves, unless it has failed too. -/
def crtLineLost (s : State) (stack half off : Nat) : State :=
  let mirror := decide (half ≤ off)
  let set := 4 * (off % max 1 half / 16) + (if mirror then Nat.xor stack 2 else stack)
  let e := 16 * set + off % 16
  if 65536 ≤ set then s
  else if s.e2e.crtBad.contains (e, !mirror) || channelOut s (12 + Nat.xor stack 2) then crtLoseSet s set
  else { s with e2e := { s.e2e with crtBad := (e, mirror) :: s.e2e.crtBad.filter (· != (e, mirror)) } }

/-- A stack's completed-request area is lost with it (R47, R459): the halves on stack s XOR 2 serve, but for lines that have failed
there. -/
def crtStackLost (s : State) (stack : Nat) : State :=
  let pair := Nat.xor stack 2
  if channelOut s (12 + pair) then
    { s with e2e := { s.e2e with
      crt := mfilter s.e2e.crt (fun k _ => crtSet k % 2 != stack % 2)
      crtBad := s.e2e.crtBad.filter (fun b => b.1 / 16 % 2 != stack % 2)
      crtLost := mset s.e2e.crtLost (65536 + stack % 2) s.e2e.servedUs } }
  else
    ((s.e2e.crtBad.filter (fun b => (if b.2 then Nat.xor (b.1 / 16 % 4) 2 else b.1 / 16 % 4) == pair)).map (·.1 / 16)).eraseDups.foldl
      crtLoseSet s

/-- Count a duplicate (R377, performance event 0x061). -/
def countDuplicate (s : State) : State :=
  count { s with e2e := { s.e2e with duplicates := s.e2e.duplicates + 1 } } 0x061

/-- An entry as its 64 B of the table hold it (R376). -/
def crtEntry (k : Nat) (c : Crt) : Line :=
  BitVec.ofNat 512 (packF [(30, k), (2, c.inc.toNat), (8, c.kind.toNat), (8, 1 + 2 * b2n c.fromReissue), (8, c.status.toNat), (8, 0),
    (64, c.servedUs), (64, c.line.toNat), (32, c.seq.toNat), (32, c.mseq.toNat), (256, c.result.toNat)])

/-- Record a completed request; an entry past its retention makes room (R376, R378). -/
def crtPut (s : State) (k : Nat) (c : Crt) : State :=
  let old := (s.e2e.crt.filter (fun x => crtSet x.1 == crtSet k && x.1 != k && !crtHeld s x.1 x.2)).head?
  let full := decide (16 ≤ (s.e2e.crt.filter (fun x => crtSet x.1 == crtSet k && x.1 != k)).length)
  let m := match full, old with
    | true, some o => mdel s.e2e.crt o.1
    | _, _ => s.e2e.crt
  { s with e2e := { s.e2e with crt := mset m k c } }

/-- Record a request by its tag, for the owner it was executed for. -/
def crtRecordFor (s : State) (owner : Nat) (t : Tag) (isNew : Bool) (kind status line seq : Nat) (result : Nat) : State :=
  crtPut s (crtKey t) {
    inc := tagInc t
    kind := BitVec.ofNat 8 kind
    fromReissue := !isNew
    status := BitVec.ofNat 8 status
    servedUs := s.e2e.servedUs
    line := BitVec.ofNat 64 line
    seq := BitVec.ofNat 32 seq
    mseq := 0
    mirroredFor := none
    owner := BitVec.ofNat 12 owner
    result := BitVec.ofNat 256 result }
def crtRecord (s : State) (t : Tag) (isNew : Bool) (kind status line seq : Nat) (result : Nat) : State :=
  crtRecordFor s (myNode s) t isNew kind status line seq result

/-- Record a writeback of a line (R376), by its key, unless its entry is there already. -/
def crtWriteback (s : State) (t : Tag) (isNew : Bool) (key : Nat) : State :=
  let new := crtRecordFor s (keyOwner key) t isNew 26 0 (keyLine key) 0 0
  match mget s.e2e.crt (crtKey t) with
  | some c => if c.inc = tagInc t ∧ c.kind = 26 then s else new
  | none => new

/-- CRT_ENTRY_EXPIRY: an entry's retention has passed, and the requester's floor its sequence (R178). -/
def crtExpire (s : State) (k : Nat) : State :=
  match mget s.e2e.crt k with
  | none => s
  | some c => if crtHeld s k c then s else { s with e2e := { s.e2e with crt := mdel s.e2e.crt k } }

/-- Event 0x231, at most once per millisecond (R378). -/
def noteCrtFull (s : State) : State :=
  if elapsed s s.fab.lastCrtFullNs 1000000 then
    raise { s with fab := { s.fab with lastCrtFullNs := some s.clockNs } } 0x231 0
  else s

/-- Statuses of commands (R490). -/
def stOk : Nat := 0x00
def stInvalid : Nat := 0x01
def stLength : Nat := 0x02
def stBusyRetry : Nat := 0x03
def stNoSpace : Nat := 0x04
def stDenied : Nat := 0x05
def stPoisoned : Nat := 0x06
def stNoGain : Nat := 0x07
def stTimeout : Nat := 0x08
def stNotInImage : Nat := 0x09

/-- A command finishes: its completion waits to be posted in order (R489), or ends the mailbox's EXEC_ENTRY (R483). -/
def completeCmd (s : State) (src : CmdSrc) (status : Nat) (result : Nat) : State :=
  match src with
  | .mailbox =>
    if s.host.bgDiscard then { s with host := { s.host with background := none, bgDiscard := false } }
    else signalMsix { s with host := { s.host with
      background := none
      bgOutput := some ⟨BitVec.ofNat 64 result, 0, 0, BitVec.ofNat 8 status⟩ } } 0
  | .queue qid cid =>
    let hit := fun (t : Taken) => t.done.isNone && decide (bits t.entry.toNat 31 16 = cid.toNat)
    let fin := fun (t : Taken) => { t with done := some ⟨BitVec.ofNat 64 result, t.head, cid, BitVec.ofNat 8 status⟩ }
    let upd := fun (q : Queue) => { q with taken := modFirst hit fin q.taken }
    { s with host := { s.host with queues := mmod s.host.queues qid.toNat upd } }

end Sys2Proof.Machine
end

