-- ==== Sys2Proof/Machine/Home.lean ====
section
/-! DEFINITION. Home memory of a line: reading it and committing to it by the page's tier (01: R16 to R21; 03: R90, R91; 04:
R124, R127), the near cache (R18, R253), lost storage (R157, R464) and MirrorWrites (05: R167 to R173). -/

namespace Sys2Proof.Machine

/-- Is a line key one of this device's own window? -/
def ownKey (s : State) (key : Nat) : Bool := keyOwner key == myNode s

/-- The page number of a line key. -/
def keyPage (key : Nat) : Nat := keyLine key / 64

/-- Blocks the near cache can hold: the near-cache area of the RLD layout on four stacks (R47, R253). -/
def nearCapacity (s : State) : Nat := 4 * 1024 * s.img.restart.fld secRld 1 1

/-- Blocks set aside for lines that are asked of other owners: a grant allocates its block (R253). -/
def grantBlocks (s : State) : List Nat :=
  ((s.coh.reqs.filter (fun r => r.2.stage == .rdShared || r.2.stage == .rdOwn || r.2.stage == .wrLine)).map
    (fun r => keyBlock r.1)).eraseDups.filter (fun k => !mhas s.coh.near k)

/-- Is there room in the near cache for a block: is it there, set aside, or under the capacity (R23)? The near cache takes any block
in any place: DESIGN CHOICE (log 10). -/
def nearRoom (s : State) (k : Nat) : Bool :=
  mhas s.coh.near k || s.coh.fills.contains k || (grantBlocks s).contains k ||
    decide (s.coh.near.length + (s.coh.fills.filter (fun x => !mhas s.coh.near x)).length + (grantBlocks s).length < nearCapacity s)

/-- A line in the near cache. -/
def nearGet (s : State) (key : Nat) : Option NcLine :=
  (mget s.coh.near (keyBlock key)).bind (fun b => mget b.lines (keyLine key % 16))

/-- Put a line into its near-cache block, opening the block where it is absent. -/
def nearPut (s : State) (key label : Nat) (l : NcLine) : State :=
  let b := mgetD s.coh.near (keyBlock key) ⟨[], false, label⟩
  { s with coh := { s.coh with
    near := mset s.coh.near (keyBlock key) { b with lines := mset b.lines (keyLine key % 16) l, label := label, evicting := false } } }

/-- Take a line out of the near cache; a block without a line leaves it. -/
def nearDrop (s : State) (key : Nat) : State :=
  match mget s.coh.near (keyBlock key) with
  | none => s
  | some b =>
    let ls := mdel b.lines (keyLine key % 16)
    { s with coh := { s.coh with
      near := if ls.isEmpty then mdel s.coh.near (keyBlock key) else mset s.coh.near (keyBlock key) { b with lines := ls } } }

/-- Queue a DDR-5 access by physical address (R422). -/
def pushDdr (s : State) (port : Port) (label qlabel : Nat) (write : Bool) (use : MemUse) (pa size : Nat) (data : Option Line) :
    State :=
  memPush s (paChannel s pa) port label qlabel write use (paChannelAddr s pa) size data

/-- How a commit to home memory stands: done, its write queued, or it waits for something. -/
inductive Commit where
  | done
  | queued
  | wait
deriving DecidableEq, Repr

/-- Key of a buddy-side copy: owner, extent index, page index (R160, R170). -/
def copyKey (owner ext pg : Nat) : Nat := owner * 2 ^ 44 + ext * 2 ^ 28 + pg

/-- A buddy-side copy with nothing in it. -/
def Copy.zero : Copy := ⟨0, [], [], 0, 0, none, none⟩
def copyOf (s : State) (k : Nat) : Copy := mgetD s.chd.copies k Copy.zero
def setCopy (s : State) (k : Nat) (c : Copy) : State := { s with chd := { s.chd with copies := mset s.chd.copies k c } }
def modCopy (s : State) (k : Nat) (f : Copy → Copy) : State := { s with chd := { s.chd with copies := mmod s.chd.copies k f } }

/-- The keys and the tweak of a copy's stored blocks (R170, R231): the owner's domain, its node and its DPA. -/
def copyKeys (k : Nat) (kgen : Bool) : KeySet := Config.sharedKeys (copyOwner k) (copyDomain k) kgen
def copyTweak (k b : Nat) (kgen : Bool) : BitVec 128 := blockTweak (copyDomain k) (copyOwner k) (copyPageNo k) b kgen
def sealCopy (k b : Nat) (kgen : Bool) (img : List Byte) : List Byte :=
  if img.isEmpty then [] else xtsEncrypt (copyKeys k kgen) (copyTweak k b kgen) img
def openCopy (k b : Nat) (kgen : Bool) (img : List Byte) : List Byte :=
  if img.isEmpty then [] else xtsDecrypt (copyKeys k kgen) (copyTweak k b kgen) img

/-- The tag record of a copy's images in this device's own tag table (R231, R240). -/
def copyTags (k : Nat) (d : Desc) (images : NMap (List Byte)) : BitVec 256 :=
  if dInteg d then (List.range 4).foldl (fun t b =>
    let img := mgetD images b []
    putTag t b (if img.isEmpty then 0 else blockTag (copyKeys k (dKgen d)) (copyTweak k b (dKgen d)) img)) 0
  else 0

/-- A line as it is encrypted in DDR-5 (R227, R229), of an own Plain page, and of a Plain copy. -/
def sealLine (s : State) (line : Nat) (d : Line) : Line :=
  let p := line / 64
  let g := dKgen (servedDesc s p)
  bytesLine (xtsEncrypt (pageKeys s (pageDomain s p) g) (xtsTweak (pageDomain s p) (pageHome s p) (unitOfLine (64 * line)) g) (lineBytes d))
def openLine (s : State) (line : Nat) (c : Line) : Line :=
  let p := line / 64
  let g := dKgen (servedDesc s p)
  bytesLine (xtsDecrypt (pageKeys s (pageDomain s p) g) (xtsTweak (pageDomain s p) (pageHome s p) (unitOfLine (64 * line)) g) (lineBytes c))
def sealCopyLine (k i : Nat) (kgen : Bool) (d : Line) : Line :=
  bytesLine (xtsEncrypt (copyKeys k kgen)
    (xtsTweak (copyDomain k) (copyOwner k) (unitOfLine (64 * (64 * copyPageNo k + i))) kgen) (lineBytes d))

/-- The bytes of a block of a Packed copy, out of its stored image. -/
def copyBlock (s : State) (k b : Nat) : List Byte :=
  let c := copyOf s k
  (decodeImage (primerOf s (dPrimer c.desc)) (dBlen c.desc b) (openCopy k b (dKgen c.desc) (mgetD c.images b []))).toOption.getD
    (List.replicate 1024 0)

/-- Is a copy committed? -/
def copyThere (s : State) (k : Nat) : Bool := dTier (copyOf s k).desc != tierNone

/-- A line of a copy (R170): a Packed one's from the near cache where that is newer, else out of its stored image. -/
def readCopyLine (s : State) (k i : Nat) : Line × Bool :=
  let c := copyOf s k
  let stored := if dTier c.desc = tierPacked then bytesLine (bytesAt (copyBlock s k (i / 16)) (64 * (i % 16)) 64) else 0
  ((mget c.lines i).getD stored, c.poison.getLsbD i)

/-- The bytes of a block of a copy as a compressor takes them: poisoned lines as zeros (R189). -/
def copyBytes (s : State) (k b : Nat) : List Byte :=
  ((List.range 16).map (fun i =>
    let v := readCopyLine s k (16 * b + i)
    lineBytes (if v.2 then 0 else v.1))).flatten

/-- A change of a buddy-side descriptor is durable before it takes effect (R168): DESC_SET in ring 0. -/
def copyRec (s : State) (k : Nat) (d : Desc) : State :=
  jwrite s 0 { plainRec recDescSet d 0 with
    extent := BitVec.ofNat 16 (copyExt k)
    page := BitVec.ofNat 28 (copyPg k)
    forOwner := some (BitVec.ofNat 12 (copyOwner k)) }
def setCopyDesc (s : State) (k : Nat) (d : Desc) : State :=
  let old := (copyOf s k).desc
  if d = old then s else primerMoved (setCopy (copyRec s k d) k { copyOf s k with desc := d }) old d

/-- The DDR-5 storage of a copy is free. -/
def freeCopyStore (s : State) (d : Desc) : State :=
  if dTier d = tierPlain then freeFrameOf s .buddy (dLoc d) else if dTier d = tierPacked then freePods s (dLoc d) (dPods d) else s

/-- A copy is gone, with its storage and its slot (R76, R99, R209). -/
def dropCopy (s : State) (k : Nat) : State :=
  match mget s.chd.copies k with
  | none => s
  | some c =>
    let s := { s with chd := { s.chd with copies := mdel s.chd.copies k } }
    let s := if c.desc = 0 then s else copyRec s k 0
    let s := freeCopyStore s c.desc
    if dNamesPrimer c.desc then primerFreed s (dPrimer c.desc) else s

/-- The slot under which a buddy packs a copy (R210): the page's PRIMER, else its own default. -/
def copySlot (s : State) (k : Nat) : Nat :=
  let d := (copyOf s k).desc
  if dNamesPrimer d then dPrimer d else s.img.active.basic.defaultPrimer

/-- A packing of a copy has every block (R210, R231): pods are allocated, the images are encrypted under the owner's keys and tagged,
and the new descriptor is made durable. Lines written meanwhile stay newer. Without free pods the lines stay in the near cache. -/
def copyPacked (s : State) (k : Nat) : State :=
  let c := copyOf s k
  match c.packing with
  | none => s
  | some (slot, got) =>
    let bl := (List.range 4).map (fun b => ((mget got b).map (·.1)).getD 0)
    match allocPodsFor s .buddyArena (fun _ => true) bl.sum with
    | none => setCopy s k { c with packing := none }
    | some (loc, s) =>
      let d := c.desc
      let named := bl.any (fun n => decide (1 ≤ n) && decide (n ≤ 15))
      let new := mkDesc tierPacked (dKgen d) (if named then slot else 0) (dMirror d) (dInteg d) (dPin d) (dPoison d)
        (packBlens bl) loc (myNode s) (dVers d + 1)
      let bytes := fun (b : Nat) => ((mget got b).map (·.2)).getD []
      let images : NMap (List Byte) := (List.range 4).map (fun b =>
        (b, sealCopy k b (dKgen d) (clearImage (primerOf s slot) (bl.getD b 0) (bytes b))))
      let left := mfilter c.lines (fun i v => v != bytesLine (bytesAt (bytes (i / 16)) (64 * (i % 16)) 64))
      let s := encrypted (podsWritten (setCopyDesc s k new) 14 bl.sum) (bl.filter (· != 0)).length
      let s := setCopy s k { copyOf s k with images := images, lines := left, tags := copyTags k new images, packing := none }
      freeCopyStore s d

/-- A buddy packs a copy whose newer lines are in its near cache (R210): every block that is not ZERO goes to a lane (R211). -/
def packCopy (s : State) (k : Nat) : State :=
  let c := copyOf s k
  if dTier c.desc ≠ tierPacked || c.lines.isEmpty || c.packing.isSome then s
  else
    let slot := copySlot s k
    let block := fun b => copyBytes s k b
    let zero := fun b => (block b).all (· == 0)
    let got : NMap (Nat × List Byte) := ((List.range 4).filter zero).map (fun b => (b, 0, block b))
    let s' := compressPage (setCopy s k { c with packing := some (slot, got) }) [slot] block (.copy k)
    if got.length = 4 then copyPacked s' k else s'

/-- A result of a copy's packing has come. -/
def copyResult (s : State) (k b : Nat) (j : Job) : State :=
  match mget s.chd.copies k with
  | none => s
  | some c =>
    match c.packing with
    | none => s
    | some (slot, got) =>
      let got := mset got b (storedBlen (j.got.getD 0 16), j.data)
      let s := setCopy s k { c with packing := some (slot, got) }
      if got.length = 4 then packCopy (copyPacked s k) k else s

/-- The generation that newly written data of a copy takes (R89, R170). -/
def copyGen (s : State) (k : Nat) : Bool :=
  Config.copyKgen (copyOwner k) (copyExt k) (((mget s.chd.buddyOf (copyOwner k)).map (·.keysStored)).getD 0)

/-- A buddy rewraps a copy that is under an old generation (R239): the same stored form, encrypted anew in new storage. Without
free storage it stays as it is. -/
def rewrapCopy (s : State) (k : Nat) : State :=
  let c := copyOf s k
  let d := c.desc
  let g := copyGen s k
  let moved := fun (loc : Nat) => dSet (dSet (dSet d 124 124 (b2n g)) 33 18 (dVers d + 1)) 83 46 loc
  if dTier d = tierNone ∨ dKgen d = g then s
  else if dTier d = tierPlain then
    match allocFrameFor s .buddy with
    | none => s
    | some (f, s) =>
      let s := freeCopyStore (setCopyDesc s k (moved f)) d
      c.lines.foldl (fun s x => pushDdr s .migrate 14 14 true .podWrite (4096 * f + 64 * x.1) 64 (some (sealCopyLine k x.1 g x.2))) s
  else match allocPodsFor s .buddyArena (fun _ => true) (dPods d) with
    | none => s
    | some (a, s) =>
      let images : NMap (List Byte) := mmap c.images (fun b img => sealCopy k b g (openCopy k b (dKgen d) img))
      let s := setCopyDesc s k (moved a)
      freeCopyStore (setCopy s k { copyOf s k with images := images, tags := copyTags k (moved a) images }) d

/-- A first line of a page that has no copy yet: a frame, or where none is free the near cache alone (R168, R170). -/
def newCopy (s : State) (k : Nat) : State :=
  let d := (copyOf s k).desc
  let kgen := copyGen s k
  match allocFrameFor s .buddy with
  | some (f, s) => setCopyDesc s k (mkDesc tierPlain kgen 0 true false false false 0 f (myNode s) (dVers d + 1))
  | none => setCopyDesc s k (mkDesc tierPacked kgen 0 true false false false 0 0 (myNode s) (dVers d + 1))

/-- A line of a copy is written (R168): into the DDR-5 write queue of a Plain copy, encrypted, and into the near cache for a Packed
one. A change of its POISON is a change of the descriptor. -/
def writeCopyLine (s : State) (k i : Nat) (v : Line × Bool) : State :=
  let s := if copyThere s k then s else newCopy s k
  let c := copyOf s k
  let bit : BitVec 64 := (1 : BitVec 64) <<< i
  let poison := if v.2 then c.poison ||| bit else c.poison &&& ~~~bit
  let s := setCopy s k { c with lines := mset c.lines i v.1, poison := poison }
  let s := setCopyDesc s k (dSet c.desc 114 114 (b2n (poison != 0)))
  if dTier c.desc = tierPlain then
    pushDdr s .fabric 14 14 true .podWrite (4096 * dLoc c.desc + 64 * i) 64 (some (sealCopyLine k i (dKgen c.desc) v.1))
  else packCopy s k

/-- The copy and the line within its page that hold a line of an owner this device acts for (R174). -/
def actingPlace (s : State) (owner line : Nat) : Option (Nat × Nat) :=
  match mget s.chd.buddyOf owner with
  | none => none
  | some b =>
    let unit := line / 32768
    (b.reserved.find? (fun e => decide (Config.extentBase owner e.1 ≤ unit) && decide (unit < Config.extentBase owner e.1 + e.2))).map
      (fun e => (copyKey owner e.1 (line / 64 - Config.extentBase owner e.1 * 512), line % 64))

/-- The owner whose line a request for this device names: itself where an extent of its own covers the line, else an owner it
acts for (R174). -/
def requestOwner (s : State) (line : Nat) : Nat :=
  match (extentAt s (line / 32768)).filter (fun e => e.2.shared.isNone) with
  | some _ => myNode s
  | none =>
    match (mkeys s.chd.acting).find? (fun o => (actingPlace s o line).isSome) with
    | some o => o
    | none => myNode s

/-- The stack of a near-cache block by its key, and a line's place in the stack's near-cache area: the manual places neither, FREE
VALUES (assumption 17). -/
def nearStack (bk : Nat) : Nat := Config.nearStack bk % 4
def nearLineAt (key : Nat) : Nat := Config.nearPlace (key / 16) * 16 + key % 16

/-- Queue an RLD access to a line of a near-cache block. -/
def pushNear (s : State) (port : Port) (label qlabel : Nat) (use : MemUse) (key : Nat) : State :=
  memPush s (12 + nearStack (key / 16)) port label qlabel false use (nearLineAt key * 64 % 2 ^ 33) 64 none

/-- Does any pod of a run lie on a channel out of service? -/
def podsOut (s : State) (a n : Nat) : Bool := !podsInService s a n

/-- Whether a Plain frame is lost with its channel. -/
def frameOut (s : State) (f : Nat) : Bool := channelOut s (paChannel s (4096 * f))

/-- Lines `mask` of a page cannot be read: with MIRROR 1 they are taken from the buddy, with event 0x1F8 where a copy met them;
otherwise poisoned (R157, R464). Gives whether the buddy was asked. -/
def linesLost (s : State) (p first cnt : Nat) : State × Bool :=
  let mask : BitVec 64 := (BitVec.ofNat 64 (2 ^ cnt - 1)) <<< first
  if mirrorable s p then (mirrorRead s p first cnt mask, true)
  else (poisonMask s p ((page s p).poison ||| mask), false)

/-- Is a line of an own page on its way from the buddy (R157, R179)? What reads or writes it waits for it. -/
def lineFetching (s : State) (line : Nat) : Bool :=
  s.e2e.txs.any (fun x => match x.2.purpose with
    | .mirrorRead p lines => p == line / 64 && lines.getLsbD (line % 64)
    | _ => false)

/-- A block of this device's window enters the near cache with given bytes; poisoned lines keep their mask bit. -/
def insertBlock (s : State) (block label : Nat) (bs : List Byte) : State :=
  let k := blockKey (myNode s) block
  let s := { s with coh := { s.coh with fills := s.coh.fills.filter (· != k) } }
  if mhas s.coh.near k then s
  else
    let ls : NMap NcLine := (List.range 16).map (fun i =>
      (i, ⟨bytesLine (bytesAt bs (64 * i) 64), linePoisoned s (16 * block + i), false, .i, .i, false, false, true⟩))
    { s with coh := { s.coh with near := mset s.coh.near k ⟨ls, false, label⟩ } }

/-- Start bringing a block of a Packed or Remote page into the near cache: a ZERO block is there at once, a local one is read from
DDR-5, a Remote one with BlkRead (R16 to R18). Without room in the near cache it waits for an eviction (R23). -/
def startFill (s : State) (block : Nat) (port : Port) (label qlabel : Nat) : State :=
  let p := block / 4
  let b := block % 4
  let k := blockKey (myNode s) block
  let d := servedDesc s p
  let n := dBlen d b
  if s.coh.fills.contains k || mhas s.coh.near k || !nearRoom s k then s
  else if n = 0 then insertBlock (countL s 0x016 label) block label []
  else
    let mark := fun (s : State) => { s with coh := { s.coh with fills := s.coh.fills ++ [k] } }
    let lost := fun (s : State) =>
      let r := linesLost s p (16 * b) 16
      if r.2 then mark r.1 else insertBlock r.1 block label []
    if servingTier s p = tierRemote then
      if declaredFailed s (dNode d) then lost s
      else mark (sendBlkRead s 0 (dNode d) (dBlockLoc d b) n (dVers d) label (.fill k))
    else if podsOut s (dBlockLoc d b) n then lost s
    else mark (pushDdr s port label qlabel false (.blockFill k) (64 * dBlockLoc d b) (64 * n) none)

/-- Read home memory of a line: an immediate value with its poison, or none while an access is under way. -/
def readHome (s : State) (key : Nat) (port : Port) (label qlabel : Nat) : State × Option (Line × Bool) :=
  let line := keyLine key
  if !ownKey s key then
    (s, match actingPlace s (keyOwner key) line with
      | some (c, i) => if mhas s.chd.copies c then some (readCopyLine s c i) else some (0, false)
      | none => some (0, true))
  else
    let p := line / 64
    let s := fetchDesc s p
    let d := servedDesc s p
    let t := servingTier s p
    if (page s p).fenced then (s, some (0, true))
    else if t = tierNone then (s, some (0, false))
    else if t = tierPlain then
      if lineFetching s line then (s, none)
      else if frameOut s (dLoc d) then
        let r := linesLost s p (line % 64) 1
        (r.1, if r.2 then none else some (0, true))
      else (pushDdr s port label qlabel false (.homeRead key) (4096 * dLoc d + 64 * (line % 64)) 64 none, none)
    else match nearGet s key with
      | some _ => (pushNear (countL s 0x014 label) port label qlabel (.nearRead key) key, none)
      | none =>
        if !nearRoom s (keyBlock key) then (s, none)
        else
          let s := startFill (countL s 0x015 label) (line / 16) port label qlabel
          (s, (nearGet s key).map (fun l => (l.data, l.poison)))

/-- May a first write place its page Plain (R124)? -/
def populatePlain (s : State) (p : Nat) : Bool :=
  (decide (reserveLow s ≤ framesF s) && decide (segFrames s .plain + 1 ≤ plainCap s)) || dPin (page s p).desc ||
    pagePolicy s p 7 == 0

/-- The MIRROR bit of a newly populated page: the MirrorWrite that populates it makes the buddy's copy (R167, R171, R172). -/
def populateMirror (s : State) (p : Nat) : Bool := mirroredExtent s p && s.chd.mirror == .mirrored

/-- The heat a page takes when it is populated: half of promote_heat (R112). -/
def populateHeat (s : State) (p : Nat) : BitVec 8 := BitVec.ofNat 8 (pagePolicy s p 0 / 2)

/-- A first write waits for a frame or pods (R127). -/
def spaceWait (s : State) : State :=
  match s.chd.reserveWaitNs with
  | some _ => s
  | none => { s with chd := { s.chd with reserveWaitNs := some s.clockNs } }

/-- A page populated during a resync has no copy at the buddy yet, and joins the pages to copy (R172). -/
def populatedPage (s : State) (p : Nat) : State :=
  let q : PageNo := BitVec.ofNat 36 p
  if mirroredExtent s p && s.chd.mirror == .resync && !s.chd.resync.contains q then
    { s with chd := { s.chd with resync := s.chd.resync ++ [q] } }
  else s

/-- Populate a page Plain (R91, R124): every line the write does not cover reads zero. None where no frame is free. -/
def populateFrame (s : State) (p : Nat) : Option State :=
  (allocFrame s).map (fun r =>
    let x := page r.2 p
    let s := modPage r.2 p (fun x => { x with heat := populateHeat s p })
    populatedPage (descSet s p (mkDesc tierPlain (currentKgen s (pageDomain s p)) 0 (populateMirror s p) false (dPin x.desc) (dPoison x.desc) 0
      r.1 (myNode s) (dVers x.desc + 1))) p)

/-- Does a compression job that populates a page wait or run? -/
def populating (s : State) (p : Nat) : Bool :=
  let hit := fun (j : Job) => match j.use with
    | .populate q _ => q == p
    | _ => false
  s.cmp.lanes.any (fun l => hit l.2) || s.cmp.sched.items.any (fun i => hit i.item) || s.cmp.waiting.any hit

/-- The block a first write in Packed stores: the line, and zeros (R91, R124). -/
def populateBytes (key : Nat) (v : Line × Bool) : List Byte :=
  let line := keyLine key
  bytesAt [] 0 (64 * (line % 16)) ++ lineBytes (if v.2 then 0 else v.1) ++ bytesAt [] 0 (64 * (15 - line % 16))

/-- The result of a populating compression: pods are allocated, the descriptor is set and the data is in place (R91, R124). False
where no pods are free. -/
def populateDone (s : State) (p b blen : Nat) (job : Job) : State × Bool :=
  let r := if blen = 0 then (0, 0) else bestOne job
  let n := r.2
  match allocPods s n with
  | none => (spaceWait s, false)
  | some (loc, s') =>
    let x := page s' p
    let bl := (List.range 4).map (fun i => if i = b then n else 0)
    let named := decide (1 ≤ n) && decide (n ≤ 15)
    let integ := taggedPage s' p
    let d := mkDesc tierPacked (currentKgen s' (pageDomain s' p)) (if named then r.1 else 0) (populateMirror s' p) integ
      (dPin x.desc) (dPoison x.desc) (packBlens bl) loc (myNode s') (dVers x.desc + 1)
    let s := writeBlock s' (4 * p + b) job.data
    let s := modPage s p (fun x => { x with heat := populateHeat s p })
    let s := populatedPage (descSet s p d) p
    let s := modPage s p (fun x => { x with tags := if integ then pageTags s p d else 0 })
    (encrypted (podsWritten (if named then primerUsed s r.1 else s) job.label n) (min n 1), true)

/-- The first write of a page in Packed: its block is compressed on the way in (R124), under the candidates of a trial where its
policy has one (R216); a ZERO block goes to no lane (R211). -/
def populatePack (s : State) (p key : Nat) (v : Line × Bool) (label : Nat) : State × Commit :=
  let line := keyLine key
  let b := line / 16 % 4
  let bs := populateBytes key v
  let s := noteTrial s p
  let job := jobOf (.populate p b) (pageSlots s p) label bs
  if bs.all (· == 0) then
    let r := populateDone (countL s 0x022 label) p b 0 job
    if r.2 then (if v.2 then poisonOne r.1 line else r.1, .done) else (r.1, .wait)
  else (pushJob s job, .queued)

/-- A line of an own page is written in place: its bytes, its poison, and the migration's dirty mask (R87, R151, R467). -/
def placeLine (s : State) (line : Nat) (v : Line × Bool) : State :=
  let s := writeLine s line (if v.2 then 0 else v.1)
  let s := if v.2 then poisonOne s line else if linePoisoned s line then cleanOne s line else s
  markBlock s (line / 16)

/-- A line of an own page is merged into its near-cache block and marked dirty. -/
def placeNear (s : State) (key label : Nat) (v : Line × Bool) : State :=
  let line := keyLine key
  let s := nearPut s key label ⟨v.1, v.2, true, .i, .i, false, false, true⟩
  if v.2 then poisonOne s line else if linePoisoned s line then cleanOne s line else s

/-- In EXPOSED and in RESYNC, DESC_SET clears MIRROR before the page's first write is accepted on the owner's commit alone (R171); in
RESYNC the page is copied after the write (R172). -/
def exposePage (s : State) (p : Nat) : State :=
  let d := (page s p).desc
  let q : PageNo := BitVec.ofNat 36 p
  if mirroredExtent s p && (s.chd.mirror == .exposed || s.chd.mirror == .resync) && dTier d != tierNone then
    let s := if dMirror d then descSet s p (dSet d 117 117 0) else s
    if s.chd.mirror == .resync && !s.chd.resync.contains q then { s with chd := { s.chd with resync := s.chd.resync ++ [q] } } else s
  else s

/-- A Plain page whose frame is lost with its channel takes a new one (R179, R425). -/
def relocateFrame (s : State) (p : Nat) : Option State :=
  let d := (page s p).desc
  (allocFrame s).map (fun r => descSet (freeFrame r.2 (dLoc d)) p (dSet (dSet d 83 46 r.1) 33 18 (dVers d + 1)))

/-- Commit a value to home memory of a line (R21, R252): wait while its page is frozen (R154), while the mirror state is HOLDING
(R171), or while no space is free (R127); a write to a fenced page is discarded (R90). -/
def commitHome (s : State) (key : Nat) (v : Line × Bool) (port : Port) (label qlabel : Nat) : State × Commit :=
  let line := keyLine key
  if !ownKey s key then
    match actingPlace s (keyOwner key) line with
    | some (c, i) => (writeCopyLine s c i v, .done)
    | none => (s, .done)
  else
    let p := line / 64
    let s := fetchDesc s p
    if (page s p).fenced then (s, .done)
    else if pageFrozen s p || (mirroredExtent s p && s.chd.mirror == .holding) then (s, .wait)
    else
      let s := exposePage s p
      let d := servedDesc s p
      let t := servingTier s p
      let queue := fun (s : State) => (pushDdr (encrypted s 1) port label qlabel true (.homeWrite key)
        (4096 * dLoc (servedDesc s p) + 64 * (line % 64)) 64 (some (sealLine s line (if v.2 then 0 else v.1))), Commit.queued)
      if t = tierNone then
        if populatePlain s p then
          match populateFrame s p with
          | some s => queue s
          | none => (spaceWait s, .wait)
        else if populating s p then (s, .wait)
        else populatePack s p key v label
      else if t = tierPlain then
        if lineFetching s line then (s, .wait)
        else if frameOut s (dLoc d) then
          if dTier (page s p).desc = tierMoving then (s, .wait)
          else match relocateFrame s p with
            | some s => queue s
            | none => (spaceWait s, .wait)
        else queue s
      else if (nearGet s key).isSome then (placeNear s key label v, .done)
      else
        let s := startFill s (line / 16) port label qlabel
        if (nearGet s key).isSome then (placeNear s key label v, .done) else (s, .wait)

/-- Is an entry of the completed-request table still kept, by its key? -/
def crtLive (s : State) (k : Nat) : Bool := mhas s.e2e.crt k

/-- The retire floor (R173): the mirror sequence that carried the oldest entry still kept, or that of the next MirrorWrite. -/
def retireFloor (s : State) : BitVec 32 :=
  let next : BitVec 32 := s.chd.nextMirror.setWidth 32
  let live := (s.chd.mirrorTags.filter (fun e => crtLive s e.1)).map (·.2)
  (bestOf (fun (a b : BitVec 32) => decide ((next - b).toNat < (next - a).toNat)) live).getD next

/-- Send further copies of an open transaction's message on distinct paths (R168). -/
def mirrorCopies : Nat → Nat → List Nat → List Nat → State → State
  | 0, _, _, _, s => s
  | n + 1, key, links, nodes, s =>
    match mget s.e2e.txs key with
    | none => s
    | some tx =>
      let d := tx.msg.dst.toNat
      match chooseHop s d 12 (tx.msg.tag.toNat % 256) 3
          (fun h => !links.contains h.link && h.path.via.all (fun x => !nodes.contains x)) with
      | none => s
      | some h =>
        let m := { tx.msg with vc := 12, form := BitVec.ofNat 3 h.path.form, coord := BitVec.ofNat 6 h.path.coord }
        mirrorCopies n key (h.link :: links) (h.path.via ++ nodes) (enqueue s h.link m)

/-- What a MirrorWrite says of the request that caused it (R173): its tag and the owner's entry for it. -/
structure Origin where
  tag : Tag
  entry : Crt
  result : Option (BitVec 128)
deriving DecidableEq, Repr

/-- Where a line's MirrorWrites go, with its extent and page index: an own line to the buddy; a line of an owner this device acts
for, once that owner is back, to the returning owner (R172, R176). -/
def mirrorPlace (s : State) (key : Nat) : Option (Nat × Nat × Nat) :=
  if ownKey s key then (myBuddy s).map (fun b => (b, pageIndex s (keyPage key)))
  else (actingPlace s (keyOwner key) (keyLine key)).map (fun c => (keyOwner key, c.1 / 2 ^ 28 % 2 ^ 16, c.1 % 2 ^ 28))

/-- A page that is written while it is copied to the buddy is copied again after the write (R172). -/
def copyAgain (s : State) (key : Nat) : State :=
  if ownKey s key then
    let p : PageNo := BitVec.ofNat 36 (keyPage key)
    if mhas s.chd.copyRuns p.toNat && !s.chd.resync.contains p then { s with chd := { s.chd with resync := s.chd.resync ++ [p] } } else s
  else match actingPlace s (keyOwner key) (keyLine key) with
    | some (c, _) => if s.chd.actResync.contains c then s else { s with chd := { s.chd with actResync := s.chd.actResync ++ [c] } }
    | none => s

/-- Send the MirrorWrite of a committed line (R167, R168, R358) with the next mirror sequence, on mirror_paths distinct paths. -/
def sendMirror (s : State) (key : Nat) (v : Line × Bool) (label : Nat) (origin : Option Origin) : State :=
  match mirrorPlace s key with
  | none => s
  | some (b, x) =>
    let s := copyAgain s key
    let seq := s.chd.nextMirror
    let s := match origin with
      | some o => { s with chd := { s.chd with mirrorTags := mset s.chd.mirrorTags (crtKey o.tag) (seq.setWidth 32) } }
      | none => s
    let floor := retireFloor s
    let s := { s with chd := { s.chd with nextMirror := seq + 1 } }
    let e := origin.map (·.entry)
    let res := origin.bind (·.result)
    let k := packF [(16, x.1), (28, x.2), (6, keyLine key % 64), (48, seq.toNat), (32, (origin.map (·.tag.toNat)).getD 0),
      (32, floor.toNat), (8, (e.map (·.kind.toNat)).getD 0), (3, (e.map (·.status.toNat)).getD 0),
      (1, b2n ((e.map (·.fromReissue)).getD false)), (32, (e.map (·.seq.toNat)).getD 0), (9, 0), (128, (res.map (·.toNat)).getD 0)]
    let m := mkMsg 4 4 b label 0 false [(1, b2n v.2), (1, b2n origin.isSome), (1, b2n res.isSome)] (lineSlots v.1)
    let m := m.withCont (if res.isSome then 3 else 2) k
    match freeTag s 5 with
    | none => openTx s 5 m (.mirror seq.toNat key)
    | some tk =>
      let s := openTx s 5 m (.mirror seq.toNat key)
      let tx := mget s.e2e.txs tk
      mirrorCopies (s.img.active.fld secDurability 0 2 - 1) tk
        (((tx.bind (·.avoidLink)).map (·.toNat)).toList) (((tx.map (·.avoidNodes)).getD []).map (·.toNat)) s

/-- After a commit at home: is a MirrorWrite to be sent, and must its Cmp be awaited (R167, R171)? -/
def mirrorNeed (s : State) (key : Nat) : Bool × Bool :=
  if !ownKey s key then (mget s.chd.acting (keyOwner key) == some 6, false)
  else if mirroredExtent s (keyPage key) && !(page s (keyPage key)).fenced then
    (s.chd.mirror == .mirrored || s.chd.mirror == .resync || s.chd.mirror == .holding,
     s.chd.mirror == .mirrored || s.chd.mirror == .holding)
  else (false, false)

end Sys2Proof.Machine
end

