-- ==== Sys2Proof/Machine/Owner.lean ====
section
/-! DEFINITION. Transactions at the owner (08: R261 to R271, R275 to R288): snoops and back-invalidates, commit, responses,
directory changes, the writeback sink and the pending table. -/

namespace Sys2Proof.Machine

/-- Snoop operations on the wire (R357). -/
def snpInvOp : Nat := 1
def snpDataOp : Nat := 2
def snpCurOp : Nat := 3

/-- The requester of a transaction, if a peer asked. -/
def Asker.node : Asker → Option Node
  | .peer n _ _ _ _ => some n
  | _ => none
def Asker.tag : Asker → Option Tag
  | .peer _ t _ _ _ => some t
  | _ => none
def Asker.label : Asker → Nat
  | .peer _ _ l _ _ => l
  | .host l _ => l
  | .device => 14
def Asker.qlabel : Asker → Nat
  | .peer _ _ _ q _ => q
  | .host _ q => q
  | .device => 14
def Asker.port : Asker → Port
  | .peer _ _ _ _ _ => .fabric
  | _ => .host

/-- Is a MirrorWrite of a line open? Its entry stays Busy until the buddy's Cmp, a later write waits (R169). -/
def lineMirroring (s : State) (key : Nat) : Bool :=
  s.e2e.txs.any (fun x => match x.2.purpose with
    | .mirror _ k => k == key
    | _ => false)

/-- Is a line taken: a transaction holds it, the sink has data of it to commit (R261, R265), or its MirrorWrite is open (R169)? -/
def lineBusy (s : State) (key : Nat) : Bool :=
  mhas s.coh.txs key || s.coh.sink.any (fun x => x.key == key) || lineMirroring s key

/-- Must a request end with an entry for its line (R258)? A WrLine that keeps a copy takes an entry, where the rule also says that
WrLine allocates nothing: DESIGN CHOICE (log 141). -/
def needsEntry : OwnKind → Bool
  | .rdShared => true
  | .rdOwn => true
  | .wrLine keep _ _ _ => keep != .i
  | .hostRd mv _ => mv != .invalid
  | .hostWr mv _ _ _ _ => mv != .invalid
  | _ => false

/-- Does a request invalidate every copy (R269, R270)? -/
def invalidates : OwnKind → Bool
  | .rdOwn => true
  | .wrLine _ _ _ _ => true
  | .atomicFar _ _ _ _ _ _ => true
  | .hostRd mv _ => mv == .any
  | .hostWr _ _ _ _ _ => true
  | .hostAtomic _ _ _ _ _ _ => true
  | .victim _ => true
  | _ => false

/-- Is the request of the owner's own host's CXL.mem, whose copy it does not snoop (R270)? -/
def fromHost : OwnKind → Bool
  | .hostRd _ _ => true
  | .hostWr _ _ _ _ _ => true
  | _ => false

/-- Does the entry record a node as its holder in E, M or O? -/
def holdsLine (e : DirEnt) : Bool := e.st == .e || e.st == .m || e.st == .o

/-- The snoops a request sends (R269, R270): a requester recorded in E, M or O is snooped with SnpInv. -/
def planSnoops (s : State) (e : DirEnt) (kind : OwnKind) (q : Option Node) : List (Node × Nat) :=
  let odd := match q with
    | some n => e.owns n
    | none => false
  let x : List Node := if holdsLine e then (e.ptr0.toList.filter (fun n => some n != q && !declaredFailed s n.toNat)) else []
  if invalidates kind then (snoopPeers s e (if odd then none else q)).map (fun n => (n, snpInvOp))
  else
    let op := match kind with
      | .rdShared => snpDataOp
      | .hostRd .shared _ => if e.st = .o then snpCurOp else snpDataOp
      | _ => snpCurOp
    x.map (fun n => (n, op)) ++ (if odd then q.toList.map (fun n => (n, snpInvOp)) else [])

/-- The back-invalidate of the owner's host a request sends (R269, R283, R291). -/
def planBi (s : State) (key : Nat) (e : DirEnt) (kind : OwnKind) : Option BiOp :=
  if !ownKey s key then none
  else if hostUnknownFor s key then some .inv
  else if fromHost kind then none
  else if invalidates kind then (if e.host = .i then none else some .inv)
  else match kind with
    | .rdShared => if e.host = .a then some .data else none
    | .rdCur => if e.host = .a then some .cur else none
    | _ => none

/-- Change an open transaction. -/
def modTx (s : State) (key : Nat) (f : OwnTx → OwnTx) : State := { s with coh := { s.coh with txs := mmod s.coh.txs key f } }

/-- Send a snoop (R268, R357); performance event 0x040. -/
def sendSnoop (s : State) (key : Nat) (node op : Nat) (grant : Nat) : State :=
  let m := mkMsg 1 op node 15 0 false [(42, keyLine key), (2, 0)] (if grant = 0 then [] else [BitVec.ofNat 128 grant])
  count (openTx s 1 m (.snoop key (BitVec.ofNat 12 node))) 0x040

/-- Back-invalidate this device's host (R262, R269, R272); performance event 0x041. -/
def sendBi (s : State) (line : Nat) (op : BiOp) : State := count (emit s (.biSnp (64 * line) op)) 0x041

/-- A transaction takes its line: its snoops and its back-invalidate go out (R261, R262). -/
def openOwn (s : State) (key : Nat) (kind : OwnKind) (who : Asker) (waited dup : Bool) : State :=
  let s := dirTouch s (dirSet s key).1 false
  let e := dirEnt s key
  let e := match who.node, dup with
    | some n, true => e.dropPeer n
    | _, _ => e
  let s := if dup then setEnt s key e else s
  let odd := match who.node with
    | some n => e.owns n
    | none => false
  let s := match who.node, odd with
    | some n, true => raiseP s 0x1A2 0 (.peer n) 0
    | _, _ => s
  let sn := planSnoops s e kind who.node
  let bi := planBi s key e kind
  let tx : OwnTx := {
    kind := kind
    who := who
    stage := .snooping
    snoops := sn.map (fun x => (x.1, false))
    bisnp := bi.map (fun _ => s.clockNs)
    contended := waited || sn.any (fun x => some x.1 != who.node) || bi.isSome
    fwd := none
    commit := none
    startNs := s.clockNs
    ackNs := 0
    recovering := false
    home := none
    result := none
    xDirty := false
    owedCmp := []
    owedAck := []
    again := dup }
  let s := { s with coh := { s.coh with txs := mset s.coh.txs key tx } }
  let s := sn.foldl (fun s x => sendSnoop s key x.1.toNat x.2 0) s
  match bi with
  | some op => sendBi s (keyLine key) op
  | none => s

/-- Operation codes of an atomic (R495): the new value from the old one and the operand, of `w` bits. -/
def atomicNew (op w old a b : Nat) : Nat :=
  let m := 2 ^ w
  let sgn := fun (v : Nat) => if v < m / 2 then v + m / 2 else v - m / 2
  match op with
  | 1 => (old + a) % m
  | 2 => old &&& a
  | 3 => old ||| a
  | 4 => old ^^^ a
  | 5 => a
  | 6 => if old = a then b else old
  | 7 => if sgn a < sgn old then a else old
  | 8 => if sgn old < sgn a then a else old
  | 9 => min a old
  | 10 => max a old
  | _ => old

/-- Is an operation with a size listed (R495)? -/
def atomicValid (op size : Nat) : Bool :=
  if op = 1 ∨ (7 ≤ op ∧ op ≤ 10) then size == 2 || size == 3 else if 2 ≤ op ∧ op ≤ 6 then 2 ≤ size && size ≤ 4 else false

/-- Execute an atomic on a line: the old value of the operand and the new line (R495). -/
def atomicApply (line : Line) (op size offset operands : Nat) : BitVec 128 × Line :=
  let w := 8 * 2 ^ size
  let sh := 8 * offset
  let old := line.toNat / 2 ^ sh % 2 ^ w
  let new := atomicNew op w old (operands % 2 ^ w) (operands / 2 ^ w % 2 ^ w)
  let m : Line := BitVec.ofNat 512 ((2 ^ w - 1) * 2 ^ sh)
  (BitVec.ofNat 128 old, (line &&& ~~~m) ||| BitVec.ofNat 512 (new * 2 ^ sh))

/-- A masked write merged into a line's value (R467): a whole write clears poison; a partial one to a poisoned line leaves it
poisoned over zeros. -/
def mergeWrite (base : Line × Bool) (data : Line) (mask : BitVec 64) (poison : Bool) : Line × Bool :=
  if mask = BitVec.allOnes 64 then (data, poison)
  else if base.2 then (mergeLine 0 data mask, true)
  else (mergeLine base.1 data mask, poison)

/-- The masked bytes a request writes. -/
def writePart : OwnKind → Option (Line × BitVec 64 × Bool)
  | .wrLine _ poison mask data => some (data, mask, poison)
  | .hostWr _ _ data mask poison => some (data, mask, poison)
  | _ => none

/-- The atomic a request executes. -/
def atomicPart : OwnKind → Option (Nat × Nat × Nat × Nat)
  | .atomicFar op size _ _ offset operands => some (op.toNat, size.toNat, offset.toNat, operands.toNat)
  | .hostAtomic _ op size offset operands _ => some (op.toNat, size.toNat, offset.toNat, operands.toNat)
  | _ => none

/-- With the line's value in hand: reads are answered, writes merge, atomics execute (R269, R466). -/
def haveValue (s : State) (key : Nat) (tx : OwnTx) (v : Line × Bool) : State :=
  match writePart tx.kind, atomicPart tx.kind with
  | some (data, mask, poison), _ => modTx s key (fun t => { t with commit := some (mergeWrite v data mask poison), stage := .blocked })
  | none, some (op, size, offset, operands) =>
    if v.2 then
      modTx s key (fun t => { t with result := some (0, true), home := some v, stage := if t.commit.isSome then .blocked else .replying })
    else
      let r := atomicApply v.1 op size offset operands
      modTx s key (fun t => { t with result := some (r.1, false), commit := some (r.2, false), stage := .blocked })
  | none, none =>
    modTx s key (fun t => { t with home := some v, stage := if t.commit.isSome then .blocked else .replying })

/-- Start the read of home memory for a transaction. -/
def startRead (s : State) (key : Nat) (tx : OwnTx) : State :=
  let s := modTx s key (fun t => { t with stage := .reading })
  let r := readHome s key tx.who.port tx.who.label tx.who.qlabel
  match r.2 with
  | some v => haveValue r.1 key tx v
  | none => r.1

/-- Every snoop and back-invalidate is answered (R262): forward, commit what was collected, or read home. -/
def collected (s : State) (key : Nat) (tx : OwnTx) : State :=
  match tx.commit, tx.fwd with
  | some v, _ => haveValue s key tx v
  | none, some _ => modTx s key (fun t => { t with stage := .replying })
  | none, none =>
    match writePart tx.kind with
    | some (data, mask, poison) =>
      if mask = BitVec.allOnes 64 then modTx s key (fun t => { t with commit := some (data, poison), stage := .blocked })
      else startRead s key tx
    | none => match tx.kind with
      | .victim _ => modTx s key (fun t => { t with stage := .replying })
      | _ => startRead s key tx

/-- The kind code of a recorded request (R376): class x 8 + op. -/
def crtKind : OwnKind → Option Nat
  | .rdShared => some 1
  | .rdOwn => some 2
  | .wrLine _ _ _ _ => some 4
  | .atomicFar _ _ _ _ _ _ => some 5
  | _ => none

/-- Record a completed request of a peer (R267, R376). A poisoned atomic result is kept with bit 128 set. -/
def recordTx (s : State) (key : Nat) (tx : OwnTx) : State :=
  match tx.who, crtKind tx.kind with
  | .peer _ tag _ _ isNew, some k =>
    let seq := match tx.kind with
      | .atomicFar _ _ seq _ _ _ => seq.toNat
      | _ => 0
    let res := match tx.result with
      | some (r, p) => r.toNat + 2 ^ 128 * b2n p
      | none => 0
    crtRecordFor s (keyOwner key) tag isNew k 0 (keyLine key) seq res
  | _, _ => s

/-- The value is committed everywhere it must be: the peers whose data it covers get their Cmp and EvictAck (R266, R276). -/
def committed (s : State) (key : Nat) (tx : OwnTx) : State :=
  let s := tx.owedCmp.foldl (fun s x => respondCmp s x.2 15 0 false 0) s
  let s := tx.owedAck.foldl (fun s x => respondLine (crtWriteback s x.1 x.2 key) 6 x.1 (keyLine key)) s
  modTx s key (fun t => { t with stage := .replying, owedCmp := [], owedAck := [], home := match t.home with
    | some v => some v
    | none => t.commit })

/-- What a MirrorWrite says of a recorded writeback (R173). -/
def writebackOrigin (s : State) (tag : Tag) : Option Origin := (mget s.e2e.crt (crtKey tag)).map (fun e => ⟨tag, e, none⟩)

/-- Is a transaction a recorded request that writes? -/
def writesRecorded (tx : OwnTx) : Bool := match tx.who, crtKind tx.kind with
  | .peer _ _ _ _ _, some k => k == 4 || k == 5
  | _, _ => false

/-- What a MirrorWrite says of the request that caused it (R173): a peer's WrLine or AtomicFar, else a WbDirty whose data the
transaction has taken. -/
def originOf (s : State) (tx : OwnTx) : Option Origin :=
  match writesRecorded tx, tx.who.tag with
  | true, some tag => (mget s.e2e.crt (crtKey tag)).map (fun e => ⟨tag, e, tx.result.map (·.1)⟩)
  | _, _ => tx.owedAck.head?.bind (fun x => writebackOrigin s x.1)

/-- The commit at home is done: the MirrorWrite goes to the buddy, and the line stays busy until its Cmp (R167, R169). -/
def afterCommit (s : State) (key : Nat) (tx : OwnTx) : State :=
  let s := if tx.commit.isSome then tx.owedAck.foldl (fun s x => crtWriteback s x.1 x.2 key) s else s
  let s := if tx.commit.isSome && writesRecorded tx then recordTx s key tx else s
  let need := mirrorNeed s key
  match tx.commit with
  | none => committed s key tx
  | some v =>
    if need.1 then
      let s := modTx s key (fun t => { t with stage := .mirroring })
      let s := sendMirror s key v tx.who.label (originOf s tx)
      if need.2 then s else committed s key tx
    else committed s key tx

/-- Try to commit a transaction's value. -/
def tryCommit (s : State) (key : Nat) (tx : OwnTx) : State :=
  match tx.commit with
  | none => committed s key tx
  | some v =>
    match commitHome s key v tx.who.port tx.who.label tx.who.qlabel with
    | (s, .done) => afterCommit s key tx
    | (s, .queued) => modTx s key (fun t => { t with stage := .writing })
    | (s, .wait) => s

/-- An entry with one holder in E, or one sharer. -/
def entE (n : Node) : DirEnt := { DirEnt.none with st := .e, ptr0 := some n }
def entS (n : Node) (h : HostCopy) : DirEnt := { DirEnt.none with st := .s, host := h, sharers := [n] }

/-- The entry after a RdShared of `q`, and whether it is granted E (R269). -/
def afterShared (e : DirEnt) (q : Node) (dirty off : Bool) : DirEnt × Bool :=
  let e := if e.owns q then e.dropPeer q else e
  match e.st with
  | .u => if e.host = .i then (if off then (entS q .i, false) else (entE q, true)) else (entS q .s, false)
  | .s => (e.addSharer q, false)
  | .e =>
    if dirty then ({ e with st := .o }.addSharer q, false)
    else (match e.ptr0 with
      | some x => (({ e with st := .s, ptr0 := Option.none }.addSharer x).addSharer q, false)
      | Option.none => (entS q .i, false))
  | _ =>
    if dirty then ({ e with st := .o }.addSharer q, false)
    else (match e.ptr0 with
      | some x => (({ e with st := .s, ptr0 := Option.none }.addSharer x).addSharer q, false)
      | Option.none => ({ e with st := .s }.addSharer q, false))

/-- The entry after a host read with MetaValue Shared (R270). -/
def afterHostShared (e : DirEnt) (dirty : Bool) : DirEnt :=
  let h : HostCopy := if e.host = HostCopy.a then .a else .s
  let e := { e with host := h }
  match e.st with
  | .e =>
    if dirty then { e with st := .o }
    else (match e.ptr0 with
      | some x => { e with st := .s, ptr0 := Option.none }.addSharer x
      | Option.none => e)
  | .m =>
    if dirty then { e with st := .o }
    else (match e.ptr0 with
      | some x => { e with st := .s, ptr0 := Option.none }.addSharer x
      | Option.none => e)
  | _ => e

/-- The host copy a MetaValue leaves (R270). -/
def hostOf : MetaVal → HostCopy
  | .invalid => .i
  | .shared => .s
  | .any => .a

/-- The host copy that a host request leaves: none where a reset has discarded its completion (R290, R499). -/
def hostHeld (req : Option (BitVec 16)) (mv : MetaVal) : HostCopy := if req.isSome then hostOf mv else .i

/-- The entry after a transaction (R269, R270), and whether RdShared is granted E. -/
def nextEntry (s : State) (key : Nat) (tx : OwnTx) : DirEnt × Bool :=
  let e := dirEnt s key
  match tx.kind with
  | .rdShared => (match tx.who.node with
    | some q => afterShared e q tx.xDirty s.coh.eGrantOff
    | none => (e, false))
  | .rdOwn => (match tx.who.node with
    | some q => (entE q, true)
    | none => (e, false))
  | .rdCur => (if e.st = .e ∧ tx.xDirty then { e with st := .m } else e, false)
  | .wrLine keep _ _ _ => (match tx.who.node, keep with
    | some q, .s => (entS q .i, false)
    | some q, .e => (entE q, false)
    | _, _ => (DirEnt.none, false))
  | .atomicFar _ _ _ _ _ _ => (DirEnt.none, false)
  | .hostRd .any req => ({ DirEnt.none with host := hostHeld req .any }, false)
  | .hostRd .shared req =>
    let x := afterHostShared e tx.xDirty
    (if req.isSome then x else { x with host := .i }, false)
  | .hostRd .invalid _ => (if e.st = .e ∧ tx.xDirty then { e with st := .m } else e, false)
  | .hostWr mv req _ _ _ => ({ DirEnt.none with host := hostHeld req mv }, false)
  | .hostAtomic _ _ _ _ _ _ => (DirEnt.none, false)
  | .victim _ => (DirEnt.none, false)

/-- A host request in progress ends: its label's window has room again (R407). -/
def hostEnds (s : State) (label : Nat) : State :=
  { s with qos := { s.qos with inProgress := mset s.qos.inProgress label (mgetD s.qos.inProgress label 0 - 1) } }

/-- Answer a host read (R73, R409, R466), with its latency counted (R631). -/
def hostAnswer (s : State) (req : Option (BitVec 16)) (label : Nat) (v : Line × Bool) : State :=
  match req with
  | none => hostEnds s label
  | some req =>
    let t := mgetD s.host.readNs req.toNat s.clockNs
    let s := { s with host := { s.host with readNs := mdel s.host.readNs req.toNat } }
    let s := countN s 0x004 (some label) (s.clockNs - t)
    hostEnds (emit s (.hostData req (if v.2 then 0 else v.1) v.2 s.qos.devload)) label

/-- A host read served counts under the tier of its page (performance events 0x010 to 0x013). -/
def countTier (s : State) (key label : Nat) : State :=
  let t := dTier (page s (keyPage key)).desc
  if ownKey s key && decide (1 ≤ t) && decide (t ≤ 4) then countL s (0x00F + t) label else s

/-- Complete a host write (R21, R409). -/
def hostWritten (s : State) (req : Option (BitVec 16)) (label : Nat) : State :=
  match req with
  | none => hostEnds s label
  | some req => hostEnds (emit s (.hostCmp req s.qos.devload)) label

/-- An ATOMIC command ends with its old value (R285, R466, R495); 16-byte results go to result_addr first. -/
def atomicEnds (s : State) (src : CmdSrc) (size : BitVec 3) (raddr : BitVec 64) (r : BitVec 128 × Bool) : State :=
  if r.2 then completeCmd s src stPoisoned 0
  else if size = 4 then completeCmd (emit s (.dma raddr (natLe 16 r.1.toNat))) src stOk 0
  else completeCmd s src stOk r.1.toNat

/-- A transaction ends: its line is free. -/
def endTxAt (s : State) (key : Nat) : State := { s with coh := { s.coh with txs := mdel s.coh.txs key } }

/-- Wait for the acknowledgement of a grant (R264). -/
def awaitAck (s : State) (key : Nat) : State := modTx s key (fun t => { t with stage := .acking, ackNs := s.clockNs })

/-- The response of a transaction, with the change of its entry (R262, R263, R269, R270). -/
def reply (s : State) (key : Nat) (tx : OwnTx) : State :=
  let n := nextEntry s key tx
  let s := setEnt s key n.1
  let v := match tx.fwd, tx.home with
    | some v, _ => v
    | none, some v => v
    | none, none => (tx.commit.getD (0, false))
  match tx.kind, tx.who with
  | .rdShared, .peer _ tag label _ _ =>
    let s := recordTx s key tx
    awaitAck (respondData s (if n.2 then 2 else 1) tag label v.2 tx.contended false false false 0 0 v.1) key
  | .rdOwn, .peer _ tag label _ _ =>
    let s := recordTx s key tx
    awaitAck (respondData s 2 tag label v.2 tx.contended false false false 0 0 v.1) key
  | .rdCur, .peer _ tag label _ _ => endTxAt (respondData s 1 tag label v.2 tx.contended false false false 0 0 v.1) key
  | .wrLine keep _ _ _, .peer _ tag label _ _ =>
    let s := respondCmp s tag label 0 tx.contended 0
    if keep = .i then endTxAt s key else awaitAck s key
  | .atomicFar _ _ _ _ _ _, .peer _ tag label _ _ =>
    let r := tx.result.getD (0, false)
    let s := if r.2 then recordTx s key tx else s
    endTxAt (respondResult s tag label r.2 tx.contended r.1) key
  | .hostRd _ req, .host label _ => endTxAt (hostAnswer (if req.isSome then countTier s key label else s) req label v) key
  | .hostWr _ req _ _ _, .host label _ => endTxAt (hostWritten s req label) key
  | .hostAtomic src _ size _ _ raddr, _ => endTxAt (atomicEnds s src size raddr (tx.result.getD (0, false))) key
  | _, _ => endTxAt s key

/-- Let a transaction go as far as it can. -/
def advance : Nat → State → Nat → State
  | 0, s, _ => s
  | fuel + 1, s, key =>
    match mget s.coh.txs key with
    | none => s
    | some tx =>
      match tx.stage with
      | .snooping => if tx.snoops.isEmpty && tx.bisnp.isNone then advance fuel (collected s key tx) key else s
      | .blocked =>
        let s := tryCommit s key tx
        (match mget s.coh.txs key with
         | some t => if t.stage = .blocked then s else advance fuel s key
         | none => s)
      | .replying => reply s key tx
      | _ => s

/-- A transaction goes on after an event. -/
def goOn (s : State) (key : Nat) : State := advance 6 s key

/-- The line's value from home has come. -/
def homeArrived (s : State) (key : Nat) (v : Line × Bool) : State :=
  match mget s.coh.txs key with
  | none => s
  | some tx => if tx.stage = .reading then goOn (haveValue s key tx v) key else s

/-- A block has come into the near cache, or its page is no longer served from it: the transactions that read it go on. -/
def blockThere (s : State) (block : Nat) : State :=
  let keys := (s.coh.txs.filter (fun x => x.2.stage == .reading && keyBlock x.1 == block)).map (·.1)
  keys.foldl (fun s key =>
    match mget s.coh.txs key, nearGet s key with
    | some tx, some l => goOn (haveValue s key tx (l.data, l.poison)) key
    | some tx, none => goOn (startRead s key tx) key
    | none, _ => s) s

/-- Change the sink entry of a key that is in a stage. -/
def modSink (s : State) (key : Nat) (st : SinkStage) (f : SinkEnt → SinkEnt) : State :=
  { s with coh := { s.coh with sink := modFirst (fun x => x.key == key && x.stage == st) f s.coh.sink } }

/-- A line of the sink is committed and acknowledged: its entry is free (R265, R266). -/
def sinkDone (s : State) (x : SinkEnt) : State :=
  let s := { s with coh := { s.coh with sink := s.coh.sink.filter (fun y => y.tag != x.tag) } }
  if x.cmp then respondCmp s x.tag 15 0 false 0
  else respondLine (crtWriteback s x.tag x.isNew x.key) 6 x.tag (keyLine x.key)

/-- The data of a sink entry is in home memory: mirror it with the WbDirty's tag (R167, R376), then acknowledge it (R255, R265). -/
def sinkWritten (s : State) (x : SinkEnt) : State :=
  let need := mirrorNeed s x.key
  if need.1 then
    let s := if x.cmp then s else crtWriteback s x.tag x.isNew x.key
    let s := sendMirror s x.key (x.data, x.poison) 15 (if x.cmp then none else writebackOrigin s x.tag)
    if need.2 then modSink s x.key x.stage (fun y => { y with stage := .mirroring }) else sinkDone s x
  else sinkDone s x

/-- Try to commit a line that waits in the sink. -/
def sinkStep (s : State) (x : SinkEnt) : State :=
  if x.stage ≠ .waiting || lineMirroring s x.key then s
  else match commitHome s x.key (x.data, x.poison) .fabric 15 15 with
    | (s, .done) => sinkWritten s x
    | (s, .queued) => modSink s x.key .waiting (fun y => { y with stage := .writing })
    | (s, .wait) => s

/-- Take dirty data into the sink. -/
def sinkPut (s : State) (x : SinkEnt) : State := sinkStep { s with coh := { s.coh with sink := s.coh.sink ++ [x] } } x

/-- A queued write of a line is in the write queue: it takes effect, and what waits for it goes on (R21). -/
def homeWritten (s : State) (key : Nat) : State :=
  let wrote := fun (s : State) v => placeLine s (keyLine key) v
  match mget s.coh.txs key with
  | some tx =>
    (match tx.stage, tx.commit with
     | .writing, some v => goOn (afterCommit (wrote s v) key tx) key
     | _, _ => (match s.coh.sink.find? (fun x => x.key == key && x.stage == .writing) with
       | some x => sinkWritten (wrote s (x.data, x.poison)) x
       | none => s))
  | none => (match s.coh.sink.find? (fun x => x.key == key && x.stage == .writing) with
    | some x => sinkWritten (wrote s (x.data, x.poison)) x
    | none => s)

/-- A populating compression has ended: the write that caused it is committed, or it waits for pods (R91, R124, R127). -/
def populated' (s : State) (p b blen : Nat) (job : Job) : State :=
  let hit := fun (k : Nat) => ownKey s k && keyPage k == p && keyLine k / 16 % 4 == b
  let r := populateDone s p b blen job
  match s.coh.txs.find? (fun x => hit x.1 && x.2.stage == .writing) with
  | some (key, tx) =>
    if r.2 then
      let s := match tx.commit with
        | some v => if v.2 then poisonOne r.1 (keyLine key) else if linePoisoned r.1 (keyLine key) then cleanOne r.1 (keyLine key) else r.1
        | none => r.1
      goOn (afterCommit s key tx) key
    else modTx r.1 key (fun t => { t with stage := .blocked })
  | none =>
    match s.coh.sink.find? (fun x => hit x.key && x.stage == .writing) with
    | some x =>
      if r.2 then sinkWritten (if x.poison then poisonOne r.1 (keyLine x.key) else r.1) x
      else modSink r.1 x.key .writing (fun y => { y with stage := .waiting })
    | none => r.1

/-- The buddy's Cmp of a MirrorWrite (R168, R169). -/
def mirrorAcked (s : State) (seq key : Nat) : State :=
  let s := { s with chd := { s.chd with ackedSeq := BitVec.ofNat 48 (max s.chd.ackedSeq.toNat seq) } }
  match mget s.coh.txs key with
  | some tx => if tx.stage = .mirroring then goOn (committed s key tx) key else
    (match s.coh.sink.find? (fun x => x.key == key && x.stage == .mirroring) with
     | some x => sinkDone s x
     | none => s)
  | none => (match s.coh.sink.find? (fun x => x.key == key && x.stage == .mirroring) with
    | some x => sinkDone s x
    | none => s)

/-- An answer to a snoop: clean, data with its dirty and host_dirty bits, or a writeback in flight. -/
inductive SnoopAnswer where
  | clean
  | dirty (v : Line × Bool) (own hostDirty : Bool)
  | inFlight
deriving DecidableEq, Repr

/-- Take one peer's answer off a transaction's list. -/
def OwnTx.answered (t : OwnTx) (n : Node) : OwnTx := { t with snoops := t.snoops.filter (fun x => x.1 != n) }

/-- Is a peer of a transaction snooped with SnpInv? -/
def snoopsInv (tx : OwnTx) (n : Node) : Bool := invalidates tx.kind || tx.who.node == some n

/-- A snoop is answered (R266, R269, R276); the answer to a recovery snoop ends the transaction (R264), one that announces a writeback
when that has come. -/
def snoopAnswered (s : State) (key : Nat) (n : Node) (tag : Tag) (a : SnoopAnswer) : State :=
  match mget s.coh.txs key with
  | none => s
  | some tx =>
    if tx.stage = .acking then
      if !tx.recovering || a = .inFlight then s
      else
        let s := setEnt s key ((dirEnt s key).dropPeer n)
        let s := endTxAt s key
        match a with
        | .dirty v _ _ => sinkPut s ⟨key, tag, false, v.1, v.2, true, .waiting⟩
        | _ => s
    else if !(tx.snoops.any (fun x => x.1 == n)) then s
    else
      let isX := decide ((dirEnt s key).ptr0 = some n)
      let inv := snoopsInv tx n
      let s := if tx.who.node = some n ∧ a ≠ .inFlight then setEnt s key ((dirEnt s key).dropPeer n) else s
      match a with
      | .inFlight =>
        let mark := fun (x : Node × Bool) => if x.1 = n then (x.1, true) else x
        modTx s key (fun t => { t with snoops := t.snoops.map mark })
      | .clean => goOn (modTx s key (fun t => t.answered n)) key
      | .dirty v own hostDirty =>
        if inv || hostDirty then
          goOn (modTx s key (fun t => { t.answered n with
            commit := some v
            xDirty := t.xDirty || (isX && own)
            owedCmp := t.owedCmp ++ [(n, tag)] })) key
        else goOn (modTx s key (fun t => { t.answered n with fwd := some v, xDirty := t.xDirty || isX })) key

/-- Is the device serving its own lines, or acting for their owner in step 5 (R174, R280)? -/
def servingFor (s : State) (owner : Nat) : Bool :=
  if owner = myNode s then s.coh.serving && s.chd.ownedAway.isNone
  else match mget s.chd.acting owner with
    | some n => decide (5 ≤ n)
    | none => false

/-- Evict or WbDirty arrives (R265, R276, R377): it is taken as the answer of an open snoop, changes the directory, or is
discarded; it is acknowledged with EvictAck. While its entry is unknown (R291, R292) WbDirty is what a scope snoop asked for, and is
committed (log 146); while the owner does not serve it is answered NackRetry as any request (R280, R369; log 147). -/
def writeback (s : State) (key : Nat) (h : ReqHdr) (v : Option (Line × Bool)) : State :=
  let n : Node := BitVec.ofNat 12 (tagSource h.tag)
  let kind := if v.isSome then 26 else 25
  let ack := fun (s : State) => respondLine (crtRecordFor s (keyOwner key) h.tag h.isNew kind 0 (keyLine key) 0 0) 6 h.tag (keyLine key)
  match crtDuplicate s h.tag h.isNew with
  | some _ => respondLine (countDuplicate s) 6 h.tag (keyLine key)
  | none =>
    if crtFull s h.tag then respondNack (noteCrtFull s) h.tag 15 1 s.coh.pendingHint.toNat
    else if s.coh.sink.any (fun x => x.tag.toNat / 4 == h.tag.toNat / 4) then s
    else
      let e := dirEnt s key
      let open_ : Bool := match mget s.coh.txs key with
        | some tx => tx.stage == OwnStage.snooping && tx.snoops.any (fun x => x.1 == n)
        | none => false
      let recovers : Bool := match mget s.coh.txs key with
        | some tx => tx.stage == OwnStage.acking && tx.recovering && tx.who.node == some n
        | none => false
      let s := if recovers then endTxAt s key else s
      if !servingFor s (keyOwner key) then respondNack s h.tag 15 2 s.coh.notservingHint.toNat
      else if open_ then
        let s := setEnt s key (e.dropPeer n)
        match v with
        | none => goOn (modTx (ack s) key (fun t => t.answered n)) key
        | some v => goOn (modTx s key (fun t => { t.answered n with commit := some v, owedAck := t.owedAck ++ [(h.tag, h.isNew)] })) key
      else match v with
        | none => if e.records n && (!e.owns n || e.st == DirSt.e) then ack (setEnt s key (e.dropPeer n)) else ack s
        | some v =>
          if e.owns n || lineUnknown s key then
            sinkPut (setEnt s key (e.dropPeer n)) ⟨key, h.tag, h.isNew, v.1, v.2, false, .waiting⟩
          else ack s

/-- The op of the back-invalidate a transaction sent. -/
def biOf (s : State) (key : Nat) (kind : OwnKind) : BiOp :=
  if invalidates kind || hostUnknownFor s key then .inv else match kind with
    | .rdShared => .data
    | _ => .cur

/-- The owner's host answers a back-invalidate, with or without a writeback (R262, R269). -/
def biAnswered (s : State) (key : Nat) (wb : Option (Line × Bool)) : State :=
  match mget s.coh.txs key with
  | none => s
  | some tx =>
    if tx.bisnp.isNone then s
    else
      let e := dirEnt s key
      let h : HostCopy := match biOf s key tx.kind with
        | .inv => .i
        | .data => .s
        | .cur => e.host
      let s := setEnt s key { e with host := h }
      goOn (modTx s key (fun t => { t with bisnp := none, commit := match wb with
        | some v => some v
        | none => t.commit })) key

/-- The acknowledgement of a grant (R264): the line is free. One that no transaction waits for, or that comes after the recovery, is
absorbed. -/
def grantAcked (s : State) (tag : Tag) : State :=
  match s.coh.txs.find? (fun x => x.2.stage == .acking && !x.2.recovering && (match x.2.who.tag with
      | some t => t.toNat / 4 == tag.toNat / 4
      | none => false)) with
  | some (key, _) => endTxAt s key
  | none => s

/-- ACK_TIMEOUT: no acknowledgement within four end-to-end timeouts: a recovery SnpInv with the grant's tag (R264). -/
def ackTimeout (s : State) (line : Nat) : State :=
  match s.coh.txs.find? (fun x => keyLine x.1 == line && x.2.stage == .acking && !x.2.recovering) with
  | some (key, tx) =>
    (match tx.who with
     | .peer n tag _ _ _ => sendSnoop (modTx s key (fun t => { t with recovering := true })) key n.toNat snpInvOp tag.toNat
     | _ => s)
  | none => s

/-- The victim of a set that is full (R277): the way of the greatest age that is not busy. -/
def victimOf (s : State) (set : Nat) : Option Nat :=
  (bestOf (fun (a b : Nat × DirEnt) => decide (b.2.age < a.2.age)) ((setEntries s set).filter (fun x => !lineBusy s x.1))).map (·.1)

/-- Does a request lack a way for the entry it needs (R277)? -/
def lacksWay (s : State) (key : Nat) (kind : OwnKind) : Bool :=
  needsEntry kind && !mhas s.coh.dir key && (freeWay s (dirSet s key).1).isNone

/-- May a request take its line now (R261, R279, R291)? -/
def mayTake (s : State) (key : Nat) (kind : OwnKind) : Bool :=
  !lineBusy s key && !lineUnknown s key && decide (s.coh.txs.length < 8192) && !lacksWay s key kind

/-- Evict a victim for a request that lacks a way (R277, R278). -/
def makeWay (s : State) (key : Nat) (kind : OwnKind) : State :=
  let already := s.coh.txs.any (fun x => match x.2.kind with
    | .victim k => k == key
    | _ => false)
  if !lacksWay s key kind || already || decide (8192 ≤ s.coh.txs.length) then s
  else match victimOf s (dirSet s key).1 with
    | none => s
    | some v =>
      let s := { s with coh := { s.coh with evictions := s.coh.evictions + 1 } }
      goOn (openOwn s v (.victim key) .device false false) v

/-- A request enters the pending table (R279); performance event 0x043. -/
def putPend (s : State) (key : Nat) (kind : OwnKind) (who : Asker) (area : Area) : State :=
  count { s with coh := { s.coh with pend := s.coh.pend ++ [⟨key, kind, who, area⟩] } } 0x043

/-- Entries of an area in use. -/
def areaUsed (s : State) (a : Area) : Nat := (s.coh.pend.filter (fun x => x.area == a)).length

/-- The next node of the standby set after the rotating pointer (R282). -/
def nextStandby (s : State) : Option Node :=
  bestOf (fun (a b : Node) => decide ((a - s.coh.pointer - 1).toNat < (b - s.coh.pointer - 1).toNat)) s.coh.standby

/-- A reserved entry is free: it is held for the next node of the standby set (R282). -/
def reservedFrees (s : State) : State :=
  match nextStandby s with
  | none => s
  | some n => { s with coh := { s.coh with
    heldFor := s.coh.heldFor ++ [n]
    standby := s.coh.standby.filter (· != n)
    pointer := n } }

/-- RESERVED_HOLD_TIMEOUT: no request of the node came within 64 µs: the entry passes to the next node (R282). -/
def reservedHoldTimeout (s : State) (n : Node) : State :=
  if s.coh.heldFor.contains n then reservedFrees { s with coh := { s.coh with heldFor := s.coh.heldFor.erase n } } else s

/-- Is a request's line asked for earlier in the pending table? -/
def pendBefore (s : State) (key : Nat) : Bool := s.coh.pend.any (fun x => x.key == key)

/-- Start the request of a pending entry when its turn comes, in arrival order per line (R261, R279). -/
def pendStep (s : State) (x : Pend) : State :=
  match s.coh.pend.find? (fun y => y.key == x.key) with
  | none => s
  | some y =>
    if y != x then s
    else
      let s := makeWay s x.key x.kind
      if !mayTake s x.key x.kind then s
      else
        let rest := match takeFirst (fun z => z == x) s.coh.pend with
          | some (_, r) => r
          | none => s.coh.pend
        let s := { s with coh := { s.coh with pend := rest } }
        let s := goOn (openOwn s x.key x.kind x.who true false) x.key
        if x.area = .reserved then reservedFrees s else s

/-- A read of a Packed or Remote page that found no room in the near cache starts once there is some (R23). -/
def readAgain (s : State) (key : Nat) : State :=
  match mget s.coh.txs key with
  | none => s
  | some tx =>
    let k := keyBlock key
    let t := servingTier s (keyPage key)
    if tx.stage = .reading && ownKey s key && (t == tierPacked || t == tierRemote) && !mhas s.coh.near k && !s.coh.fills.contains k &&
        nearRoom s k then goOn (startRead s key tx) key
    else s

/-- Let waiting work of the owner go on: open transactions, the sink, then the pending table. -/
def ownPass (s : State) : State :=
  let s := (mkeys s.coh.txs).foldl goOn s
  let s := (mkeys s.coh.txs).foldl readAgain s
  let s := s.coh.sink.foldl sinkStep s
  s.coh.pend.foldl pendStep s

end Sys2Proof.Machine
end

