-- ==== Sys2Proof/Machine/Evict.lean ====
section
/-! DEFINITION. Near-cache evictions of own pages: thaw, recompression and the rewrite of pods (04: R122; 05: R151, R155, R662,
R663; 06: R205), and the decoding of blocks read back (06: R198; 07: R242, R243). -/

namespace Sys2Proof.Machine

/-- The sixteen lines of a near-cache block as the compressor takes them: poisoned lines as zeros (R189). -/
def nearBytes (b : NcBlock) : List Byte :=
  ((List.range 16).map (fun i => match mget b.lines i with
    | some l => lineBytes (if l.poison then 0 else l.data)
    | none => lineBytes 0)).flatten

/-- Set whether a near-cache block is being evicted. -/
def setEvicting (s : State) (k : Nat) (v : Bool) : State :=
  { s with coh := { s.coh with near := mmod s.coh.near k (fun b => { b with evicting := v }) } }

/-- The block's eviction ends: a block that was not written meanwhile leaves the near cache. -/
def dropEvicted (s : State) (k : Nat) : State :=
  match mget s.coh.near k with
  | some b => if b.evicting then { s with coh := { s.coh with near := mdel s.coh.near k } } else s
  | none => s

/-- THAW (R122, R155, R662): the page becomes Plain with every dirty line of the near cache merged into its frame. -/
def thawPage (s : State) (p frame : Nat) : State :=
  let d := (page s p).desc
  let s := mergeNear s p
  let x := page s p
  let new := mkDesc tierPlain (currentKgen s (pageDomain s p)) 0 (dMirror d) false (dPin d) (x.poison != 0) 0 frame (myNode s)
    (dVers d + 1)
  let s := jpage s p recMigCommit (kindCode .thaw) 0 0 new 0
  let s := putDesc s p new
  let s := modPage s p (fun x => { x with tags := 0 })
  let s := freePods s (dLoc d) (dPods d)
  let s := retireKey (primerMoved s d new) (pageDomain s p)
  count (countCommitted (encrypted s 64) .thaw) 0x026

/-- Is a page to be thawed at the eviction of a dirty block (R122), with journal slots free for it (R164)? The rule frees a page with
allow_packed 1 of the plain cap; one with allow_packed 0 is held to it: DESIGN CHOICE (log 132). -/
def thawDue (s : State) (p label : Nat) : Bool :=
  dTier (page s p).desc == tierPacked && decide (globalPolicy s 15 * 64 ≤ admitLevel s label * 100) &&
    decide (reserveLow s < framesF s) && spaceState s != 2 &&
    (pagePolicy s p 7 == 1 || decide (segFrames s .plain + 1 ≤ plainCap s))

/-- The primer of a block compressed at an eviction (R205). -/
def evictSlot (s : State) (p : Nat) : Nat :=
  let d := servedDesc s p
  if dNamesPrimer d then dPrimer d else (attrsOf s p).primer

/-- The slot a block was compressed under. -/
def Job.slot (j : Job) : Nat := (j.slots.head?.map (·.toNat)).getD 0

/-- Poison and place the lines of a block that its eviction stores; the stored form is the source of later reads. -/
def storeBlock (s : State) (block : Nat) (bs : List Byte) : State := markBlock (writeBlock s block bs) block

/-- The new descriptor of a page whose block `b` takes `n` pods at a location, under a key generation. -/
def rewritten (s : State) (p b n slot loc : Nat) (kgen : Bool) : Desc :=
  let d := (page s p).desc
  let bl := (List.range 4).map (fun i => if i = b then n else dBlen d i)
  let named := bl.any (fun v => decide (1 ≤ v) && decide (v ≤ 15))
  let d := dSet (dSet (dSet d 103 84 (packBlens bl)) 83 46 loc) 123 118 (if named then slot else 0)
  dSet (dSet d 124 124 (b2n kgen)) 33 18 (dVers d + 1)

/-- The ciphertext of an evicted block under a key generation. -/
def evictImage (s : State) (p b n : Nat) (kgen : Bool) (job : Job) : List Byte :=
  sealImage s (pageDomain s p) (pageHome s p) p b kgen (clearImage (primerOf s job.slot) n job.data)

/-- The other blocks of a rewritten page are encrypted anew where its generation changes (R89, R235). -/
def movedUnits (s : State) (d : Desc) (b : Nat) (kgen : Bool) : State :=
  let n := ((List.range 4).filter (fun i => decide (i ≠ b) && decide (dBlen d i ≠ 0))).length
  if dKgen d = kgen then s else encrypted (decrypted s n) n

/-- The result of an eviction's compression (R663): stored in place with the same pod count, else the page's pods are rewritten in
a new range near the old one, under the domain's current key (R89). A block written meanwhile, or held by a freeze or a migration,
stays dirty. -/
def evictResult (s : State) (k : Nat) (job : Job) (n : Nat) : State :=
  let block := blockNo k
  let p := block / 4
  let b := block % 4
  let d := servedDesc s p
  let t := servingTier s p
  match mget s.coh.near k with
  | none => s
  | some nb =>
    if !nb.evicting then s
    else if pageFrozen s p || !(t == tierPacked || t == tierRemote) then setEvicting s k false
    else if n = dBlen d b && (t != tierPacked || podsInService s (dLoc d) (dPods d)) then
      if t = tierPacked then
        let s := storeBlock s block job.data
        let tag := imageTag s (pageDomain s p) (pageHome s p) p b (dKgen d) (sealedBlock s p b n (dPrimer d) (dKgen d))
        let s := if dInteg d then modPage s p (fun x => { x with tags := putTag x.tags b tag }) else s
        dropEvicted (encrypted (podsWritten s job.label n) (min n 1)) k
      else if n = 0 then dropEvicted s k
      else
        let img := evictImage s p b n (dKgen d) job
        let run : EvictRun := ⟨block, n, job.slot, [(b, img)], none, 0, n, dKgen d⟩
        let s := { s with chd := { s.chd with evicts := mset s.chd.evicts p run } }
        sendImage (encrypted s 1) (dNode d) (dBlockLoc d b) (dVers d) job.label img (.evictWrite block)
    else if mhas s.chd.migs p then setEvicting s k false
    else
      let total := dPods d - dBlen d b + n
      let kgen := currentKgen s (pageDomain s p)
      if t = tierPacked then
        match allocPodsNear s (dLoc d / 32768) total with
        | none => spaceWait (setEvicting s k false)
        | some (loc, s) =>
          let s := storeBlock s block job.data
          let new := rewritten s p b n job.slot loc kgen
          let s := descSet s p new
          let s := modPage s p (fun x => { x with tags := if dInteg new then pageTags s p new else 0 })
          let s := freePods s (dLoc d) (dPods d)
          let s := retireKey (primerMoved s d new) (pageDomain s p)
          dropEvicted (movedUnits (encrypted (podsWritten s job.label total) (min n 1)) d b kgen) k
      else match leaseFit (borrow s (dNode d)) total (choice s 0 (2 ^ 38)) with
        | none => postCand (requestLease (setEvicting s k false) p) .recallFirst p
        | some loc =>
          let s := leaseHeadroom (leaseTake (chosen s 1) (dNode d) loc total)
          let others := (List.range 4).filter (fun i => decide (i ≠ b) && decide (dBlen d i ≠ 0))
          let run : EvictRun := ⟨block, n, job.slot, [(b, evictImage s p b n kgen job)], some loc, others.length, 0, kgen⟩
          let s := movedUnits (encrypted { s with chd := { s.chd with evicts := mset s.chd.evicts p run } } (min n 1)) d b kgen
          others.foldl (fun s i => sendBlkRead s 4 (dNode d) (dBlockLoc d i) (dBlen d i) (dVers d) 14 (.evictFetch p i)) s

/-- Start a rewrite whose page has no other stored block; write the images once every one is there. -/
def evictSend (s : State) (p : Nat) : State :=
  match mget s.chd.evicts p with
  | none => s
  | some r =>
    match r.loc with
    | none => s
    | some loc =>
      if r.fetching ≠ 0 ∨ r.acks ≠ 0 then s
      else
        let new := rewritten s p (r.block % 4) r.blen r.slot loc r.kgen
        let s := { s with chd := { s.chd with evicts := mset s.chd.evicts p { r with acks := dPods new } } }
        (List.range 4).foldl (fun s i =>
          sendImage s (dNode new) (dBlockLoc new i) (dVers new) 14 (mgetD r.images i []) (.evictWrite r.block)) s

/-- Every BlkWrite of an eviction is acknowledged: a block in place is dirty in an open migration (R151, R154); a rewrite sets the new
descriptor and frees the old pods (R663). -/
def evictEnd (s : State) (p : Nat) (r : EvictRun) : State :=
  let d := (page s p).desc
  let s := { s with chd := { s.chd with evicts := mdel s.chd.evicts p } }
  let tagged := fun (s : State) (t : BitVec 256) (i : Nat) =>
    putTag t i (imageTag s (pageDomain s p) (pageHome s p) p i r.kgen (mgetD r.images i []))
  let s := match r.loc with
    | none =>
      let s := markBlock s r.block
      if dInteg (servedDesc s p) then modPage s p (fun x => { x with tags := tagged s x.tags (r.block % 4) }) else s
    | some loc =>
      let new := rewritten s p (r.block % 4) r.blen r.slot loc r.kgen
      let s := descSet s p new
      let s := modPage s p (fun x => { x with tags := if dInteg new then (List.range 4).foldl (tagged s) 0 else 0 })
      retireKey (primerMoved (freeHolder s p d) d new) (pageDomain s p)
  dropEvicted s (blockKey (myNode s) r.block)

/-- A rewrite with nothing left to do ends. -/
def evictCheck (s : State) (p : Nat) : State :=
  match mget s.chd.evicts p with
  | some r => if r.fetching = 0 ∧ r.acks = 0 then evictEnd s p r else s
  | none => s

/-- The result of an eviction's compression, with a rewrite that needs no fetch started at once. -/
def evictDone (s : State) (k : Nat) (job : Job) (n : Nat) : State :=
  let p := blockNo k / 4
  let s := evictResult s k job n
  match mget s.chd.evicts p with
  | some r => if r.fetching = 0 ∧ r.acks = 0 then evictCheck (evictSend s p) p else s
  | none => s

/-- A block of this device's own page leaves the near cache: clean at once; dirty by thaw, or through the compressor, to which no ZERO
block goes (R211). -/
def evictOwn (s : State) (block : Nat) : State :=
  let k := blockKey (myNode s) block
  let p := block / 4
  match mget s.coh.near k with
  | none => s
  | some b =>
    if !(b.lines.any (fun l => l.2.dirty)) then { s with coh := { s.coh with near := mdel s.coh.near k } }
    else if b.evicting || pageFrozen s p || mhas s.chd.evicts p || (page s p).fenced then s
    else
      let job := jobOf (.evict k) [evictSlot s p] b.label (nearBytes b)
      let push := fun (s : State) =>
        if job.data.all (· == 0) then evictDone (countL (setEvicting s k true) 0x022 b.label) k job 0
        else pushJob (setEvicting s k true) job
      if thawDue s p b.label then
        match allocFrame s with
        | some (f, s) => thawPage s p f
        | none => push s
      else push s

/-- The holder acknowledged a BlkWrite of an eviction. -/
def evictAcked (s : State) (block : Nat) : State :=
  let p := block / 4
  evictCheck { s with chd := { s.chd with evicts := mmod s.chd.evicts p (fun r => { r with acks := r.acks - 1 }) } } p

/-- The stored image of another block of the page has come: it goes out under the rewrite's key generation (R235). -/
def evictFetched (s : State) (p b : Nat) (img : List Byte) : State :=
  let g := dKgen (page s p).desc
  let moved := fun (r : EvictRun) => if r.kgen = g then img
    else sealImage s (pageDomain s p) (pageHome s p) p b r.kgen (openImage s (pageDomain s p) (pageHome s p) p b g img)
  let s := { s with chd := { s.chd with evicts := mmod s.chd.evicts p (fun r =>
    { r with images := mset r.images b (moved r), fetching := r.fetching - 1 }) } }
  evictCheck (evictSend s p) p

/-- An image does not match its tag at the first read (R243, R249). -/
def tagMissed (s : State) : State := count { s with xts := { s.xts with tagFail := s.xts.tagFail + 1 } } 0x033

/-- The second image of a block whose first did not match its tag has been read (R243): event 0x168 where it matched, or once it is
known what the buddy has. -/
def tagFailed (s : State) (p b : Nat) (ok : Bool) : State :=
  let s := { s with xts := { s.xts with
    unrecovered := if ok || mirrorable s p then s.xts.unrecovered else s.xts.unrecovered + 1 } }
  if ok then blockEvent s p b true none else blockFailed s p b none

/-- What a block that was read comes to: its data is good, it is lost, or its lane gives no result yet. -/
inductive BlockRead where
  | good
  | lost
  | later
deriving DecidableEq, Repr

/-- The decode of a block for the near cache comes to an outcome (R198, R659). -/
def fillDecode (s : State) (p b : Nat) (dec : DecOutcome) (j : DJob) : State × BlockRead :=
  match dec with
  | .ok => (s, .good)
  | .cleared => (decodeCleared s, .good)
  | .failed e => (decodeLost s p b e, .lost)
  | .hung => (dLaneTakes s j, .later)

/-- Does an image that was read match a block's tag (R242)? -/
def imageMatches (s : State) (p b : Nat) (img : List Byte) : Bool :=
  let d := servedDesc s p
  decide (imageTag s (pageDomain s p) (pageHome s p) p b (dKgen d) img = getTag (page s p).tags b)

/-- A locally stored block that was read from DDR-5: the outcomes of its tag checks and decodes, and its bytes (R198, R242, R243).
`img`: the image as it was read, where the error correction changed it. -/
def localBlock (s : State) (p b label : Nat) (res : ReturnResult) (img : Option (List Byte)) : State × BlockRead × List Byte :=
  let d := servedDesc s p
  let clear := match img with
    | none => .ok (readBlock s (4 * p + b))
    | some i => decodeImage (primerOf s (dPrimer d)) (dBlen d b) (openImage s (pageDomain s p) (pageHome s p) p b (dKgen d) i)
  let bytes := clear.toOption.getD []
  let same := match img with
    | none => true
    | some i => imageMatches s p b i
  let ok := res.tagOk && same
  let ok2 := res.tagOk2 && same
  let s := decrypted s 1
  let s := if dInteg d then count s 0x032 else s
  let s := if dInteg d && !ok then tagFailed (tagMissed s) p b ok2 else s
  if dInteg d && !ok && !ok2 then (s, .lost, bytes)
  else if dBlen d b = 16 then (s, .good, bytes)
  else
    let r := fillDecode (countL s 0x024 label) p b (decodeOf res.dec clear) ⟨.fill (4 * p + b) label, bytes⟩
    (r.1, r.2, bytes)

/-- A tag failure at a holder (R244): the fourth within 60 s takes the holder out until event 0x169 is acknowledged. -/
def holderFailed (s : State) (n : Nat) : State :=
  let times := s.clockNs :: (mgetD s.xts.holderFails n []).filter (fun t => decide (s.clockNs ≤ t + 60000000000))
  let s := { s with xts := { s.xts with holderFails := mset s.xts.holderFails n times } }
  if times.length = 4 then
    raiseP { s with xts := { s.xts with
      holdersOut := BitVec.ofNat 12 n :: s.xts.holdersOut
      holderFails := mdel s.xts.holderFails n } } 0x169 0 (.holder (BitVec.ofNat 12 n)) 0
  else s

/-- Does a Remote block's image match its tag, if it has one (R242)? -/
def tagMatches (s : State) (p b : Nat) (img : List Byte) : Bool := !dInteg (servedDesc s p) || imageMatches s p b img

/-- What the check of a Remote block's image calls for: use it, read it again, or give it up (R243). -/
inductive TagVerdict where
  | use
  | again
  | giveUp
deriving DecidableEq, Repr

/-- Check the image of a Remote block that has arrived (R242 to R244). The mismatch of the first read and that of the second each count
towards the holder's four: DESIGN CHOICE (log 133). -/
def remoteTag (s : State) (block : Nat) (img : List Byte) : State × TagVerdict :=
  let p := block / 4
  let b := block % 4
  let second := s.xts.rereads.contains block
  let clear := fun (s : State) => { s with xts := { s.xts with rereads := s.xts.rereads.filter (· != block) } }
  let s := if dInteg (servedDesc s p) then count s 0x032 else s
  if tagMatches s p b img then (if second then tagFailed (clear s) p b true else s, .use)
  else
    let s := holderFailed s (dNode (servedDesc s p))
    if second then (tagFailed (clear s) p b false, .giveUp)
    else (tagMissed { s with xts := { s.xts with rereads := block :: s.xts.rereads } }, .again)

/-- A Remote block's image for the near cache: decrypted and decoded, with its bytes (R198, R231, R659). -/
def remoteBytes (s : State) (p b label : Nat) (img : List Byte) (dec : DecOutcome) : State × BlockRead × List Byte :=
  let d := servedDesc s p
  let n := dBlen d b
  let r := decodeImage (primerOf s (dPrimer d)) n (openImage s (pageDomain s p) (pageHome s p) p b (dKgen d) img)
  let bytes := r.toOption.getD []
  let s := decrypted s 1
  if n = 16 ∨ n = 0 then (s, .good, bytes)
  else
    let v := fillDecode (countL s 0x024 label) p b (decodeOf dec r) ⟨.fill (4 * p + b) label, bytes⟩
    (v.1, v.2, bytes)

/-- Data of a whole block is here: it enters the near cache, and what reads it goes on (R18, R253). A block that is lost is taken
from the buddy or poisoned (R198, R243, R464). -/
def fillDone (s : State) (block label : Nat) (bs : Option (List Byte)) : State :=
  let k := blockKey (myNode s) block
  match bs with
  | some bs => blockThere (insertBlock s block label bs) k
  | none =>
    let r := linesLost s (block / 4) (16 * (block % 4)) 16
    if r.2 then r.1 else blockThere (insertBlock r.1 block label []) k

/-- A block that was read for the near cache goes where its outcome sends it. -/
def fillRead (s : State) (block label : Nat) (o : BlockRead) (bs : List Byte) : State :=
  match o with
  | .good => fillDone s block label (some bs)
  | .lost => fillDone s block label none
  | .later => s

/-- Another lane has decoded a block (R659): it goes where the first decode was to send it. A page that has become Plain since has no
block in the near cache. -/
def laneDecoded (s : State) (j : DJob) : State :=
  match j.use with
  | .fill block label =>
    if servingTier s (block / 4) = tierPlain then
      let k := blockKey (myNode s) block
      blockThere { s with coh := { s.coh with fills := s.coh.fills.filter (· != k) } } k
    else fillDone s block label (some j.bytes)
  | .migrate p b => migDecoded s p b j.bytes

/-- Blocks that go to another decompressor lane are decoded once one is free (R658, R659). -/
def dLanesGo (s : State) : State :=
  if s.cmp.dWait.isEmpty || (freeDLane s none).isNone then s
  else s.cmp.dWait.foldl laneDecoded { s with cmp := { s.cmp with dWait := [] } }

end Sys2Proof.Machine
end

