-- ==== Sys2Proof/Machine/Requester.lean ====
section
/-! DEFINITION. The requester of another owner's lines (08: R253, R264, R266, R272 to R274, R281, R283 to R285, R289). -/

namespace Sys2Proof.Machine

/-- The key of a line of a shared extent at its owner, from this device's line number (R77). -/
def sharedKey (e : Extent) (line : Nat) : Option Nat :=
  e.shared.map (fun r => lineKey r.owner.toNat (r.ownerDpa2m * 32768 + (line - e.dpa2m * 32768)))

/-- This device's line number for a line of another owner, through the shared extent that covers it. -/
def localLine (s : State) (key : Nat) : Nat :=
  let ln := keyLine key
  let hit := fun (e : Nat × Extent) => match e.2.shared with
    | some r => r.owner.toNat == keyOwner key && decide (r.ownerDpa2m * 32768 ≤ ln) && decide (ln < (r.ownerDpa2m + e.2.len2m) * 32768)
    | none => false
  match s.chd.extents.find? hit with
  | some e => (match e.2.shared with
    | some r => e.2.dpa2m * 32768 + (ln - r.ownerDpa2m * 32768)
    | none => ln)
  | none => ln

/-- Is a line of another owner in a Mirrored region, as learnt from the grant (R283)? -/
def sharedMirrored (s : State) (key : Nat) : Bool :=
  match extentTaken s (localLine s key / 32768) with
  | some (_, e) => e.attrs.mirrored
  | none => false

/-- State of a line at the requester (R272). -/
def lineSt (s : State) (key : Nat) : ReqSt := ((nearGet s key).map (·.st)).getD .i
def lineHf (s : State) (key : Nat) : HostCopy := ((nearGet s key).map (·.hf)).getD .i
def lineWhole (s : State) (key : Nat) : Bool := ((nearGet s key).map (·.whole)).getD false

/-- Is a line dirty at the requester: M or O? -/
def dirtySt (st : ReqSt) : Bool := st == .m || st == .o

/-- The owner a key's requests go to: the acting owner after failover (R174, R252). -/
def ownerOf (s : State) (key : Nat) : Nat := aliasOf s (keyOwner key)

/-- Open a requester transaction on a line, or replace the one there. -/
def setReq (s : State) (key : Nat) (stage : ReqStage) (work : List ReqWork) (kept : Option (Line × Bool × Bool)) : State :=
  let t : ReqTx := {
    stage := stage
    work := work
    nacks := 0
    reserved := false
    recovered := false
    tag := 0
    startNs := s.clockNs
    contended := false
    kept := kept }
  { s with coh := { s.coh with reqs := mset s.coh.reqs key t } }

/-- Send a REQ-class request for a line (R357): queue 3 for atomics, 0 for proxy requests (R371). AtomicFar has no reserved flag in its
layout; where a resent one carries it is a DESIGN CHOICE (log 143, nackExpiryBody). -/
def sendReq (s : State) (key op label : Nat) (rest : List (Nat × Nat)) (slots : List (BitVec 128)) (mask : Option (BitVec 64)) : State :=
  let m := mkMsg 0 op (ownerOf s key) label 0 false ((42, keyLine key) :: ((if op = 5 then [] else [(1, 0)]) ++ rest)) slots
  let m := match mask with
    | some k => m.withCont 1 k.toNat
    | none => m
  openTx s (if op = 5 then 3 else 0) m (if op = 5 then .atomicFar key else .line key)

/-- Send Evict or WbDirty for a line (R265, R272), on queue 2; its data is kept until EvictAck. -/
def sendEvict (s : State) (key : Nat) (v : Option (Line × Bool × Bool)) : State :=
  let m := match v with
    | none => mkMsg 3 1 (ownerOf s key) 15 0 false [(42, keyLine key)] []
    | some (d, p, h) => mkMsg 3 2 (ownerOf s key) 15 0 false [(42, keyLine key), (1, b2n p), (1, b2n h)] (lineSlots d)
  openTx s 2 m (.writeback key)

/-- Is the eviction buffer full (R273)? -/
def evictFull (s : State) : Bool := decide (1024 ≤ (s.coh.reqs.filter (fun r => r.2.stage == .evicting)).length)

/-- A line leaves the near cache with Evict, or WbDirty with the host's data or its own (R272); it is evicting until EvictAck. While
the eviction buffer is full it waits (R273), and what the host wrote back is kept in the line. -/
def evictLine (s : State) (key : Nat) (work : List ReqWork) (wb : Option (Line × Bool)) : State :=
  let l := nearGet s key
  let v : Option (Line × Bool × Bool) := match wb with
    | some v => some (v.1, v.2, true)
    | none => l.bind (fun x => if dirtySt x.st then some (x.data, x.poison, false) else if x.hostDirty then some (x.data, x.poison, true) else none)
  if evictFull s then
    let s := match wb, l with
      | some v, some l => nearPut s key 15 { l with data := v.1, poison := v.2, hostDirty := true }
      | _, _ => s
    setReq s key .waiting work none
  else sendEvict (nearDrop (setReq s key .evicting work v) key) key v

/-- Back-invalidate this device's own host for a line, for a reason (R272); at most one is outstanding per line. -/
def hostInvFor (s : State) (key : Nat) (why : HostWhy) : State :=
  match mget s.coh.hostSnoops key with
  | some h => { s with coh := { s.coh with hostSnoops := mset s.coh.hostSnoops key { h with why := h.why ++ [why] } } }
  | none => sendBi { s with coh := { s.coh with hostSnoops := mset s.coh.hostSnoops key ⟨s.clockNs, [why]⟩ } } (localLine s key) .inv

/-- A line is evicted: its host copy is back-invalidated first (R253, R272). -/
def evictFirst (s : State) (key : Nat) (work : List ReqWork) : State :=
  if lineHf s key = .i then evictLine s key work none else hostInvFor (setReq s key .hostInv work none) key .evict

/-- The predictor's counter of a line and its change (R284). -/
def predIndex (key : Nat) : Nat := (mix64 (BitVec.ofNat 64 key)).toNat % 4096
def predAt (s : State) (key : Nat) : BitVec 2 := mgetD s.coh.pred (predIndex key) 1
def predMove (s : State) (key : Nat) (up : Bool) : State :=
  let c := predAt s key
  let c' := if up then (if c = 3 then 3 else c + 1) else (if c = 0 then 0 else c - 1)
  { s with coh := { s.coh with pred := mset s.coh.pred (predIndex key) c' } }

/-- Is an atomic on a line executed near (R283)? -/
def chooseNear (s : State) (key : Nat) : Bool :=
  let st := lineSt s key
  if s.coh.atomicMode = 1 then false
  else if sharedMirrored s key then false
  else if st == .e || st == .m then true
  else if s.coh.atomicMode = 2 then true
  else !(2 ≤ (predAt s key).toNat)

/-- A near atomic on a line held in E or M (R285, R466): the line becomes M; a poisoned line is unchanged. -/
def nearAtomic (s : State) (key : Nat) (src : CmdSrc) (label : Nat) (op : BitVec 8) (size : BitVec 3) (offset : BitVec 6)
    (operands : BitVec 256) (raddr : BitVec 64) : State :=
  match nearGet s key with
  | none => s
  | some l =>
    let s := countL { s with coh := { s.coh with nearCount := s.coh.nearCount + 1 } } 0x044 label
    if l.poison then atomicEnds s src size raddr (0, true)
    else
      let r := atomicApply l.data op.toNat size.toNat offset.toNat operands.toNat
      atomicEnds (nearPut s key label { l with data := r.2, dirty := true, st := .m, atomic := true }) src size raddr (r.1, false)

/-- Bytes of operands of an atomic, in slots (R357, R495). -/
def operandSlots (op : BitVec 8) (size : BitVec 3) : Nat := if op = 6 ∧ size = 4 then 2 else 1

/-- Send AtomicFar with the next sequence towards the owner and its floor (R177, R285). The line's offset within its 64 B stands
in slot 1, word 1 (DESIGN CHOICE: assumption 18). -/
def farAtomic (s : State) (key : Nat) (work : List ReqWork) (label : Nat) (op : BitVec 8) (size : BitVec 3) (offset : BitVec 6)
    (operands : BitVec 256) : State :=
  let o := keyOwner key
  let seq := mgetD s.chd.atomicNext o 0
  let seqOf := fun (m : Msg) => BitVec.ofNat 32 (m.slots.getD 0 0).toNat
  let out := (s.e2e.txs.filter (fun t => match t.2.purpose with
    | .atomicFar k => keyOwner k == o
    | _ => false)).map (fun t => seqOf t.2.msg)
  let floor := (bestOf (fun (a b : BitVec 32) => decide ((seq - b).toNat < (seq - a).toNat)) out).getD seq
  let s := { s with chd := { s.chd with atomicNext := mset s.chd.atomicNext o (seq + 1) } }
  let s := countL { s with coh := { s.coh with farCount := s.coh.farCount + 1 } } 0x045 label
  let s := setReq (nearDrop s key) key .farAtomic work none
  let head := BitVec.ofNat 128 (packF [(32, seq.toNat), (32, floor.toNat), (6, offset.toNat)])
  let ops := (List.range (operandSlots op size)).map (fun i => (operands >>> (128 * i)).setWidth 128)
  sendReq s key 5 label [(8, op.toNat), (3, size.toNat)] (head :: ops) none

/-- The keep field a host write asks for (R272). -/
def keepOf : MetaVal → Nat
  | .invalid => 0
  | .shared => 1
  | .any => 2

/-- Serve the first request that waits on a line (R272, R283): from the near cache, or by a transaction towards the owner; where that
needs a block in a full near cache it waits (R253, R274). A line of which only the host's bytes are known is given up before it is
read (log 144). Before a near or far atomic this device's own host gives the line up, with the reason atomic: DESIGN CHOICE
(log 142). -/
def reqServe (s : State) (key : Nat) (work : List ReqWork) : State :=
  let st := lineSt s key
  match work with
  | [] => { s with coh := { s.coh with reqs := mdel s.coh.reqs key } }
  | .read mv _ label :: _ =>
    if lineWhole s key && (mv != .any || st == .e || st == .m) then
      pushNear (countL (setReq s key .reading work none) 0x014 label) .host label (queueLabel label false s.qos.nonConf) (.nearRead key) key
    else if st = .o ∨ (st ≠ .i ∧ !lineWhole s key) then evictFirst s key work
    else if !nearRoom s (keyBlock key) then
      if mv = .invalid then sendReq (setReq s key .rdCur work none) key 3 label [] [] none else setReq s key .waiting work none
    else if mv = .any then sendReq (setReq s key .rdOwn work none) key 2 label [] [] none
    else sendReq (countL (setReq s key .rdShared work none) 0x015 label) key 1 label [] [] none
  | .write mv _ label data mask poison :: _ =>
    if dirtySt st then evictFirst s key work
    else if mv ≠ .invalid ∧ !nearRoom s (keyBlock key) then setReq s key .waiting work none
    else
      let base := (nearGet s key).bind (fun l => if l.whole then some (l.data, l.poison, false) else none)
      let part := mask != BitVec.allOnes 64
      let s := nearDrop (setReq s key .wrLine work base) key
      sendReq s key 4 label [(2, keepOf mv), (1, b2n poison), (1, b2n part)] (lineSlots data) (if part then some mask else none)
  | .atomic src label op size offset operands raddr :: rest =>
    if chooseNear s key then
      if st == .e || st == .m then
        if lineHf s key = .i then
          let s := nearAtomic (predMove s key false) key src label op size offset operands raddr
          setReq s key .reading rest none
        else hostInvFor (setReq s key .hostInv work none) key .atomic
      else if st = .o then evictFirst s key work
      else if !nearRoom s (keyBlock key) then setReq s key .waiting work none
      else sendReq (setReq s key .rdOwn work none) key 2 label [] [] none
    else if dirtySt st then evictFirst s key work
    else if lineHf s key = .i then farAtomic s key work label op size offset operands
    else hostInvFor (setReq s key .hostInv work none) key .atomic

/-- Go through the requests of a line until one must wait: a near atomic that has ended makes room for the next. -/
def reqRun : Nat → State → Nat → List ReqWork → State
  | 0, s, _, _ => s
  | fuel + 1, s, key, work =>
    let s' := reqServe s key work
    match mget s'.coh.reqs key, work with
    | some t, .atomic _ _ _ _ _ _ _ :: rest => if t.stage = .reading then reqRun fuel s' key rest else s'
    | _, _ => s'

/-- Go on with what waits on a line. -/
def reqNext (s : State) (key : Nat) (work : List ReqWork) : State := reqRun (work.length + 1) s key work

/-- A request of this device's host, or of a command, for another owner's line: it waits behind the line's outstanding
transaction (R273). False where the 8,192 transactions are out. -/
def reqSubmit (s : State) (key : Nat) (w : ReqWork) : State × Bool :=
  match mget s.coh.reqs key with
  | some t => ({ s with coh := { s.coh with reqs := mset s.coh.reqs key { t with work := t.work ++ [w] } } }, true)
  | none => if 8192 ≤ s.coh.reqs.length then (s, false) else (reqNext s key [w], true)

/-- Acknowledge a grant (R264): Cmp with the request's tag, to its owner. -/
def sendAck (s : State) (owner : Nat) (tag : Tag) (label : Nat) : State := sendMsg s (mkMsg 2 3 owner label tag false [] [])

/-- The host copy a request leaves, at least the MetaValue (R272). -/
def hfMax (h : HostCopy) (mv : MetaVal) : HostCopy :=
  match mv, h with
  | .any, _ => .a
  | .shared, .i => .s
  | _, h => h

/-- The first request of a line has the line's value: answer the host, or execute the near atomic (R272, R284, R285). -/
def reqValue (s : State) (key : Nat) (t : ReqTx) (v : Line × Bool) (contended : Bool) : State :=
  match t.work with
  | .read mv req label :: rest =>
    let s := match nearGet s key with
      | some l => if req.isSome then nearPut s key label { l with hf := hfMax l.hf mv } else s
      | none => s
    reqNext (hostAnswer s req label v) key rest
  | .atomic src label op size offset operands raddr :: rest =>
    if lineSt s key == .e || lineSt s key == .m then
      reqNext (nearAtomic (predMove s key contended) key src label op size offset operands raddr) key rest
    else reqNext s key t.work
  | w => reqNext s key w

/-- A read of the near cache for a requester's line has come back. -/
def reqNearRead (s : State) (key : Nat) : State :=
  match mget s.coh.reqs key, nearGet s key with
  | some t, some l => if t.stage = .reading then reqValue s key t (l.data, l.poison) false else s
  | some t, none => if t.stage = .reading then reqNext s key t.work else s
  | none, _ => s

/-- A grant of a line arrives (R263, R264, R272): installed, unless a recovery snoop took it back, and acknowledged. -/
def reqGranted (s : State) (key : Nat) (tag : Tag) (src : Nat) (owned : Bool) (v : Line × Bool) (contended : Bool) : State :=
  match mget s.coh.reqs key with
  | none => s
  | some t =>
    let label := match t.work with
      | .read _ _ l :: _ => l
      | .atomic _ l _ _ _ _ _ :: _ => l
      | _ => 15
    if t.stage = .rdCur then reqValue s key t v contended
    else
      let hf := lineHf s key
      let st : ReqSt := if owned then .e else .s
      let s := if t.recovered then s else nearPut s key label ⟨v.1, v.2, false, st, hf, false, false, true⟩
      reqValue (sendAck s src tag label) key t v contended

/-- The Cmp of a WrLine (R272): the line is held in the state it asked for, the host write completes, a grant is acknowledged. -/
def reqWritten (s : State) (key : Nat) (tag : Tag) (src : Nat) (status : Nat) : State :=
  match mget s.coh.reqs key with
  | none => s
  | some t =>
    match t.work with
    | .write mv req label data mask poison :: rest =>
      let s := if mv = .invalid ∨ status = 2 ∨ t.recovered then s
        else
          let whole := mask == BitVec.allOnes 64 || t.kept.isSome
          let base := match t.kept with
            | some (d, p, _) => (d, p)
            | none => ((0 : Line), false)
          let v := mergeWrite base data mask poison
          nearPut s key label ⟨v.1, v.2, false, if mv = .any then .e else .s, hostHeld req mv, false, false, whole⟩
      let s := if mv = .invalid ∨ status = 2 then s else sendAck s src tag label
      reqNext (hostWritten s req label) key rest
    | w => reqNext s key w

/-- A request is answered DENIED (R254): the read returns poison, the write is discarded. -/
def reqDenied (s : State) (key : Nat) : State :=
  match mget s.coh.reqs key with
  | none => s
  | some t =>
    match t.work with
    | .read _ req label :: rest => reqNext (hostAnswer s req label (0, true)) key rest
    | .write _ req label _ _ _ :: rest => reqNext (hostWritten s req label) key rest
    | .atomic src _ _ _ _ _ _ :: rest => reqNext (completeCmd s src stDenied 0) key rest
    | [] => reqNext s key []

/-- The result of a far atomic (R284, R285). -/
def reqAtomic (s : State) (key : Nat) (r : BitVec 128 × Bool) (contended : Bool) : State :=
  match mget s.coh.reqs key with
  | none => s
  | some t =>
    match t.work with
    | .atomic src _ _ size _ _ raddr :: rest => reqNext (atomicEnds (predMove s key contended) src size raddr r) key rest
    | w => reqNext s key w

/-- EvictAck: the line is I and what waits on it goes on (R272, R276). -/
def reqEvicted (s : State) (key : Nat) : State :=
  match mget s.coh.reqs key with
  | some t => if t.stage = .evicting then reqNext s key t.work else s
  | none => s

/-- Keep dirty snoop data until the owner's Cmp, and send it (R266). -/
def snoopData (s : State) (tag : Tag) (key : Nat) (v : Line × Bool) (dirty hostDirty : Bool) : State :=
  let e : SentDirty := ⟨tag, key, v.1, v.2⟩
  let s := { s with coh := { s.coh with sentDirty := s.coh.sentDirty.filter (fun x => x.tag.toNat / 4 != tag.toNat / 4) ++ [e] } }
  respondData s 1 tag 15 v.2 false dirty hostDirty false 0 0 v.1

/-- Answer a snoop of a line, its host copy being gone where it had to go; `wb` is what the host wrote back (R272, R284). -/
def snoopAct (s : State) (key : Nat) (op : Nat) (tag : Tag) (wb : Option (Line × Bool)) : State :=
  match nearGet s key with
  | none => respondCmp s tag 15 0 false 0
  | some l =>
    let dirty := dirtySt l.st
    let wb := if wb.isNone && l.hostDirty then some (l.data, l.poison) else wb
    let v : Line × Bool := wb.getD (l.data, l.poison)
    let s := if l.st == .m && l.atomic && op != snpCurOp then predMove s key true else s
    if op = snpInvOp then
      let s := nearDrop s key
      if dirty || wb.isSome then snoopData s tag key v dirty wb.isSome else respondCmp s tag 15 0 false 0
    else
      let st : ReqSt := if op = snpDataOp then (if dirty then .o else .s) else l.st
      let s := nearPut s key 15 { l with st := st, data := v.1, poison := v.2, hostDirty := false, atomic := l.atomic && op == snpCurOp }
      if wb.isSome then snoopData s tag key v dirty true
      else if dirty then respondData s 1 tag 15 v.2 false true false false 0 0 v.1
      else respondCmp s tag 15 0 false 0

/-- Must the host copy go before a snoop of a line is answered (R272)? -/
def snoopNeedsHost (st : ReqSt) (hf : HostCopy) (op : Nat) : Bool :=
  if op = snpInvOp then hf != .i
  else if op = snpDataOp then hf == .a
  else hf == .a && !dirtySt st

/-- The key of a line that an owner, or the acting owner of another, snoops (R174). -/
def snoopKey (s : State) (src line : Nat) : Nat :=
  let own := lineKey src line
  if mhas s.coh.reqs own || (nearGet s own).isSome then own
  else match s.fab.aliases.find? (fun a => a.2.1.toNat == src && (mhas s.coh.reqs (lineKey a.1 line) ||
      (nearGet s (lineKey a.1 line)).isSome)) with
    | some a => lineKey a.1 line
    | none => own

/-- Is a line evicting: its data is in the eviction buffer (R272)? -/
def lineEvicting (s : State) (key : Nat) : Bool := match mget s.coh.reqs key with
  | some t => t.stage == ReqStage.evicting
  | none => false

/-- A snoop of one line arrives (R264, R272, R276). -/
def snoopLine (s : State) (key : Nat) (op : Nat) (tag grant : Tag) : State :=
  match s.coh.sentDirty.find? (fun x => x.tag.toNat / 4 == tag.toNat / 4) with
  | some x => respondData s 1 tag 15 x.poison false true false false 0 0 x.data
  | none =>
    let open_ := (txFor s grant).isSome && decide (grant ≠ 0)
    if open_ then
      let s := { s with coh := { s.coh with reqs := mmod s.coh.reqs key (fun t => { t with recovered := true }) } }
      if lineHf s key = .i then respondCmp (nearDrop s key) tag 15 0 false 0 else hostInvFor s key (.snoop op tag)
    else
      if lineEvicting s key then respondLine s 5 tag (keyLine key)
      else if snoopNeedsHost (lineSt s key) (lineHf s key) op then hostInvFor s key (.snoop op tag)
      else snoopAct s key op tag none

/-- A line is given up to a scope snoop (R291): dirty data goes with WbDirty, clean lines are dropped. -/
def giveUp' (s : State) (key : Nat) (wb : Option (Line × Bool)) : State :=
  let work := ((mget s.coh.reqs key).map (·.work)).getD []
  if dirtySt (lineSt s key) || wb.isSome then evictLine s key work wb else nearDrop s key

/-- Answer scope snoops whose lines are all given up (R291). -/
def scopeCheck (s : State) : State :=
  let owed := s.coh.scopeOwed.map (fun x => (x.1, x.2.filter (fun k => (nearGet s k).isSome)))
  let s := { s with coh := { s.coh with scopeOwed := owed } }
  let done := s.coh.scopeOwed.filter (fun x => x.2.isEmpty)
  let s := { s with coh := { s.coh with scopeOwed := s.coh.scopeOwed.filter (fun x => !x.2.isEmpty) } }
  done.foldl (fun s x => respondCmp s x.1 15 0 false 0) s

/-- A scope snoop (R268, R291, R292): every near-cache line of the owner whose set lies on the stack, or is the set of the line,
is given up, its host copies back-invalidated first. -/
def snoopScope (s : State) (src line : Nat) (scope : Scope) (tag : Tag) : State :=
  let inScope := fun (key : Nat) => match scope with
    | .stack => dirSetOf (keyLine key) % 4 == line % 4
    | .set => dirSetOf (keyLine key) == dirSetOf line
    | .line => keyLine key == line
  let keys := ((s.coh.near.filter (fun b => blockOwner b.1 == src)).map (fun b =>
    (mkeys b.2.lines).map (fun i => lineKey src (16 * blockNo b.1 + i)))).flatten
  let keys := keys.filter inScope
  let waits := keys.filter (fun k => lineHf s k != .i)
  let s := { s with coh := { s.coh with scopeOwed := s.coh.scopeOwed ++ [(tag, keys)] } }
  let s := (keys.filter (fun k => lineHf s k == .i)).foldl (fun s k => giveUp' s k none) s
  scopeCheck (waits.foldl (fun s k => hostInvFor s k (.scope tag)) s)

/-- What a host answer sets going for one reason. -/
def hostWhyDone (s : State) (key : Nat) (why : HostWhy) (wb : Option (Line × Bool)) : State :=
  match why with
  | .snoop op tag => if lineEvicting s key then respondLine s 5 tag (keyLine key) else snoopAct s key op tag wb
  | .scope _ => scopeCheck (if (nearGet s key).isSome then giveUp' s key wb else s)
  | .evict =>
    let work := ((mget s.coh.reqs key).map (·.work)).getD []
    if (nearGet s key).isSome then evictLine s key work wb else reqNext s key work
  | .atomic =>
    let work := ((mget s.coh.reqs key).map (·.work)).getD []
    if wb.isSome then evictLine s key work wb else reqNext s key work

/-- This device's host has answered a back-invalidate of a requester's line, or its time has run out (R271, R272). -/
def hostInvDone (s : State) (key : Nat) (wb : Option (Line × Bool)) : State :=
  match mget s.coh.hostSnoops key with
  | none => s
  | some h =>
    let s := { s with coh := { s.coh with hostSnoops := mdel s.coh.hostSnoops key } }
    let s := match nearGet s key with
      | some l => nearPut s key 15 { l with hf := .i }
      | none => s
    let first := h.why.take 1
    let s := first.foldl (fun s w => hostWhyDone s key w wb) s
    (h.why.drop 1).foldl (fun s w => hostWhyDone s key w none) s

/-- NEAR_CACHE_EVICTION of a block of another owner (R253, R272, R273): each line without an outstanding transaction is evicted. -/
def evictOther (s : State) (owner block : Nat) : State :=
  match mget s.coh.near (blockKey owner block) with
  | none => s
  | some b =>
    (mkeys b.lines).foldl (fun s i =>
      let key := lineKey owner (16 * block + i)
      if mhas s.coh.reqs key || mhas s.coh.hostSnoops key then s else evictFirst s key []) s

/-- NEAR_CACHE_EVICTION: a block of the near cache is evicted (R18, R253). -/
def nearEviction (s : State) (owner block : Nat) : State :=
  if owner = myNode s then evictOwn s block else evictOther s owner block

/-- A line that waits for room tries again: an eviction, or one that a scope snoop asks for, before what waits on it. -/
def reqRetry (s : State) (key : Nat) : State :=
  match mget s.coh.reqs key with
  | none => s
  | some t =>
    if t.stage ≠ .waiting then s
    else if t.work.isEmpty || s.coh.scopeOwed.any (fun x => x.2.contains key) then
      if (nearGet s key).isSome then evictFirst s key t.work else reqNext s key t.work
    else reqNext s key t.work

/-- What waits at the requester goes on (R273, R291). -/
def reqPass (s : State) : State := scopeCheck ((mkeys s.coh.reqs).foldl reqRetry s)

/-- Snoop data that a restarted owner has not committed is sent again as WbDirty (R266). -/
def resendDirty (s : State) (owner : Nat) : State :=
  let mine := fun (x : SentDirty) => ownerOf s x.key == owner
  let xs := s.coh.sentDirty.filter mine
  xs.foldl (fun s x =>
    let v := some (x.data, x.poison, false)
    sendEvict (if mhas s.coh.reqs x.key then s else setReq s x.key .evicting [] v) x.key v)
    { s with coh := { s.coh with sentDirty := s.coh.sentDirty.filter (fun x => !mine x) } }

/-- The owner's Cmp of snoop data: the kept copy is released (R266). -/
def snoopDataAcked (s : State) (tag : Tag) : State :=
  { s with coh := { s.coh with sentDirty := s.coh.sentDirty.filter (fun x => x.tag.toNat / 4 != tag.toNat / 4) } }

end Sys2Proof.Machine
end

