-- ==== Sys2Proof/Machine/Mirror.lean ====
section
/-! DEFINITION. The mirror at both ends (05: R167 to R176; 10: R664): what a buddy keeps and answers, the owner's mirror states,
resync and resilver, and failover to the buddy and back. -/

namespace Sys2Proof.Machine

/-- What this device keeps of an owner as its buddy. -/
def BuddyOf.zero : BuddyOf := ⟨[], 0, [], 0, true, 1, 0⟩
def buddyOf (s : State) (o : Nat) : BuddyOf := mgetD s.chd.buddyOf o BuddyOf.zero
def setBuddyOf (s : State) (o : Nat) (b : BuddyOf) : State := { s with chd := { s.chd with buddyOf := mset s.chd.buddyOf o b } }

/-- Sequences that follow the applied ones without a gap join them. -/
def joinSeqs : Nat → Nat → List Nat → Nat × List Nat
  | 0, a, l => (a, l)
  | n + 1, a, l => if l.contains (a + 1) then joinSeqs n (a + 1) (l.erase (a + 1)) else (a, l)

/-- Note a mirror sequence as applied (R168). -/
def BuddyOf.apply (b : BuddyOf) (q : Nat) : BuddyOf :=
  let r := joinSeqs (b.ahead.length + 1) b.applied (q :: b.ahead)
  { b with applied := r.1, ahead := r.2 }

/-- The line number at its owner of a line of a copy (R160, R174). -/
def copyLine (owner ext pg line : Nat) : Nat := Config.extentBase owner ext * 32768 + pg * 64 + line

/-- A MirrorWrite takes effect: the line is committed, and a change of the buddy-side descriptor made durable (R168). -/
def mirrorApply (s : State) (owner : Nat) (b : MirrorBody) : State :=
  let s := writeCopyLine s (copyKey owner b.extent.toNat b.page.toNat) b.line.toNat (if b.poison then 0 else b.data, b.poison)
  setBuddyOf s owner ((buddyOf s owner).apply b.seq.toNat)

/-- The buddy's entry for the origin request of a MirrorWrite (R173). -/
def mirrorEntry (s : State) (owner : Nat) (t : Tag) (b : MirrorBody) : State :=
  crtPut s (crtKey t) {
    inc := tagInc t
    kind := b.kind
    fromReissue := b.fromReissue
    status := b.status.setWidth 8
    servedUs := s.e2e.servedUs
    line := BitVec.ofNat 64 (copyLine owner b.extent.toNat b.page.toNat b.line.toNat)
    seq := b.atomicSeq
    mseq := b.seq.setWidth 32
    mirroredFor := some (BitVec.ofNat 12 owner)
    owner := BitVec.ofNat 12 owner
    result := (b.result.getD 0).setWidth 256 }

/-- Does one mirror sequence precede another in serial-number order modulo 2^32 (R173)? -/
def seqBefore (a b : BitVec 32) : Bool := decide (a ≠ b) && decide ((b - a).toNat < 2 ^ 31)

/-- Drop the mirrored entries of an owner that precede its retire floor (R173). -/
def retireEntries (s : State) (owner : Nat) (floor : BitVec 32) : State :=
  let s := setBuddyOf s owner { buddyOf s owner with floor := floor }
  { s with e2e := { s.e2e with crt := mfilter s.e2e.crt (fun _ c =>
    !(c.mirroredFor == some (BitVec.ofNat 12 owner) && seqBefore c.mseq floor)) } }

/-- Answer of a buddy with Cmp (R664). -/
def buddyCmp (s : State) (h : ReqHdr) (status : Nat) : State := respondCmp s h.tag h.label.toNat status false 0

/-- An envelope is stored (R520, R521): copies under a generation that it makes old are rewrapped (R239). -/
def keysStored (s : State) (o : Nat) : State :=
  let s := setBuddyOf s o { buddyOf s o with keysStored := (buddyOf s o).keysStored + 1 }
  ((mkeys s.chd.copies).filter (fun k => copyOwner k == o)).foldl rewrapCopy s

/-- A fragment of an envelope at the buddy (R521): a MirrorWrite with sequence 0. Fragment 0 begins with the fragment count, taken as
two bytes. The last one to come is answered once the secure world has verified and stored the content. -/
def envelopeAt (s : State) (h : ReqHdr) (b : MirrorBody) : State :=
  let o := tagSource h.tag
  let old := mget s.sec.envelopes o
  let n := b.extent.toNat
  let e : Envelope := match old with
    | some e => if e.number = n then e else ⟨n, [], false⟩
    | none => ⟨n, [], false⟩
  if e.stored then buddyCmp s h 0
  else
    let frags := mset e.fragments b.page.toNat b.data
    let cnt := max 1 ((mgetD frags 0 0).toNat % 65536)
    let whole := mhas frags 0 && (List.range cnt).all (fun i => mhas frags i)
    let put := fun (x : Envelope) => { s with sec := { s.sec with envelopes := mset s.sec.envelopes o x } }
    if !whole then buddyCmp (put ⟨n, frags, false⟩) h 0
    else if Config.envelopeVerifies o (mvals frags) then keysStored (buddyCmp (put ⟨n, frags, true⟩) h 0) o
    else buddyCmp (raise (put ⟨n, [], false⟩) 0x2EA 0) h 3

/-- The status with which a buddy answers a MirrorWrite: DENIED reports that it has lost part of the owner's store (R172). The manual
names no carrier of that report: DESIGN CHOICE (log 134). -/
def storeStatus (s : State) (o : Nat) : Nat := if (buddyOf s o).storeIntact then 0 else 2

/-- MirrorWrite at the buddy (R167, R168, R173): applied once, a repeat answered with Cmp. A buddy that acts for the owner takes
none (R174). -/
def mirrorWriteAt (s : State) (h : ReqHdr) (b : MirrorBody) : State :=
  let o := tagSource h.tag
  if b.seq = 0 then envelopeAt s h b
  else if mhas s.chd.acting o then s
  else
    let r := buddyOf s o
    let q := b.seq.toNat
    if q ≤ r.applied || r.ahead.contains q then buddyCmp s h (storeStatus s o)
    else
      match b.origin with
      | some t =>
        if crtFull s t then respondNack (noteCrtFull s) h.tag h.label.toNat 1 s.coh.pendingHint.toNat
        else buddyCmp (retireEntries (mirrorEntry (mirrorApply s o b) o t b) o b.floor) h (storeStatus s o)
      | none => buddyCmp (retireEntries (mirrorApply s o b) o b.floor) h (storeStatus s o)

/-- Has this device room to reserve metadata for copies (R97 step 4, R102, R170)? -/
def copyRoom (s : State) (units : Nat) : Bool := decide (copyMeta units ≤ framesF s * 4096)

/-- MirrorCtl RESERVE and UNRESERVE at the buddy (R97, R664); a length of 0 is INVALID (R29). -/
def mirrorReserve (s : State) (h : ReqHdr) (ext len : Nat) : State :=
  let o := tagSource h.tag
  let b := buddyOf s o
  if len = 0 then buddyCmp s h 4
  else if mhas b.reserved ext then buddyCmp s h 0
  else if copyRoom s len then buddyCmp (reserveChanged (setBuddyOf s o { b with reserved := mset b.reserved ext len })) h 0
  else buddyCmp s h 2
def mirrorUnreserve (s : State) (h : ReqHdr) (ext : Nat) : State :=
  let o := tagSource h.tag
  let b := buddyOf s o
  buddyCmp (reserveChanged (setBuddyOf s o { b with reserved := mdel b.reserved ext })) h 0

/-- Do pages from `pg` pass the end of an extent that an owner has reserved here (R31)? -/
def copyPast (s : State) (o ext pg cnt : Nat) : Bool :=
  match mget (buddyOf s o).reserved ext with
  | some u => decide (512 * u < pg + cnt)
  | none => false

/-- MirrorCtl FREE at the buddy: the copies of a run of pages are freed (R76, R99, R664); a count of 0 is INVALID, a run past the
extent's end is refused (R29, R31). -/
def mirrorFreeAt (s : State) (h : ReqHdr) (ext pg cnt : Nat) : State :=
  let o := tagSource h.tag
  if cnt = 0 then buddyCmp s h 4
  else if copyPast s o ext pg cnt || decide (2 ^ 28 < pg + cnt) then buddyCmp s h 3
  else
    let gone := (mkeys s.chd.copies).filter (fun k => decide (copyKey o ext pg ≤ k) && decide (k < copyKey o ext pg + cnt))
    buddyCmp (reserveChanged (gone.foldl dropCopy s)) h 0

/-- MirrorCtl READ at the buddy: one Data per line (R664). A count of 0 or above 16 is answered INVALID, lines past the page's end or
the extent's with LENGTH_RANGE (R29, R31). -/
def mirrorReadAt (s : State) (h : ReqHdr) (ext pg first cnt : Nat) : State :=
  if cnt = 0 ∨ 16 < cnt then buddyCmp s h 4
  else if decide (64 < first + cnt) || copyPast s (tagSource h.tag) ext pg 1 then buddyCmp s h 3
  else
    let k := copyKey (tagSource h.tag) ext pg
    (List.range cnt).foldl (fun s i =>
      let v := readCopyLine s k (first + i)
      respondData s 1 h.tag h.label.toNat v.2 false false false true 0 (first + i) v.1) s

/-- The slot of this device that holds a primer with a fingerprint (R208, R210). -/
def slotOfPrint (s : State) (f : BitVec 64) : Option Nat :=
  (mkeys s.img.active.primers).find? (fun n => decide (slotFingerprint s n = f))

/-- Pods of a stored form by its BLEN field. -/
def blensPods (bl : Nat) : Nat := ((List.range 4).map (fun b => bl / 32 ^ b % 32)).sum

/-- A page that has come whole is committed (R168, R170). A stored form is kept as it is, in pods of this device (R210, R231); raw
lines are packed by this device, and until then lie in the near cache. None where no pods are free: the page is then not committed,
and its last MirrorPod not answered. -/
def copyCommit (s : State) (k : Nat) (x : CopyIn) : Option State :=
  let c := copyOf s k
  let old := c.desc
  let put := fun (s : State) (d : Desc) (images : NMap (List Byte)) (lines : NMap Line) =>
    let s := setCopyDesc s k (dSet d 33 18 (dVers old + 1))
    let c := copyOf s k
    let s := setCopy s k { c with
      images := images, lines := lines, poison := 0, tags := copyTags k c.desc images, coming := none
      packing := if x.raw then c.packing else none }
    reserveChanged (freeCopyStore s old)
  if x.raw then
    some (packCopy (put s (dSet x.desc 127 125 tierPacked) [] ((List.range 64).map (fun i => (i, mgetD x.pods i 0)))) k)
  else
    (allocPodsFor s .buddyArena (fun _ => true) x.expect).map (fun r =>
      let d := dSet (dSet x.desc 127 125 tierPacked) 83 46 r.1
      let images : NMap (List Byte) := (List.range 4).map (fun b =>
        (b, ((List.range (dBlen d b)).map (fun i => lineBytes (mgetD x.pods (((List.range b).map (dBlen d)).sum + i) 0))).flatten))
      put (podsWritten r.2 14 x.expect) d images [])

/-- What is coming of a page, if it is whole, is committed, with the answer to what completed it (R664). -/
def copyArrives (s : State) (h : ReqHdr) (k : Nat) (x : CopyIn) : State :=
  let s := modCopy s k (fun c => { c with coming := some x })
  if x.pods.length < x.expect then buddyCmp s h 0
  else match copyCommit s k x with
    | some s => buddyCmp s h 0
    | none => s

/-- MirrorCtl PAGE at the buddy (R210, R664): it takes the form, or has no slot with the fingerprint. With the first page of a resilver
the store counts as whole again (R172). -/
def mirrorPageAt (s : State) (h : ReqHdr) (ext pg blens : Nat) (kgen integ raw : Bool) (f : BitVec 64) : State :=
  let o := tagSource h.tag
  let k := copyKey o ext pg
  let named := (List.range 4).any (fun b => decide (1 ≤ blens / 32 ^ b % 32) && decide (blens / 32 ^ b % 32 ≤ 15))
  let slot := if raw || !named then some 0 else slotOfPrint s f
  if copyPast s o ext pg 1 then buddyCmp s h 3
  else match slot with
    | none => buddyCmp s h 2
    | some n =>
      let d := mkDesc tierNone kgen n true integ false false (if raw then 0 else blens) 0 (myNode s) 0
      let s := setBuddyOf s o { buddyOf s o with storeIntact := true }
      let s := if mhas s.chd.copies k then s else setCopy s k Copy.zero
      copyArrives s h k ⟨d, raw, [], if raw then 64 else blensPods blens⟩

/-- MirrorPod at the buddy (R664): gathered; the last one of a page is answered once the page is committed. -/
def mirrorPodAt (s : State) (h : ReqHdr) (ext pg index : Nat) (v : Line) : State :=
  let k := copyKey (tagSource h.tag) ext pg
  match (copyOf s k).coming with
  | none => buddyCmp s h 0
  | some x => if x.expect ≤ index then buddyCmp s h 3 else copyArrives s h k { x with pods := mset x.pods index v }

/-- The owner's mirror state changes, with its MIRROR_MARK record (R160, R171). -/
def mirrorTo (s : State) (st : MirrorSt) : State :=
  let code := match st with
    | .none => 0
    | .mirrored => 1
    | .holding => 2
    | .exposed => 3
    | .resync => 4
  let s := { s with chd := { s.chd with mirror := st } }
  jwrite s 0 (plainRec recMirrorMark (s.chd.ackedSeq.setWidth 128) (BitVec.ofNat 128 code))

/-- A MirrorWrite had no answer within one end-to-end timeout: HOLDING (R171). -/
def mirrorLate (s : State) : State := if s.chd.mirror == .mirrored then mirrorTo s .holding else s

/-- The fragments of this device's next envelope go out to its buddy (R521); fragment 0 begins with their count, in two bytes. -/
def sendEnvelope (s : State) : State :=
  match myBuddy s with
  | none => s
  | some b =>
    let n := s.sec.nextEnvelope
    let bytes := Config.envelopeBytes n
    let cnt := ceilDiv (bytes.length + 2) 64
    let frags := chunks 64 cnt (natLe 2 cnt ++ bytes)
    let s := { s with sec := { s.sec with nextEnvelope := n + 1, envelopeOut := s.sec.envelopeOut ++ List.range frags.length } }
    (List.range frags.length).foldl (fun s i =>
      let k := packF [(16, n % 65536), (28, i)]
      let m := (mkMsg 4 4 b 14 0 false [(1, 0), (1, 0), (1, 0)] (lineSlots (bytesLine (frags.getD i [])))).withCont 2 k
      openTx s 5 m (.envelope n i)) s

/-- The buddy answered a fragment (R520, R521): with the last one it has confirmed the pairing; a refusal raises event 0x2EA. -/
def envelopeAnswered (s : State) (i status : Nat) : State :=
  if status = 3 then raise { s with sec := { s.sec with pairing := .refused, envelopeOut := [] } } 0x2EA 0
  else
    let left := s.sec.envelopeOut.erase i
    let s := { s with sec := { s.sec with envelopeOut := left } }
    if left.isEmpty && s.sec.pairing == .sending then
      let s := { s with sec := { s.sec with pairing := .confirmed } }
      if s.chd.mirror == .holding then mirrorTo s .mirrored else s
    else s


/-- Is a transaction of this device one towards its buddy? -/
def toBuddy : Purpose → Bool
  | .mirror _ _ => true
  | .mirrorPage _ => true
  | .mirrorPod _ => true
  | .mirrorFetch _ _ => true
  | .envelope _ _ => true
  | _ => false

/-- The buddy has left service (R171): EXPOSED with event 0x1F3; what waits for its Cmp is accepted on the commit alone, its page's
MIRROR bit cleared first; copying stops. -/
def buddyGone (s : State) : State :=
  if s.chd.mirror == .none || s.chd.mirror == .exposed then s
  else
    let s := raise (mirrorTo s .exposed) 0x1F3 0
    let open_ := (s.e2e.txs.filter (fun x => toBuddy x.2.purpose)).map (·.1)
    let s := open_.foldl closeTx s
    let s := { s with chd := { s.chd with copyRuns := [], resync := [] } }
    let keys := (s.coh.txs.filter (fun x => x.2.stage == .mirroring)).map (·.1)
    let s := keys.foldl (fun s key => match mget s.coh.txs key with
      | some tx => goOn (committed (exposePage s (keyPage key)) key tx) key
      | none => s) s
    (s.coh.sink.filter (fun x => x.stage == .mirroring)).foldl (fun s x => sinkDone (exposePage s (keyPage x.key)) x) s

/-- Resync or resilver has ended: MIRRORED, event 0x1F4 with part class 8, the buddy (R172, R179). -/
def resyncEnds (s : State) : State :=
  if s.chd.mirror == .resync && s.chd.resync.isEmpty && s.chd.copyRuns.isEmpty then
    raiseP { mirrorTo s .mirrored with chd := { (mirrorTo s .mirrored).chd with resilver := false } } 0x1F4 0 .none 8
  else s

/-- The pages a resync, or a resilver, copies (R172): populated pages of Mirrored extents, with MIRROR 0 in a resync. -/
def resyncPages (s : State) (all : Bool) : List PageNo :=
  (s.chd.pages.filter (fun x => mirroredExtent s x.1 && dTier x.2.desc != tierNone && !x.2.fenced && (all || !dMirror x.2.desc))).map
    (fun x => BitVec.ofNat 36 x.1)

/-- The buddy is in service again: the owner brings it up to date (R172). -/
def buddyBack (s : State) : State :=
  if s.chd.mirror == .exposed then
    let all := !s.fab.buddyIntact
    let s := mirrorTo s .resync
    resyncEnds { s with chd := { s.chd with resync := resyncPages s all, resilver := all, resyncDone := 0, copyRuns := [] } }
  else s

/-- The buddy reports part of its store lost while it serves: the owner resilvers it (R172). -/
def buddyLost (s : State) : State :=
  if s.chd.mirror == .mirrored || (s.chd.mirror == .resync && !s.chd.resilver) then
    let s := mirrorTo { s with fab := { s.fab with buddyIntact := false } } .resync
    resyncEnds { s with chd := { s.chd with resync := resyncPages s true, resilver := true, resyncDone := 0 } }
  else s

/-- The buddy answered a MirrorWrite (R168, R171, R172). -/
def mirrorAnswered (s : State) (seq key status : Nat) : State :=
  let s := mirrorAcked (if s.chd.mirror == .holding && s.sec.pairing == .confirmed then mirrorTo s .mirrored else s) seq key
  if status = 2 then buddyLost s else s

/-- The plaintext of a line of an own page as it stands: from the near cache, or from storage. -/
def lineNow (s : State) (line : Nat) : Line :=
  match nearGet s (lineKey (myNode s) line) with
  | some l => if l.poison then 0 else l.data
  | none => lineOrZero s line

/-- Has a block dirty lines in the near cache? -/
def nearDirty (s : State) (block : Nat) : Bool :=
  match mget s.coh.near (blockKey (myNode s) block) with
  | some b => b.lines.any (fun l => l.2.dirty)
  | none => false

/-- A page has been copied to the buddy (R172): its poisoned lines follow as MirrorWrites, MIRROR is set by DESC_SET, and a MIRROR_ADD
migration of it has its copy. -/
def copyDone (s : State) (p : Nat) : State :=
  let s := { s with chd := { s.chd with
    copyRuns := mdel s.chd.copyRuns p
    resyncDone := s.chd.resyncDone + storedBytes s p } }
  if s.chd.resync.contains (BitVec.ofNat 36 p) then s
  else
    let s := ((List.range 64).filter (fun i => (page s p).poison.getLsbD i)).foldl (fun s i =>
      sendMirror s (lineKey (myNode s) (64 * p + i)) (0, true) 14 none) s
    match mget s.chd.migs p with
    | some m =>
      if m.kind = .mirrorAdd then
        modMig s p (fun m => { m with waiting := 0, blocks := (List.range 4).map (fun b => .done (dBlen m.src b) (dPrimer m.src)) })
      else resyncEnds { s with chd := { s.chd with resync := s.chd.resync ++ [BitVec.ofNat 36 p] } }
    | none =>
      let d := (page s p).desc
      resyncEnds (refoldDone (if dMirror d then s else descSet s p (dSet d 117 117 1)) p)

/-- One exchange of a page's copying has ended. -/
def copyStep (s : State) (p : Nat) : State :=
  match mget s.chd.copyRuns p with
  | none => s
  | some (raw, n) =>
    if n ≤ 1 then copyDone s p else { s with chd := { s.chd with copyRuns := mset s.chd.copyRuns p (raw, n - 1) } }

/-- Fetch a Remote block on its way to the buddy. -/
def mirrorFetch (s : State) (p b : Nat) : State :=
  let d := servedDesc s p
  let r := mgetD s.chd.copyRuns p (false, 0)
  let s := { s with chd := { s.chd with copyRuns := mset s.chd.copyRuns p (r.1, r.2 + 1) } }
  sendBlkRead s 4 (dNode d) (dBlockLoc d b) (dBlen d b) (dVers d) 14 (.mirrorFetch p b)

/-- The buddy takes the form of a page: its pods, or plaintext lines, go out (R172, R664); a Remote page's are fetched first. -/
def sendPods (s : State) (p : Nat) (raw : Bool) : State :=
  let d := servedDesc s p
  let remote := decide (servingTier s p = tierRemote)
  (List.range 4).foldl (fun s b =>
    if remote && dBlen d b != 0 && !(raw && nearDirty s (4 * p + b)) then mirrorFetch s p b
    else if raw then
      (List.range 16).foldl (fun s i => mirrorPod s p (16 * b + i) true (lineNow s (64 * p + 16 * b + i))) s
    else
      ((linesOf (sealedBlock s p b (dBlen d b) (dPrimer d) (dKgen d))).zipIdx).foldl (fun s x =>
        mirrorPod s p (((List.range b).map (dBlen d)).sum + x.2) false x.1) s) s

/-- The pods of a Remote block have come on their way to the buddy. -/
def mirrorFetched (s : State) (p b : Nat) (pods : List Line) : State :=
  let d := servedDesc s p
  let raw := (mgetD s.chd.copyRuns p (false, 0)).1
  let s := if raw then decrypted s 1 else s
  let s :=
    if raw then
      let img := (pods.map lineBytes).flatten
      let bytes := (decodeImage (primerOf s (dPrimer d)) (dBlen d b)
        (openImage s (pageDomain s p) (pageHome s p) p b (dKgen d) img)).toOption.getD []
      (List.range 16).foldl (fun s i => mirrorPod s p (16 * b + i) true (bytesLine (bytesAt bytes (64 * i) 64))) s
    else (pods.zipIdx).foldl (fun s x => mirrorPod s p (((List.range b).map (dBlen d)).sum + x.2) false x.1) s
  copyStep s p

/-- Is a page to be sent raw: its near cache holds lines newer than its stored form? -/
def sendRaw (s : State) (p : Nat) : Bool := (List.range 4).any (fun b => nearDirty s (4 * p + b))

/-- The buddy's answer to PAGE: OK, or DENIED, which asks for the raw form (R210, R664). -/
def pageAnswered (s : State) (p status : Nat) : State :=
  match mget s.chd.copyRuns p with
  | none => s
  | some (raw, _) =>
    if status = 0 then copyStep (sendPods s p raw) p
    else if raw then
      { s with chd := { s.chd with copyRuns := mdel s.chd.copyRuns p, resync := s.chd.resync ++ [BitVec.ofNat 36 p] } }
    else mirrorPage s p true

/-- Send a copy held for a returned owner back to it, raw (R172, R176): PAGE and its 64 lines, with every poisoned line as a
MirrorWrite. -/
def returnCopy (s : State) (k : Nat) : State :=
  let o := k / 2 ^ 44
  let ext := k / 2 ^ 28 % 2 ^ 16
  let pg := k % 2 ^ 28
  let s := openTx s 6 (mirrorCtl o 5 ext pg (2 ^ 22) 14) (.mirrorPage (2 ^ 36 + k))
  let s := (List.range 64).foldl (fun s i =>
    openTx s 6 (mkMsg 4 6 o 14 0 false [(16, ext), (28, pg), (6, i), (1, 1)] (lineSlots (readCopyLine s k i).1))
      (.mirrorPod (2 ^ 36 + k))) s
  ((List.range 64).filter (fun i => (readCopyLine s k i).2)).foldl (fun s i =>
    sendMirror s (lineKey o (copyLine o ext pg i)) (0, true) 14 none) s

/-- Is an exchange that sends a copy back to its owner open? -/
def returning (s : State) (o : Nat) : Bool := s.e2e.txs.any (fun x => match x.2.purpose with
  | .mirrorPage k => decide (2 ^ 36 ≤ k) && decide ((k - 2 ^ 36) / 2 ^ 44 = o)
  | .mirrorPod k => decide (2 ^ 36 ≤ k) && decide ((k - 2 ^ 36) / 2 ^ 44 = o)
  | _ => false)

/-- The regions of an owner that its extents reserved here lie in, as a mask (R161, R359). -/
def regionMask (s : State) (o : Nat) : Nat :=
  ((List.range 8).filter (fun r => (buddyOf s o).reserved.any (fun e => match Config.extentHeld o e.1 with
    | some (_, _, region, _) => region == r
    | none => false))).map (fun r => 2 ^ r) |>.sum

/-- The OWNER record (R161): failed or returning node, new owner, region mask. -/
def ownerRec (s : State) (o new mask : Nat) : State :=
  jwrite s 0 (plainRec recOwner (BitVec.ofNat 128 (o + 2 ^ 16 * new)) (BitVec.ofNat 128 mask))

/-- Flood ROUTE ALIAS (R174, R176). R359 gives it no place for `serving`; it follows the fields it gives: DESIGN CHOICE (log 135). -/
def aliasFields (o new mask : Nat) (serving : Bool) : List (Nat × Nat) := [(12, o), (12, new), (8, mask), (1, b2n serving)]
def floodAlias (s : State) (o new mask : Nat) (serving : Bool) : State := flood s 6 4 (aliasFields o new mask serving)

/-- The returned owner has every page of its regions: event 0x1F4, OWNER record, ROUTE ALIAS naming it its own owner; requests get
NackRetry from here (R176). -/
def handBack (s : State) (o : Nat) : State :=
  if mget s.chd.acting o == some 6 && s.chd.actResync.all (fun k => k / 2 ^ 44 != o) && !returning s o then
    let s := raiseP s 0x1F4 0 .none 9
    let s := ownerRec s o o (regionMask s o)
    let s := { s with
      chd := { s.chd with acting := mdel s.chd.acting o }
      fab := { s.fab with aliases := mdel s.fab.aliases o } }
    let s := setBuddyOf s o { buddyOf s o with role := 1, applied := 0, ahead := [], storeIntact := true }
    floodAlias s o o (regionMask s o) true
  else s

/-- A failed owner this device acts for is in service again: it is resilvered as this device's buddy (R172, R176). -/
def ownerBack (s : State) (o : Nat) : State :=
  if mget s.chd.acting o == some 5 then
    let ks := (mkeys s.chd.copies).filter (fun k => k / 2 ^ 44 == o && copyThere s k)
    let s := { s with chd := { s.chd with acting := mset s.chd.acting o 6, actResync := s.chd.actResync ++ ks } }
    handBack (setBuddyOf s o { buddyOf s o with role := 3 }) o
  else s

/-- RESYNC_PAGE: the next page of a running resync or resilver is sent (R172). -/
def resyncPage (s : State) : State :=
  match s.chd.resync with
  | p :: rest =>
    if s.chd.mirror == .resync then
      let s := { s with chd := { s.chd with resync := rest } }
      let q := p.toNat
      if dTier (page s q).desc = tierNone || (page s q).fenced then resyncEnds s
      else if mhas s.chd.copyRuns q then { s with chd := { s.chd with resync := s.chd.resync ++ [p] } }
      else mirrorPage s q (sendRaw s q)
    else s
  | [] =>
    match s.chd.actResync with
    | k :: rest => handBack (returnCopy { s with chd := { s.chd with actResync := rest } } k) (k / 2 ^ 44)
    | [] => s

/-- The blocks given up whose lines have been asked of the buddy: their events say whether it had every line (R198, R243). -/
def reportBlocks (s : State) (p : Nat) (want : List (Nat × Line × Bool)) : State :=
  let mine := fun (r : Nat × Option DecError) => r.1 / 4 == p && want.any (fun g => g.1 / 16 == r.1 % 4)
  let rs := s.cmp.reports.filter mine
  rs.foldl (fun s r => blockEvent s p (r.1 % 4) (want.all (fun g => g.1 / 16 != r.1 % 4 || !g.2.2)) r.2)
    { s with cmp := { s.cmp with reports := s.cmp.reports.filter (fun r => !mine r) } }

/-- Lines of an own page have come from the buddy (R157, R198, R243, R463): they take their places, and what waits for them goes
on. -/
def buddyLines (s : State) (p : Nat) (lines : BitVec 64) (got : List (Nat × Line × Bool)) : State :=
  let want := got.filter (fun g => lines.getLsbD g.1)
  let s := reportBlocks s p want
  let plain := decide (servingTier s p = tierPlain)
  let s := want.foldl (fun s g =>
    let line := 64 * p + g.1
    let key := lineKey (myNode s) line
    if plain then homeArrived (placeLine s line (g.2.1, g.2.2)) key (g.2.1, g.2.2)
    else placeNear s key 14 (g.2.1, g.2.2)) s
  if plain then s
  else
    let blocks := (List.range 4).filter (fun b => want.any (fun g => g.1 / 16 == b))
    blocks.foldl (fun s b =>
      let k := blockKey (myNode s) (4 * p + b)
      blockThere { s with coh := { s.coh with fills := s.coh.fills.filter (· != k) } } k) s

/-- The key of an owner's line at this device, once membership declares the owner failed: this device, its buddy, starts to act
for it (R174 steps 1 and 2). -/
def actingStart (s : State) (o : Nat) : State :=
  if !mhas s.chd.buddyOf o || (buddyOf s o).reserved.isEmpty || mhas s.chd.acting o then s
  else
    let me := myNode s
    let s := setBuddyOf s o { buddyOf s o with role := 2 }
    let s := { s with
      chd := { s.chd with acting := mset s.chd.acting o 1 }
      coh := { s.coh with dir := mfilter s.coh.dir (fun k _ => keyOwner k != o) }
      fab := { s.fab with aliases := mset s.fab.aliases o (BitVec.ofNat 12 me, false) } }
    floodAlias (ownerRec s o me (regionMask s o)) o me (regionMask s o) false

/-- FAILOVER_SERVE: the buddy serves the failed owner's regions from its copies (R174 step 5). The entries mirrored for the owner are
kept for four end-to-end timeouts of serving from here on (R173). -/
def failoverServe (s : State) : State :=
  let os := (s.chd.acting.filter (fun x => decide (x.2 < 5))).map (·.1)
  os.foldl (fun s o =>
    let me := myNode s
    let s := { s with
      chd := { s.chd with acting := mset s.chd.acting o 5 }
      e2e := { s.e2e with crt := mmap s.e2e.crt (fun _ c => if c.mirroredFor = some (BitVec.ofNat 12 o) then
        { c with mirroredFor := none, servedUs := s.e2e.servedUs } else c) }
      fab := { s.fab with aliases := mset s.fab.aliases o (BitVec.ofNat 12 me, true) } }
    let s := floodAlias s o me (regionMask s o) true
    raiseP s 0x1F5 0 (.peer (BitVec.ofNat 12 o)) 0) s

/-- Another device takes over a failed owner's regions (R174 steps 3 and 4): transactions towards it are redirected with the same
tags, and every near-cache line of its pages is given up, dirty ones to the new owner. -/
def aliasTaken (s : State) (o new : Nat) (serving : Bool) : State :=
  let first := !mhas s.fab.aliases o
  let s := { s with fab := { s.fab with aliases := mset s.fab.aliases o (BitVec.ofNat 12 new, serving) } }
  if !first then s
  else
    let keys := (s.coh.near.filter (fun b => blockOwner b.1 == o)).map (fun b =>
      b.2.lines.map (fun l => lineKey o (blockNo b.1 * 16 + l.1)))
    let s := keys.flatten.foldl (fun s key => if mhas s.coh.reqs key then s else evictLine s key [] none) s
    let out := (s.e2e.txs.filter (fun x => x.2.msg.dst.toNat == o)).map (·.1)
    out.foldl reissue s

/-- The page of this device's window that an extent index and page index name (R160). -/
def extentNamed (s : State) (ext pg : Nat) : Option Nat :=
  (s.chd.extents.find? (fun e => e.2.mext == ext && decide (e.2.dpa2m ≤ e.2.mbase + pg / 512) &&
    decide (e.2.mbase + pg / 512 < e.2.dpa2m + e.2.len2m))).map (fun e => e.2.mbase * 512 + pg)

/-- The device fences itself (R175): it accepts no write to its Mirrored regions, and its host interface is fenced. -/
def fenceSelf (s : State) : State :=
  { s with
    fab := { s.fab with selfFenced := true }
    host := { s.host with memFenced := true }
    coh := { s.coh with serving := false } }

/-- This device learns that membership declared it failed (R175). -/
def selfFailed (s : State) : State :=
  if s.boot.declaredFailed then s
  else raiseP (fenceSelf { s with boot := { s.boot with declaredFailed := true } }) 0x1F9 0 .hostMem 0

end Sys2Proof.Machine
end

