-- ==== Sys2Proof/Machine/Loss.lean ====
section
/-! DEFINITION. Losing a part: fenced channels and stacks (05: R179; 12: R425; 13: R457, R459), directory slices and sets (08: R291,
R292), peers that restart or fail (08: R288), and resets of the host side (08: R289, R290). -/

namespace Sys2Proof.Machine

/-- Re-protection of a part class has ended, or waits for lines from the buddy (R179). -/
def repairCheck (s : State) : State :=
  let reads := s.e2e.txs.any (fun x => match x.2.purpose with
    | .mirrorRead _ _ => true
    | _ => false)
  if s.chd.repair = 0 || reads then s
  else raiseP { s with chd := { s.chd with repair := 0 } } 0x1F4 0 .none s.chd.repair

/-- Lines of a page whose storage is lost (R179): taken from the buddy where the page has MIRROR 1, else poisoned. -/
def loseBlock (s : State) (p b : Nat) : State :=
  if mirrorable s p then mirrorRead s p (16 * b) 16 (0xFFFF <<< (16 * b))
  else poisonBlock s (4 * p + b)

/-- What was queued at a lost controller goes on: writes are committed anew, reads start again elsewhere. -/
def memLost (s : State) (r : MemReq) : State :=
  match r.use with
  | .homeWrite key =>
    (match mget s.coh.txs key with
     | some tx => if tx.stage = .writing then modTx s key (fun t => { t with stage := .blocked }) else modSink s key .writing (fun x => { x with stage := .waiting })
     | none => modSink s key .writing (fun x => { x with stage := .waiting }))
  | .homeRead key =>
    (match mget s.coh.txs key with
     | some tx => if tx.stage = .reading then startRead s key tx else s
     | none => s)
  | .blockFill k =>
    let s := { s with coh := { s.coh with fills := s.coh.fills.filter (· != k) } }
    blockThere (startFill s (blockNo k) r.port r.label r.qlabel) k
  | .nearRead key => if ownKey s key then blockThere s (keyBlock key) else reqNearRead s key
  | .podRead tag _ off vers label => respondData s 1 tag label true false false false true vers.toNat off 0
  | .podWrite => s
  | .metadata => s

/-- A Plain page whose frame is lost (R179): with MIRROR 1 it is placed anew from the buddy, its migration aborted, or its lines are read
there on access while no frame is free; otherwise its lines are poisoned. -/
def losePlain (s : State) (p : Nat) : State :=
  if mirrorable s p then
    let s := stopMig s p
    if dTier (page s p).desc = tierPlain then
      match relocateFrame s p with
      | some s => (List.range 4).foldl (fun s b => loseBlock s p b) s
      | none => s
    else (List.range 4).foldl (fun s b => loseBlock s p b) s
  else poisonMask s p (BitVec.allOnes 64)

/-- Parts of the copies held for owners are lost (R172, R179): what stood there reads poisoned, and the owners are told. -/
def loseCopies (s : State) (lost : Desc → Nat → Bool) : State :=
  let mark := fun (c : Copy) => (List.range 4).foldl (fun (m : BitVec 64) b =>
    if lost c.desc b then m ||| ((0xFFFF : BitVec 64) <<< (16 * b)) else m) c.poison
  let s := (s.chd.copies.filter (fun x => mark x.2 != x.2.poison)).foldl (fun s x =>
    setCopyDesc (modCopy s x.1 (fun c => { c with poison := mark c })) x.1 (dSet x.2.desc 114 114 1)) s
  { s with chd := { s.chd with buddyOf := mmap s.chd.buddyOf (fun _ b => { b with storeIntact := false }) } }

/-- Does a block of a descriptor's DDR-5 storage lie on a channel? -/
def blockOn (s : State) (c : Nat) (d : Desc) (b : Nat) : Bool :=
  if dTier d = tierPlain then paChannel s (4096 * dLoc d) == c
  else dTier d == tierPacked && (List.range (dBlen d b)).any (fun i => paChannel s (64 * (dBlockLoc d b + i)) == c)

/-- A DDR-5 channel is fenced in service (R179, R425, R457): its capacity leaves D, lines of Single pages on it are poisoned, pages
of Mirrored regions are placed anew from the buddy, and copies held for owners are no longer whole. -/
def fenceChannel (s : State) (c : Nat) : State :=
  if channelOut s c then s
  else
    let m := ctl s c
    let queued := m.flight ++ m.rq ++ m.wq ++ m.sched.items.map (·.item) ++ m.upstream
    let pagesOn := (s.chd.pages.filter (fun x => servingTier s x.1 == tierPlain && paChannel s (4096 * dLoc (servedDesc s x.1)) == c)).map (·.1)
    let blocksOn := ((s.chd.pages.filter (fun x => servingTier s x.1 == tierPacked)).map (fun x =>
      ((List.range 4).filter (fun b =>
        let d := servedDesc s x.1
        let n := dBlen d b
        let a := dBlockLoc d b
        decide (n ≠ 0) && (List.range n).any (fun i => paChannel s (64 * (a + i)) == c))).map (fun b => (x.1, b)))).flatten
    let s := channelGoes s c .fenced
    let s := pagesOn.foldl losePlain s
    let s := blocksOn.foldl (fun s x => loseBlock s x.1 x.2) s
    let s := loseCopies { s with chd := { s.chd with repair := 1 } } (blockOn s c)
    repairCheck (queued.foldl memLost s)

/-- The sets of the directory in a slice, or one set: its lines' entries are dropped. -/
def dropSlice (s : State) (hit : Nat → Bool) : State :=
  { s with coh := { s.coh with
    dir := mfilter s.coh.dir (fun k _ => !(hit (dirSetOf (keyLine k))))
    dirCache := mfilter s.coh.dirCache (fun st _ => !hit st) } }

/-- Send scope snoops to every device in service (R268, R291): scope 1 SET or 2 STACK, with the set or stack in the line field. -/
def sendScope (s : State) (scope n : Nat) : State :=
  let peers := (mkeys s.fab.members).filter (fun m => decide (m ≠ myNode s) && inService s m)
  peers.foldl (fun s m =>
    openTx s 1 (mkMsg 1 snpInvOp m 15 0 false [(42, n), (2, scope)] []) (.scopeSnoop (BitVec.ofNat 12 m))) s

/-- Are scope snoops still unanswered? -/
def scopeOpen (s : State) : Bool := s.e2e.txs.any (fun x => match x.2.purpose with
  | .scopeSnoop _ => true
  | _ => false)

/-- Every scope snoop is answered (R291 step 4, R292): the slices and sets are known for peers; the host's copies in a slice stay
unknown. -/
def scopeDone (s : State) : State :=
  if scopeOpen s || (s.coh.sliceUnknown == 0 && s.coh.unknownSets.isEmpty) then s
  else
    let slice := s.coh.sliceUnknown
    let s := { s with coh := { s.coh with sliceUnknown := 0, unknownSets := [], hostUnknown := s.coh.hostUnknown ||| slice } }
    if slice = 0 then s
    else
      let s := raise s 0x1A6 0
      if s.chd.ring0.spillBuilding || s.chd.ring1.spillBuilding then s else raiseP s 0x1F4 0 .none 3

/-- A slice of the directory is lost (R291): unknown, folded onto its pair, rebuilt by scope snoops. -/
def loseSlice (s : State) (i : Nat) (fold : Bool) : State :=
  if s.coh.sliceUnknown.getLsbD i then s
  else
    let s := dropSlice s (fun st => st % 4 == i)
    let bit : BitVec 4 := (1 : BitVec 4) <<< i
    let s := { s with coh := { s.coh with
      sliceUnknown := s.coh.sliceUnknown ||| bit
      unknownSets := s.coh.unknownSets.filter (fun st => st % 4 != i)
      folded := if fold then s.coh.folded ||| bit else s.coh.folded } }
    scopeDone (sendScope (raise s 0x1A5 0) 2 i)

/-- A directory set is lost (R292): unknown, rebuilt by a scope snoop, event 0x1A8; the 65th loses its slice. -/
def loseSet (s : State) (st : Nat) : State :=
  if s.coh.unknownSets.contains st || s.coh.sliceUnknown.getLsbD (st % 4) then s
  else if 64 ≤ s.coh.unknownSets.length then loseSlice s (st % 4) false
  else
    let s := dropSlice s (· == st)
    scopeDone (sendScope (raise { s with coh := { s.coh with unknownSets := st :: s.coh.unknownSets } } 0x1A8 0) 1 st)

/-- A line of the near cache is lost with its RLD storage (R179, R459): clean ones come again from home or the owner, dirty ones from
the buddy, or poisoned. -/
def loseNearLine (s : State) (key : Nat) : State :=
  match nearGet s key with
  | none => s
  | some l =>
    if ownKey s key then
      if l.dirty then
        let p := keyPage key
        let i := keyLine key % 64
        if mirrorable s p then mirrorRead s p i 1 ((1 : BitVec 64) <<< i)
        else nearPut (poisonOne s (keyLine key)) key 14 { l with data := 0, poison := true }
      else
        match mget s.coh.near (keyBlock key) with
        | some b =>
          if b.lines.any (fun x => x.2.dirty) then
            nearPut s key 14 { l with data := lineOrZero s (keyLine key), poison := linePoisoned s (keyLine key) }
          else { s with coh := { s.coh with near := mdel s.coh.near (keyBlock key) } }
        | none => s
    else if dirtySt l.st || l.hostDirty then nearPut s key 14 { l with data := 0, poison := true }
    else nearPut s key 14 { l with whole := false }

/-- An RLD stack is fenced in service (R92, R166, R179, R291, R459): its ring spills, its descriptors and its directory slice are
rebuilt, its near-cache lines are lost. -/
def fenceStack (s : State) (i : Nat) : State :=
  let n := 12 + i
  if channelOut s n then s
  else
    let m := ctl s n
    let queued := m.flight ++ m.rq ++ m.wq ++ m.sched.items.map (·.item) ++ m.upstream
    let keys := ((s.coh.near.filter (fun b => nearStack b.1 == i)).map (fun b =>
      b.2.lines.map (fun l => lineKey (blockOwner b.1) (blockNo b.1 * 16 + l.1)))).flatten
    let s := channelGoes s n .fenced
    let s := crtStackLost (spillStart (tcLost s i) i) i
    let s := loseCopies s (fun _ _ => false)
    let s := keys.foldl loseNearLine s
    let s := loseSlice s i true
    queued.foldl memLost s

/-- Fence a controller for a cause, with its event at S3 (R457, R459). -/
def fenceCtl (s : State) (n cause : Nat) : State :=
  if channelOut s n then s
  else raiseCtl (if n < 12 then fenceChannel s n else fenceStack s (n - 12)) n cause

/-- MR4_POLL (R433, R444): the refresh rate follows mode register 4; double rate is noted when it is first asked for, and a
temperature beyond the refresh range fences the channel. -/
def mr4Poll (s : State) (c : Nat) (report : Mr4) : State :=
  if !ctlServes (ctl s c) then s
  else match report with
    | .normal => modCtl s c (fun x => { x with rate := 1 })
    | .double =>
      let was := (ctl s c).rate
      let s := modCtl s c (fun x => { x with rate := 2 })
      if was = 2 then s else raiseCtl s c 0x06
    | .beyond => fenceCtl s c 0x07

/-- PMIC_FAULT (R444): the channel is fenced. -/
def pmicFault (s : State) (c : Nat) : State := fenceCtl s c 0x05

/-- A line whose dirty data went with a failed device (R288): it is poisoned, event 0x1A7, and the record is removed. -/
def dirtyGone (s : State) (n : Node) (key : Nat) : State :=
  let s := if ownKey s key then poisonOne s (keyLine key) else s
  let s := raiseP s 0x1A7 0 (.peer n) (keyLine key)
  setEnt s key ((dirEnt s key).dropPeer n)

/-- The records of a failed device (R288): lines it held in M or O are lost, and the scan removes the others. Row bits stand for the
row and stay; a snoop leaves the failed device out. -/
def scanFailed (s : State) (n : Node) : State :=
  let lost := (s.coh.dir.filter (fun x => x.2.owns n && (x.2.st == .m || x.2.st == .o))).map (·.1)
  let s := lost.foldl (fun s key => dirtyGone s n key) s
  let named := (s.coh.dir.filter (fun x => x.2.named.contains n)).map (·.1)
  named.foldl (fun s key => setEnt s key ((dirEnt s key).dropPeer n)) s

/-- A device reset or failure of a peer becomes known (R288): acknowledgement waits end; snoops to a device recorded S or E are
answered; for one recorded M or O a restart waits for its WbDirty, a failure loses the line. -/
def peerGone (s : State) (n : Nat) (failed : Bool) : State :=
  let nd : Node := BitVec.ofNat 12 n
  let acks := (s.coh.txs.filter (fun x => x.2.stage == OwnStage.acking && x.2.who.node == some nd)).map (·.1)
  let s := acks.foldl (fun s key => endTxAt s key) s
  let open_ := (s.coh.txs.filter (fun x => x.2.stage == OwnStage.snooping && x.2.snoops.any (fun y => y.1 == nd))).map (·.1)
  let s := open_.foldl (fun s key =>
    let e := dirEnt s key
    let dirty := e.owns nd && (e.st == DirSt.m || e.st == DirSt.o)
    let close := fun (s : State) =>
      let ts := (s.e2e.txs.filter (fun x => x.2.purpose == Purpose.snoop key nd)).map (·.1)
      ts.foldl closeTx s
    if !dirty then snoopAnswered (close s) key nd 0 .clean
    else if failed then snoopAnswered (dirtyGone (close s) nd key) key nd 0 .clean
    else
      let mark := fun (x : Node × Bool) => if x.1 = nd then (x.1, true) else x
      modTx (close s) key (fun t => { t with snoops := t.snoops.map mark })) s
  if failed then
    let s := scanFailed s nd
    let ts := (s.e2e.txs.filter (fun x => x.2.purpose == Purpose.scopeSnoop nd)).map (·.1)
    scopeDone (ts.foldl closeTx s)
  else s

/-- An H or C reset: the owner treats the host as I in every entry, and a requester its own lines likewise (R290). What waits for the
host's answer goes on. -/
def hostCopiesGone (s : State) : State :=
  let keys := mkeys s.coh.dir
  let s := keys.foldl (fun s key => setEnt s key { dirEnt s key with host := .i }) s
  let near := mmap s.coh.near (fun _ b => { b with lines := mmap b.lines (fun _ l => { l with hf := HostCopy.i }) })
  let s := { s with coh := { s.coh with near := near, hostUnknown := 0, hostFlushed := false } }
  let waits := (s.coh.txs.filter (fun x => x.2.bisnp.isSome)).map (·.1)
  let s := waits.foldl (fun s key => goOn (modTx s key (fun t => { t with bisnp := none })) key) s
  (mkeys s.coh.hostSnoops).foldl (fun s key => hostInvDone s key none) s

/-- At step 0x20 after its own device reset, a requester drops every clean line of other owners and sends M and O lines as WbDirty
(R289). -/
def nearAfterReset (s : State) : State :=
  let me := myNode s
  let lines := ((s.coh.near.filter (fun b => blockOwner b.1 != me)).map (fun b =>
    b.2.lines.map (fun l => (lineKey (blockOwner b.1) (blockNo b.1 * 16 + l.1), l.2)))).flatten
  lines.foldl (fun s x => if dirtySt x.2.st || x.2.hostDirty then evictLine s x.1 [] none else nearDrop s x.1) s

/-- COH_CTRL.host_flushed: the host has written back and invalidated its caches of the window (R291, R294). -/
def hostFlushedBody (s : State) : State := { s with coh := { s.coh with hostUnknown := 0, hostFlushed := false } }

/-- COH_CTRL.pred_clear: every predictor counter returns to 1 (R284, R294). -/
def predClearBody (s : State) : State := { s with coh := { s.coh with pred := [], predClear := false } }

/-- SPILL_COPY_BUILT (R166): re-protection of the stack completes with its directory (R291). -/
def spillCopyBuilt (s : State) (r : Nat) : State :=
  let was := (ring s r).spillBuilding
  let s := spillBuilt s r
  if was && s.coh.sliceUnknown == 0 && !(ring s (1 - r)).spillBuilding then raiseP s 0x1F4 0 .none 3 else s

end Sys2Proof.Machine
end

