-- ==== Sys2Proof/Machine/Serve.lean ====
section
/-! DEFINITION. Requests that reach the device: from peers to the owner (08: R254, R267, R279 to R282; 10: R376 to R378), from owners
to the holder (08: R275), and from the host (03: R73, R106; 11: R400, R407, R409; 14: R477, R478, R500). -/

namespace Sys2Proof.Machine

/-- Does a grant to a node cover a line of this device's window (R77, R254)? -/
def grantCovers (s : State) (n line : Nat) : Bool :=
  s.host.grants.any (fun g => g.2.grantee.toNat == n && decide (g.2.dpa2m ≤ line / 32768) &&
    decide (line / 32768 < g.2.dpa2m + g.2.len2m))

/-- Events 0x1A0 and 0x1A1, each at most once per millisecond (R293). -/
def notePendFull (s : State) : State :=
  if elapsed s s.coh.pendFullNs 1000000 then raise { s with coh := { s.coh with pendFullNs := some s.clockNs } } 0x1A0 0 else s
def noteResFull (s : State) : State :=
  if elapsed s s.coh.resFullNs 1000000 then raise { s with coh := { s.coh with resFullNs := some s.clockNs } } 0x1A1 0 else s

/-- A request finds its place in the pending table (R279 to R282): the general area of 3,584, or with the reserved flag one of 256
reserved entries. -/
def pendRequest (s : State) (key : Nat) (kind : OwnKind) (who : Asker) (tag : Tag) (label : Nat) (reserved : Bool) : State :=
  let n : Node := BitVec.ofNat 12 (tagSource tag)
  let hint := s.coh.pendingHint.toNat
  if reserved then
    if s.coh.heldFor.contains n then
      putPend { s with coh := { s.coh with heldFor := s.coh.heldFor.erase n } } key kind who .reserved
    else if areaUsed s .reserved + s.coh.heldFor.length < 256 then putPend s key kind who .reserved
    else
      let s := { s with coh := { s.coh with standby := if s.coh.standby.contains n then s.coh.standby else n :: s.coh.standby } }
      respondNack (noteResFull s) tag label 3 hint
  else if areaUsed s .general < 3584 then putPend s key kind who .general
  else respondNack (notePendFull s) tag label 1 hint

/-- Has a request with this tag an open transaction or a pending entry (R267)? -/
def tagOpen (s : State) (t : Tag) : Bool :=
  let same := fun (w : Asker) => match w.tag with
    | some u => u.toNat / 4 == t.toNat / 4
    | none => false
  s.coh.txs.any (fun x => same x.2.who) || s.coh.pend.any (fun x => same x.who)

/-- The floor of a requester's far atomics at an owner is recorded (R177): it never goes back. -/
def noteFloor (s : State) (src owner : Nat) (kind : OwnKind) : State :=
  match kind with
  | .atomicFar _ _ _ floor _ _ =>
    let old := floorOf s src owner
    { s with chd := { s.chd with
      atomicFloor := mset s.chd.atomicFloor (floorKey src owner) (if seqBefore old floor then floor else old) } }
  | _ => s

/-- Does a request write its line? -/
def kindWrites (k : OwnKind) : Bool := (writePart k).isSome || (atomicPart k).isSome

/-- The tracker counts an access that is taken (R106); one that populates its page is never counted (R112). -/
def heatTaken (s : State) (p : Nat) (kind : OwnKind) : State :=
  if dTier (page s p).desc == tierNone && kindWrites kind then s else heatAccess s p

/-- A REQ reaches the owner (R254, R267, R279, R377): the checks in the order of the rules, then its turn at its line. -/
def peerRequest (s : State) (op : Nat) (h : ReqHdr) (line : Nat) (reserved : Bool) (kind : OwnKind) : State :=
  let c := consumeTag s 0 op h.tag
  let s := active c.1
  let label := h.label.toNat
  let src := tagSource h.tag
  let owner := requestOwner s line
  let key := lineKey owner line
  let taken := fun (s : State) => if owner = myNode s then heatTaken s (line / 64) kind else s
  if c.2.old then s
  else if !servingFor s owner then respondNack s h.tag label 2 s.coh.notservingHint.toNat
  else if owner = myNode s && !grantCovers s src line then respondCmp (raiseP s 0x1A3 0 (.peer (BitVec.ofNat 12 src)) line) h.tag label 2 false 0
  else if tagOpen s h.tag then s
  else
    let who := fun (again : Bool) => (Asker.peer (BitVec.ofNat 12 src) h.tag label (queueLabel label c.2.demoted c.2.yellow) h.isNew, again)
    let start := fun (s : State) (again : Bool) =>
      let s := makeWay s key kind
      if !pendBefore s key && mayTake s key kind then goOn (openOwn (taken s) key kind (who again).1 false again) key
      else
        let t := pendRequest s key kind (who again).1 h.tag label reserved
        if s.coh.pend.length < t.coh.pend.length then taken t else t
    match crtDuplicate s h.tag h.isNew, kind with
    | some e, .wrLine _ _ _ _ => respondCmp (countDuplicate s) h.tag label e.status.toNat false 0
    | some e, .atomicFar _ _ _ _ _ _ =>
      respondResult (countDuplicate (noteFloor s src owner kind)) h.tag label (e.result.getLsbD 128) false (e.result.setWidth 128)
    | some _, .rdShared => start (countDuplicate s) true
    | some _, .rdOwn => start (countDuplicate s) true
    | _, .rdCur => start s false
    | _, .atomicFar _ _ seq _ _ _ =>
      if seqBefore seq (floorOf s src owner) then respondCmp (noteFloor s src owner kind) h.tag label 1 false 0
      else if crtFull s h.tag then respondNack (noteCrtFull s) h.tag label 1 s.coh.pendingHint.toNat
      else start (noteFloor s src owner kind) false
    | _, _ =>
      if crtFull s h.tag then respondNack (noteCrtFull s) h.tag label 1 s.coh.pendingHint.toNat else start s false

/-- The lease this device granted to an owner. -/
def lent (s : State) (o : Nat) : Lent := mgetD s.fab.lent o ⟨0, none, 0, false⟩

/-- Do `cnt` pods from `pod` lie in an owner's lease (R275, R329, R331)? A BlkWrite is judged against the recalled size. -/
def inLease (s : State) (o pod cnt : Nat) (write : Bool) : Bool :=
  let l := lent s o
  let gib := match l.recallTo, write with
    | some r, true => min r l.sizeGib
    | _, _ => l.sizeGib
  decide (pod + cnt ≤ gib * 16777216)

/-- Key of a pod stored for an owner. -/
def podKey (o pod : Nat) : Nat := o * 2 ^ 38 + pod

/-- Where a stored pod lies in DDR-5: the manual does not say, a FREE VALUE (assumption 20). -/
def podAddr (s : State) (o pod : Nat) : Nat := 64 * (Config.storedPodAt (podKey o pod) % max 1 (framesAll s * 64))

/-- Has the device reached Memory Active: before it every REQ and BULK message is answered NackRetry NOT_SERVING (R616)? -/
def serves (s : State) : Bool := s.boot.st == .serving

/-- BlkRead at the holder (R275, R465): a pod of lost storage is answered poisoned. -/
def blkReadBody (s : State) (h : ReqHdr) (pod cnt vers : Nat) : State :=
  let c := consumeTag s 4 1 h.tag
  let s := active c.1
  let label := h.label.toNat
  let o := tagSource h.tag
  if c.2.old then s
  else if !serves s then respondNack s h.tag label 2 s.coh.notservingHint.toNat
  else if cnt = 0 ∨ 64 < cnt then respondCmp s h.tag label 4 false vers
  else if !inLease s o pod cnt false then respondCmp s h.tag label 3 false vers
  else
    (List.range cnt).foldl (fun s i =>
      let a := podAddr s o (pod + i)
      if channelOut s (paChannel s a) then respondData s 1 h.tag label true false false false true vers i 0
      else pushDdr s .fabric label (queueLabel label c.2.demoted c.2.yellow) false
        (.podRead h.tag (pod + i) i (BitVec.ofNat 16 vers) label) a 64 none) s

/-- A recorded BULK request at the holder: a duplicate receives its stored Cmp, a full set NackRetry (R377, R378). -/
def bulkRecorded (s : State) (h : ReqHdr) (kind pod vers : Nat) (ok : Bool) (act : State → State) : State :=
  let label := h.label.toNat
  match crtDuplicate s h.tag h.isNew with
  | some e => respondCmp (countDuplicate s) h.tag label e.status.toNat false vers
  | none =>
    if crtFull s h.tag then respondNack (noteCrtFull s) h.tag label 1 s.coh.pendingHint.toNat
    else
      let status := if ok then 0 else 3
      let s := if ok then act s else s
      respondCmp (crtRecord s h.tag h.isNew kind status pod 0 0) h.tag label status false vers

/-- BlkWrite at the holder (R275, R331). -/
def blkWriteBody (s : State) (h : ReqHdr) (pod vers : Nat) (v : Line) : State :=
  let c := consumeTag s 4 2 h.tag
  let s := active c.1
  let o := tagSource h.tag
  if c.2.old then s
  else if !serves s then respondNack s h.tag h.label.toNat 2 s.coh.notservingHint.toNat
  else bulkRecorded s h 34 pod vers (inLease s o pod 1 true) (fun s =>
    let s := { s with fab := { s.fab with lentPods := mset s.fab.lentPods (podKey o pod) v } }
    pushDdr (podsWritten s h.label.toNat 1) .fabric h.label.toNat (queueLabel h.label.toNat c.2.demoted c.2.yellow) true .podWrite (podAddr s (tagSource h.tag) pod) 64 (some v))

/-- BlkFree at the holder (R275): pods already free count as freed. -/
def blkFreeBody (s : State) (h : ReqHdr) (pod cnt : Nat) : State :=
  let c := consumeTag s 4 3 h.tag
  let s := active c.1
  let o := tagSource h.tag
  if c.2.old then s
  else if !serves s then respondNack s h.tag h.label.toNat 2 s.coh.notservingHint.toNat
  else if cnt = 0 ∨ 64 < cnt then respondCmp s h.tag h.label.toNat 4 false 0
  else bulkRecorded s h 35 pod 0 (inLease s o pod cnt false) (fun s =>
    { s with fab := { s.fab with lentPods := mfilter s.fab.lentPods (fun k _ =>
      !(decide (podKey o pod ≤ k) && decide (k < podKey o pod + cnt))) } })

/-- Fields of a host request waiting or in progress. -/
def workLabel : ReqWork → Nat
  | .read _ _ l => l
  | .write _ _ l _ _ _ => l
  | .atomic _ l _ _ _ _ _ => l
def workCounted : ReqWork → Bool
  | .atomic _ _ _ _ _ _ _ => false
  | _ => true

/-- Answer a host request that reaches no accepted extent, or a fenced CXL.mem (R73, R500): poisoned zeros for a read, completion for a
write. -/
def hostRefuse (s : State) (w : ReqWork) : State :=
  match w with
  | .read _ (some req) _ =>
    let s := { s with host := { s.host with readNs := mdel s.host.readNs req.toNat } }
    emit s (.hostData req 0 true s.qos.devload)
  | .write _ (some req) _ _ _ _ => emit s (.hostCmp req s.qos.devload)
  | .read _ none _ => s
  | .write _ none _ _ _ _ => s
  | .atomic src _ _ _ _ _ _ => completeCmd s src stInvalid 0

/-- The kind of transaction a host request makes at its owner. -/
def workKind : ReqWork → OwnKind
  | .read mv req _ => .hostRd mv req
  | .write mv req _ data mask poison => .hostWr mv req data mask poison
  | .atomic src _ op size offset operands raddr => .hostAtomic src op size offset operands raddr

/-- Start a host request at a window offset, if it can start now (R73, R106, R252, R261, R273, R279). -/
def hostStart (s : State) (dpa : Nat) (w : ReqWork) : State × Bool :=
  match extentTaken s (dpa / 2097152) with
  | none => ((if workCounted w then raise (hostRefuse s w) 0x261 0 else hostRefuse s w), true)
  | some (_, e) =>
    let line := dpa / 64
    let began := fun (s : State) =>
      let l := workLabel w
      if workCounted w then { s with qos := { s.qos with inProgress := mset s.qos.inProgress l (mgetD s.qos.inProgress l 0 + 1) } } else s
    match sharedKey e line with
    | some key =>
      let r := reqSubmit (began s) key w
      if r.2 then r else (s, false)
    | none =>
      let key := lineKey (myNode s) line
      let kind := workKind w
      let who := Asker.host (workLabel w) (queueLabel (workLabel w) false s.qos.nonConf)
      if s.chd.ownedAway.isSome && e.attrs.mirrored then (s, false)
      else
        let t := makeWay (began s) key kind
        let taken := fun (s : State) => if workCounted w then heatTaken s (line / 64) kind else s
        if !pendBefore t key && mayTake t key kind then (goOn (openOwn (taken t) key kind who false false) key, true)
        else if areaUsed s .host < 256 then (putPend (taken t) key kind who .host, true)
        else (s, false)

/-- The injection window of a label (R407). -/
def injWindow (s : State) (l : Nat) : Nat := max 16 (1024 * mgetD s.qos.scale l 256 / 256)

/-- Is a label shaped, and has its bucket room for a request of 64 B (R400)? -/
def shaped (s : State) (l : Nat) : Bool := mgetD s.qos.shapeRate l 0 != 0
def shapeRoom (s : State) (l : Nat) : Bool := decide (6400 ≤ (mgetD s.qos.shapeTokens l ⟨0⟩).centi)
def shapeTake (s : State) (l : Nat) : State :=
  { s with qos := { s.qos with shapeTokens := mset s.qos.shapeTokens l ⟨(mgetD s.qos.shapeTokens l ⟨0⟩).centi - 6400⟩ } }

/-- Does the device take host requests now: in Run and serving its host (R34, R607)? -/
def hostOpen (s : State) : Bool := s.aon.st == .run && s.host.memActive

/-- One waiting host request is injected if its label's shaper and window and its line allow (R34, R400, R407). -/
def hostTry (s : State) (dpa : Nat) (w : ReqWork) : State × Bool :=
  let l := workLabel w
  if !hostOpen s || (workCounted w && decide (l ≤ 13) && decide (injWindow s l ≤ mgetD s.qos.inProgress l 0)) then (s, false)
  else if !shaped s l then hostStart s dpa w
  else if shapeRoom s l then
    let r := hostStart s dpa w
    if r.2 then (shapeTake r.1 l, true) else (s, false)
  else if labelRt s l then
    let r := hostStart { s with qos := { s.qos with nonConf := true } } dpa w
    ({ r.1 with qos := { r.1.qos with nonConf := false } }, r.2)
  else (s, false)

/-- Go through the waiting host requests in arrival order; a label whose request waits keeps its later ones behind it. -/
def hostScan : List (BitVec 64 × ReqWork) → State → List Nat → State
  | [], s, _ => s
  | x :: xs, s, blocked =>
    let l := workLabel x.2
    if blocked.contains l then hostScan xs { s with coh := { s.coh with waitHost := s.coh.waitHost ++ [x] } } blocked
    else
      let r := hostTry s x.1.toNat x.2
      if r.2 then hostScan xs r.1 blocked
      else hostScan xs { r.1 with coh := { r.1.coh with waitHost := r.1.coh.waitHost ++ [x] } } (l :: blocked)

/-- Host requests of a label that wait in its ingress queue (R407). -/
def ingressCount (s : State) (l : Nat) : Nat := (s.coh.waitHost.filter (fun x => workLabel x.2 == l && workCounted x.2)).length

/-- The DevLoad value (R409). -/
def devloadNow (s : State) : Nat :=
  let qs := s.qos.qs
  if 90 * 65536 ≤ qs || s.qos.withheldNs.isSome || s.chd.reserveState == 3 then 3
  else if 75 * 65536 ≤ qs || (List.range 16).any (fun l => decide (256 ≤ ingressCount s l)) then 2
  else if qs < 25 * 65536 && (List.range 16).all (fun l => ingressCount s l == 0) then 0
  else 1

/-- DevLoad follows what it depends on; entry to Severe Overload raises event 0x240 at most once per second (R409). -/
def devloadSet (s : State) : State :=
  let d := devloadNow s
  let was := s.qos.devload
  let s := { s with qos := { s.qos with devload := BitVec.ofNat 2 d } }
  if d = 3 ∧ was ≠ 3 ∧ elapsed s s.qos.severeNs 1000000000 then
    raise { s with qos := { s.qos with severeNs := some s.clockNs } } 0x240 0
  else s

/-- CXL.mem request credits are withheld while any label's ingress queue holds 512, and migration pauses meanwhile (R407, R408). -/
def ingressCheck (s : State) : State :=
  let full := (List.range 16).any (fun l => decide (512 ≤ ingressCount s l))
  let s := match full, s.qos.withheldNs with
    | true, none => { s with qos := { s.qos with withheldNs := some s.clockNs, withheldRaised := false, pause := true } }
    | false, some _ => { s with qos := { s.qos with withheldNs := none, withheldRaised := false } }
    | _, _ => s
  devloadSet s

/-- Waiting host requests go on as far as they can. -/
def hostPass (s : State) : State :=
  let ws := s.coh.waitHost
  if ws.isEmpty then s else ingressCheck (hostScan ws { s with coh := { s.coh with waitHost := [] } } [])

/-- After the waiting writes have tried again: those that still wait have waited since `since`; reserve_state leaves 3 when none
does (R118, R127). -/
def spaceSettled (since : Option Nat) (s : State) : State :=
  match s.chd.reserveWaitNs, since with
  | some _, some t => { s with chd := { s.chd with reserveWaitNs := some t } }
  | some _, none => s
  | none, _ =>
    if s.chd.reserveState = 3 then { s with chd := { s.chd with reserveState := BitVec.ofNat 3 (spaceBand s) } } else s

/-- Let everything that waits at the owner and at the host ingress go on. -/
def pump (s : State) : State :=
  let s := reqPass (dLanesGo s)
  hostPass (spaceSettled s.chd.reserveWaitNs (ownPass { s with chd := { s.chd with reserveWaitNs := none } }))

/-- Does a committed decoder's address range hold an HPA (R477)? -/
def decoderHit (d : Decoder) (hpa : Nat) : Bool :=
  d.committed && decide (d.setting.hpaBase.toNat ≤ hpa) && decide (hpa < d.setting.hpaBase.toNat + d.setting.hpaSize.toNat)

/-- Length of a decoder's DPA range, and its start: after the skips and lengths of the decoders before it (R477). -/
def decoderLen (d : Decoder) : Nat := d.setting.hpaSize.toNat / max 1 d.setting.ways.toNat
def decoderBase (s : State) (i : Nat) : Nat :=
  ((s.host.decoders.filter (fun d => decide (d.1 < i) && d.2.committed)).map (fun d => d.2.setting.dpaSkip.toNat + decoderLen d.2)).sum +
    ((mget s.host.decoders i).map (fun d => d.setting.dpaSkip.toNat)).getD 0

/-- The DPA a CXL.mem address decodes to, by the committed decoder that holds it (R477, R478): granules go round the ways. -/
def hdmDecode (s : State) (hpa : Nat) : Option Nat :=
  (s.host.decoders.find? (fun d => decoderHit d.2 hpa)).map (fun d =>
    let off := hpa - d.2.setting.hpaBase.toNat
    let g := max 1 d.2.setting.granularity.toNat
    decoderBase s d.1 + off / (g * max 1 d.2.setting.ways.toNat) * g + off % g)

/-- A CXL.mem request arrives (R73, R478, R500): decoded, and put behind the requests of its label. `mk` builds it with its label. -/
def hostArrive (s : State) (hpa : Nat) (mk : Nat → ReqWork) : State :=
  let s := active s
  if s.host.memFenced || s.fab.selfFenced then hostRefuse s (mk 0)
  else
    match (hdmDecode s hpa).bind (fun dpa => (extentOf s dpa).map (fun e => (dpa, e.2.attrs.label))) with
    | none => raise (hostRefuse s (mk 0)) 0x261 0
    | some (dpa, l) =>
      hostPass { s with coh := { s.coh with waitHost := s.coh.waitHost ++ [(BitVec.ofNat 64 (dpa / 64 * 64), mk l)] } }

/-- MEM_RD (R16 to R19, R270): performance event 0x000. -/
def memRdBody (s : State) (hpa : Nat) (mv : MetaVal) (req : BitVec 16) : State :=
  let s := { s with host := { s.host with readNs := mset s.host.readNs req.toNat s.clockNs } }
  let l := ((hdmDecode s hpa).bind (fun dpa => extentOf s dpa)).map (fun e => e.2.attrs.label)
  hostArrive (countN s 0x000 l 1) hpa (fun l => .read mv (some req) l)

/-- MEM_WR (R21, R270): performance event 0x001. -/
def memWrBody (s : State) (hpa : Nat) (mv : MetaVal) (req : BitVec 16) (data : Line) (mask : BitVec 64) (poison : Bool) : State :=
  let l := ((hdmDecode s hpa).bind (fun dpa => extentOf s dpa)).map (fun e => e.2.attrs.label)
  hostArrive (countN s 0x001 l 1) hpa (fun l => .write mv (some req) l data mask poison)

/-- The key a window offset has for a back-invalidate: an own line, or one of another owner. -/
def biKey (s : State) (dpa : Nat) : Nat :=
  match extentTaken s (dpa / 2097152) with
  | some (_, e) => (sharedKey e (dpa / 64)).getD (lineKey (myNode s) (dpa / 64))
  | none => lineKey (myNode s) (dpa / 64)

/-- BI_RSP: the host answers a back-invalidate (R262, R269, R272). -/
def biRspBody (s : State) (dpa : Nat) (wb : Option (Line × Bool)) : State :=
  let key := biKey s dpa
  if ownKey s key then biAnswered s key wb else hostInvDone s key wb

/-- BISNP_TIMEOUT (R271, R500): the host is recorded I, event 0x1A4, CXL.mem is fenced with event 0x265. -/
def bisnpTimeoutBody (s : State) (dpa : Nat) : State :=
  let key := biKey s dpa
  let live : Bool := if ownKey s key then (match mget s.coh.txs key with
      | some tx => tx.bisnp.isSome
      | none => false) else mhas s.coh.hostSnoops key
  if !live then s
  else
    let was := s.host.memFenced
    let s := raiseP s 0x1A4 0 .hostMem dpa
    let s := { s with host := { s.host with memFenced := true } }
    let s := if was then s else raiseP s 0x265 0 .hostMem 0
    if ownKey s key then biAnswered (setEnt s key { dirEnt s key with host := .i }) key none else hostInvDone s key none

end Sys2Proof.Machine
end

