-- ==== Sys2Proof/Machine/Return.lean ====
section
/-! DEFINITION. What memory accesses and compression jobs deliver when they end (07: R242, R243; 12: R429 to R431; 13: R453 to R465;
06: R211 to R218), and the lines the scrubber reads (13: R460 to R463). -/

namespace Sys2Proof.Machine

/-- A MEDIA marker at a channel address has not been read yet (R461, R463). -/
def markedMedia (s : State) (n addr : Nat) : Bool := s.ecc.media.any (fun m => m.1 == n && m.2 == addr / 64)
def clearMedia (s : State) (n addr : Nat) : State :=
  { s with ecc := { s.ecc with media := s.ecc.media.filter (fun m => !(m.1 == n && m.2 == addr / 64)) } }

/-- What a burst that was read is worth: good, lost, or poisoned by a HOST marker. -/
inductive BurstRead where
  | good
  | lost
  | host
deriving DecidableEq, Repr

/-- A DDR-5 burst is decoded (R452, R453), with the marked device of its group as erasures (R456). -/
def ddrRead (s : State) (n addr : Nat) (stored : Line) (e : BurstError) : EccOutcome × Line :=
  readDdr (markOf s n (dramGroup (dramAddr s n addr))) (markedMedia s n addr) stored e

/-- The outcome of a decode is counted and acted on (R455 to R459, R463): the new state and what the burst is worth. A MEDIA marker has
been read from then on. -/
def eccActs (s : State) (n addr finder : Nat) (recovered : Bool) (o : EccOutcome) : State × BurstRead :=
  match o with
  | .clean => (s, .good)
  | .marker media => if media then (clearMedia s n addr, .lost) else (s, .host)
  | .corrected dev =>
    let r := corrected s n addr dev
    (if r.2 then fenceCtl r.1 n 0x0C else r.1, .good)
  | .uncorrectable =>
    let r := uncorrected s n finder addr recovered
    (if r.2 then fenceCtl r.1 n (if n < 12 then 0x0C else 0x0D) else r.1, .lost)

/-- Is the line a queued access reads one the buddy holds? -/
def useRecovers (s : State) (u : MemUse) : Bool :=
  match u with
  | .homeRead key => ownKey s key && mirrorable s (keyPage key)
  | .blockFill k => mirrorable s (blockNo k / 4)
  | .nearRead key => ownKey s key && mirrorable s (keyPage key)
  | _ => false

/-- A media event record for the host's log (R464, R481): General Media for RLD, DRAM for DDR-5. -/
def logMedia (s : State) (dpa : Nat) (dram : Bool) : State := postEvent s 2 (.media dpa dram 0x0A)

/-- A line of a Plain page has been read (R461, R463, R464): good, and written back as it was corrected; poisoned by a HOST marker; or
lost. -/
def homeReturned (s : State) (n addr : Nat) (key : Nat) (res : ReturnResult) : State :=
  let line := keyLine key
  let e := res.errors.getD 0 0
  let o := ddrRead s n addr (sealLine s line (lineOrZero s line)) e
  let r := eccActs s n addr finderRead (useRecovers s (.homeRead key)) o.1
  match r.2 with
  | .good =>
    let r := (decrypted r.1 1, r.2)
    let s := if e = 0 then r.1 else writeLine r.1 line (openLine s line o.2)
    homeArrived s key (lineNow s line, linePoisoned s line)
  | .host => homeArrived (poisonOne r.1 line) key (0, true)
  | .lost =>
    let r := linesLost (logMedia r.1 (64 * line) true) (line / 64) (line % 64) 1
    if r.2 then r.1 else homeArrived r.1 key (0, true)

/-- The bursts of an access that holds `pods` are decoded in turn: what each is worth, and the pods as they were read. -/
def podsRead (s : State) (n addr : Nat) (recovered : Bool) (res : ReturnResult) (pods : List Line) :
    State × List (BurstRead × Line) :=
  pods.zipIdx.foldl (fun r x =>
    let a := addr + 64 * x.2
    let o := ddrRead r.1 n a x.1 (res.errors.getD x.2 0)
    let v := eccActs r.1 n a finderRead recovered o.1
    (v.1, r.2 ++ [(v.2, o.2)])) (s, [])

/-- A stored block has been read from DDR-5 (R198, R242, R243, R464). With a lost pod a compressed block is lost whole; a RAW block loses
the line of that pod. -/
def fillReturned (s : State) (n addr : Nat) (k : Nat) (res : ReturnResult) (label : Nat) : State :=
  let block := blockNo k
  let p := block / 4
  let b := block % 4
  let d := servedDesc s p
  let changed := res.errors.any (· != 0)
  let pods := if changed then linesOf (sealedBlock s p b (dBlen d b) (dPrimer d) (dKgen d)) else List.replicate (dBlen d b) 0
  let r := podsRead s n addr (useRecovers s (.blockFill k)) res pods
  let s := r.1
  let img := (r.2.map (fun x => lineBytes x.2)).flatten
  let lost := (r.2.zipIdx.filter (fun x => x.1.1 != .good)).map (·.2)
  if !lost.isEmpty then
    let s := logMedia s (1024 * block) true
    if mirrorable s p || dBlen d b != 16 then fillDone s block label none
    else fillDone (lost.foldl (fun s i => poisonOne s (16 * block + i)) s) block label
      (some (if changed then openImage s (pageDomain s p) (pageHome s p) p b (dKgen d) img else readBlock s block))
  else
    let v := localBlock s p b label res (if changed then some img else none)
    let s := if changed && v.2.1 == .good then writeBlock v.1 block v.2.2 else v.1
    fillRead s block label v.2.1 v.2.2

/-- A near-cache line has been read from RLD (R458, R459): its poison marker is delivered as poison. -/
def nearReturned (s : State) (n addr : Nat) (key : Nat) (res : ReturnResult) : State :=
  let l := (nearGet s key).getD ⟨0, false, false, .i, .i, false, false, false⟩
  let e := res.errors.getD 0 0
  let o := readRld l.poison l.data e
  let r := eccActs s n addr finderRead (useRecovers s (.nearRead key)) o.1
  let good := r.2 == .good || (r.2 == .host && l.poison)
  let s := if !good then loseNearLine r.1 key
    else if e = 0 || l.poison || !mhas r.1.coh.near (keyBlock key) then r.1
    else { r.1 with coh := { r.1.coh with near := mmod r.1.coh.near (keyBlock key) (fun b =>
      { b with lines := mmod b.lines (keyLine key % 16) (fun l => { l with data := o.2 }) }) } }
  if ownKey s key then
    match nearGet s key with
    | some l => if good || l.poison || !l.dirty then homeArrived s key (l.data, l.poison) else s
    | none => blockThere s (keyBlock key)
  else reqNearRead s key

/-- A pod this device holds for an owner has been read (R275, R465): a lost one is answered poisoned. -/
def podReturned (s : State) (n addr : Nat) (tag : Tag) (pod off vers label : Nat) (res : ReturnResult) : State :=
  let key := podKey (tagSource tag) pod
  let e := res.errors.getD 0 0
  let o := ddrRead s n addr (mgetD s.fab.lentPods key 0) e
  let r := eccActs s n addr finderRead false o.1
  if r.2 = .good then
    let s := if e = 0 then r.1 else { r.1 with fab := { r.1.fab with lentPods := mmod r.1.fab.lentPods key (fun _ => o.2) } }
    respondData s 1 tag label false false false false true vers off o.2
  else respondData r.1 1 tag label true false false false true vers off 0

/-- First line and number of lines of an area of each stack (R47): 0 directory, 1 near cache, 2 translation cache, 3 journal,
4 completed-request table. -/
def rldBase (s : State) (a : Nat) : Nat := s.img.restart.fld secRld a 0 * 16384
def rldSize (s : State) (a : Nat) : Nat := s.img.restart.fld secRld a 1 * 16384

/-- The area that holds a line of a stack. -/
def rldArea (s : State) (line : Nat) : Option Nat :=
  (List.range 5).find? (fun a => decide (rldBase s a ≤ line) && decide (line < rldBase s a + rldSize s a))

/-- The near-cache lines that a line of a stack's near-cache area holds. -/
def nearAt (s : State) (i line : Nat) : List Nat :=
  let keys := ((s.coh.near.filter (fun b => nearStack b.1 == i)).map (fun b =>
    b.2.lines.map (fun l => lineKey (blockOwner b.1) (blockNo b.1 * 16 + l.1)))).flatten
  keys.filter (fun k => nearLineAt k * 64 % 2 ^ 33 / 64 % max 1 (rldSize s 1) == line - rldBase s 1)

/-- What an uncorrectable RLD line held, by its area (R459). -/
def rldLost (s : State) (i line : Nat) : State :=
  match rldArea s line with
  | some 0 => loseSet s ((line - rldBase s 0) / 4 * 4 + i)
  | some 1 => (nearAt s i line).foldl loseNearLine s
  | some 2 => tcLineLost s i (line - rldBase s 2)
  | some 3 => raise s 0x1F6 0
  | some 4 => crtLineLost s i (rldSize s 4 / 2) (line - rldBase s 4)
  | _ => s

/-- Is what an RLD line held taken from a pair copy, or from the buddy (R459, R472)? -/
def rldRecovers (s : State) (i line : Nat) : Bool :=
  match rldArea s line with
  | some 1 => (nearAt s i line).any (fun k => ownKey s k && mirrorable s (keyPage k) && ((nearGet s k).any (·.dirty)))
  | some 3 => !channelOut s (12 + Nat.xor i 2)
  | some 4 => !channelOut s (12 + Nat.xor i 2)
  | _ => false

/-- A transfer of metadata through the META port has been read: its lines are held beside it in State, and only the outcome counts. An
RLD line that is lost takes what it held with it (R459). -/
def metaReturned (s : State) (n addr : Nat) (res : ReturnResult) : State :=
  let e := res.errors.getD 0 0
  let r := eccActs s n addr finderRead (decide (12 ≤ n) && rldRecovers s (n - 12) (addr / 64))
    (if n < 12 then ddrRead s n addr 0 e else readRld false 0 e).1
  if r.2 == .lost && decide (12 ≤ n) then rldLost r.1 (n - 12) (addr / 64) else r.1

/-- A memory read delivers its data. -/
def memDeliver (s : State) (n : Nat) (r : MemReq) (res : ReturnResult) : State :=
  match r.use with
  | .homeRead key => homeReturned s n r.addr key res
  | .homeWrite _ => s
  | .blockFill k => fillReturned s n r.addr k res r.label
  | .nearRead key => nearReturned s n r.addr key res
  | .podRead tag pod off vers label => podReturned s n r.addr tag pod off vers.toNat label res
  | .podWrite => s
  | .metadata => metaReturned s n r.addr res

/-- MEM_DATA_RETURN: the oldest issued read of a controller returns. -/
def memDataReturnBody (s : State) (n : Nat) (res : ReturnResult) : State :=
  match takeReturn s n with
  | none => s
  | some (r, s) => pump (memDeliver s n r res)

/-- All checks passed. -/
def cleanReturn : ReturnResult := ⟨[], true, true, .ok⟩

/-- MEM_ADMIT: a request enters the read or write queue (R426 to R431). A write takes effect at the queue; a read that meets a queued
write of its line is answered from it. -/
def memAdmitBody (s : State) (n : Nat) (write : Bool) : State :=
  match memAdmit s n write with
  | (s, none) => s
  | (s, some r) =>
    match r.use with
    | .homeWrite key => pump (homeWritten (clearMedia s n r.addr) key)
    | _ =>
      if !write && (ctl s n).wq.any (sameLine r) then
        pump (memDeliver (modCtl s n (fun c => { c with rq := c.rq.filter (fun x => x.id != r.id) })) n r cleanReturn)
      else s

/-- Does an RLD line hold the poison marker: a poisoned line of the near cache (R458, R463)? -/
def markedRld (s : State) (i line : Nat) : Bool :=
  rldArea s line == some 1 && (nearAt s i line).any (fun k => (nearGet s k).any (·.poison))

/-- A line read of the scrubber, under label 14 (R417, R460, R631). -/
def scrubRead (s : State) (n line : Nat) : State :=
  let b := bankOf s n (64 * line)
  let hit := mget (ctl s n).openRows b.1 == some b.2
  let s := { s with qos := { s.qos with bwm := mupd s.qos.bwm 14 0 (· + 64) } }
  countBurst (modCtl s n (fun c => { c with openRows := mset c.openRows b.1 b.2 })) n false hit

/-- The outcome of the decode of a scrubbed line. The codes are linear: it depends on the error, and on what marker the line holds, but
not on the data stored there, so the line of zeros stands for it. -/
def scrubOutcome (s : State) (n line : Nat) (e : BurstError) : EccOutcome :=
  if n < 12 then (ddrRead s n (64 * line) 0 e).1 else (readRld (markedRld s (n - 12) line) 0 e).1

/-- SCRUB_LINE (R460 to R463): a line of a pass is read; an uncorrectable DDR-5 line is marked MEDIA unless a write of it has entered
since. -/
def scrubLineBody (s : State) (n line : Nat) (e : BurstError) : State :=
  if !scrubRuns s n then s
  else
    let o := scrubOutcome s n line e
    let s := scrubRead (scrubStep s n) n line
    match o with
    | .clean => s
    | .marker _ => s
    | .corrected dev =>
      let r := corrected s n (64 * line) dev
      if r.2 then fenceCtl r.1 n 0x0C else r.1
    | .uncorrectable =>
      let r := uncorrected s n finderScrub (64 * line) (decide (12 ≤ n) && rldRecovers s (n - 12) line)
      let s := r.1
      let s :=
        if n < 12 then
          if (ctl s n).wq.any (fun w => w.addr / 64 == line) || markedMedia s n (64 * line) then s
          else { s with ecc := { s.ecc with media := (n, line) :: s.ecc.media } }
        else rldLost s (n - 12) line
      if r.2 then fenceCtl s n (if n < 12 then 0x0C else 0x0D) else s

/-- The address at which a line of an own page lies in DDR-5: of a Plain page its own, of a Packed block that of its pod where it is stored
RAW, otherwise of the block's first pod. -/
def pageLineAt (s : State) (p i : Nat) : Option Nat :=
  let d := servedDesc s p
  let b := i / 16
  if dTier d = tierPlain then some (4096 * dLoc d + 64 * i)
  else if dTier d = tierPacked ∧ dBlen d b ≠ 0 then some (64 * (dBlockLoc d b + (if dBlen d b = 16 then i % 16 else 0)))
  else none

/-- Lines of an own page that a MEDIA marker in its storage reaches: all 16 of a compressed block with a marked pod (R463, R464). -/
def pageMedia (s : State) (p : Nat) : BitVec 64 :=
  let d := servedDesc s p
  let at_ := fun (pa : Nat) => markedMedia s (paChannel s pa) (paChannelAddr s pa)
  if dTier d = tierPacked then
    BitVec.ofNat 64 (packF ((List.range 64).map (fun i =>
      let b := i / 16
      let n := dBlen d b
      (1, b2n (if n = 16 then at_ (64 * (dBlockLoc d b + i % 16))
        else (List.range n).any (fun k => at_ (64 * (dBlockLoc d b + k))))))))
  else BitVec.ofNat 64 (packF ((List.range 64).map (fun i => (1, b2n ((pageLineAt s p i).any at_)))))

/-- The MEDIA markers in an own page's storage have been read. -/
def clearPageMedia (s : State) (p : Nat) : State :=
  let d := servedDesc s p
  let pas := if dTier d = tierPacked then (List.range 4).flatMap (fun b => (List.range (dBlen d b)).map (fun k => 64 * (dBlockLoc d b + k)))
    else (List.range 64).filterMap (pageLineAt s p)
  pas.foldl (fun s pa => clearMedia s (paChannel s pa) (paChannelAddr s pa)) s

/-- MIGRATION_PASS_END: the pass has read the page's storage. Lines that could not be read are counted as uncorrectable and those of
unread MEDIA markers join them (R157, R461, R463, R472); then the pass ends (R152, R153). -/
def passEndBody (s : State) (p : Nat) (bad : BitVec 64) (decs : List (Nat × DecOutcome)) : State :=
  match mget s.chd.migs p with
  | none => s
  | some m =>
    if !passReady s p m then s
    else
      let media := pageMedia s p
      let pas := (((List.range 64).filter (fun i => bad.getLsbD i && !media.getLsbD i)).filterMap (pageLineAt s p)).eraseDups
      let s := pas.foldl (fun s pa => (uncorrected s (paChannel s pa) finderMigration (paChannelAddr s pa) (mirrorable s p)).1)
        (clearPageMedia s p)
      passEndMig s p (bad ||| media) decs

/-- One block of a PRIMER_EVAL has its result (R218, R493): with the last one the bytes are written and the command completes. -/
def evalResult (s : State) (src : CmdSrc) (i blen : Nat) : State :=
  match s.cmp.evals.find? (fun e => e.src == src) with
  | none => s
  | some e =>
    let e := { e with results := mset e.results i blen }
    let rest := s.cmp.evals.filter (fun x => x.src != src)
    if e.results.length < e.count then { s with cmp := { s.cmp with evals := e :: rest } }
    else
      let s := { s with cmp := { s.cmp with evals := rest } }
      let bytes := (List.range e.count).map (fun j => BitVec.ofNat 8 (mgetD e.results j 0))
      let s := emit s (.dma e.resultAddr bytes)
      completeCmd s src (if bytes.all (· == 16) then stNoGain else stOk) 0

/-- The results of a compression job go to what asked for it (R205). -/
def jobDone (s : State) (j : Job) : State :=
  let blen := storedBlen (j.got.getD 0 16)
  match j.use with
  | .evict k => evictDone s k j blen
  | .migrate p b => migResult s p b j
  | .populate p b => populated' s p b (max 1 blen) j
  | .eval src i => evalResult s src i (j.got.getD 0 16)
  | .copy k b => copyResult s k b j

/-- COMPRESSION_RESULT: a compressor lane ends its block (R211, R215); a lane that is free takes its next job. -/
def compressionResultBody (s : State) (lane : Nat) (shadowOk : Bool) : State :=
  let r := laneEnd s lane shadowOk
  match r.2 with
  | none => r.1
  | some j => pump (jobDone (runLanes r.1) j)

/-- LANE_TIMEOUT (R659): no result 1 µs after a lane took a block. Its job goes to another lane, and the lane is fenced. -/
def laneTimeoutBody (s : State) (decompressor : Bool) (i : Nat) : State :=
  if decompressor then (if mhas s.cmp.dLanes i then pump (fenceDLane s i) else s)
  else if mhas s.cmp.lanes i then fenceCLane s i else s

end Sys2Proof.Machine
end

