-- ==== Sys2Proof/Machine/Operands.lean ====
section
/-! DEFINITION. Operand forms: command entries (14: R489, R492) and mailbox payloads (14: R482, R485). -/

namespace Sys2Proof.Machine

/-- A field of a command entry: `n` bytes from an offset (R489). -/
def entryNat (e : Line) (off n : Nat) : Nat := e.toNat / 2 ^ (8 * off) % 2 ^ (8 * n)

/-- Command opcodes (R492). -/
def opExtentAdd : Nat := 1
def opShareGrant : Nat := 2
def opShareRevoke : Nat := 3
def opPlaceHint : Nat := 4
def opAtomic : Nat := 5
def opKeyRotate : Nat := 6
def opPrimerEval : Nat := 7

/-- Byte ranges of an entry that its opcode uses, from offset 8 (R492). -/
def entryUsed (op : Nat) : List (Nat × Nat) :=
  match op with
  | 1 => [(0x08, 8), (0x10, 4), (0x14, 1), (0x15, 1), (0x16, 2), (0x18, 4), (0x20, 16)]
  | 2 => [(0x08, 8), (0x10, 4), (0x14, 2)]
  | 3 => [(0x08, 4)]
  | 4 => [(0x08, 8), (0x10, 4), (0x14, 1)]
  | 5 => [(0x08, 8), (0x10, 1), (0x11, 1), (0x18, 8), (0x20, 32)]
  | 6 => [(0x08, 2)]
  | 7 => [(0x08, 8), (0x10, 8), (0x18, 2), (0x1A, 1)]
  | _ => []

/-- Is an entry well formed: a known opcode, no flag but fence, reserved bytes and bits 0 (R489)? -/
def entryValid (e : Line) : Bool :=
  let op := entryNat e 0 1
  let used := entryUsed op
  decide (1 ≤ op) && decide (op ≤ 7) && decide (entryNat e 1 1 < 2) && decide (entryNat e 4 4 = 0) &&
    (List.range 56).all (fun i => used.any (fun u => decide (u.1 ≤ 8 + i) && decide (8 + i < u.1 + u.2)) || decide (entryNat e (8 + i) 1 = 0)) &&
    (decide (op ≠ 1) || decide (entryNat e 0x15 1 < 4))

/-- The page-aligned base and other fields of QUEUE_CREATE's payload (R485). -/
structure QueueArgs where
  qid : Nat
  vector : Nat
  sqEntries : Nat
  sqBase : Nat
  cqEntries : Nat
  cls : Nat
  cqBase : Nat
  rsv : Bool
deriving DecidableEq, Repr

/-- Read QUEUE_CREATE's payload. -/
def queueArgs (b : List Byte) : QueueArgs :=
  ⟨field b 0 2, field b 2 2, field b 4 4, field b 8 8, field b 0x10 4, field b 0x14 1, field b 0x18 8, !allZero b 0x15 3⟩

end Sys2Proof.Machine
end

