-- ==== Sys2Proof/Machine/Extents.lean ====
section
/-! DEFINITION. Extents: adding, accepting and releasing them (03: R74 to R79, R96 to R104), and sharing grants (14: R494). -/

namespace Sys2Proof.Machine

/-- A region's record: base and size in 2 MiB units, max_extents, log2 of the block size (R44, R71). -/
structure Region where
  base : Nat
  size : Nat
  maxExtents : Nat
  block : Nat
deriving DecidableEq, Repr

/-- A defined region; `block` is its block size in 2 MiB units. -/
def regionOf (s : State) (n : Nat) : Option Region :=
  if n < 8 then (s.img.active.rcd secWindow n).map (fun r => ⟨r.getD 0 0, r.getD 1 0, r.getD 2 0, 2 ^ (r.getD 3 21 - 21)⟩) else none

/-- The attributes a tag resolves to (R75). -/
def resolveTag (s : State) (tag : BitVec 128) : Option Attrs :=
  (s.img.active.tagIndex tag).map (fun k =>
    let f := s.img.active.fld secTags k
    ⟨f 1, f 2, f 3 == 1, f 4, f 5⟩)

/-- Does a range overlap an extent, accepted or pending (R74)? DESIGN CHOICE (log 136): an extent still being reserved, or being
released, counts too; the rule names accepted and pending ones. -/
def extentOverlap (s : State) (a n : Nat) : Bool :=
  s.chd.extents.any (fun e => decide (a < e.2.dpa2m + e.2.len2m) && decide (e.2.dpa2m < a + n))

/-- A free range of a length in a region, for "any" (R96). Which one is open: a FREE VALUE (assumption 14). -/
def findRange (s : State) (r : Region) (n : Nat) : Option Nat :=
  let up := fun (a : Nat) => r.base + ceilDiv (a - r.base) r.block * r.block
  let h := up (r.base + choice s 0 r.size)
  let far := fun (a : Nat) => (a + r.size - h) % max 1 r.size
  bestOf (fun a b => decide (far a < far b)) ((h :: r.base :: s.chd.extents.map (fun e => up (e.2.dpa2m + e.2.len2m))).filter
    (fun a => decide (r.base ≤ a) && decide (a + n ≤ r.base + r.size) && !extentOverlap s a n))

/-- The number of extents a region holds. -/
def regionExtents (s : State) (n : Nat) : Nat := (s.chd.extents.filter (fun e => e.2.region == n)).length

/-- The fields of an EXTENT_ADD entry (R492). -/
structure AddArgs where
  dpa : Nat
  len : Nat
  region : Nat
  any : Bool
  shared : Bool
  owner : Nat
  grant : Nat
  tag : BitVec 128
deriving DecidableEq, Repr

/-- Read an EXTENT_ADD entry. -/
def addArgs (e : Line) : AddArgs :=
  ⟨entryNat e 8 8, entryNat e 0x10 4, entryNat e 0x14 1, nbit (entryNat e 0x15 1) 0, nbit (entryNat e 0x15 1) 1, entryNat e 0x16 2,
    entryNat e 0x18 4, BitVec.ofNat 128 (entryNat e 0x20 16)⟩

/-- Does a grant of an owner cover a shared extent's range for this node (R77, R96)? -/
def grantHeld (a : AddArgs) : Option Nat :=
  match Config.grantAt a.owner a.grant with
  | some (base, n) => if a.len ≤ n then some base else none
  | none => none

/-- Metadata frames a new extent needs (R80). -/
def metaFrames (len : Nat) (tags : Bool) : Nat := ceilDiv (len * 512 * (if tags then 57 else 25)) 2097152 * 512

/-- Metadata frames that an extent needs beyond its other tables for tag tables (R80, R81). -/
def tagFrames (e : Extent) : Nat := metaFrames e.len2m true - metaFrames e.len2m false

/-- The first failing check of EXTENT_ADD (R96), or the start of the range. -/
def addCheck (s : State) (a : AddArgs) : Except Nat Nat :=
  match regionOf s a.region with
  | none => .error stInvalid
  | some r =>
    let start := a.dpa / 2097152
    if a.len = 0 ∨ a.len % r.block ≠ 0 ∨ (!a.shared && (a.owner != 0 || a.grant != 0)) then .error stInvalid
    else if !a.any && (a.dpa % 2097152 != 0 || decide (start < r.base) || (start - r.base) % r.block != 0 || extentOverlap s start a.len) then
      .error stInvalid
    else if 524288 < a.len ∨ (!a.any && decide (r.base + r.size < start + a.len)) then .error stLength
    else match resolveTag s a.tag with
      | none => .error stNotInImage
      | some t =>
        let place := if a.any then findRange s r a.len else some start
        if (a.shared && (grantHeld a).isNone) || (!a.shared && domainSource s t.domain == 2 && (domKeys s t.domain).cur.isNone) then
          .error stDenied
        else if r.maxExtents ≤ regionExtents s a.region || place.isNone ||
            (!a.shared && decide (framesF s < metaFrames a.len (domainInteg s t.domain))) then .error stNoSpace
        else if (!a.shared && t.mirrored && (!((myBuddy s).any (inService s)) || s.sec.pairing != .confirmed)) || s.img.stage == .verifying then .error stBusyRetry
        else .ok (place.getD start)

/-- Give a domain of generated keys its first generation, where it has none (R232, R233); an owner's keys come by KEY_SUPPLY. -/
def ensureDomain (s : State) (d : Nat) : State :=
  let k := domKeys s d
  if k.cur.isSome || domainSource s d == 2 then s
  else
    let s := setDom s d { k with cur := some (Config.keyValues s.xts.nextKey) }
    { s with xts := { s.xts with nextKey := s.xts.nextKey + 1 } }

/-- A domain needs keys as soon as an EXTENT_TAGS record names it (R233). -/
def taggedDomains (s : State) : State :=
  (s.img.active.tagKeys.map (fun k => s.img.active.fld secTags k 2)).foldl ensureDomain s

/-- An extent's entry. -/
def extentEnt (s : State) (i : Nat) : Option Extent := mget s.chd.extents i

/-- Change an extent's entry. -/
def modExtent (s : State) (i : Nat) (f : Extent → Extent) : State :=
  { s with chd := { s.chd with extents := mmod s.chd.extents i f } }

/-- An EXTENT_ADD or EXTENT_RELEASE record (R161): the DPA and the length in 2 MiB units. It is needed until its change stands in
the metadata store (R163). -/
def extentRec (s : State) (type i : Nat) (e : Extent) (b : BitVec 128) : State :=
  let seq := s.chd.ring0.nextSeq
  let s := jwrite s 0 { plainRec type (BitVec.ofNat 128 (e.dpa2m * 2097152 + 2 ^ 64 * e.len2m)) b with extent := BitVec.ofNat 16 i }
  { s with chd := { s.chd with extPending := s.chd.extPending ++ [seq] } }

/-- Offer an extent to the host (R97 step 5): the event record is posted and the command completes with the DPA. -/
def offerExtent (s : State) (i : Nat) (src : CmdSrc) : State :=
  match extentEnt s i with
  | none => s
  | some e =>
    let s := modExtent s i (fun e => { e with state := .pending })
    let s := extentRec s recExtentAdd i e e.tag
    let s := postEvent s 4 (.addCapacity (e.dpa2m * 2097152) (e.len2m * 2097152) e.tag e.region)
    completeCmd s src stOk (e.dpa2m * 2097152)

/-- Remove an extent's entry; its metadata is freed with it. -/
def dropExtent (s : State) (i : Nat) : State :=
  reserveChanged { s with chd := { s.chd with extents := mdel s.chd.extents i } }

/-- Give back a reservation made at the buddy for an extent (R97, R664). -/
def unreserve (s : State) (i len : Nat) : State :=
  match myBuddy s with
  | some b => openTx s 5 (mirrorCtl b 2 i 0 len 14) (.unreserve i)
  | none => s

/-- Is an extent index free: no extent has it, nor is named by it? -/
def indexFree (s : State) (i : Nat) : Bool := !mhas s.chd.extents i && !s.chd.extents.any (fun e => e.2.mext == i)

/-- Does a record that a ring still holds name an extent index? -/
def indexNamed (s : State) (i : Nat) : Bool :=
  s.chd.ring0.recs.any (fun r => r.extent.toNat == i) || s.chd.ring1.recs.any (fun r => r.extent.toNat == i)

/-- A free extent index, one that no record in the journal names where there is such. Which one is open: a FREE VALUE (assumption
14). -/
def freeIndex (s : State) : Option Nat :=
  let n := 2 * s.chd.extents.length + 1
  match firstRound (fun i => indexFree s i && !indexNamed s i) 0 65536 (choice s 1 65536) (n + s.chd.ring0.recs.length + s.chd.ring1.recs.length) with
  | some i => some i
  | none => firstRound (indexFree s) 0 65536 (choice s 1 65536) n

/-- EXTENT_ADD (R96, R97). -/
def extentAddBody (s : State) (src : CmdSrc) (entry : Line) : State :=
  let a := addArgs entry
  match addCheck s a with
  | .error st => completeCmd s src st 0
  | .ok start =>
    match freeIndex s, resolveTag s a.tag with
    | some i, some t =>
      let ref : Option SharedRef := if a.shared then some ⟨BitVec.ofNat 12 a.owner, BitVec.ofNat 32 a.grant, (grantHeld a).getD 0⟩ else none
      let e : Extent := {
        dpa2m := start
        len2m := a.len
        region := a.region
        tag := a.tag
        attrs := t
        shared := ref
        state := .reserving src
        tagTables := !a.shared && domainInteg s t.domain
        tagWait := false
        home := BitVec.ofNat 12 (myNode s)
        mext := i
        mbase := start }
      let s := reserveChanged { chosen s 2 with chd := { s.chd with extents := mset s.chd.extents i e } }
      let s := if a.shared then s else ensureDomain s t.domain
      (match a.shared || !t.mirrored, myBuddy s with
       | false, some b => openTx s 5 (mirrorCtl b 1 i 0 a.len 14) (.reserve i)
       | _, _ => offerExtent s i src)
    | _, _ => completeCmd s src stNoSpace 0

/-- An EXTENT_ADD whose buddy refused or did not confirm (R97): nothing is offered, event 0x1FA. -/
def addFailed (s : State) (i status : Nat) : State :=
  match extentEnt s i with
  | some e =>
    (match e.state with
     | .reserving src => completeCmd (raise (unreserve (dropExtent s i) i e.len2m) 0x1FA 0) src status 0
     | _ => s)
  | none => s

/-- The buddy's answer to RESERVE (R97 step 4, R664). -/
def reserveAnswered (s : State) (i status : Nat) : State :=
  match extentEnt s i with
  | some e =>
    (match e.state with
     | .reserving src => if status = 0 then offerExtent s i src else addFailed s i stNoSpace
     | _ => s)
  | none => s

/-- The extent that starts at a window offset. -/
def extentFrom (s : State) (dpa : Nat) : Option (Nat × Extent) := s.chd.extents.find? (fun e => e.2.dpa2m * 2097152 == dpa)

/-- EXTENT_ADD_BUDDY_TIMEOUT (R97). -/
def extentAddBuddyTimeoutBody (s : State) (dpa : Nat) : State :=
  match extentFrom s dpa with
  | some (i, _) =>
    let open_ := (s.e2e.txs.filter (fun x => x.2.purpose == Purpose.reserve i)).map (·.1)
    addFailed (open_.foldl closeTx s) i stBusyRetry
  | none => s

/-- The phases of a release (R99 steps 4 to 6, R161). -/
def releasePhase (s : State) (i phase : Nat) (e : Extent) : State := extentRec s recExtentRelease i e (BitVec.ofNat 128 phase)

/-- Free a pending extent that the host declined or a reset withdrew (R97, R98, R99). DESIGN CHOICE (log 137): one that a device
reset finds still being reserved is withdrawn likewise; it has no record that could be released. -/
def withdrawExtent (s : State) (i : Nat) : State :=
  match extentEnt s i with
  | some e =>
    let s := if e.state = .pending then releasePhase s i 6 e else s
    if e.attrs.mirrored && e.shared.isNone then unreserve (dropExtent s i) i e.len2m else dropExtent s i
  | none => s

/-- Is an extent pending? -/
def isPending (e : Extent) : Bool := e.state == .pending

/-- ADD_DYNAMIC_CAPACITY_RESPONSE (R97 step 6): each range accepted must be a pending extent; with none, a pending extent is
declined. Which one, where several are pending, is open: a FREE VALUE (assumption 14). -/
def addResponseBody (s : State) (ranges : List (BitVec 64 × BitVec 64)) : State :=
  let hit := fun (r : BitVec 64 × BitVec 64) (e : Extent) =>
    isPending e && e.dpa2m * 2097152 == r.1.toNat && e.len2m * 2097152 == r.2.toNat
  if ranges.isEmpty then
    let ps := s.chd.extents.filter (fun e => isPending e.2)
    match ps[choice s 0 ps.length]? with
    | some (i, _) => mbReply (withdrawExtent (chosen s 1) i) .ok
    | none => mbReply s .invalidInput
  else if ranges.all (fun r => s.chd.extents.any (fun e => hit r e.2)) then
    let acc := fun (_ : Nat) (e : Extent) => if ranges.any (fun r => hit r e) then { e with state := .accepted } else e
    mbReply { s with chd := { s.chd with extents := mmap s.chd.extents acc } } .ok
  else mbReply s .invalidInput

/-- Does a grant cover any part of a range of this device's window (R79)? -/
def granted (s : State) (a n : Nat) : Bool :=
  s.host.grants.any (fun g => decide (a < g.2.dpa2m + g.2.len2m) && decide (g.2.dpa2m < a + n))

/-- The extent of which a range of 2 MiB units is a whole or a part on block boundaries (R99). -/
def releaseOf (s : State) (a n : Nat) : Option (Nat × Extent) :=
  s.chd.extents.find? (fun e => e.2.state == .accepted && decide (e.2.dpa2m ≤ a) && decide (a + n ≤ e.2.dpa2m + e.2.len2m) && decide (n ≠ 0) &&
    (match regionOf s e.2.region with
     | some r => (a - r.base) % r.block == 0 && n % r.block == 0
     | none => false))

/-- Extents a release of part of one leaves beyond the one there was. -/
def splitParts (e : Extent) (a n : Nat) : Nat := b2n (decide (e.dpa2m < a)) + b2n (decide (a + n < e.dpa2m + e.len2m))

/-- The status a release of one range meets before any effect (R99). -/
def releaseCheck (s : State) (dpa len : Nat) : Nat :=
  let a := dpa / 2097152
  let n := len / 2097152
  if dpa % 2097152 ≠ 0 ∨ len % 2097152 ≠ 0 then stInvalid
  else match releaseOf s a n with
    | none => stInvalid
    | some (_, e) =>
      let room := ((regionOf s e.region).map (·.maxExtents)).getD 0
      if room < regionExtents s e.region - 1 + splitParts e a n then stNoSpace
      else if e.shared.isNone && granted s e.dpa2m e.len2m then stBusyRetry
      else stOk

/-- A part of an extent as an extent of its own. -/
def extentPart (e : Extent) (a n : Nat) : Extent :=
  { e with dpa2m := a, len2m := n, shared := e.shared.map (fun r => { r with ownerDpa2m := r.ownerDpa2m + (a - e.dpa2m) }) }

/-- The open migrations of a range of 2 MiB units. -/
def migsIn (s : State) (a n : Nat) : List Nat := (mkeys s.chd.migs).filter (fun p => decide (a ≤ p / 512) && decide (p / 512 < a + n))

/-- The release point of a range (R99 steps 1 and 2): open migrations of its pages are aborted, but one whose freeze has begun
commits (R156); the range becomes an extent of its own that is being released, the rest keeps its tag. -/
def releasePoint (s : State) (dpa len : Nat) : State :=
  let a := dpa / 2097152
  let n := len / 2097152
  match releaseOf s a n with
  | none => s
  | some (i, e) =>
    let fresh := fun (s : State) => (freeIndex s).getD 0
    let put := fun (s : State) (i : Nat) (x : Extent) => { s with chd := { s.chd with extents := mset s.chd.extents i x } }
    let s := (migsIn s a n).foldl stopMig s
    let s := put s i { extentPart e a n with state := .releasing }
    let s := if e.dpa2m < a then put s (fresh s) (extentPart e e.dpa2m (a - e.dpa2m)) else s
    if a + n < e.dpa2m + e.len2m then put s (fresh s) (extentPart e (a + n) (e.dpa2m + e.len2m - (a + n))) else s

/-- RELEASE_DYNAMIC_CAPACITY (R99): every range is checked before any is released. The answer follows with RELEASE_RESPONSE. -/
def releaseBody (s : State) (ranges : List (BitVec 64 × BitVec 64)) : State :=
  match (ranges.map (fun r => releaseCheck s r.1.toNat r.2.toNat)).find? (· != stOk) with
  | some st => mbReply s (if st = stBusyRetry then .retryRequired else .invalidInput)
  | none => ranges.foldl (fun s r => releasePoint s r.1.toNat r.2.toNat) s

/-- Does a request taken before a release point still run in an extent that is being released (R99 step 3): it waits, is in
progress at this device or at the owner of a shared extent, or its line is in the writeback sink? A migration that was frozen at
the release point, and a rewrite of a page's pods, end first. -/
def rangeBusy (s : State) (e : Extent) : Bool :=
  let a := e.dpa2m
  let n := e.len2m
  let owner := (e.shared.map (fun r => (r.owner.toNat, r.ownerDpa2m))).getD (myNode s, a)
  let inside := fun (key : Nat) =>
    decide (keyOwner key = owner.1) && decide (owner.2 ≤ keyLine key / 32768) && decide (keyLine key / 32768 < owner.2 + n)
  let pageIn := fun (p : Nat) => decide (a ≤ p / 512) && decide (p / 512 < a + n)
  s.coh.waitHost.any (fun x => pageIn (x.1.toNat / 4096)) ||
    (if e.shared.isSome then s.coh.reqs.any (fun x => inside x.1 && (x.2.stage != .evicting || !x.2.work.isEmpty))
     else s.coh.txs.any (fun x => inside x.1) || s.coh.pend.any (fun x => inside x.key) || s.coh.sink.any (fun x => inside x.key) ||
       !(migsIn s a n).isEmpty || s.chd.evicts.any (fun x => pageIn x.1))

/-- Release one page (R99 steps 4 and 5): its storage and its buddy's copy are freed, its ledger entry removed, its lines leave the
near cache and the directory. -/
def releasePage (s : State) (p : Nat) (ext pg : Nat) (mirrored : Bool) : State :=
  let d := (page s p).desc
  let s := freeStorage s p (dTier d) d
  let s := if mirrored && dMirror d then mirrorFree s ext pg 1 else s
  let s := if dNamesPrimer d then primerFreed (setPage s p Page.zero) (dPrimer d) else setPage s p Page.zero
  let s := ledgerDrop (clearPage s p) p
  let me := myNode s
  { s with
    coh := { s.coh with
      near := mfilter s.coh.near (fun k _ => !(blockOwner k == me && blockNo k / 4 == p))
      dir := mfilter s.coh.dir (fun k _ => !(keyOwner k == me && keyLine k / 64 == p)) }
    chd := { s.chd with
      cands := s.chd.cands.filter (fun c => c.2.toNat != p)
      resync := s.chd.resync.filter (fun q => q.toNat != p)
      refold := s.chd.refold.filter (fun q => q.toNat != p)
      pageDom := mdel s.chd.pageDom p } }

/-- The lines of a shared extent leave the near cache when it is released at the grantee: each is evicted (R79, R253). -/
def leaveShared (s : State) (e : Extent) : State :=
  match e.shared with
  | none => s
  | some r =>
    let o := r.owner.toNat
    let lo := r.ownerDpa2m * 32768
    let keys := ((s.coh.near.filter (fun b => blockOwner b.1 == o)).map (fun b =>
      b.2.lines.map (fun l => lineKey o (blockNo b.1 * 16 + l.1)))).flatten
    (keys.filter (fun k => decide (lo ≤ keyLine k) && decide (keyLine k < lo + e.len2m * 32768) && !mhas s.coh.reqs k)).foldl
      (fun s k => evictFirst s k []) s

/-- The listed pages of an extent. -/
def listedPages (s : State) (e : Extent) : List Nat :=
  (mkeys s.chd.pages).filter (fun p => decide (e.dpa2m ≤ p / 512) && decide (p / 512 < e.dpa2m + e.len2m))

/-- A shared extent is gone at the grantee: with the last one of its grant, the owner is told so (R79). -/
def dropShared (s : State) (i : Nat) (e : Extent) : State :=
  let s := dropExtent (leaveShared s e) i
  match e.shared with
  | none => s
  | some r =>
    if s.chd.extents.any (fun x => match x.2.shared with
      | some q => q.owner == r.owner && q.grantId == r.grantId
      | none => false) then s
    else emit s (.grantReturned r.owner r.grantId)

/-- The descriptor table of an extent is gone, and its lines in the translation cache with it. -/
def tcForget (s : State) (e : Extent) : State :=
  { s with chd := { s.chd with tc := mfilter s.chd.tc (fun q _ => !(decide (e.dpa2m ≤ q / 128) && decide (q / 128 < e.dpa2m + e.len2m))) } }

/-- Steps 4 to 6 of a release (R99, R161): each phase is journaled as it begins; storage, then the pods at holders and the copies at
the buddy, then the metadata are freed. -/
def finishRelease (s : State) (i : Nat) (e : Extent) : State :=
  if e.shared.isSome then dropShared (releasePhase s i 6 e) i e
  else
    let s := releasePhase s i 4 e
    let ps := listedPages s e
    let remote := fun (p : Nat) => dTier (page s p).desc == tierRemote
    let free := fun (s : State) (p : Nat) => releasePage s p e.mext (p - e.mbase * 512) e.attrs.mirrored
    let s := (ps.filter (fun p => !remote p)).foldl free s
    let s := (ps.filter remote).foldl free (releasePhase s i 5 e)
    let s := tcForget (releasePhase s i 6 e) e
    let alone := !s.chd.extents.any (fun x => x.1 != i && x.2.mext == e.mext)
    let s := if e.attrs.mirrored && alone then unreserve s e.mext e.len2m else s
    retireKey (dropExtent s i) e.attrs.domain

/-- The extents that are being released. -/
def releasing (s : State) : List (Nat × Extent) := s.chd.extents.filter (fun e => e.2.state == .releasing)

/-- RELEASE_RESPONSE (R99 steps 3 to 6): once the requests taken before the release point have completed, the response goes out, and
the release of every range of the command is journaled and done. -/
def releaseResponseBody (s : State) (dpa : Nat) : State :=
  let rs := releasing s
  if !rs.any (fun e => e.2.dpa2m * 2097152 == dpa) || rs.any (fun e => rangeBusy s e.2) then s
  else rs.foldl (fun s e => finishRelease s e.1 e.2) (mbReply s .ok)

/-- A device reset between a release point and its response: the release is not journaled, so the extent is accepted again, whole.
DESIGN CHOICE (log 138): the rules say what a reset does with the steps after the response. -/
def unrelease (s : State) (i : Nat) : State :=
  match extentEnt s i with
  | none => s
  | some e =>
    let parts := s.chd.extents.filter (fun x => x.2.mext == e.mext && x.1 != i && x.2.state == .accepted &&
      (decide (x.2.dpa2m + x.2.len2m = e.dpa2m) || decide (e.dpa2m + e.len2m = x.2.dpa2m)))
    let lo := (parts.map (fun x => x.2.dpa2m)).foldl min e.dpa2m
    let len := e.len2m + (parts.map (fun x => x.2.len2m)).sum
    let whole := { e with
      dpa2m := lo
      len2m := len
      state := .accepted
      shared := e.shared.map (fun r => { r with ownerDpa2m := r.ownerDpa2m - (e.dpa2m - lo) }) }
    { s with chd := { s.chd with extents := mset (parts.foldl (fun m x => mdel m x.1) s.chd.extents) i whole } }

/-- CHD_EXTENTS.extent_count: accepted and pending extents (R101). -/
def extentCount (es : List (Nat × Extent)) : Nat := (es.filter (fun e => e.2.state == .accepted || e.2.state == .pending)).length

/-- The grant number after another: 1 to 4,294,967,295 (R492). -/
def nextGrantId (id : BitVec 32) : BitVec 32 := if id = 0xFFFFFFFF then 1 else id + 1

/-- The next grant number that no grant bears. At most 4,096 grants exist, so as many trials find one (R494). -/
def freeGrant (s : State) : Nat → BitVec 32 → BitVec 32
  | 0, id => id
  | n + 1, id => if mhas s.host.grants id.toNat then freeGrant s n (nextGrantId id) else id

/-- SHARE_GRANT (R79, R494). -/
def shareGrantBody (s : State) (src : CmdSrc) (entry : Line) : State :=
  let dpa := entryNat entry 8 8
  let len := entryNat entry 0x10 4
  let n := entryNat entry 0x14 2
  let a := dpa / 2097152
  match extentOf s dpa with
  | none => completeCmd s src stInvalid 0
  | some (_, e) =>
    let block := ((regionOf s e.region).map (·.block)).getD 1
    if len = 0 ∨ dpa % (2097152 * block) ≠ 0 ∨ n = myNode s ∨ 4096 ≤ n ∨ !populated s n ∨ e.shared.isSome ∨
        s.host.grants.any (fun g => g.2.grantee.toNat == n && decide (a < g.2.dpa2m + g.2.len2m) && decide (g.2.dpa2m < a + len)) then
      completeCmd s src stInvalid 0
    else if e.dpa2m + e.len2m < a + len then completeCmd s src stLength 0
    else if 4096 ≤ s.host.grants.length then completeCmd s src stNoSpace 0
    else
      let id := freeGrant s 4096 s.host.nextGrant
      let s := { s with host := { s.host with
        grants := mset s.host.grants id.toNat ⟨a, len, BitVec.ofNat 12 n, false⟩
        nextGrant := nextGrantId id } }
      completeCmd s src stOk id.toNat

/-- A grant ends, with event 0x264 (R79, R494). -/
def grantEnds (s : State) (id : Nat) : State :=
  if mhas s.host.grants id then raise { s with host := { s.host with grants := mdel s.host.grants id } } 0x264 0 else s

/-- SHARE_REVOKE (R79, R494): the revocation is sent to the grantee. -/
def shareRevokeBody (s : State) (src : CmdSrc) (entry : Line) : State :=
  let id := entryNat entry 8 4
  match mget s.host.grants id with
  | none => completeCmd s src stInvalid 0
  | some g =>
    if g.revoking then completeCmd s src stInvalid 0
    else
      let s := { s with host := { s.host with grants := mset s.host.grants id { g with revoking := true } } }
      completeCmd (emit s (.grantRevoked g.grantee (BitVec.ofNat 32 id))) src stOk 0

/-- REVOCATION_AT_GRANTEE (R79): the host is asked to release the shared extents of the grant. With this device itself as the owner
it is the grantee's word that its release has completed, and the grant ends: DESIGN CHOICE (log 139), the manual names no message for
either. -/
def revocationBody (s : State) (owner grant : Nat) : State :=
  if owner = myNode s then grantEnds s grant
  else
  let es := s.chd.extents.filter (fun e => match e.2.shared with
    | some r => r.owner.toNat == owner && r.grantId.toNat == grant && (e.2.state == .accepted || e.2.state == .pending)
    | none => false)
  es.foldl (fun s e => postEvent s 4 (.releaseCapacity (e.2.dpa2m * 2097152) (e.2.len2m * 2097152) e.2.tag e.2.region)) s

/-- Membership declares a grantee failed: its grants end (R79). -/
def granteeFailed (s : State) (n : Nat) : State :=
  ((s.host.grants.filter (fun g => g.2.grantee.toNat == n)).map (·.1)).foldl grantEnds s

/-- The extents of this device's Mirrored regions that it no longer has are restored from its buddy with their tags, as accepted
extents (R98, R176). What the buddy restores is a FREE VALUE. -/
def restoreExtents (s : State) : State :=
  (List.range 65536).foldl (fun s i => match Config.extentHeld (myNode s) i with
    | none => s
    | some (start, len, region, tag) => match resolveTag s tag with
      | some t =>
        if mhas s.chd.extents i || extentOverlap s start len then s
        else { s with chd := { s.chd with extents := mset s.chd.extents i {
          dpa2m := start
          len2m := len
          region := region
          tag := tag
          attrs := t
          shared := none
          state := .accepted
          tagTables := domainInteg s t.domain
          tagWait := false
          home := BitVec.ofNat 12 (myNode s)
          mext := i
          mbase := start } } }
      | none => s) s

/-- The former content of a page of a returned owner is discarded (R176): it is unpopulated. -/
def discardPage (s : State) (p : Nat) : State :=
  let s := abortMig s p
  let d := (page s p).desc
  let s := freeStorage s p (dTier d) d
  let new := mkDesc tierNone false 0 false false (dPin d) false 0 0 0 (dVers d + 1)
  let s := primerMoved (descSet s p new) d new
  let s := modPage (clearPage s p) p (fun x => { x with poison := 0, tags := 0 })
  { s with
    coh := { s.coh with near := mfilter s.coh.near (fun k _ => !(blockOwner k == myNode s && blockNo k / 4 == p)) }
    chd := { s.chd with pageDom := mdel s.chd.pageDom p } }

/-- A page that the buddy has sent back takes the place of the discarded one. -/
def takeCopy (s : State) (k : Nat) : State :=
  match extentNamed s (copyExt k) (copyPg k) with
  | none => s
  | some p => match populateFrame s p with
    | none => spaceWait s
    | some s =>
      dropCopy ((List.range 64).foldl (fun s i => placeLine s (64 * p + i) (readCopyLine s k i)) s) k

/-- The regions of this device's Mirrored extents, as a mask (R161). -/
def mirroredMask (s : State) : Nat :=
  (((List.range 8).filter (fun r => s.chd.extents.any (fun e => e.2.attrs.mirrored && e.2.region == r))).map (fun r => 2 ^ r)).sum

/-- A returned owner takes its regions back (R176): its extents are restored, its former copies discarded, and what its buddy sent
takes their place; it brings the buddy up to date. -/
def takeBack (s : State) : State :=
  match s.chd.ownedAway with
  | none => s
  | some b =>
    let s := restoreExtents s
    let former := (s.chd.pages.filter (fun x => mirroredExtent s x.1 && dTier x.2.desc != tierNone)).map (·.1)
    let s := former.foldl discardPage s
    let s := ((mkeys s.chd.copies).filter (fun k => copyOwner k == b.toNat)).foldl takeCopy s
    let s := ownerRec s (myNode s) (myNode s) (mirroredMask s)
    let s := { s with chd := { s.chd with ownedAway := none } }
    if inService s b.toNat then buddyBack s else s

end Sys2Proof.Machine
end

