-- ==== Sys2Proof/Machine/Commands.lean ====
section
/-! DEFINITION. Command queues and commands (14: R485 to R495), placement hints (04: R142 to R144), key rotation (07: R236 to R238)
and primer evaluation (06: R218). -/

namespace Sys2Proof.Machine

/-- A taken entry whose command runs: the queue and the entry. -/
def takenOf (s : State) (qid cid : Nat) : Option (Queue × Taken) :=
  (mget s.host.queues qid).bind (fun q =>
    (q.taken.find? (fun t => t.done.isNone && entryNat t.entry 2 2 == cid)).map (fun t => (q, t)))

/-- Does a fence hold an entry back: an earlier entry of its queue has not completed (R488)? -/
def fenceHolds (s : State) (src : CmdSrc) (entry : Line) : Bool :=
  match src with
  | .mailbox => false
  | .queue qid cid =>
    nbit (entryNat entry 1 1) 0 && (match takenOf s qid.toNat cid.toNat with
      | some (q, t) => (q.taken.takeWhile (fun x => x != t)).any (fun x => x.done.isNone)
      | none => false)

/-- DMA_ERROR: the queue stops taking entries until it is deleted (R501). -/
def dmaErrorBody (s : State) (qid : Nat) : State :=
  match mget s.host.queues qid with
  | none => s
  | some q => raise { s with host := { s.host with queues := mset s.host.queues qid { q with stopped := true } } } 0x263 0

/-- A command's own DMA failed (R493, R501). -/
def commandDmaFailed (s : State) (src : CmdSrc) : State :=
  match src with
  | .mailbox => raise s 0x263 0
  | .queue qid _ => dmaErrorBody s qid.toNat

/-- Is a command's source a user queue? -/
def userQueue (s : State) (src : CmdSrc) : Bool :=
  match src with
  | .mailbox => false
  | .queue qid _ => ((mget s.host.queues qid.toNat).map (fun q => !q.admin)).getD false

/-- May a user queue carry an entry (R491)? -/
def userMay (e : Line) : Bool :=
  let op := entryNat e 0 1
  let k := entryNat e 0x14 1
  op == opAtomic || (op == opPlaceHint && (k == 1 || k == 2))

/-- The checks before a command's own (R489, R491): none when it may run. -/
def gate (s : State) (src : CmdSrc) (e : Line) : Option Nat :=
  if !entryValid e then some stInvalid
  else if userQueue s src && !userMay e then some stDenied
  else if !s.host.memActive && entryNat e 0 1 != opPrimerEval then some stBusyRetry
  else none

/-- Run a command behind its fence and its gate. -/
def gated (s : State) (src : CmdSrc) (e : Line) (run : State → State) : State :=
  if fenceHolds s src e then s
  else match gate s src e with
    | some st => completeCmd (active s) src st 0
    | none => run (active s)

/-- Pages that are pinned, of this owner's extents (R143). -/
def pinnedCount (s : State) : Nat := (s.chd.pages.filter (fun x => dPin x.2.desc)).length

/-- A HOT or PIN hint aborts a LEND or REHOME that has not begun its freeze (R144). -/
def hintAborts (s : State) (p : Nat) : State :=
  match mget s.chd.migs p with
  | some m => if (m.kind = .lend ∨ m.kind = .rehome) ∧ m.phase = .passing then abortMig s p else s
  | none => s

/-- A hint to a Moving page (R144): HOT and PIN abort a LEND or REHOME that has not begun its freeze; any other takes its placement effect
when the migration ends, and is remembered until then. -/
def hintMoving (s : State) (kind p : Nat) : State :=
  let s := if kind = 1 ∨ kind = 3 then hintAborts s p else s
  modMig s p (fun m => { m with hint := some kind })

/-- Apply a hint to one page (R142, R144). A pinned page that is not Plain is itself work (R123). -/
def hintPage (s : State) (kind p : Nat) : State :=
  let here := decide (dTier (page s p).desc ≠ tierNone)
  let s := if here || kind == 3 then hintMoving s kind p else s
  let d := (page s p).desc
  match kind with
  | 1 =>
    if here then
      let s := modPage s p (fun x => { x with heat := BitVec.ofNat 8 (max x.heat.toNat (pagePolicy s p 0)) })
      heatReached (ledgerDrop s p) p
    else s
  | 2 =>
    if here then
      let s := modPage s p (fun x => { x with heat := 0 })
      let s := ledgerPut s p (epochStamp s - BitVec.ofNat 16 (pagePolicy s p 4))
      if dTier d = tierPlain then postCand s .demote p else s
    else s
  | 3 => ledgerDrop (if dPin d then s else descSet s p (dSet d 115 115 1)) p
  | _ => if dPin d then descSet s p (dSet d 115 115 0) else s

/-- PLACE_HINT (R142 to R144, R493). -/
def placeHintBody (s : State) (src : CmdSrc) (e : Line) : State :=
  gated s src e (fun s =>
    let dpa := entryNat e 8 8
    let cnt := entryNat e 0x10 4
    let kind := entryNat e 0x14 1
    let p := dpa / 4096
    match extentOf s dpa with
    | none => completeCmd s src stInvalid 0
    | some (_, x) =>
      if dpa % 4096 ≠ 0 ∨ kind = 0 ∨ 4 < kind ∨ cnt = 0 then completeCmd s src stInvalid 0
      else if (x.dpa2m + x.len2m) * 512 < p + cnt then completeCmd s src stLength 0
      else if x.shared.isSome || s.chd.pages.any (fun y => y.2.fenced && decide (p ≤ y.1) && decide (y.1 < p + cnt)) then
        completeCmd s src stDenied 0
      else
        let fresh := cnt - (s.chd.pages.filter (fun y => dPin y.2.desc && decide (p ≤ y.1) && decide (y.1 < p + cnt))).length
        if kind = 3 ∧ pinCap s < pinnedCount s + fresh then completeCmd s src stNoSpace 0
        else completeCmd ((List.range cnt).foldl (fun s i => hintPage s kind (p + i)) s) src stOk 0)

/-- ATOMIC (R283, R400, R495): checked, then executed near or far in its turn at its line. -/
def atomicBody (s : State) (src : CmdSrc) (e : Line) : State :=
  gated s src e (fun s =>
    let dpa := entryNat e 8 8
    let op := entryNat e 0x10 1
    let size := entryNat e 0x11 1
    let raddr := entryNat e 0x18 8
    match extentOf s dpa with
    | none => completeCmd s src stInvalid 0
    | some (_, x) =>
      if !atomicValid op size || dpa % 2 ^ size != 0 || (size == 4 && (raddr == 0 || raddr % 16 != 0)) then completeCmd s src stInvalid 0
      else
        let w : ReqWork := .atomic src x.attrs.label (BitVec.ofNat 8 op) (BitVec.ofNat 3 size) (BitVec.ofNat 6 (dpa % 64))
          (BitVec.ofNat 256 (entryNat e 0x20 32)) (BitVec.ofNat 64 raddr)
        pump { s with coh := { s.coh with waitHost := s.coh.waitHost ++ [(BitVec.ofNat 64 (dpa / 64 * 64), w)] } })

/-- Is a domain used by a Mirrored extent (R236)? -/
def domainMirrored (s : State) (d : Nat) : Bool := s.chd.extents.any (fun e => e.2.attrs.domain == d && e.2.attrs.mirrored && e.2.shared.isNone)

/-- Is a refold of a domain running (R236)? -/
def domainRefolding (s : State) (d : Nat) : Bool := s.chd.refold.any (fun p => pageDomain s p.toNat == d)

/-- KEY_ROTATE (R236, R237): accepted, it waits for its switch point. -/
def keyRotateBody (s : State) (src : CmdSrc) (e : Line) : State :=
  gated s src e (fun s =>
    let d := entryNat e 8 2
    let k := domKeys s d
    if 4095 < d ∨ (s.img.active.rcd secDomains d).isNone then completeCmd s src stInvalid 0
    else if domainSource s d = 2 ∧ k.supplied.isNone then completeCmd s src stDenied 0
    else if k.old.isSome || k.rotating.isSome || domainRefolding s d || (domainMirrored s d && s.chd.mirror != .mirrored) then
      completeCmd s src stBusyRetry 0
    else
      let s := setDom s d { k with rotating := some src }
      if domainMirrored s d then sendEnvelope s else s)

/-- Post refold work for pages (R137, R237). -/
def postRefold (s : State) (ps : List Nat) : State :=
  ps.foldl (fun s p =>
    let q : PageNo := BitVec.ofNat 36 p
    let s := if s.chd.refold.contains q then s else { s with chd := { s.chd with refold := s.chd.refold ++ [q] } }
    if wantsRewrite s p then postCand s .refold p else s) s

/-- KEY_ROTATE_SWITCH (R237 steps 4 to 6): the new generation is current, the command completes with its KGEN, and pages of the old
one are posted as refold work. -/
def keyRotateSwitchBody (s : State) (d : Nat) : State :=
  let k := domKeys s d
  match k.rotating with
  | none => s
  | some src =>
    if domainMirrored s d && (!s.sec.envelopeOut.isEmpty || s.sec.pairing != .confirmed) then s
    else
    let g := k.supplied.getD (Config.keyValues s.xts.nextKey)
    let s := if k.supplied.isSome then s else { s with xts := { s.xts with nextKey := s.xts.nextKey + 1 } }
    let s := setDom s d { k with current := !k.current, cur := some g, old := k.cur, rotating := none, supplied := none }
    let s := completeCmd s src stOk (b2n (!k.current))
    let ps := (s.chd.pages.filter (fun x => dTier x.2.desc != tierNone && !x.2.fenced && pageDomain s x.1 == d && dKgen x.2.desc == k.current)).map (·.1)
    retireKey (postRefold s ps) d

/-- PRIMER_EVAL (R218, R493): `blocks` are the blocks its DMA read, `dmaOk` whether it completed. -/
def primerEvalBody (s : State) (src : CmdSrc) (e : Line) (blocks : List (List Byte)) (dmaOk : Bool) : State :=
  gated s src e (fun s =>
    let a := entryNat e 8 8
    let dst := entryNat e 0x10 8
    let cnt := entryNat e 0x18 2
    let slot := entryNat e 0x1A 1
    if a % 64 ≠ 0 ∨ dst % 64 ≠ 0 ∨ cnt = 0 ∨ !slotInstalled s slot then completeCmd s src stInvalid 0
    else if 256 < cnt then completeCmd s src stLength 0
    else if !dmaOk then completeCmd (commandDmaFailed s src) src stTimeout 0
    else
      let run : Eval := ⟨src, BitVec.ofNat 6 slot, cnt, [], BitVec.ofNat 64 dst⟩
      let s := { s with cmp := { s.cmp with evals := run :: s.cmp.evals } }
      (List.range cnt).foldl (fun s i =>
        let bs := bytesAt (blocks.getD i []) 0 1024
        if bs.all (· == 0) then evalResult (countL s 0x022 14) src i 0
        else pushJob s (jobOf (.eval src i) [slot] 14 bs)) s)

/-- A vendor opcode's 16-byte output (R483). -/
def entryReply (s : State) (status result : Nat) : State :=
  mbReply s (.entry ⟨BitVec.ofNat 64 result, 0, 0, BitVec.ofNat 8 status⟩)

/-- The status of QUEUE_CREATE (R485). -/
def queueStatus (s : State) (a : QueueArgs) : Nat :=
  if 1024 ≤ a.qid ∨ 2048 ≤ a.vector ∨ a.sqEntries < 2 ∨ a.cqEntries < 2 ∨ a.sqBase % 4096 ≠ 0 ∨ a.cqBase % 4096 ≠ 0 ∨ 1 < a.cls ∨ a.rsv then
    stInvalid
  else if 65536 < a.sqEntries ∨ 65536 < a.cqEntries ∨ 2 ^ 64 < a.sqBase + 64 * a.sqEntries ∨ 2 ^ 64 < a.cqBase + 16 * a.cqEntries then stLength
  else if mhas s.host.queues a.qid then stBusyRetry
  else stOk

/-- QUEUE_CREATE (R485): the queue starts empty, phase 1. -/
def queueCreateBody (s : State) (b : List Byte) : State :=
  if b.length ≠ 32 then mbReply s .invalidLength
  else
    let a := queueArgs b
    let st := queueStatus s a
    if st ≠ stOk then entryReply s st 0
    else
      let q : Queue := {
        vector := BitVec.ofNat 11 a.vector
        admin := a.cls == 1
        sqEntries := a.sqEntries
        cqEntries := a.cqEntries
        sqBase := BitVec.ofNat 64 a.sqBase
        cqBase := BitVec.ofNat 64 a.cqBase
        sqHead := 0
        sqTail := 0
        cqHead := 0
        cqTail := 0
        phase := true
        stopped := false
        deleting := false
        waiting := []
        taken := [] }
      entryReply { s with host := { s.host with queues := mset s.host.queues a.qid q } } stOk 0

/-- Commands taken and not completed, over all queues (R488). -/
def takenTotal (s : State) : Nat := (s.host.queues.map (fun q => (q.2.taken.filter (fun t => t.done.isNone)).length)).sum

/-- Take the next entry of a queue, if it may be taken (R486 to R488); an entry that is not well formed completes at once (R489). -/
def takeOne (s : State) (qid : Nat) : Option State :=
  match mget s.host.queues qid with
  | none => none
  | some q =>
    match q.waiting with
    | [] => none
    | e :: rest =>
      if q.stopped || q.deleting || decide (256 ≤ (q.taken.filter (fun t => t.done.isNone)).length) || decide (8192 ≤ takenTotal s) then none
      else
        let head := (q.sqHead + 1) % q.sqEntries
        let t : Taken := ⟨e, head, true, none⟩
        let s := { s with host := { s.host with
          queues := mset s.host.queues qid { q with waiting := rest, sqHead := head, taken := q.taken ++ [t] } } }
        let src := CmdSrc.queue (BitVec.ofNat 10 qid) (BitVec.ofNat 16 (entryNat e 2 2))
        some (active (if entryValid e then s else completeCmd s src stInvalid 0))

/-- Take entries of a queue while any may be taken. -/
def takeEntries : Nat → State → Nat → State
  | 0, s, _ => s
  | n + 1, s, qid => match takeOne s qid with
    | some s => takeEntries n s qid
    | none => s

/-- SQ_TAIL (R487): `entries` are the entries the host wrote, from the old tail on. A value past the queue is ignored with event
0x262. -/
def sqTailBody (s : State) (qid v : Nat) (entries : List Line) : State :=
  match mget s.host.queues qid with
  | none => s
  | some q =>
    if q.sqEntries ≤ v then raise s 0x262 0
    else
      let n := (v + q.sqEntries - q.sqTail) % q.sqEntries
      let es := (List.range n).map (fun i => entries.getD i 0)
      let s := { s with host := { s.host with queues := mset s.host.queues qid { q with sqTail := v, waiting := q.waiting ++ es } } }
      takeEntries 256 s qid

/-- CQ_HEAD (R487): the host has consumed completions. -/
def cqHeadBody (s : State) (qid v : Nat) : State :=
  match mget s.host.queues qid with
  | none => s
  | some q => if q.cqEntries ≤ v then raise s 0x262 0 else { s with host := { s.host with queues := mset s.host.queues qid { q with cqHead := v } } }

/-- The label a completed command counts under (R631): that of the extent its entry names. -/
def entryLabel (s : State) (e : Line) : Nat := ((extentOf s (entryNat e 8 8)).map (fun x => x.2.attrs.label)).getD 14

/-- Post one finished completion of a queue (R487). -/
def postOne (s : State) (qid : Nat) (q : Queue) (t : Taken) (c : Completion) : State :=
  let next := (q.cqTail + 1) % q.cqEntries
  let q' := { q with
    cqTail := next
    phase := if next = 0 then !q.phase else q.phase
    taken := match takeFirst (fun x => x == t) q.taken with
      | some (_, r) => r
      | none => q.taken }
  let s := { s with host := { s.host with queues := mset s.host.queues qid q' } }
  let s := emit s (.cqe (BitVec.ofNat 10 qid) q.cqTail c q.phase)
  signalMsix (countN s 0x002 (some (entryLabel s t.entry)) 1) q.vector.toNat

/-- A queue being deleted, or stopped, has posted everything it took: QUEUE_DELETE completes (R486). -/
def deleteCheck (s : State) (qid : Nat) : State :=
  match mget s.host.queues qid with
  | none => s
  | some q =>
    if q.deleting && q.taken.isEmpty then
      let s := { s with host := { s.host with queues := mdel s.host.queues qid } }
      completeCmd s .mailbox stOk 0
    else s

/-- COMMAND_COMPLETE: a finished command's completion is posted, or held while the CQ is full (R487). -/
def commandCompleteBody (s : State) (qid : Nat) : State :=
  match mget s.host.queues qid with
  | none => s
  | some q =>
    if (q.cqTail + 1) % q.cqEntries = q.cqHead then s
    else
      match q.taken.find? (fun t => t.done.isSome) with
      | none => s
      | some t =>
        match t.done with
        | none => s
        | some c => deleteCheck (takeEntries 256 (postOne s qid q t c) qid) qid


/-- QUEUE_DELETE (R482, R486), a background command. -/
def queueDeleteBody (s : State) (b : List Byte) : State :=
  if b.length ≠ 2 then mbReply s .invalidLength
  else if s.host.background.isSome then mbReply s .busy
  else
    let qid := field b 0 2
    match mget s.host.queues qid with
    | none => entryReply s stInvalid 0
    | some q =>
      let s := { s with host := { s.host with
        background := some (.queueDelete (BitVec.ofNat 10 qid))
        queues := mset s.host.queues qid { q with deleting := true, waiting := [] } } }
      deleteCheck (mbReply s .background) qid

/-- EXTENT_ADD, SHARE_GRANT and SHARE_REVOKE behind their gate. -/
def extentAddCmd (s : State) (src : CmdSrc) (e : Line) : State := gated s src e (fun s => extentAddBody s src e)
def shareGrantCmd (s : State) (src : CmdSrc) (e : Line) : State := gated s src e (fun s => shareGrantBody s src e)
def shareRevokeCmd (s : State) (src : CmdSrc) (e : Line) : State := gated s src e (fun s => shareRevokeBody s src e)

/-- Run a command entry by its opcode (R492). -/
def runEntry (s : State) (src : CmdSrc) (e : Line) (blocks : List (List Byte)) (dmaOk : Bool) : State :=
  match entryNat e 0 1 with
  | 1 => extentAddCmd s src e
  | 2 => shareGrantCmd s src e
  | 3 => shareRevokeCmd s src e
  | 4 => placeHintBody s src e
  | 5 => atomicBody s src e
  | 6 => keyRotateBody s src e
  | 7 => primerEvalBody s src e blocks dmaOk
  | _ => completeCmd s src stInvalid 0

/-- EXEC_ENTRY (R482, R483): one entry through the mailbox; a command that does not end at once runs in the background. -/
def execEntryBody (s : State) (b : List Byte) (blocks : List (List Byte)) (dmaOk : Bool) : State :=
  if b.length ≠ 64 then mbReply s .invalidLength
  else if s.host.background.isSome then mbReply s .busy
  else
    let e := bytesLine b
    let s := { s with host := { s.host with background := some (.execEntry e), bgOutput := none } }
    let s := runEntry s .mailbox e blocks dmaOk
    match s.host.background, s.host.bgOutput with
    | none, some c => emit { s with host := { s.host with bgOutput := none } } (.mailbox (.entry c))
    | _, _ => mbReply s .background

end Sys2Proof.Machine
end

