-- ==== Sys2Proof/Machine/Parse.lean ====
section
/-! DEFINITION. The Clabex image as bytes (02): its layout (R36 to R41, R44, R45, R50), the faults of its structure, and of its
merged records (R43, R46 to R49, R51, R71, R75, R139, R202, R204, R234, R302, R315, R397, R398, R418, R424, R440, R441, R562,
R565, R585), each with the cause of R660. -/

namespace Sys2Proof.Machine

/-- Rejection causes (R69). -/
def icMagic : Nat := 0x01
def icLength : Nat := 0x02
def icSignature : Nat := 0x03
def icSerial : Nat := 0x04
def icSvn : Nat := 0x05
def icBind : Nat := 0x06
def icKind : Nat := 0x07
def icUnknown : Nat := 0x08
def icRange : Nat := 0x09
def icDerive : Nat := 0x0A
def icPrimerInUse : Nat := 0x0B
def icTagInUse : Nat := 0x0C
def icBuddy : Nat := 0x0D
def icPoolId : Nat := 0x0E
def icMissing : Nat := 0x0F
def icOverlap : Nat := 0x10
def icFingerprint : Nat := 0x11

/-- The status an image command completes with for a cause (R69). -/
def causeStatus (c : Nat) : Nat :=
  if c = icLength then 0x02
  else if icSignature ≤ c ∧ c ≤ icBind then 0x05
  else if c = icPoolId then 0x0A
  else 0x01

/-- A cause when a condition holds. -/
def faultIf (b : Bool) (c : Nat) : List Nat := if b then [c] else []

/-- The lowest cause among the faults, 0 for none (R70). -/
def lowestCause : List Nat → Nat
  | [] => 0
  | c :: cs => cs.foldl min c

/-- A directory entry (R38). -/
structure DirEntry where
  id : Nat
  kind : Nat
  flags : Nat
  offset : Nat
  length : Nat
  rsv : Nat
deriving DecidableEq, Repr

/-- Bytes of an image, its signature block left out (R37). -/
def imageLength (bs : List Byte) : Nat := field bs 8 4
def bodyEnd (bs : List Byte) : Nat := imageLength bs - 2048

/-- The directory (R38). -/
def imageDir (bs : List Byte) : List DirEntry :=
  (List.range (min 32 (field bs 6 2))).map (fun i =>
    let o := 0x100 + 16 * i
    ⟨field bs o 2, field bs (o + 2) 1, field bs (o + 3) 1, field bs (o + 4) 4, field bs (o + 8) 4, field bs (o + 12) 4⟩)

/-- End of the directory: a section_count out of range is a fault of its own and locates no further entry (R660). -/
def dirEnd (bs : List Byte) : Nat := 0x100 + 16 * min 32 (field bs 6 2)

/-- Does image_length hold a valid value (R36)? Where it does not, nothing is judged against the end of the image (R660). -/
def lengthOk (bs : List Byte) : Bool :=
  decide (4096 ≤ imageLength bs) && decide (imageLength bs ≤ 16777216) && decide (imageLength bs % 16 = 0)

/-- Do an entry's offset and length hold valid values (R38)? Where they do not, the entry locates no body (R660). -/
def DirEntry.located (e : DirEntry) : Bool := decide (e.offset % 16 = 0) && decide (16 ≤ e.length) && decide (e.length % 16 = 0)

/-- Does an entry's body lie inside the image? -/
def DirEntry.inside (e : DirEntry) (bs : List Byte) : Bool := !lengthOk bs || decide (e.offset + e.length ≤ bodyEnd bs)

/-- The body of a section: its first directory entry's, where it lies inside the image. -/
def sectionBody (bs : List Byte) (id : Nat) : Option (List Byte) :=
  match (imageDir bs).find? (fun e => e.id == id) with
  | some e => if e.located && e.inside bs then some (bytesAt bs e.offset e.length) else none
  | none => none

/-- Faults of the header (R36), but for magic. -/
def headerFaults (bs : List Byte) : List Nat :=
  faultIf (!lengthOk bs || decide (field bs 4 2 ≠ 1) || decide (field bs 6 2 = 0) || decide (32 < field bs 6 2) || decide (field bs 0x0C 4 = 0) ||
    decide (64 < field bs 0x10 1) || decide (field bs 0x20 4 = 0) || !allZero bs 0x12 2 || !allZero bs 0x28 216) icRange

/-- The signature block (R37). -/
def sigBlock (bs : List Byte) : List Byte := bytesAt bs (bodyEnd bs) 2048

/-- Faults of the signature block's fields (R37, R660). -/
def sigFaults (bs : List Byte) : List Nat :=
  let b := sigBlock bs
  let n := field b 2 2
  faultIf (decide (field b 0 2 ≠ 1) || decide (n = 0) || decide (1984 < n) || !allZero b 4 4 || !allZero b 0x28 24 ||
    !allZero b (0x40 + n) (1984 - n)) icRange

/-- Kind, POOL flag of a section by the catalogue (R44). -/
def sectionKind (id : Nat) : Option (Nat × Nat) :=
  if id = 1 then some (1, 0)
  else (catalogue id).map (fun r => (match r.kind with | .live => 1 | .refold => 2 | .restart => 3, b2n r.pool))

/-- Faults of one directory entry (R38, R39). Of an entry of tool metadata only the bounds are checked. An offset or length out of
range is FIELD_RANGE and nothing else (R660). -/
def entryFaults (bs : List Byte) (e : DirEntry) : List Nat :=
  let tool := decide (0x8000 ≤ e.id)
  faultIf (!tool && (!e.located || decide (e.rsv ≠ 0) || decide (2 ≤ e.flags) || decide (e.id = 0))) icRange ++
    faultIf (!tool && (match sectionKind e.id with | some k => k != (e.kind, e.flags % 2) | none => false)) icKind ++
    faultIf (!tool && decide (2 ≤ e.id) && (sectionKind e.id).isNone) icUnknown ++
    faultIf ((tool || e.located) && !e.inside bs) icLength ++
    faultIf ((tool || e.located) && decide (e.offset < dirEnd bs)) icOverlap

/-- Do any two of several spans (start, end) share a byte? -/
def spansOverlap : List (Nat × Nat) → Bool
  | [] => false
  | (a, b) :: l => l.any (fun x => decide (a < x.2) && decide (x.1 < b)) || spansOverlap l

/-- Does any number occur twice? -/
def hasTwice : List Nat → Bool
  | [] => false
  | x :: xs => xs.contains x || hasTwice xs

/-- Faults of the directory (R38, R39). -/
def directoryFaults (bs : List Byte) : List Nat :=
  let d := imageDir bs
  let bodies := d.filter (fun e => decide (e.id < 0x8000) && e.located && e.inside bs)
  faultIf (lengthOk bs && decide (bodyEnd bs < dirEnd bs)) icLength ++ (d.map (entryFaults bs)).flatten ++
    faultIf (hasTwice ((d.map (·.id)).filter (fun i => decide (i < 0x8000)))) icRange ++
    faultIf (spansOverlap (bodies.map (fun e => (e.offset, e.offset + e.length)))) icOverlap ++
    faultIf ((sectionBody bs 1).isNone && !d.any (fun e => e.id == 1) || !d.any (fun e => e.id == secPrimers)) icMissing

/-- A record of an expert section as bytes: key, op, reserved byte, present (R41). -/
structure RawRec where
  key : Nat
  op : Nat
  rsv : Nat
  present : Nat
  bytes : List Byte
deriving DecidableEq, Repr

/-- The records of a section body. -/
def rawRecords (id : Nat) (body : List Byte) : List RawRec :=
  match catalogue id with
  | none => []
  | some c =>
    (List.range (min c.maxCount (field body 4 4))).map (fun j =>
      let r := bytesAt body (16 + j * c.recSize) c.recSize
      ⟨field r 0 2, field r 2 1, field r 3 1, field r 4 4, r⟩)

/-- Is a key one of the section's (R44, R46)? -/
def keyOk (id key : Nat) : Bool :=
  if id = secNode then key == 0 || (decide (0x100 ≤ key) && decide (key < 0x200))
  else match catalogue id with
    | some c => if id = secRld then decide (key < 5) else decide (key < c.maxCount)
    | none => false

/-- Bytes of a record outside its header and its fields. -/
def recPadding (id : Nat) (r : RawRec) : Bool :=
  let fs := recFields id r.key
  (List.range r.bytes.length).all (fun i => decide (i < 8) || fs.any (fun f => decide (f.1 ≤ i) && decide (i < f.1 + f.2)) ||
    (r.bytes.getD i 0) == 0)

/-- Faults of one record's own bytes (R41, R44). -/
def recordFaults (id : Nat) (r : RawRec) : List Nat :=
  if (r.op != 1 && r.op != 2) || r.rsv != 0 || !keyOk id r.key then [icRange]
  else faultIf (r.op == 1 && (decide (2 ^ (recFields id r.key).length ≤ r.present) || !recPadding id r)) icRange

/-- Do the fields of a section header that say what follows hold valid values (R40)? -/
def sectionSized (id : Nat) (body : List Byte) : Bool :=
  match catalogue id with
  | none => false
  | some c =>
    let n := field body 4 4
    let d := field body 8 4
    field body 0 2 == c.recSize && decide (1 ≤ n) && decide (n ≤ c.maxCount) &&
      (if id = secPrimers then decide (1 ≤ d) && decide (d % 16 = 0) else decide (d = 0))

/-- Faults of a section's header and records (R40, R41, R43). A header field out of range is FIELD_RANGE and nothing else (R660). -/
def sectionFaults (id : Nat) (body : List Byte) : List Nat :=
  match catalogue id with
  | none => []
  | some c =>
    let n := field body 4 4
    let d := field body 8 4
    if !sectionSized id body then [icRange]
    else faultIf (!allZero body 2 2 || !allZero body 12 4) icRange ++
      (if body.length ≠ 16 + c.recSize * n + d then [icLength]
       else ((rawRecords id body).map (recordFaults id)).flatten ++
         faultIf (hasTwice (((rawRecords id body).filter (fun r => keyOk id r.key)).map (·.key))) icDerive)

/-- The expert sections of the catalogue. -/
def sectionIds : List Nat :=
  [secDimm, secRld, secWindow, secTags, secDurability, secPolicy, secPrimers, secDomains, secGeometry, secNode, secRoutes,
   secLabels, secFaults, secBreaker, secRules, secRoles, secMem]

/-- The records of a section body by key. -/
def parseOver (id : Nat) (body : List Byte) : NMap Over :=
  (rawRecords id body).foldl (fun m r => if mhas m r.key then m else
    mset m r.key ⟨r.op == 2, BitVec.ofNat 32 r.present, (recFields id r.key).map (fun f => field r.bytes f.1 f.2)⟩) []

/-- The records of all sections of an image. -/
def parseOvers (bs : List Byte) : NMap (NMap Over) :=
  sectionIds.foldl (fun m id => match sectionBody bs id with | some b => mset m id (parseOver id b) | none => m) []

/-- Read BASIC from its 256 bytes (R50). -/
def parseBasic (b : List Byte) : Basic where
  nodeId := field b 0x00 2
  rows := field b 0x02 1
  columns := field b 0x03 1
  linksPerPair := field b 0x04 1
  linkRate := field b 0x05 1
  buddyNode := field b 0x06 2
  sleepableRows := field b 0x08 8
  wakeLinks := field b 0x10 4
  feedsExpected := field b 0x14 1
  dimmsPerChannel := field b 0x15 1
  channelMask := field b 0x16 2
  dimmCapacityGib := field b 0x18 2
  dimmRanks := field b 0x1A 1
  degradedStart := field b 0x1B 1
  maxSpeedMts := field b 0x1C 2
  trainingPolicy := field b 0x1E 1
  preset := field b 0x1F 1
  windowSize2m := field b 0x20 4
  regionCount := field b 0x24 1
  dcBlockLog2 := field b 0x25 1
  extentsMax := field b 0x28 4
  defaultLabel := field b 0x2C 1
  defaultDurability := field b 0x2D 1
  defaultKeyDomain := field b 0x2E 2
  defaultPrimer := field b 0x30 1
  integrity := field b 0x31 1
  rtLabels := field b 0x32 2
  guaranteedLabels := field b 0x34 2
  backgroundSharePct := field b 0x36 1
  labelWeight := (List.range 14).map (fun i => field b (0x38 + i) 1)
  breakerRatingA := field b 0x48 1
  ilimStartDa := field b 0x49 1
  startupTimerMs := field b 0x4A 1
  retryPolicy := field b 0x4B 1
  sleepPolicy := field b 0x4C 1
  faultProfile := field b 0x4D 1
  restAfterS := field b 0x4E 2
  deepAfterS := field b 0x50 2
  e2eTimeoutUs := field b 0x52 2
  linkGiveupMs := field b 0x54 1
  replayTimerUs := field b 0x55 1
  placementEngines := field b 0x56 1

/-- Is a number between two bounds? -/
def within (lo v hi : Nat) : Bool := decide (lo ≤ v) && decide (v ≤ hi)

/-- Do the fields of BASIC hold valid values (R50, R51)? -/
def Basic.valid (b : Basic) : Bool :=
  within 0 b.nodeId 4095 && within 1 b.rows 64 && within 1 b.columns 64 && [1, 2, 4].contains b.linksPerPair &&
  within 1 b.linkRate 2 && (within 0 b.buddyNode 4095 || b.buddyNode == 0xFFFF) && within 1 b.feedsExpected 3 &&
  within 1 b.dimmsPerChannel 2 && within 1 b.channelMask 0xFFF && within 64 b.dimmCapacityGib 512 && b.dimmCapacityGib % 32 == 0 &&
  within 1 b.dimmRanks 2 && within 0 b.degradedStart 1 && within 4800 b.maxSpeedMts 6400 && b.maxSpeedMts % 400 == 0 &&
  within 1 b.trainingPolicy 2 && within 1 b.preset 3 && within 1 b.windowSize2m 134217728 && within 1 b.regionCount 8 &&
  within 21 b.dcBlockLog2 30 && within 1 b.extentsMax 65536 && within 0 b.defaultLabel 13 && within 0 b.defaultDurability 1 &&
  within 0 b.defaultKeyDomain 4095 && within 0 b.defaultPrimer 63 && within 0 b.integrity 1 && within 0 b.rtLabels 0x3FFF &&
  within 0 b.guaranteedLabels 0x3FFF && within 1 b.backgroundSharePct 50 && b.labelWeight.all (fun w => within 1 w 255) &&
  within 10 b.breakerRatingA 27 && within 10 b.ilimStartDa 120 && within 1 b.startupTimerMs 50 && within 1 b.retryPolicy 2 &&
  within 0 b.sleepPolicy 2 && within 1 b.faultProfile 2 && within 1 b.restAfterS 65535 && within b.restAfterS b.deepAfterS 65535 &&
  within 50 b.e2eTimeoutUs 10000 && decide (4 * b.replayTimerUs ≤ b.e2eTimeoutUs) && within 1 b.linkGiveupMs 100 &&
  within 1 b.replayTimerUs 64 && within 8 b.placementEngines 44 &&
  b.windowSize2m % (b.regionCount * 2 ^ (b.dcBlockLog2 - 21)) == 0 && (b.dimmsPerChannel != 2 || decide (b.maxSpeedMts ≤ 5600))

/-- Faults of the BASIC section (R50, R51). -/
def basicFaults (body : List Byte) : List Nat :=
  if body.length ≠ 256 then [icLength]
  else faultIf (!(parseBasic body).valid || !allZero body 0x26 2 || !allZero body 0x37 1 || !allZero body 0x46 2 ||
    !allZero body 0x57 0xA9) icRange

/-- The PRIMERS data area (R45). -/
def primerArea (body : List Byte) : List Byte := body.drop (16 + 32 * field body 4 4)

/-- The primers of a PRIMERS body that hold all three fields, by slot: offset, length, recorded fingerprint (R44, R45). -/
def primerRecs (body : List Byte) : NMap (Nat × Nat × Nat) :=
  ((parseOver secPrimers body).filter (fun r => !r.2.delete && r.2.present == 7 && decide (r.1 < 64))).map
    (fun r => (r.1, (r.2.fields.getD 0 0, r.2.fields.getD 1 0, r.2.fields.getD 2 0)))

/-- Faults of the primers (R45, R202, R203). -/
def primerFaults (body : List Byte) : List Nat :=
  if !sectionSized secPrimers body then []
  else
  let area := primerArea body
  let rs := (primerRecs body).map (·.2)
  let good := rs.filter (fun r => within 1 r.2.1 24576)
  let inside := good.filter (fun r => decide (r.1 + r.2.1 ≤ area.length))
  faultIf (decide (good.length < rs.length)) icRange ++ faultIf (decide (inside.length < good.length)) icLength ++
    faultIf (spansOverlap (inside.map (fun r => (r.1, r.1 + r.2.1)))) icOverlap ++
    (inside.map (fun r =>
      let b := bytesAt area r.1 r.2.1
      if (parsePrimer b).isNone then [icRange] else faultIf ((primerFingerprint b).toNat != r.2.2) icFingerprint)).flatten

/-- The installed primers of a PRIMERS body, by slot. -/
def parsePrimers (body : List Byte) : NMap Primer :=
  (primerRecs body).filterMap (fun r => (parsePrimer (bytesAt (primerArea body) r.2.1 r.2.2.1)).map (fun p => (r.1, p)))

/-- The pool-wide section bodies, in directory order (R44, R64). -/
def poolBodies (bs : List Byte) : List Byte :=
  ((imageDir bs).filter (fun e => e.id == secGeometry || e.id == secRoutes)).flatMap (fun e => bytesAt bs e.offset e.length)

/-- Read an image (R36 to R50). Meaningful where it has no fault. -/
def parseImage (bs : List Byte) : Img where
  serial := BitVec.ofNat 32 (field bs 0x0C 4)
  svn := field bs 0x10 1
  minRev := field bs 0x11 1
  bindLot := BitVec.ofNat 32 (field bs 0x14 4)
  poolId := BitVec.ofNat 64 (field bs 0x18 8)
  poolEpoch := BitVec.ofNat 32 (field bs 0x20 4)
  basic := parseBasic ((sectionBody bs 1).getD [])
  overs := parseOvers bs
  primers := parsePrimers ((sectionBody bs secPrimers).getD [])
  poolDigest := BitVec.ofNat 128 (leNat (shake256 (poolBodies bs) 16))

/-- The key bound of a section's derived records (R52). -/
def derivedBound (id : Nat) : Nat :=
  if id = secTags ∨ id = secDurability ∨ id = secPolicy ∨ id = secGeometry then 1
  else if id = secNode then 0x200
  else match catalogue id with
    | some c => if id = secDomains then 0 else c.maxCount
    | none => 0

/-- The keys of a section's records in an image, derived and its own (R42). -/
def Img.keys (i : Img) (id : Nat) : List Nat :=
  let own := mkeys ((mget i.overs id).getD [])
  let der := if id = secDomains then [i.basic.defaultKeyDomain] else List.range (derivedBound id)
  (der ++ own.filter (fun k => !der.contains k)).filter (fun k => (i.rcd id k).isSome)

/-- The merged records of a section. -/
def Img.recs (i : Img) (id : Nat) : List (Nat × List Nat) := (i.keys id).map (fun k => (k, (i.rcd id k).getD []))

/-- Do the merged records of a section differ between two images? -/
def secDiffers (a b : Img) (id : Nat) : Bool := a.recs id != b.recs id

/-- Does an image change a section of a kind against another (R60)? -/
def kindDiffers (a b : Img) (ids : List Nat) : Bool := ids.any (secDiffers a b)

/-- A present bit set for a global field outside the section's own record for it: POLICY records but 0 (R139), BREAKER points but
0 (R565). -/
def globalElsewhere (id key present : Nat) : Bool :=
  (id = secPolicy ∧ key ≠ 0 ∧ present / 512 % 2 ^ 14 ≠ 0) ∨ (id = secBreaker ∧ key ≠ 0 ∧ present / 4 % 8 ≠ 0)

/-- The fields a new record of a section must set (R43). -/
def neededBits (id key : Nat) : Nat :=
  if id = secPolicy ∧ key ≠ 0 then 511
  else if id = secBreaker ∧ key ≠ 0 then 3
  else 2 ^ (recFields id key).length - 1

/-- Is a derived record required, so that a DELETE of it is a fault (R43)? -/
def required (id key : Nat) : Bool :=
  (id = secNode ∧ key = 0) ∨ (id = secPolicy ∧ key = 0) ∨ (id = secMem ∧ key = 0) ∨ id = secDurability ∨ id = secGeometry ∨
    id = secRld ∨ id = secLabels ∨ (id = secBreaker ∧ key = 0)

/-- Faults of one expert record against the derivation (R43, R398). -/
def mergeFaults (i : Img) (id key : Nat) (o : Over) : List Nat :=
  let der := (i.derived id key).isSome
  if o.delete then faultIf (!der || required id key) icDerive
  else faultIf (globalElsewhere id key o.present.toNat) icRange ++
    faultIf (!der && decide (o.present.toNat &&& neededBits id key ≠ neededBits id key)) icDerive ++
    faultIf (decide (id = secLabels) && (decide (key = 14) && decide (2 ≤ o.present.toNat) || decide (key = 15) && o.present != 0))
      icRange

/-- Is one merged record within its valid ranges? The rules over several records stand below. -/
def recOk (id key : Nat) (r : List Nat) : Bool :=
  let f := fun n => r.getD n 0
  if id = secDimm then within 1 (f 0) 2 && within 64 (f 1) 512 && f 1 % 32 == 0 && within 4800 (f 2) 6400 && f 2 % 400 == 0
  else if id = secRld then
    within 0 (f 0) 8191 && within 1 (f 1) 8192 && decide (f 0 + f 1 ≤ 8192) && (key != 0 || f 1 == 1024) &&
      (key != 1 || within 2048 (f 1) 4096)
  else if id = secWindow then
    within 1 (f 2) 65536 && within 21 (f 3) 30 && decide (f 0 + f 1 ≤ 134217728) && f 0 % 128 == 0 && f 1 % 128 == 0 &&
      f 0 % 2 ^ (f 3 - 21) == 0 && f 1 % 2 ^ (f 3 - 21) == 0 && decide (2 ^ (f 3 - 21) ≤ f 1) && decide (1 ≤ f 1)
  else if id = secTags then
    within 0 (f 1) 13 && within 0 (f 2) 4095 && within 0 (f 3) 1 && within 0 (f 4) 63 && within 0 (f 5) 15
  else if id = secDurability then (within 0 (f 0) 4095 || f 0 == 0xFFFF) && within 100 (f 1) 20000 && within 1 (f 2) 2
  else if id = secPolicy then
    within 1 (f 0) 255 && within 0 (f 1) 254 && decide (f 1 < f 0) && within 1 (f 2) (f 0) && within 0 (f 3) 12 &&
      within 1 (f 4) 30000 && within (f 4) (f 5) 30000 && within 0 (f 6) 1 && within 0 (f 7) 1 && within 0 (f 8) 1 &&
      (key != 0 || (within 100 (f 9) 60000 && within 1 (f 10) 100 && within 1 (f 11) 20 && within (f 11 + 1) (f 12) 40 &&
        within 0 (f 13) 75 && within 0 (f 14) 50 && within 50 (f 15) 100 && within 100 (f 16) 32000 && within 100 (f 17) 16000 &&
        within 1000 (f 18) 32000 && within 1 (f 19) 1024 && within 1 (f 20) 65536 && within 0 (f 21) 4096 && within 1 (f 22) 3600))
  else if id = secDomains then within 0 (f 0) 1 && within 1 (f 1) 2
  else if id = secGeometry then
    within 1 (f 0) 64 && within 1 (f 1) 64 && [1, 2, 4].contains (f 2) && within 1 (f 3) 2 &&
      decide (((f 0 - 1) + (f 1 - 1)) * f 2 ≤ 256)
  else if id = secNode then key == 0 || within 0 (f 0) 1
  else if id = secRoutes then within 0 (f 0) 1 && within 1 (f 1) 3 && within 0 (f 2) 1 && within 2 (f 3) 3
  else if id = secLabels then
    let mb := fun v => v == 0 || within 100 v 1000000
    within 1 (f 0) 4095 && within 0 (f 1) 1 && within 0 (f 2) 1 && mb (f 3) && within 1 (f 6) 4096 && within 0 (f 9) 4 &&
      within 1 (f 10) 100 && (f 1 == 0 || f 3 != 0) && (decide (key < 14) || (f 1 == 0 && f 2 == 0 && f 3 == 0 && f 9 == 0)) &&
      (if f 9 = 0 then f 4 == 0 && f 5 == 0 && f 7 == 0 && f 8 == 0
       else within 100 (f 4) 1000000 && within (f 4) (f 5) 1000000 && within 1 (f 7) 4096 && within (f 7) (f 8) 4096)
  else if id = secFaults then within 0 (f 0) 5 && within 0 (f 1) 15 && within 0 (f 2) 2047
  else if id = secBreaker then
    within 100 (f 0) 599 && within 1 (f 1) 16777215 &&
      (key != 0 || (within 10 (f 2) 120 && within 1 (f 3) 50 && within 1 (f 4) 2 && decide (310 ≤ f 2 * f 3)))
  else if id = secRules then
    let top := fun n => if n = 0x10 ∨ n = 0x11 ∨ n = 0x40 then 3 else if n = 0x12 then 31 else if n = 0x13 then 23 else 0
    [1, 2, 3, 4, 0x10, 0x11, 0x12, 0x13, 0x20, 0x21, 0x30, 0x40, 0x41, 0x50].contains (f 0) &&
      (within 0 (f 1) (top (f 0)) || f 1 == 0xFF) && within 0 (f 2) 1 && (if f 2 = 1 then within 1 (f 3) 10 else f 3 == 0) &&
      within 1 (f 4) 3 && within 1 (f 5) 6 && within 1 (f 6) 15 && decide (f 8 < 2 ^ 31) &&
      (within 0x2C0 (f 10) 0x2DF || f 10 == 0xFFFF) && !(f 5 == 6 && f 10 == 0xFFFF)
  else if id = secRoles then within 1 (f 0) 4
  else if id = secMem ∧ key = 0 then
    within 12 (f 0) 16 && within 1 (f 1) 2 && within 0 (f 2) 4 && within 1 (f 3) 2 && (f 5 == 0 || within 10 (f 5) 65535) &&
      within 0 (f 7) 63 && within (f 7 + 1) (f 6) 64 && within 1 (f 8) 64 &&
      (List.range 8).all (fun p => within 20 (unpackNat 2 (f 9) p) 65535) &&
      (List.range 8).all (fun k => decide (unpackNat 3 (f 10) k < 2 ^ 17))
  else if id = secMem then
    within 0 (f 1) 7 && within 0 (f 2) 7 && within 0 (f 3) 7 && within 0 (f 4) 7 && within 0 (f 5) 2 && within 0 (f 6) 7
  else true

/-- DIMM rules over all records (R418), and the rules that rest on them: channel records (R441) and masks (R424). -/
def dimmRulesOk (i : Img) : Bool :=
  let rs := i.recs secDimm
  let has := fun k => rs.any (fun r => r.1 == k)
  let first := (rs.headD (0, [])).2
  let two := rs.any (fun r => r.1 % 2 == 1)
  let gib := first.getD 1 0 / max 1 (first.getD 0 1)
  let rowBits := if gib ≤ 32 then 16 else 17
  let rb := rankBits (max 1 (first.getD 0 1)) (if two then 2 else 1)
  let masks := i.fld secMem 0 10
  rs.all (fun r => (r.1 % 2 == 0 || has (r.1 - 1)) && r.2.take 3 == first.take 3 && (!two || has (r.1 / 2 * 2 + 1)) &&
      [32, 48, 64, 96, 128, 192, 256].contains (r.2.getD 1 0 / max 1 (r.2.getD 0 1)) && r.2.getD 1 0 % max 1 (r.2.getD 0 1) == 0 &&
      decide (r.2.getD 2 0 ≤ if two then 5600 else 6400)) &&
    (i.keys secMem).all (fun k => k == 0 || has (2 * (k - 1)) || has (2 * (k - 1) + 1)) &&
    (List.range 8).all (fun k => decide (unpackNat 3 masks k < 2 ^ rowBits) && (decide (k < 6 + rb) || unpackNat 3 masks k == 0))

/-- RLD areas do not overlap (R47). -/
def rldRulesOk (i : Img) : Bool :=
  !spansOverlap ((i.recs secRld).map (fun r => (r.2.getD 0 0, r.2.getD 0 0 + r.2.getD 1 0)))

/-- EXTENT_TAGS rules (R75, R139, R204, R234), with BASIC's default primer (R204). The primer rules are judged where the image has
a PRIMERS section. -/
def tagRulesOk (i : Img) : Bool :=
  let rs := i.recs secTags
  let slots := !mhas i.overs secPrimers
  !hasTwice (rs.map (fun r => r.2.getD 0 0)) &&
    rs.all (fun r => (i.rcd secPolicy (r.2.getD 5 0)).isSome && (i.rcd secDomains (r.2.getD 2 0)).isSome &&
      (slots || mhas i.primers (r.2.getD 4 0))) && (slots || mhas i.primers i.basic.defaultPrimer)

/-- Is a row of the image's geometry sleepable? -/
def imgRowSleeps (i : Img) (row : Nat) : Bool := nbit (i.fld secGeometry 0 4) row

/-- NODE and geometry rules (R49, R302, R315). -/
def nodeRulesOk (i : Img) : Bool :=
  let rows := i.fld secGeometry 0 0
  let cols := i.fld secGeometry 0 1
  let me := i.fld secNode 0 0
  let used := (List.range 256).filter (fun l => i.fld secNode (0x100 + l) 0 == 1)
  let wake := (List.range 4).map (unpackNat 1 (i.fld secNode 0 1))
  decide (me / 64 < rows) && decide (me % 64 < cols) && (List.range rows).any (fun r => !imgRowSleeps i r) &&
    (used.isEmpty || (wake.all (fun l => used.contains l) && (if 4 ≤ used.length then !hasTwice wake else used.all (fun l => wake.contains l)) &&
      wake.any (fun l => !imgRowSleeps i (i.fld secNode (0x100 + l) 1 / 64)))) &&
    (i.keys secRoutes).all (fun n => decide (n / 64 < rows) && decide (n % 64 < cols))

/-- The breaker curve (R565). -/
def breakerRulesOk (i : Img) : Bool :=
  let n := (i.keys secBreaker).length
  let cur := fun k => i.fld secBreaker k 0
  let tim := fun k => i.fld secBreaker k 1
  (List.range n).all (fun k => (i.rcd secBreaker k).isSome && (k == 0 || (decide (cur (k - 1) < cur k) && decide (tim k < tim (k - 1))))) &&
    (List.range n).any (fun k => decide (cur k ≤ 360) && decide (tim k ≤ 1000000)) &&
    (List.range n).any (fun k => decide (cur k ≤ 432) && decide (tim k ≤ 100000))

/-- The rules over the window's regions: overlap (R71), sum of extents (R71). -/
def regionsOverlap (i : Img) : Bool :=
  spansOverlap ((i.recs secWindow).map (fun r => (r.2.getD 0 0, r.2.getD 0 0 + r.2.getD 1 0)))
def extentSumOk (i : Img) : Bool := decide (((i.recs secWindow).map (fun r => r.2.getD 2 0)).sum ≤ 65536)

/-- The buddy rules (R48). -/
def buddyOk (i : Img) : Bool :=
  let b := i.fld secDurability 0 0
  let me := i.fld secNode 0 0
  if b = 0xFFFF then (i.recs secTags).all (fun r => r.2.getD 3 0 == 0)
  else b != me && b / 64 != me / 64 && !imgRowSleeps i (b / 64)

/-- Every role has an engine (R46). -/
def rolesOk (i : Img) : Bool := [1, 2, 3, 4].all (fun v => (i.recs secRoles).any (fun r => r.2.getD 0 0 == v))

/-- The faults of an image after derivation and merge (R39, R43). -/
def derivedFaults (i : Img) : List Nat :=
  (i.overs.flatMap (fun s => s.2.flatMap (fun o => mergeFaults i s.1 o.1 o.2))) ++
    faultIf (!sectionIds.all (fun id => (i.recs id).all (fun r => recOk id r.1 r.2))) icRange ++
    faultIf (!(dimmRulesOk i && rldRulesOk i && tagRulesOk i && nodeRulesOk i && breakerRulesOk i && extentSumOk i)) icRange ++
    faultIf (!rolesOk i) icDerive ++ faultIf (!buddyOk i) icBuddy ++ faultIf (regionsOverlap i) icOverlap

/-- The faults of an image's bytes by R39 alone, of which `present` bytes are there. An image_length out of range is FIELD_RANGE
and nothing else (R660): the directory and the bodies are judged, what the length would locate is not. -/
def formatFaults (bs : List Byte) (present : Nat) : List Nat :=
  if field bs 0 4 ≠ 0x58424C43 then [icMagic]
  else if lengthOk bs ∧ present < imageLength bs then [icLength]
  else
    let secs := sectionIds.flatMap (fun id => match sectionBody bs id with | some b => sectionFaults id b | none => [])
    let basic := match sectionBody bs 1 with | some b => basicFaults b | none => []
    let prim := match sectionBody bs secPrimers with | some b => primerFaults b | none => []
    headerFaults bs ++ (if lengthOk bs then sigFaults bs else []) ++ directoryFaults bs ++ secs ++ basic ++ prim ++
      (if (sectionBody bs 1).isSome then derivedFaults (parseImage bs) else [])

/-- Is there a signature to verify: the length of the image, the algorithm and the length of the signature hold valid values? Where
one does not, its fault is FIELD_RANGE and nothing else (R660). DEDUCED: log 123. -/
def signatureThere (bs : List Byte) : Bool :=
  let n := field (sigBlock bs) 2 2
  lengthOk bs && field (sigBlock bs) 0 2 == 1 && decide (1 ≤ n) && decide (n ≤ 1984)

/-- Does the signature hold under a public key (R37, R53)? -/
def signatureOk (bs key : List Byte) : Bool :=
  let b := sigBlock bs
  shake256 key 32 == bytesAt b 8 32 &&
    Config.falconVerify key (ascii "CLABEX-IMG1" ++ shake256 (bytesAt bs 0 (bodyEnd bs)) 64) (bytesAt b 0x40 (field b 2 2))

end Sys2Proof.Machine
end

