-- ==== Sys2Proof/Machine/Member.lean ====
section
/-! DEFINITION. Membership of the pool (09: R305 to R307, R316 to R328, R332; 19: R617): floods, heartbeats, failure, joining,
capacity and aliases. -/

namespace Sys2Proof.Machine

/-- Member state codes (R317). -/
def memberCode : MemberSt → Nat
  | .absent => 0
  | .joining => 1
  | .inService => 2
  | .restarting => 3
  | .asleep => 4
  | .failed => 5
  | .leaving => 6
  | .left => 7

/-- The member state of a code; 0x8 to 0xF are reserved (R317). -/
def codeMember (c : Nat) : Option MemberSt :=
  [MemberSt.absent, .joining, .inService, .restarting, .asleep, .failed, .leaving, .left][c]?

/-- Does a 16-bit version follow another in serial-number order (R307, R318)? -/
def versionAfter (a b : BitVec 16) : Bool := decide (a ≠ b) && decide ((a - b).toNat < 2 ^ 15)

/-- A flooded message has come (R305): new, it is acted on and forwarded once, but not to the neighbour it came from. -/
def flooded (s : State) (f : FloodHdr) (type opn : Nat) (fields : List (Nat × Nat)) (act : State → State) : State :=
  let o := f.origin.toNat
  let s := consumeCtrl s type opn o
  if o = myNode s || !floodNew s o f.seq then s
  else
    let from_ := (peerOf s f.link.toNat).map (·.1)
    let m := mkCtrl type opn 0 o f.seq.toNat fields
    act (floodOn (noteFlood s o f.seq) m from_)

/-- The node IN_SERVICE of lowest ID among those that satisfy a test (R318, R337). -/
def lowestInService (s : State) (p : Nat → Bool) : Option Nat :=
  let ns := (if s.fab.own == .inService then [myNode s] else []) ++
    (mkeys (mfilter s.fab.members (fun n m => m.state == .inService && n != myNode s)))
  bestOf (fun a b => decide (a < b)) (ns.filter p)

/-- The authority for a node (R318). -/
def authorityOf (s : State) (n : Nat) : Option Nat :=
  match lowestInService s (fun m => m / 64 == n / 64 && m != n) with
  | some a => some a
  | none => lowestInService s (fun m => m % 64 == n % 64 && m != n)

/-- Is this device the authority for a node? -/
def isAuthority (s : State) (n : Nat) : Bool := authorityOf s n == some (myNode s)

/-- The pool's epoch coordinator (R337). -/
def coordinator (s : State) : Option Nat := lowestInService s (fun _ => true)

/-- Waiting BlkFrees and buddy frees whose node may now be sent to leave the deferred-free list (R100). -/
def sendDeferred (s : State) : State :=
  let ready := fun (d : Deferred) => inService s d.node.toNat && !rowAsleep s (d.node.toNat / 64)
  let ds := s.chd.deferred
  let s' := { s with chd := { s.chd with deferred := ds.filter (fun d => !ready d) } }
  (ds.filter ready).foldl (fun s d =>
    if d.holder then sendBlkFree s d.node.toNat d.start d.count d.page d.ring d.freeSeq
    else mirrorFree s d.page d.start d.count) s'

/-- Migrations held for a row start once it is awake (R134). -/
def startHeld (s : State) (row : Nat) : State :=
  let mine := s.chd.rowHeld.filter (fun h => h.2.2.toNat == row)
  let s := { s with chd := { s.chd with rowHeld := s.chd.rowHeld.filter (fun h => h.2.2.toNat != row) } }
  mine.foldl (fun s h => migrationStart s h.1 h.2.1.toNat) s

/-- A row is awake again (R336 step 3): event 0x22B, held messages leave their sources. -/
def rowAwake (s : State) (row : Nat) : State :=
  if !rowAsleep s row then s
  else
    let s := { s with fab := { s.fab with
      rowsAsleep := s.fab.rowsAsleep &&& ~~~((1 : BitVec 64) <<< row)
      slept := mdel s.fab.slept row
      waking := mdel s.fab.waking row } }
    startHeld (retryWaiting (sendDeferred (raise s 0x22B 0))) row

/-- Frees a failed owner's lease at this holder (R332): its pods and its room. -/
def freeLease (s : State) (o : Nat) : State :=
  reserveChanged { s with fab := { s.fab with
    lent := mdel s.fab.lent o
    leaseFree := mdel s.fab.leaseFree o
    lentPods := mfilter s.fab.lentPods (fun k _ => k / 2 ^ 38 != o) } }

/-- A Remote page of a Mirrored region whose holder failed is placed in a local frame and taken from the buddy (R130, R179). Where no
frame is free its lines are taken from the buddy on access. -/
def recallLost (s : State) (p : Nat) : State :=
  match allocFrame s with
  | none => s
  | some (f, s) =>
    let d := (page s p).desc
    let d' := mkDesc tierPlain (currentKgen s (pageDomain s p)) 0 (dMirror d) (dInteg d) (dPin d) (dPoison d) 0 f (myNode s)
      (dVers d + 1)
    let s := mergeNear (descSet s p d') p
    (List.range 4).foldl (fun s b => mirrorRead s p (16 * b) 16 (0xFFFF <<< (16 * b))) s

/-- Exchanges of this device towards a lost node that no answer can end. -/
def holderExchange (n : Nat) (t : E2E) : Bool :=
  t.msg.dst.toNat == n && (match t.purpose with
    | .fill _ => true
    | .migRead _ _ => true
    | .evictFetch _ _ => true
    | .mirrorFetch _ _ => true
    | .evictWrite _ => true
    | .free _ _ => true
    | _ => false)

/-- A Remote page whose holder failed (R130, R179): of a Mirrored region it is placed again from the buddy, of a Single region its lines
are poisoned. -/
def placeAgain (s : State) (p : Nat) : State :=
  if dMirror (page s p).desc && (myBuddy s).isSome then recallLost s p else poisonMask s p (BitVec.allOnes 64)

/-- After a migration's freeze: the failure of the page's holder acts on it (R130, R156, R179). -/
def afterFreeze (before s : State) (p : Nat) : State :=
  let d := (page s p).desc
  if mhas before.chd.migs p && !mhas s.chd.migs p && dTier d == tierRemote && declaredFailed s (dNode d) then
    repairCheck (placeAgain { s with chd := { s.chd with repair := 10 } } p)
  else s

/-- A holder of this device's Remote pages failed (R130, R179): migrations from it abort, and those to it whose freeze has not begun;
its lease is gone, its pages of Mirrored regions are placed again from the buddy and those of Single regions poisoned; re-protection is
class 10. -/
def holderFails (s : State) (n : Nat) : State :=
  let sources := (s.chd.migs.filter (fun m => dTier m.2.src == tierRemote && dNode m.2.src == n)).map (·.1)
  let s := (migsWith s (· == n)).foldl stopMig (sources.foldl abortMig s)
  let open_ := s.e2e.txs.filter (fun x => holderExchange n x.2)
  let blocks := open_.filterMap (fun x => match x.2.purpose with
    | .fill k => some k
    | _ => none)
  let s := open_.foldl (fun s x => closeTx s x.1) s
  let pages := (s.chd.pages.filter (fun x => dTier x.2.desc == tierRemote && dNode x.2.desc == n)).map (·.1)
  let s := pages.foldl placeAgain s
  let s := { s with chd := { s.chd with
    borrows := mdel s.chd.borrows n
    deferred := s.chd.deferred.filter (fun d => !(d.holder && d.node.toNat == n))
    evicts := mfilter s.chd.evicts (fun p _ => !pages.contains p)
    repair := if pages.isEmpty then s.chd.repair else 10 } }
  let s := blocks.foldl (fun s k =>
    let s := { s with coh := { s.coh with fills := s.coh.fills.filter (· != k) } }
    if servingTier s (blockNo k / 4) = tierRemote then
      startFill s (blockNo k) .host (mgetD s.coh.near k ⟨[], false, 14⟩).label 14
    else blockThere s k) s
  leaseHeadroom (if pages.isEmpty then s else repairCheck s)

/-- Lines on their way from a buddy that failed are lost (R179): poisoned. -/
def buddyReadsLost (s : State) : State :=
  let open_ := s.e2e.txs.filter (fun x => match x.2.purpose with
    | .mirrorRead _ _ => true
    | _ => false)
  open_.foldl (fun s x => match x.2.purpose with
    | .mirrorRead p lines =>
      let got := ((List.range 64).filter (fun i => lines.getLsbD i)).map (fun i => (i, (0 : Line), true))
      repairCheck (buddyLines (closeTx s x.1) p lines got)
    | _ => s) s

/-- Requests of this device to a failed owner's lines that no buddy serves complete with poisoned data (R174): they are lost. -/
def ownerLost (s : State) (n : Nat) : State :=
  (s.e2e.txs.filter (fun x => x.2.msg.dst.toNat == n)).foldl (fun s x => match x.2.purpose with
    | .line key => reqDenied (closeTx s x.1) key
    | .atomicFar key => reqAtomic (closeTx s x.1) key (0, true) false
    | .writeback key => reqEvicted (closeTx s x.1) key
    | _ => s) s

/-- A node is declared FAILED, as the other devices act on it (R77, R93, R130, R171, R174, R179, R288, R332). -/
def nodeFails (s : State) (n : Nat) : State :=
  let s := peerGone s n true
  let s := granteeFailed s n
  let s := if myBuddy s = some n then buddyGone (buddyReadsLost s) else s
  let s := holderFails s n
  let s := actingStart s n
  let s := { s with fab := { s.fab with leaseFree := mset s.fab.leaseFree n s.clockNs } }
  let orphans := (s.fab.aliases.filter (fun a => a.2.1.toNat == n && !a.2.2 && mhas s.fab.leaseFree a.1)).map (·.1)
  let s := orphans.foldl freeLease s
  { s with fab := { s.fab with
    leaseAsked := mdel s.fab.leaseAsked n
    ctrlPending := mdel s.fab.ctrlPending n
    heard := mdel s.fab.heard n
    suspects := s.fab.suspects.filter (fun x => x.1.toNat != n) } }

/-- A node has come into service (R100, R134, R172, R176, R336). -/
def nodeServes (s : State) (n : Nat) (was : MemberSt) : State :=
  let s := if was == .restarting then raiseP s 0x224 0 (.peer (BitVec.ofNat 12 n)) 0 else s
  let s := { s with fab := { s.fab with grace := mdel s.fab.grace n } }
  let s := rowAwake s (n / 64)
  let s := if myBuddy s = some n then buddyBack s else s
  let s := if was == .restarting then resendDirty s n else s
  retryWaiting (sendDeferred (ownerBack s n))

/-- What a change of a member record brings about at this device. -/
def memberEffects (s : State) (n : Nat) (was now : MemberSt) : State :=
  if n = myNode s then
    match now with
    | .inService =>
      if s.fab.selfFenced then s
      else rowAwake (retryWaiting { s with fab := { s.fab with own := .inService, alone := false } }) (n / 64)
    | .failed => selfFailed { s with fab := { s.fab with own := .failed } }
    | .leaving => { s with fab := { s.fab with own := .leaving } }
    | .left => { s with fab := { s.fab with own := .left, leave := false } }
    | _ => s
  else
    match now with
    | .inService => nodeServes s n was
    | .failed => nodeFails s n
    | .restarting =>
      let s := peerGone s n false
      let s := if isAuthority s n then { s with fab := { s.fab with grace := mset s.fab.grace n s.clockNs } } else s
      let s := if myBuddy s = some n then buddyGone s else s
      (migsWith s (· == n)).foldl stopMig s
    | .asleep => s
    | _ =>
      let s := if myBuddy s = some n then buddyGone s else s
      (migsWith s (· == n)).foldl stopMig s

/-- Store a member record and act on a change of state or incarnation. -/
def setMember (s : State) (n : Nat) (st : MemberSt) (inc : BitVec 16) (auth : Nat) (v : BitVec 16) : State :=
  let old := memberOf s n
  let s := { s with fab := { s.fab with members := mset s.fab.members n ⟨st, inc, BitVec.ofNat 12 auth, v, old.lendable⟩ } }
  if old.state = st ∧ old.incarnation = inc ∧ n ≠ myNode s then s else memberEffects s n old.state st

/-- A record that a MEMBER message or a JOIN ACCEPT carries is taken when its version is higher, or equal from a lower authority
(R318). -/
def applyMember (s : State) (w : MemberWire) (auth : Nat) : State :=
  let n := w.node.toNat
  let old := memberOf s n
  match codeMember w.state.toNat with
  | none => s
  | some st =>
    if versionAfter w.version old.version || (w.version = old.version && decide (auth < old.authority.toNat)) then
      setMember s n st w.incarnation auth w.version
    else s

/-- The fields of ROUTE MEMBER (R359). -/
def memberFields (n st inc v : Nat) : List (Nat × Nat) := [(12, n), (4, st), (16, inc), (16, v)]

/-- The authority changes a node's record and floods it with version + 1 (R318). The flood reaches those neighbours that were in
service before the change, and those that are after it. -/
def declare (s : State) (n : Nat) (st : MemberSt) (inc : BitVec 16) : State :=
  let old := memberOf s n
  let v := old.version + 1
  let q := s.fab.floodSeq
  let me := myNode s
  let m := mkCtrl 6 2 0 me q.toNat (memberFields n (memberCode st) inc.toNat v.toNat)
  let s := { s with fab := { s.fab with floodSeq := q + 1 } }
  let s := floodOn s m none
  let reached := inService s n
  let s := setMember s n st inc me v
  if !reached && inService s n && n != me && (neighbourList s).contains n then sendNeighbour s n m else s

/-- A founder's records, for itself and the row peers it has accepted, are set together and then flooded, so that each of them gets
them all (R326). -/
def declareAll (s : State) (ms : List (Nat × BitVec 16)) : State :=
  let recs := ms.map (fun x => (x, (memberOf s x.1).version + 1))
  let s := recs.foldl (fun s x => setMember s x.1.1 .inService x.1.2 (myNode s) x.2) s
  recs.foldl (fun s x => flood s 6 2 (memberFields x.1.1 (memberCode .inService) x.1.2.toNat x.2.toNat)) s

/-- ROUTE_MEMBER (R318). -/
def routeMember (s : State) (f : FloodHdr) (w : MemberWire) : State :=
  let n := w.node.toNat
  flooded s f 6 2 (memberFields n w.state.toNat w.incarnation.toNat w.version.toNat) (fun s =>
    let reached := inService s n
    let s := applyMember s w f.origin.toNat
    let m := mkCtrl 6 2 0 f.origin.toNat f.seq.toNat (memberFields n w.state.toNat w.incarnation.toNat w.version.toNat)
    if !reached && inService s n && n != myNode s && (neighbourList s).contains n then sendNeighbour s n m else s)

/-- ROUTE_LINKSTATE (R306, R307): an entry of higher version replaces the one held; waiting messages choose again (R314). -/
def routeLinkstate (s : State) (f : FloodHdr) (version : BitVec 16) (vector : BitVec 126) : State :=
  flooded s f 6 1 [(16, version.toNat), (126, vector.toNat)] (fun s =>
    let o := f.origin.toNat
    if versionAfter version (mgetD s.fab.linkMap o ⟨0, 0⟩).version then
      retryWaiting { s with fab := { s.fab with linkMap := mset s.fab.linkMap o ⟨vector, version⟩ } }
    else s)

/-- The latest sample of an input of Radish fires a rule with an action and for a state (R585, R586). -/
def actionFires (s : State) (action : Nat) : Bool :=
  s.aon.rules.any (fun r => r.2.firing && (s.img.active.fld secRules r.1 5 == action))

/-- Does a VETO stand: a rule's, or AON_CTRL.hold_run (R587, R603)? -/
def vetoed (s : State) : Bool := actionFires s 5 || s.aon.holdRun

/-- SLEEP_READY (R333, R545, R587). -/
def sleepReady (s : State) : Bool :=
  nbit (s.img.geom.fld secGeometry 0 4) (myNode s / 64) && (actionFires s 3 || actionFires s 4) && !vetoed s && !s.fab.sleepVeto &&
    !poolFault s

/-- The HEARTBEAT of this device (R319, R322, R359). -/
def heartbeatMsg (s : State) (resetting : Bool) : Msg :=
  mkCtrl 3 1 0 (myNode s) 0
    [(16, s.fab.incarnation.toNat), (4, memberCode s.fab.own), (1, b2n (sleepReady s)), (1, b2n resetting)]

/-- Send a single-link CTRL message on a link, with its neighbour as dst (R359). -/
def sendOnLink (s : State) (l : Nat) (m : Msg) : State :=
  match peerOf s l with
  | some (n, _) => if (link s l).isUp then enqueue s l { m with dst := BitVec.ofNat 12 n } else s
  | none => s

/-- Send a HEARTBEAT on every up link. -/
def sendHeartbeats (s : State) (resetting : Bool) : State :=
  let m := heartbeatMsg s resetting
  (usedLinks s).foldl (fun s l => sendOnLink s l m) s

/-- Flood WAKE ABORT for this device's row: its authority's proposal ends, and the next comes no sooner than 60 s later (R333). -/
def abortProposal (s : State) : State :=
  match s.fab.proposal with
  | none => s
  | some (row, _) =>
    let s := { s with fab := { s.fab with proposal := none, nextProposalNs := s.clockNs + 60000000000 } }
    flood s 4 5 [(6, row.toNat)]

/-- HEARTBEAT_SEND (R319). A row's authority that is not SLEEP_READY any more ends its proposal (R333). -/
def heartbeatSend (s : State) : State :=
  let s := sendHeartbeats s false
  if s.fab.proposal.isSome && !sleepReady s then abortProposal s else s

/-- The record of a neighbour being watched (R319). -/
def heardOf (s : State) (n : Nat) : Option Heard := mget s.fab.heard n
def setHeard (s : State) (n : Nat) (h : Heard) : State := { s with fab := { s.fab with heard := mset s.fab.heard n h } }

/-- HEARTBEAT (R319, R320, R322, R333, R336): the neighbour is heard and a suspicion of it is withdrawn. Its authority records that it
resets, leaves, has left, or is awake again. -/
def heartbeat (s : State) (l n : Nat) (inc : BitVec 16) (st : Nat) (ready resetting : Bool) : State :=
  let s := consumeCtrl s 3 1 n
  if (peerOf s l).map (·.1) != some n then s
  else
    let s := setHeard s n ⟨s.clockNs, ready, resetting, false⟩
    let s := { s with fab := { s.fab with
      suspects := s.fab.suspects.filter (fun x => x.1.toNat != n)
      joiningHeard := if st = 1 then (if s.fab.joiningHeard.contains (BitVec.ofNat 12 n) then s.fab.joiningHeard
          else BitVec.ofNat 12 n :: s.fab.joiningHeard)
        else s.fab.joiningHeard.filter (fun m => m.toNat != n) } }
    let s := if !ready && s.fab.proposal.isSome && n / 64 == myNode s / 64 then abortProposal s else s
    let rec_ := memberOf s n
    if !isAuthority s n then s
    else if resetting then
      (if rec_.state == .inService || rec_.state == .leaving then declare s n .restarting rec_.incarnation else s)
    else if st = 6 && rec_.state == .inService then declare s n .leaving inc
    else if st = 7 && rec_.state == .leaving then declare s n .left inc
    else if rec_.state == .asleep then declare s n .inService rec_.incarnation
    else s

/-- Is a neighbour watched (R319, R336): IN_SERVICE, or asleep in a row whose wake is under way or that is awake? -/
def watched (s : State) (n : Nat) : Bool :=
  inService s n || ((memberOf s n).state == .asleep && (mhas s.fab.waking (n / 64) || !rowAsleep s (n / 64)))

/-- The SUSPECT reports on a node that are current at its authority, and the neighbours whose reports count (R320). -/
def currentReports (s : State) (n : Nat) : List Nat :=
  let others := (s.fab.suspects.filter (fun x => x.1.toNat == n && decide (s.clockNs ≤ x.2.2 + 2000000))).map (fun x => x.2.1.toNat)
  let own := match heardOf s n with
    | some h => if h.silent then [myNode s] else []
    | none => []
  (own ++ others).filter (fun m => isNeighbour m n && inService s m)

/-- A node's neighbours that are IN_SERVICE. -/
def serviceNeighbours (s : State) (n : Nat) : List Nat :=
  ((List.range (geoP s)).map (neighbourNode (geoRows s) n)).filter (inService s)

/-- The authority declares a node FAILED when more than half of its IN_SERVICE neighbours report it: event 0x222, and 0x22C for a
member of a row that did not wake (R320, R336). -/
def judgeSuspect (s : State) (n : Nat) : State :=
  if !(isAuthority s n && watched s n) then s
  else if (serviceNeighbours s n).length < 2 * (currentReports s n).length then
    let asleep := (memberOf s n).state == .asleep
    let s := declare s n .failed (memberOf s n).incarnation
    let s := raiseP s 0x222 0 (.peer (BitVec.ofNat 12 n)) 0
    if asleep then raiseP s 0x22C 0 (.peer (BitVec.ofNat 12 n)) 0 else s
  else s

/-- HEARTBEAT_SILENCE: four intervals have passed without a heartbeat of a watched neighbour (R320). One that is registered in the same
cycle comes before it (R26). -/
def heartbeatSilence (s : State) (n : Nat) : State :=
  if !(isNeighbour (myNode s) n && watched s n) || (heardOf s n).any (fun h => h.lastNs == s.clockNs) then s
  else
    let h := (heardOf s n).getD ⟨0, false, false, false⟩
    let s := setHeard s n { h with silent := true }
    if isAuthority s n then judgeSuspect s n
    else match authorityOf s n with
      | some a => sendCtrl s a 6 5 [(12, n)] false
      | none => s

/-- ROUTE_SUSPECT at the authority (R320). -/
def routeSuspect (s : State) (src n : Nat) : State :=
  let s := consumeCtrl s 6 5 src
  if !isAuthority s n then s
  else
    let left := s.fab.suspects.filter (fun x => !(x.1.toNat == n && x.2.1.toNat == src))
    judgeSuspect { s with fab := { s.fab with suspects := (BitVec.ofNat 12 n, BitVec.ofNat 12 src, s.clockNs) :: left } } n

/-- ISOLATION_TIMEOUT (R321): for 8 ms no more than half of the neighbours recorded IN_SERVICE were heard. -/
def isolationTimeout (s : State) : State :=
  let ns := (neighbourList s).filter (inService s)
  let heard := ns.filter (fun n => match heardOf s n with
    | some h => !h.silent
    | none => false)
  if ns.isEmpty || decide (ns.length < 2 * heard.length) || s.fab.selfFenced then s
  else raiseP (fenceSelf s) 0x223 0 .hostMem 0

/-- RESTART_GRACE_EXPIRY (R322): the authority declares a RESTARTING member FAILED, event 0x222. -/
def restartGraceExpiry (s : State) (n : Nat) : State :=
  if isAuthority s n && (memberOf s n).state == .restarting then
    raiseP (declare s n .failed (memberOf s n).incarnation) 0x222 0 (.peer (BitVec.ofNat 12 n)) 0
  else s

/-- Transactions of this device that went to an acting owner go to the owner that took its regions back (R176). -/
def redirectBack (s : State) (o old : Nat) : State :=
  let mine := (s.e2e.txs.filter (fun x => x.2.msg.dst.toNat == old && (match x.2.purpose with
    | .line key => keyOwner key == o
    | .writeback key => keyOwner key == o
    | .atomicFar key => keyOwner key == o
    | _ => false))).map (·.1)
  mine.foldl (fun s k =>
    let s := { s with e2e := { s.e2e with
      txs := mmod s.e2e.txs k (fun t => { t with msg := { t.msg with dst := BitVec.ofNat 12 o } }) } }
    reissue s k) s

/-- ROUTE_ALIAS (R174, R176, R332). R359 gives the message no serving bit; the row's operand carries it. -/
def routeAlias (s : State) (f : FloodHdr) (failed owner regions : Nat) (serving : Bool) : State :=
  flooded s f 6 4 (aliasFields failed owner regions serving) (fun s =>
    if owner = failed then
      let old := aliasOf s failed
      let s := { s with fab := { s.fab with aliases := mdel s.fab.aliases failed } }
      if failed = myNode s then takeBack s else redirectBack s failed old
    else if failed = myNode s then { s with chd := { s.chd with ownedAway := some (BitVec.ofNat 12 owner) } }
    else
      let s := aliasTaken s failed owner serving
      if serving && mhas s.fab.leaseFree failed then freeLease s failed else s)

/-- LEASE_FREE_TIMEOUT (R332): no alias has named the failed owner for 100 ms. -/
def leaseFreeTimeout (s : State) (n : Nat) : State :=
  if mhas s.fab.leaseFree n && !mhas s.fab.aliases n then freeLease (ownerLost s n) n else s

/-- Send JOIN REQUEST on a link (R324, R359). -/
def sendJoin (s : State) (l : Nat) : State :=
  if !(link s l).isUp || !linkUsed s l then s
  else
    let i := s.img.pool
    let s := { s with fab := { s.fab with own := if s.fab.own == .absent then .joining else s.fab.own, rejoin := false } }
    sendOnLink s l (mkCtrl 1 1 0 (myNode s) 0
      [(64, s.img.active.poolId.toNat), (16, s.fab.incarnation.toNat), (32, s.fab.epoch.toNat), (128, i.poolDigest.toNat),
       (1, b2n s.boot.custody)])

/-- JOIN REQUEST leaves on each link that has come up, while the device is not in service (R324, R615). -/
def joinsLeave (s : State) : State :=
  let todo := s.fab.joinPending
  let s := { s with fab := { s.fab with joinPending := [] } }
  if s.fab.own == .inService || s.fab.selfFenced then s else todo.foldl (fun s l => sendJoin s l.toNat) s

/-- Send JOIN on every up link. -/
def sendJoins (s : State) : State :=
  let s := if s.fab.own == .absent then { s with fab := { s.fab with own := .joining } } else s
  (usedLinks s).foldl sendJoin s

/-- The records a JOIN ACCEPT carries (R324): those of this device's row and column. -/
def rowColumnRecords (s : State) : List (Nat × Member) :=
  let me := myNode s
  let all := mset s.fab.members me { memberOf s me with state := s.fab.own, incarnation := s.fab.incarnation }
  all.filter (fun m => (m.1 / 64 == me / 64 || m.1 % 64 == me % 64) && m.2.state != .absent)

/-- Send JOIN ACCEPT in parts of at most 10 records (R324, R359). -/
def sendAccept (s : State) (l : Nat) : State :=
  let rs := rowColumnRecords s
  let parts := max 1 (ceilDiv rs.length 10)
  (List.range parts).foldl (fun s i =>
    let mine := (rs.drop (10 * i)).take 10
    let body := (mine.map (fun r => memberFields r.1 (memberCode r.2.state) r.2.incarnation.toNat r.2.version.toNat)).flatten
    sendOnLink s l (mkCtrl 1 2 0 (myNode s) 0
      ([(4, memberCode s.fab.own), (32, s.fab.epoch.toNat), (7, i), (7, parts)] ++ body))) s

/-- Why a JOIN REQUEST is refused (R324), if it is. -/
def refuseCause (s : State) (n : Nat) (poolId : BitVec 64) (inc : BitVec 16) (epoch : BitVec 32) (digest : BitVec 128) : Option Nat :=
  let m := memberOf s n
  if poolId ≠ s.img.active.poolId then some 1
  else if (epoch = s.fab.epoch && (match s.fab.digest with | some d => decide (d ≠ digest) | none => false)) ||
      decide (s.fab.epoch.toNat < epoch.toNat) then some 2
  else if m.state = .failed ∧ inc.toNat ≤ m.incarnation.toNat then some 3
  else if !populated s n then some 4
  else none

/-- The authority admits an accepted joiner (R322, R323, R326, R617): without custody, a RESTARTING node is first declared FAILED. -/
def admitNode (s : State) (n : Nat) (inc : BitVec 16) (custody : Bool) : State :=
  if !isAuthority s n then s
  else
    let s := if (memberOf s n).state == .restarting && !custody then declare s n .failed (memberOf s n).incarnation else s
    if (memberOf s n).state = .inService ∧ (memberOf s n).incarnation = inc then s else declare s n .inService inc

/-- JOIN_REQUEST (R316, R324 to R326, R617). -/
def joinRequest (s : State) (l n : Nat) (poolId : BitVec 64) (inc : BitVec 16) (epoch : BitVec 32) (digest : BitVec 128)
    (custody : Bool) : State :=
  let s := consumeCtrl s 1 1 n
  match refuseCause s n poolId inc epoch digest with
  | some c => sendOnLink s l (mkCtrl 1 3 0 (myNode s) 0 [(4, c)])
  | none =>
    let ms := nowMs s
    let k := if s.fab.joinsMs.1 = ms then s.fab.joinsMs.2 else 0
    if 8 ≤ k then
      let f := free s
      let s := sendOnLink f.2 l (mkCtrl 2 1 0 (myNode s) 0 [(7, 1 + f.1 % 64)])
      if elapsed s s.fab.lastThrottleNs 1000000000 then
        raise { s with fab := { s.fab with lastThrottleNs := some s.clockNs } } 0x221 0
      else s
    else
      let nd : Node := BitVec.ofNat 12 n
      let others := s.fab.accepted.filter (fun a => a.1 != nd)
      let heard := s.fab.joiningHeard.filter (fun m => m != nd)
      let s := { s with fab := { s.fab with
        joinsMs := (ms, k + 1)
        accepted := others ++ [(nd, inc)]
        joiningHeard := nd :: heard
        buddyIntact := if myBuddy s = some n then custody && !s.chd.resilver else s.fab.buddyIntact } }
      let s := setHeard s n ⟨s.clockNs, false, false, false⟩
      let s := sendAccept s l
      if s.fab.own == .inService then admitNode s n inc custody else s

/-- GEN_IMAGE_ACTIVE.restart_pending (R60, R65, R67): a restart section of the active image, or the geometry of the pool-wide
sections in force, differs from what the device runs with until its next device reset. -/
def markRestart (s : State) : State :=
  { s with img := { s.img with
    restartPending := kindDiffers s.img.active s.img.restart [secDimm, secRld, secNode, secRoles, secMem] ||
      s.img.pool.rcd secGeometry 0 != s.img.geom.rcd secGeometry 0 } }

/-- The pool-wide sections of the active image come into force (R64, R65): ROUTES at once; a changed FABRIC_GEOMETRY marks
restart_pending. -/
def applyPool (s : State) : State :=
  retryWaiting (markRestart { s with img := { s.img with pool := s.img.active, poolPending := false } })

/-- Learn a pool epoch from a JOIN ACCEPT (R324, R337): sections pending for it, or for an epoch it has passed, are applied. ACCEPT
carries no digest, so the pending sections' own is taken for their own epoch (assumption 22), and none for a later one. -/
def learnEpoch (s : State) (e : BitVec 32) : State :=
  if e.toNat ≤ s.fab.epoch.toNat then s
  else
    let s := { s with fab := { s.fab with epoch := e } }
    let i := s.img.active
    if s.img.poolPending && decide (i.poolEpoch.toNat ≤ e.toNat) then
      applyPool { s with fab := { s.fab with digest := if i.poolEpoch = e then some i.poolDigest else none } }
    else s

/-- JOIN_ACCEPT (R324, R326). -/
def joinAccept (s : State) (n st : Nat) (epoch : BitVec 32) (records : List MemberWire) : State :=
  let s := consumeCtrl s 1 2 n
  let s := setHeard s n ⟨s.clockNs, false, false, false⟩
  let left := s.fab.answers.filter (fun a => a.node.toNat != n)
  let s := { s with fab := { s.fab with answers := ⟨BitVec.ofNat 12 n, BitVec.ofNat 4 st⟩ :: left } }
  let s := if st = 1 then s else learnEpoch s epoch
  records.foldl (fun s r =>
    if r.node.toNat = myNode s then s else applyMember s r ((authorityOf s r.node.toNat).getD n)) s

/-- JOIN_REFUSE at the requester (R324): event 0x220. -/
def joinRefuse (s : State) (l cause : Nat) : State :=
  let n := (peerOf s l).map (·.1)
  raiseP (consumeCtrl s 1 3 (n.getD 0)) 0x220 cause .none l

/-- JOIN_WAIT, and the end of its delay (R325). -/
def joinWait (s : State) (l : Nat) (d : BitVec 7) : State :=
  let n := (peerOf s l).map (·.1)
  let s := consumeCtrl s 2 1 (n.getD 0)
  let left := s.fab.joinWaiting.filter (fun w => w.1.toNat != l)
  { s with fab := { s.fab with joinWaiting := left ++ [(BitVec.ofNat 8 l, d)] } }
def joinWaitExpiry (s : State) (l : Nat) : State :=
  if s.fab.joinWaiting.any (fun w => w.1.toNat == l) then
    sendJoin { s with fab := { s.fab with joinWaiting := s.fab.joinWaiting.filter (fun w => w.1.toNat != l) } } l
  else s

/-- The epoch coordinator floods COMMIT of its active epoch and digest when the pool forms (R338). -/
def formEpoch (s : State) : State :=
  let i := s.img.pool
  let s := { s with fab := { s.fab with digest := some i.poolDigest } }
  if coordinator s = some (myNode s) then flood s 7 4 [(32, s.fab.epoch.toNat), (128, i.poolDigest.toNat)] else s

/-- JOIN_JUDGE (R326): 2 ms after the last link wave the joiner judges its answers and may found the pool. -/
def joinJudge (s : State) : State :=
  let me := myNode s
  if !(s.fab.own == .joining || (s.fab.own == .absent && s.fab.answers.isEmpty)) || s.fab.selfFenced then s
  else if s.fab.answers.any (fun a => a.state != 1) then s
  else
    let row := s.fab.joiningHeard.filter (fun n => n.toNat / 64 == me / 64)
    let col := s.fab.joiningHeard.filter (fun n => n.toNat % 64 == me % 64)
    let peers := if row.isEmpty then col else row
    if peers.any (fun n => decide (n.toNat < me)) then s
    else
      let s := { s with fab := { s.fab with founder := true, own := .inService } }
      let mine := s.fab.accepted.filter (fun n => n.1.toNat / 64 == me / 64)
      formEpoch (declareAll s ((me, s.fab.incarnation) :: mine.map (fun n => (n.1.toNat, n.2))))

/-- JOIN_RETRY (R327): a device that started without the pool tries again. -/
def joinRetry (s : State) : State := if s.fab.alone && !s.fab.selfFenced then sendJoins s else s

/-- REJOIN, FAB_CTRL.rejoin (R344): JOIN now; the bit clears when the JOIN is sent. -/
def rejoin (s : State) : State :=
  if (usedLinks s).any (fun l => (link s l).isUp) then sendJoins { s with fab := { s.fab with rejoin := false } }
  else { s with fab := { s.fab with rejoin := true } }

/-- The size a device can lend (R328), in GiB. -/
def lendable (s : State) : Nat :=
  if poolFault s then 0 else min 65535 (min (lendCap s - lentFrames s) (framesF s - reserveHigh s) / 262144)

/-- Flood ROUTE CAPACITY (R328). -/
def floodCapacity (s : State) : State :=
  let v := lendable s
  flood { s with fab := { s.fab with advertised := BitVec.ofNat 16 v } } 6 3 [(16, v)]

/-- ROUTE_CAPACITY (R328). -/
def routeCapacity (s : State) (f : FloodHdr) (v : BitVec 16) : State :=
  flooded s f 6 3 [(16, v.toNat)] (fun s =>
    let o := f.origin.toNat
    { s with fab := { s.fab with members := mset s.fab.members o { memberOf s o with lendable := v } } })

end Sys2Proof.Machine
end

