-- ==== Sys2Proof/Machine/Lease.lean ====
section
/-! DEFINITION. Leases, row sleep and wake, and pool epochs (09: R328 to R338; 04: R129 to R135). -/

namespace Sys2Proof.Machine

/-- The fields of a LEASE operation (R359). -/
def leaseFields (size cause deadline : Nat) : List (Nat × Nat) := [(14, size), (2, cause), (12, deadline)]

/-- Pods in a GiB of a lease (R329). -/
def podsPerGib : Nat := 16777216

/-- A holder recalls a lease to a new size (R329, R331): event 0x228; the deadline is lease_return_s later. -/
def recallLease (s : State) (o size : Nat) : State :=
  match mget s.fab.lent o with
  | none => s
  | some t =>
    let d := globalPolicy s 22
    let t := { t with recallTo := some size, deadlineNs := s.clockNs + d * 1000000000 }
    let s := raiseP { s with fab := { s.fab with lent := mset s.fab.lent o t } } 0x228 0 (.peer (BitVec.ofNat 12 o)) size
    sendCtrl s o 5 4 (leaseFields size 0 d) true

/-- The part of a lease in GiB that no stored pod needs. -/
def leaseUnused (s : State) (o : Nat) (t : Lent) : Nat :=
  let top := maxNat ((mkeys (mfilter s.fab.lentPods (fun k _ => k / 2 ^ 38 == o))).map (fun k => k % 2 ^ 38 + 1))
  t.sizeGib - ceilDiv top podsPerGib

/-- Cut a list of leases, each by at most what it offers, until a need is met: the cuts and the need left. -/
def cutLeases : List (Nat × Nat) → Nat → List (Nat × Nat) × Nat
  | [], d => ([], d)
  | (o, room) :: rest, d =>
    let c := min room d
    let r := cutLeases rest (d - c)
    ((o, c) :: r.1, r.2)

/-- Put a lease into a list by size, the largest first. -/
def bySize (x : Nat × Lent) : List (Nat × Lent) → List (Nat × Lent)
  | [] => [x]
  | y :: ys => if y.2.sizeGib < x.2.sizeGib then x :: y :: ys else y :: bySize x ys

/-- Leases by size, the largest first. -/
def leasesBySize (s : State) : List (Nat × Lent) := s.fab.lent.foldr bySize []

/-- A holder whose F has fallen below reserve low recalls leases (R129): first the unused parts, then used parts, the largest lease
first. How much is open: a FREE VALUE of at least 1 GiB while nothing is being returned yet (assumption 23). -/
def recallForReserve (s : State) : State :=
  if reserveLow s ≤ framesF s then s
  else
    let open_ := (leasesBySize s).filter (fun t => t.2.recallTo.isNone)
    let coming : Nat := (s.fab.lent.map (fun t => match t.2.recallTo with | some r => t.2.sizeGib - r | none => 0)).sum
    let total : Nat := (open_.map (fun t => t.2.sizeGib)).sum
    let need := if coming = 0 then 1 + choice s 0 total else choice s 0 (total + 1)
    let s := chosen s 1
    let a := cutLeases (open_.map (fun t => (t.1, leaseUnused s t.1 t.2))) need
    let b := cutLeases (open_.map (fun t => (t.1, t.2.sizeGib - leaseUnused s t.1 t.2))) a.2
    (open_.zip (a.1.zip b.1)).foldl (fun s x =>
      let cut := x.2.1.2 + x.2.2.2
      if cut = 0 then s else recallLease s x.1.1 (x.1.2.sizeGib - cut)) s

/-- CAPACITY_PERIODIC (R328): the advertisement, and with it the reserve's recalls (R129). -/
def capacityPeriodic (s : State) : State :=
  let s := recallForReserve s
  if s.fab.own == .inService then floodCapacity s else s

/-- LEASE_REQUEST at the holder (R129, R330, R331). -/
def leaseRequest (s : State) (o size : Nat) : State :=
  let s := consumeCtrl s 5 1 o
  let deny := fun (c : Nat) => sendCtrl s o 5 3 (leaseFields 0 c 0) false
  let t := mgetD s.fab.lent o ⟨0, none, 0, false⟩
  let cur := t.recallTo.getD t.sizeGib
  let new := min size (cur + lendable s)
  if s.fab.own == .leaving || s.fab.own == .left then deny 3
  else if poolFault s then deny 1
  else if t.overdue then deny 2
  else if new ≤ cur ∨ 12288 < new then deny (if lendCap s - lentFrames s < 262144 then 1 else 2)
  else
    let t : Lent := { t with
      sizeGib := max t.sizeGib new
      recallTo := if t.recallTo.isSome && decide (new < t.sizeGib) then some new else none }
    let s := reserveChanged { s with fab := { s.fab with lent := mset s.fab.lent o t } }
    let s := if t.recallTo.isNone then ctrlAnswered s o 5 4 else s
    sendCtrl s o 5 2 (leaseFields new 0 0) false

/-- LEASE_GRANT at the owner (R329, R330): its new room may be used. -/
def leaseGrant (s : State) (n size : Nat) : State :=
  let s := ctrlAnswered (consumeCtrl s 5 2 n) n 5 1
  let b := borrow s n
  let b := { b with
    sizeGib := max b.sizeGib size
    recallTo := if b.recallTo.isSome && decide (size < b.sizeGib) then some size else none }
  let s := { s with
    fab := { s.fab with leaseAsked := mdel s.fab.leaseAsked n }
    chd := { s.chd with leaseWantedNs := none } }
  setBorrow s n b

/-- LEASE_DENY at the owner (R329): no change. -/
def leaseDeny (s : State) (n : Nat) : State :=
  let s := ctrlAnswered (consumeCtrl s 5 3 n) n 5 1
  { s with fab := { s.fab with leaseAsked := mdel s.fab.leaseAsked n } }

/-- Once an owner holds no pod above a recalled size it sends RETURN (R329). -/
def leaseReturnCheck (s : State) (n : Nat) : State :=
  let b := borrow s n
  match b.recallTo with
  | none => s
  | some r =>
    if (b.ranges ++ b.freeing).any (fun x => decide (r * podsPerGib < x.1 + x.2)) then s
    else
      let s := sendCtrl s n 5 5 (leaseFields r 0 0) false
      let s := { s with fab := { s.fab with overdueAt := s.fab.overdueAt.filter (fun m => m.toNat != n) } }
      leaseHeadroom (if r = 0 then { s with chd := { s.chd with borrows := mdel s.chd.borrows n } }
        else setBorrow s n { b with sizeGib := r, recallTo := none })
def leaseReturns (s : State) : State := (mkeys s.chd.borrows).foldl leaseReturnCheck s

/-- LEASE_RECALL at the owner (R129, R130, R329): event 0x228; a LEND or REHOME towards the holder aborts, and every page above the
new size is to be vacated. -/
def leaseRecall (s : State) (n size : Nat) : State :=
  let s := consumeCtrl s 5 4 n
  let b := borrow s n
  if b.sizeGib = 0 then sendCtrl s n 5 5 (leaseFields size 0 0) false
  else
    let s := raiseP s 0x228 0 (.holder (BitVec.ofNat 12 n)) size
    let s := setBorrow s n { b with recallTo := if size < b.sizeGib then some size else b.recallTo }
    let towards := (s.chd.migs.filter (fun m => m.2.dstTier == tierRemote && m.2.dstNode.toNat == n)).map (·.1)
    let s := towards.foldl stopMig s
    let pages := (s.chd.pages.filter (fun x => vacates s x.2.desc && dNode x.2.desc == n)).map (·.1)
    leaseReturnCheck (leaseHeadroom (pages.foldl (fun s p => postCand s .rehome p) s)) n

/-- A leaving device that has nothing lent any more is LEFT (R332); its authority learns it from its heartbeats, and a device with
no authority records it itself. -/
def leaveCheck (s : State) : State :=
  if s.fab.own == .leaving && s.fab.lent.isEmpty then
    let alone := (authorityOf s (myNode s)).isNone
    { s with fab := { s.fab with own := .left, leave := s.fab.leave && !alone } }
  else s

/-- LEASE_RETURN at the holder (R329, R331): the range above the returned size is free. -/
def leaseReturn (s : State) (o size : Nat) : State :=
  let s := ctrlAnswered (consumeCtrl s 5 5 o) o 5 4
  match mget s.fab.lent o with
  | none => s
  | some t =>
    let lent := if size = 0 then mdel s.fab.lent o
      else mset s.fab.lent o { t with sizeGib := min t.sizeGib size, recallTo := none, overdue := false }
    let keep := fun (k : Nat) (_ : Line) => k / 2 ^ 38 != o || decide (k % 2 ^ 38 < size * podsPerGib)
    leaveCheck (reserveChanged { s with fab := { s.fab with lent := lent, lentPods := mfilter s.fab.lentPods keep } })

/-- LEASE_DEADLINE (R331): at the holder, event 0x229; both ends show the lease as overdue (R345). -/
def leaseDeadline (s : State) (n : Nat) : State :=
  let s := if (borrow s n).recallTo.isSome && !s.fab.overdueAt.contains (BitVec.ofNat 12 n) then
      { s with fab := { s.fab with overdueAt := BitVec.ofNat 12 n :: s.fab.overdueAt } } else s
  match mget s.fab.lent n with
  | none => s
  | some t =>
    if t.recallTo.isSome && !t.overdue then
      raiseP { s with fab := { s.fab with lent := mset s.fab.lent n { t with overdue := true } } } 0x229 0 (.peer (BitVec.ofNat 12 n)) 0
    else s

/-- LEAVE, FAB_CTRL.leave (R332): LEAVING, and every lease granted is recalled. -/
def leave (s : State) : State :=
  let s := { s with fab := { s.fab with leave := true, own := if s.fab.own == .inService then .leaving else s.fab.own } }
  leaveCheck ((mkeys s.fab.lent).foldl (fun s o => recallLease s o 0) s)

/-- CTRL_RESEND_TIMER: what awaits an answer from a node is sent again (R359). -/
def ctrlResend (s : State) (n : Nat) : State := (mgetD s.fab.ctrlPending n []).foldl sendMsg s

/-- RESERVE_WAIT_TIMEOUT (R127): a write has waited 10 ms for space. -/
def reserveWaitTimeout (s : State) : State :=
  if s.chd.reserveWaitNs.isSome && s.chd.reserveState != 3 then raise { s with chd := { s.chd with reserveState := 3 } } 0x1E6 0 else s

/-- LEASE_WAIT_TIMEOUT (R132): no holder has granted within 1 s. -/
def leaseWaitTimeout (s : State) : State :=
  if s.chd.leaseWantedNs.isSome then raise { s with chd := { s.chd with leaseWantedNs := none } } 0x1E8 0 else s

/-- Every device recorded IN_SERVICE, this one among them. -/
def allInService (s : State) : List Nat :=
  (if s.fab.own == .inService then [myNode s] else []) ++
    mkeys (mfilter s.fab.members (fun n m => m.state == .inService && n != myNode s))

/-- A row goes to sleep (R333 step 4, R334): a ROW_WAKE registered in the same cycle wins. A device of the row gives up its lines of
other owners first. -/
def rowSleeps (s : State) (row : Nat) : State :=
  let s := { s with fab := { s.fab with consentOwed := s.fab.consentOwed.filter (fun r => r.toNat != row) } }
  if mget s.fab.waking row = some s.clockNs then s
  else
    let me := myNode s
    let own := decide (me / 64 = row)
    let s := if own then
        let keys := ((s.coh.near.filter (fun b => blockOwner b.1 != me)).map (fun b =>
          b.2.lines.map (fun l => lineKey (blockOwner b.1) (blockNo b.1 * 16 + l.1)))).flatten
        keys.foldl (fun s key => if mhas s.coh.reqs key then s else evictFirst s key []) s
      else s
    let s := raise s 0x22A 0
    { s with fab := { s.fab with
      rowsAsleep := s.fab.rowsAsleep ||| ((1 : BitVec 64) <<< row)
      slept := mset s.fab.slept row s.clockNs
      waking := mdel s.fab.waking row
      own := if own && s.fab.own == .inService then .asleep else s.fab.own
      members := mmap s.fab.members (fun n m =>
        if n / 64 = row ∧ m.state = .inService then { m with state := .asleep } else m) } }

/-- The row's authority has every CONSENT: COMMIT is flooded (R333 step 3). -/
def proposalCheck (s : State) : State :=
  match s.fab.proposal with
  | none => s
  | some (row, got) =>
    if (allInService s).all (fun n => got.contains (BitVec.ofNat 12 n)) then
      let s := { s with fab := { s.fab with proposal := none } }
      rowSleeps (flood s 4 4 [(6, row.toNat)]) row.toNat
    else s

/-- Note a CONSENT at the authority. -/
def addConsent (s : State) (n : Nat) (row : BitVec 6) : State :=
  match s.fab.proposal with
  | some (r, got) =>
    if r = row then proposalCheck { s with fab := { s.fab with proposal := some (r, BitVec.ofNat 12 n :: got.filter (fun m => m.toNat != n)) } } else s
  | none => s

/-- Answer a PROPOSE once Chard consents (R135, R333). -/
def consentOne (s : State) (row : BitVec 6) : State :=
  if !(s.fab.consentOwed.contains row && chardConsents s row.toNat) then s
  else
    let s := { s with fab := { s.fab with consentOwed := s.fab.consentOwed.filter (fun r => r != row) } }
    match lowestInService s (fun n => n / 64 == row.toNat) with
    | none => s
    | some a => if a = myNode s then addConsent s a row else sendCtrl s a 4 2 [(6, row.toNat)] false
def consentCheck (s : State) : State := s.fab.consentOwed.foldl consentOne s

/-- FAB_CTRL.leave stands across a device reset (R344): a device that is in service again is LEAVING (R332). -/
def leaveGo (s : State) : State := if s.fab.leave && s.fab.own == .inService then leave s else s

/-- After the work of migrations: what an owner owes holders and rows for it. -/
def afterMig (s : State) : State := consentCheck (leaseReturns (leaveGo s))

/-- A device takes a PROPOSE (R135, R333): migrations with the row that have not begun their freeze abort. -/
def takeProposal (s : State) (row : BitVec 6) : State :=
  let ms := (migsWith s (fun n => n / 64 == row.toNat)).filter (fun p => match mget s.chd.migs p with
    | some m => m.phase == .passing
    | none => false)
  let s := ms.foldl stopMig s
  consentCheck { s with fab := { s.fab with consentOwed := row :: s.fab.consentOwed.filter (fun r => r != row) } }

/-- SLEEP_PROPOSE (R333): every device of this row that is IN_SERVICE reports SLEEP_READY, and this is the row's authority. -/
def sleepPropose (s : State) : State :=
  let me := myNode s
  let row := me / 64
  let members := (allInService s).filter (fun n => n / 64 == row)
  let ready := members.all (fun n => if n = me then sleepReady s else match heardOf s n with
    | some h => h.sleepReady
    | none => false)
  if s.fab.proposal.isSome || s.clockNs < s.fab.nextProposalNs || lowestInService s (fun n => n / 64 == row) != some me || !ready then s
  else
    let r : BitVec 6 := BitVec.ofNat 6 row
    takeProposal (flood { s with fab := { s.fab with proposal := some (r, []) } } 4 1 [(6, row)]) r

/-- WAKE_PROPOSE: a device of the row that is not SLEEP_READY refuses (R333). -/
def wakePropose (s : State) (f : FloodHdr) (row : BitVec 6) : State :=
  flooded s f 4 1 [(6, row.toNat)] (fun s =>
    if s.fab.own != .inService then s
    else if myNode s / 64 = row.toNat && !sleepReady s then sendCtrl s f.origin.toNat 4 3 [(6, row.toNat)] false
    else takeProposal s row)

/-- WAKE_CONSENT, WAKE_REFUSE and SLEEP_PROPOSE_TIMEOUT at the row's authority (R333). -/
def wakeConsent (s : State) (src : Nat) (row : BitVec 6) : State := addConsent (consumeCtrl s 4 2 src) src row
def wakeRefuse (s : State) (src : Nat) (row : BitVec 6) : State :=
  let s := consumeCtrl s 4 3 src
  match s.fab.proposal with
  | some (r, _) => if r = row then abortProposal s else s
  | none => s
def sleepProposeTimeout (s : State) : State := abortProposal s

/-- A ROW_WAKE in the cycle of the row's COMMIT wins: the COMMIT counts as ABORT (R334). -/
def sleepUndone (s : State) (row : Nat) : State :=
  if mget s.fab.slept row ≠ some s.clockNs then s
  else { s with fab := { s.fab with
    slept := mdel s.fab.slept row
    rowsAsleep := s.fab.rowsAsleep &&& ~~~((1 : BitVec 64) <<< row)
    own := if decide (myNode s / 64 = row) && s.fab.own == .asleep then .inService else s.fab.own
    members := mmap s.fab.members (fun n m => if n / 64 = row ∧ m.state = .asleep then { m with state := .inService } else m) } }

/-- A ROW_WAKE for this device's own row while its entry is in progress lets it complete; the wake follows at once (R334). -/
def ownWake (s : State) (row : Nat) : State :=
  if myNode s / 64 = row ∧ (s.aon.st = .run ∨ s.aon.st = .doze) then { s with aon := { s.aon with wakeOwed := true } } else s

/-- WAKE_COMMIT, WAKE_ABORT and ROW_WAKE (R333 to R336). -/
def wakeCommit (s : State) (f : FloodHdr) (row : BitVec 6) : State :=
  flooded s f 4 4 [(6, row.toNat)] (fun s => rowSleeps s row.toNat)
def wakeAbort (s : State) (f : FloodHdr) (row : BitVec 6) : State :=
  flooded s f 4 5 [(6, row.toNat)] (fun s =>
    { s with fab := { s.fab with consentOwed := s.fab.consentOwed.filter (fun r => r != row) } })
def rowWake (s : State) (f : FloodHdr) (row : BitVec 6) : State :=
  flooded s f 4 6 [(6, row.toNat)] (fun s =>
    let s := sleepUndone { s with fab := { s.fab with waking := mset s.fab.waking row.toNat s.clockNs } } row.toNat
    if rowAsleep s row.toNat then lightRow (ownWake s row.toNat) row.toNat else s)

/-- WAKE_PATTERN_LIMIT (R593): after 10 ms of the pattern the link trains as R350 states. -/
def wakePatternLimit (s : State) (l : Nat) : State :=
  if (link s l).wakeSince.isSome then
    let s := modLink s l (fun r => { r with wakeSince := none })
    if (link s l).isUp then s else toTraining s l
  else s

/-- EPOCH_PREPARE_START (R337): the coordinator's active image holds pool-wide sections for the next epoch. -/
def epochPrepareStart (s : State) : State :=
  let i := s.img.active
  if coordinator s = some (myNode s) && i.poolEpoch == s.fab.epoch + 1 then
    let s := { s with fab := { s.fab with prepare := some (i.poolEpoch, i.poolDigest, [], []) } }
    flood s 7 1 [(32, i.poolEpoch.toNat), (128, i.poolDigest.toNat)]
  else s

/-- EPOCH_PREPARE (R337 step 2). -/
def epochPrepare (s : State) (f : FloodHdr) (e : BitVec 32) (d : BitVec 128) : State :=
  flooded s f 7 1 [(32, e.toNat), (128, d.toNat)] (fun s =>
    if s.fab.own != .inService then s
    else
      let i := s.img.active
      let ready := i.poolEpoch == e && decide (s.fab.epoch.toNat < e.toNat)
      sendCtrl s f.origin.toNat 7 (if ready then 2 else 3) [(32, e.toNat), (128, i.poolDigest.toNat)] false)

/-- EPOCH_READY and EPOCH_NOT_READY at the coordinator. -/
def epochReady (s : State) (src : Nat) (e : BitVec 32) : State :=
  let s := consumeCtrl s 7 2 src
  match s.fab.prepare with
  | some (e', d, a, b) => if e = e' then { s with fab := { s.fab with prepare := some (e', d, BitVec.ofNat 12 src :: a, b) } } else s
  | none => s
def epochNotReady (s : State) (src : Nat) (e : BitVec 32) : State :=
  let s := consumeCtrl s 7 3 src
  match s.fab.prepare with
  | some (e', d, a, b) => if e = e' then { s with fab := { s.fab with prepare := some (e', d, a, BitVec.ofNat 12 src :: b) } } else s
  | none => s

/-- A COMMIT of an epoch and its digest (R64, R337 step 4, R338). One of the epoch in force is that of the pool's forming. -/
def epochApply (s : State) (e : BitVec 32) (d : BitVec 128) : State :=
  if e.toNat < s.fab.epoch.toNat then s
  else if e = s.fab.epoch then
    let s := { s with fab := { s.fab with digest := some d } }
    if s.img.pool.poolDigest = d then s
    else raise { s with fab := { s.fab with own := .absent } } 0x22E 0
  else
    let i := s.img.active
    let s := { s with fab := { s.fab with epoch := e, digest := some d } }
    if i.poolEpoch = e ∧ i.poolDigest = d then raise (applyPool s) 0x22D 0 else raise s 0x22E 0

/-- EPOCH_PREPARE_TIMEOUT (R337 step 3): COMMIT when no device has answered NOT_READY. -/
def epochPrepareTimeout (s : State) : State :=
  match s.fab.prepare with
  | none => s
  | some (e, d, _, bad) =>
    let s := { s with fab := { s.fab with prepare := none } }
    if bad.isEmpty then epochApply (flood s 7 4 [(32, e.toNat), (128, d.toNat)]) e d else s

/-- EPOCH_COMMIT (R337, R338). -/
def epochCommit (s : State) (f : FloodHdr) (e : BitVec 32) (d : BitVec 128) : State :=
  flooded s f 7 4 [(32, e.toNat), (128, d.toNat)] (fun s => epochApply s e d)

end Sys2Proof.Machine
end

