-- ==== Sys2Proof/Machine/Qos.lean ====
section
/-! DEFINITION. The rows of regulation (11: R400 to R417): buckets and their settings, memory feedback, injection scales, DevLoad. -/

namespace Sys2Proof.Machine

/-- A bucket's capacity in hundredths of a byte for a burst in KiB (R400). -/
def burstCenti (kib : Nat) : Nat := kib * 102400

/-- The bursts of the policer's committed and peak buckets (R403). -/
def cbsKib (s : State) (l : Nat) : Nat := s.img.active.fld secLabels l 7
def pbsKib (s : State) (l : Nat) : Nat := s.img.active.fld secLabels l 8

/-- One step of 10 ns of one bucket (R400): its rate in MB/s is its gain in hundredths of a byte. -/
def gain (m : NMap Bucket) (l rate kib : Nat) : NMap Bucket := mset m l ⟨min (burstCenti kib) (bucket m l + rate)⟩

/-- Held messages whose turn has come pass as yellow (R404), all of them where their policer is off (R401, R403); the places they leave
free slots of later ones. -/
def passHeld (l : Nat) : Nat → State → State
  | 0, s => s
  | n + 1, s =>
    match mgetD s.qos.holdQ l [] with
    | [] => s
    | h :: rest =>
      let size := 1600 * h.msg.slotCount
      let off := mgetD s.qos.pir l 0 == 0
      if !off && decide (bucket s.qos.peakTokens l < size) then s
      else
        let s := if off then s else takeTokens s l size false
        let s := if h.freed then s else freeSlots s h.link.toNat h.msg.vc.toNat h.msg.slotCount
        let s := { s with qos := { s.qos with holdQ := mset s.qos.holdQ l rest } }
        let s := modLink s selfLink (fun r => { r with rx := r.rx ++ [⟨{ h.msg with yellow := true }, h.atNs, false⟩] })
        passHeld l n s

/-- Messages that a full hold queue kept in the receive buffer enter it as it has room (R404). -/
def takeHeld (s : State) (l : Nat) : State :=
  let q := mgetD s.qos.holdQ l []
  let r := q.foldl (fun (a : List HeldMsg × List HeldMsg × Nat) h =>
    if h.freed then (a.1 ++ [h], a.2.1, a.2.2 + h.msg.slotCount)
    else if a.2.2 + h.msg.slotCount ≤ 256 then (a.1 ++ [{ h with freed := true }], a.2.1 ++ [h], a.2.2 + h.msg.slotCount)
    else (a.1 ++ [h], a.2.1, 257)) ([], [], 0)
  if r.2.1.isEmpty then s
  else
    let s := { s with qos := { s.qos with holdQ := mset s.qos.holdQ l r.1 } }
    r.2.1.foldl (fun s h => freeSlots s h.link.toNat h.msg.vc.toNat h.msg.slotCount) s

/-- SHAPER_REFILL: 10 ns have passed (R400, R403, R404). -/
def shaperRefill (s : State) : State :=
  let labels := List.range 14
  let s := labels.foldl (fun s l =>
    let q := s.qos
    { s with qos := { q with
      shapeTokens := if mgetD q.shapeRate l 0 = 0 then q.shapeTokens
        else gain q.shapeTokens l (mgetD q.shapeRate l 0) (mgetD q.shapeBurst l 0)
      committedTokens := gain q.committedTokens l (mgetD q.cir l 0) (cbsKib s l)
      peakTokens := gain q.peakTokens l (mgetD q.pir l 0) (pbsKib s l) } }) s
  let s := labels.foldl (fun s l => takeHeld (passHeld l (mgetD s.qos.holdQ l []).length s) l) s
  pump s

/-- Set a shaper (R401). -/
def setShape (s : State) (l rate kib : Nat) : State :=
  let q := s.qos
  let old := mgetD q.shapeRate l 0
  let tokens :=
    if rate = 0 then mset q.shapeTokens l ⟨0⟩
    else if old = 0 then mset q.shapeTokens l ⟨burstCenti kib⟩
    else mset q.shapeTokens l ⟨min (bucket q.shapeTokens l) (burstCenti kib)⟩
  pump { s with qos := { q with
    shapeRate := mset q.shapeRate l rate
    shapeBurst := mset q.shapeBurst l kib
    shapeTokens := tokens } }

/-- A bucket of a policer whose rate changes (R401, R403). -/
def repolice (m : NMap Bucket) (l old new kib : Nat) : NMap Bucket :=
  if new = 0 then mset m l ⟨0⟩ else if old = 0 then mset m l ⟨burstCenti kib⟩ else mset m l ⟨min (bucket m l) (burstCenti kib)⟩

/-- Set a policer's rates. -/
def setPolice (s : State) (l cir pir : Nat) : State :=
  let q := s.qos
  let s := { s with qos := { q with
    cir := mset q.cir l cir
    pir := mset q.pir l pir
    committedTokens := repolice q.committedTokens l (mgetD q.cir l 0) cir (cbsKib s l)
    peakTokens := repolice q.peakTokens l (mgetD q.pir l 0) pir (pbsKib s l) } }
  if pir = 0 then passHeld l (mgetD s.qos.holdQ l []).length s else s

/-- Is a rate one that a label may have (R415, R416)? -/
def rateOk (r : Nat) : Bool := decide (100 ≤ r) && decide (r ≤ 1000000)

/-- SHAPE_WRITE: a write of QOS_SHAPE (R63, R415). -/
def shapeWrite (s : State) (l : Nat) (v : Word) : State :=
  if 13 < l then s
  else
    let rate := bits v.toNat 63 32
    let kib := bits v.toNat 15 0
    let old := mgetD s.qos.shapeRate l 0
    let rateTaken := (rateOk rate || (rate == 0 && !labelRt s l)) && !s.img.active.locks secLabels l 3
    let kibTaken := decide (1 ≤ kib) && decide (kib ≤ 4096) && !s.img.active.locks secLabels l 6
    setShape s l (if rateTaken then rate else old) (if kibTaken then kib else mgetD s.qos.shapeBurst l 0)

/-- POLICE_WRITE: a write of QOS_POLICE (R63, R416). -/
def policeWrite (s : State) (l : Nat) (v : Word) : State :=
  let cir := bits v.toNat 31 0
  let pir := bits v.toNat 63 32
  let cir' := if s.img.active.locks secLabels l 4 then mgetD s.qos.cir l 0 else cir
  let pir' := if s.img.active.locks secLabels l 5 then mgetD s.qos.pir l 0 else pir
  if 13 < l || policeMode s l == 0 || !rateOk cir || !rateOk pir || decide (pir' < cir') then s else setPolice s l cir' pir'

/-- The feedback level of a smoothed level Qs in 1/65,536 % (R406). -/
def levelOf (qs : Nat) : Nat :=
  if qs < 50 * 65536 then 0 else if qs < 75 * 65536 then 1 else if qs < 90 * 65536 then 2 else 3

/-- Q of one microsecond in 1/65,536 % (R406, R432): of the populated channels the fullest queue, of 64 entries. -/
def sampleQ (s : State) : Nat :=
  maxNat ((interleaveSet s).map (fun c => max (ctl s c).rq.length (ctl s c).wq.length * 102400))

/-- Migration pause (R408), and event 0x242 (R411). -/
def pauseCheck (s : State) : State :=
  let s := match s.qos.withheldNs with
    | some t => if t + 1000000 ≤ s.clockNs && !s.qos.withheldRaised then
        raise { s with qos := { s.qos with withheldRaised := true } } 0x242 0 else s
    | none => s
  let held := s.qos.withheldNs.isSome
  let high := match s.qos.highNs with | some t => decide (t + 20000 ≤ s.clockNs) | none => false
  let low := match s.qos.zeroNs with | some t => decide (t + 100000 ≤ s.clockNs) | none => false
  { s with qos := { s.qos with pause := if high || held then true else if low then false else s.qos.pause } }

/-- FEEDBACK_SAMPLE (R406, R408, R409). The manual gives Qs no width; units of 1/65,536 % are a DESIGN CHOICE. -/
def feedbackSample (s : State) : State :=
  let qs := (7 * s.qos.qs + sampleQ s) / 8
  let lv := levelOf qs
  let s := { s with qos := { s.qos with
    qs := qs
    level := lv
    highNs := if 2 ≤ lv then some (s.qos.highNs.getD s.clockNs) else none
    zeroNs := if lv = 0 then some (s.qos.zeroNs.getD s.clockNs) else none } }
  devloadSet (pauseCheck s)

/-- The floor f_l of a label's scale (R407). -/
def scaleFloor (s : State) (l : Nat) : Nat := max 1 (s.img.active.fld secLabels l 10 * 256 / 100)

/-- A label's scale after one adjustment (R407). -/
def nextScale (s : State) (l : Nat) : Nat :=
  let c := mgetD s.qos.scale l 256
  let f := scaleFloor s l
  if s.qos.feedbackOff || labelGuaranteed s l then 256
  else match s.qos.level with
    | 0 => min 256 (c + 16)
    | 1 => max f c
    | 2 => max f (c / 2)
    | _ => f

/-- SCALE_ADJUST (R407). -/
def scaleAdjust (s : State) : State :=
  pump { s with qos := { s.qos with scale := (List.range 14).map (fun l => (l, nextScale s l)) } }

/-- A write of QOS_CTRL (R407, R412). -/
def qosCtrlWrite (s : State) (v : Word) : State :=
  let off := v.getLsbD 0
  let s := { s with qos := { s.qos with
    policeOff := v.getLsbD 1
    feedbackOff := off
    scale := if off then (List.range 14).map (fun l => (l, 256)) else s.qos.scale } }
  pump s

end Sys2Proof.Machine
end

