-- ==== Sys2Proof/Machine/Stage.lean ====
section
/-! DEFINITION. Staging and commit of a Clabex image (02: R53 to R65, R68; 14: R484). -/

namespace Sys2Proof.Machine

/-- The byte of the inactive slot at an offset: the newest range of the session that covers it, else 0xFF (R58). -/
def stagedByte (ranges : List (Nat × List Byte)) (i : Nat) : Option Byte :=
  match ranges.find? (fun r => decide (r.1 ≤ i) && decide (i < r.1 + r.2.length)) with
  | some r => r.2[i - r.1]?
  | none => none

/-- The staged image as the slot reads, and GEN_IMAGE_STAGE.staged_bytes (R58, R68). -/
def stagedImage (s : State) : List Byte := (List.range s.img.declared).map (fun i => (stagedByte s.img.ranges i).getD 0xFF)
def stagedBytes (s : State) : Nat := ((List.range s.img.declared).filter (fun i => (stagedByte s.img.ranges i).isSome)).length

/-- The owner's public key, while the owner record agrees with the fused digest (R512). -/
def ownerNow (s : State) : Option (List Byte) := if s.sec.ownerOk then s.sec.ownerKey else none

/-- The key an image must be signed with: the enrolled owner's, or the vendor's (R53). -/
def imageKey (s : State) : List Byte := (ownerNow s).getD Config.vendorImageKey

/-- Faults of R54 but for the signature: the SVN floor, the silicon revision and the lot. -/
def rollbackFaults (s : State) (i : Img) : List Nat :=
  faultIf (decide (i.svn < s.sec.imgFloor)) icSvn ++
    faultIf (decide (Config.revision < i.minRev) || (i.bindLot != 0 && i.bindLot != s.sec.lotId)) icBind

/-- The faults of an image's bytes under R39 and R54. In BLANK a failed signature is waived (R54). -/
def verifyFaults (s : State) (bs : List Byte) (present : Nat) : List Nat :=
  formatFaults bs present ++ faultIf (s.sec.secured && signatureThere bs && !signatureOk bs (imageKey s)) icSignature ++
    rollbackFaults s (parseImage bs)

/-- The primer slots an image changes against the active one: its record is absent, or its fingerprint differs (R207). -/
def changedSlots (s : State) (prims : NMap Primer) : List Nat :=
  (mkeys s.img.active.primers).filter (fun n =>
    match mget s.img.active.primers n, mget prims n with
    | some a, some b => primerFingerprint a.bytes != primerFingerprint b.bytes
    | _, _ => true)

/-- The slots a waiting compression takes when it runs: those then in force (R205, R207). -/
def rejob (s : State) (j : Job) : Job :=
  let slots := match j.use with
    | .evict k => [evictSlot s (blockNo k / 4)]
    | .migrate p _ => pageSlots s p
    | .populate p _ => pageSlots s p
    | .copy k _ => [copySlot s k]
    | .eval _ _ => j.slots.map (·.toNat)
  jobOf j.use slots j.label j.data

/-- At the commit point or the refusal each compression that waited runs at once, with the slot contents then in force (R207). -/
def releaseJobs (s : State) : State :=
  let js := s.cmp.waiting
  let s := { s with cmp := { s.cmp with waiting := [] }, img := { s.img with changing := 0 } }
  let s := js.foldl (fun s j => match j.use with
    | .migrate p _ => modMig s p (fun m => { m with slots := pageSlots s p, primer := (attrsOf s p).primer })
    | .copy k _ => modCopy s k (fun c => { c with packing := c.packing.map (fun x => (copySlot s k, x.2)) })
    | _ => s) s
  runLanes (js.foldl (fun s j => pushJob s (rejob s j)) s)

/-- The serial a staged image must exceed: the active image's, or while no image is active the higher one of the slots (R59,
R614). -/
def serialInForce (s : State) : Nat :=
  if s.boot.st = .romRecovery ∨ (s.boot.st = .halted ∧ !s.boot.ended.contains 0x07) then
    (s.img.slots.map (fun x => x.2.img.serial.toNat)).foldl max 0
  else s.img.active.serial.toNat

/-- Is the device a pool member (R317, R332, R336): in service, restarting, asleep with its row, or leaving? -/
def poolMember (s : State) : Bool :=
  s.fab.own == .inService || s.fab.own == .restarting || s.fab.own == .asleep || s.fab.own == .leaving

/-- Faults of a staged image against the device's state (R59). -/
def stagingFaults (s : State) (i : Img) : List Nat :=
  faultIf (decide (i.serial.toNat ≤ serialInForce s)) icSerial ++
    faultIf ((changedSlots s i.primers).any (slotInUse s)) icPrimerInUse ++
    faultIf (s.chd.extents.any (fun e => (i.tagIndex e.2.tag).isNone)) icTagInUse ++
    faultIf (i.poolId != s.img.active.poolId && poolMember s) icPoolId

/-- A mailbox command has no effect before the mailbox is ready (R497). In ROM_RECOVERY the secure ROM takes only firmware, event
record and image staging opcodes (R614). -/
def mailbox (s : State) (rom : Bool) (run : State → State) : State :=
  if !s.host.infoValid then s
  else if s.boot.st = .romRecovery ∧ !rom then mbReply s .retryRequired
  else run s

/-- IMAGE_STAGE_BEGIN (R57, R58). -/
def imageStageBegin (s : State) (p : List Byte) : State :=
  if p.length ≠ 4 then mbReply s .invalidLength
  else
    let n := field p 0 4
    if s.img.stage = .receiving ∨ s.img.stage = .verifying ∨ s.img.refoldActive then entryReply s stBusyRetry 0
    else if n = 0 then entryReply s stInvalid 0
    else if n % 16 ≠ 0 ∨ 16777216 < n then entryReply s stLength 0
    else entryReply { s with img := { s.img with
      stage := .receiving
      cause := 0
      declared := n
      ranges := []
      slots := mdel s.img.slots (1 - s.img.activeSlot.toNat) } } stOk 0

/-- IMAGE_STAGE_DATA (R58, R482 to R484). -/
def imageStageData (s : State) (p : List Byte) : State :=
  let off := field p 0 4
  let n := field p 4 4
  if p.length < 16 ∨ p.length ≠ 16 + n then mbReply s .invalidLength
  else if s.img.stage = .verifying then entryReply s stBusyRetry 0
  else if s.img.stage ≠ .receiving ∨ n = 0 ∨ !allZero p 8 8 then entryReply s stInvalid 0
  else if s.img.declared < off + n then entryReply s stLength 0
  else entryReply { s with img := { s.img with ranges := (off, p.drop 16) :: s.img.ranges } } stOk 0

/-- A mask of slot numbers. -/
def slotMask (ns : List Nat) : BitVec 64 := ns.foldl (fun m n => m ||| ((1 : BitVec 64) <<< n)) 0

/-- IMAGE_STAGE_COMMIT (R61 step 1, R207): a background command. -/
def imageStageCommit (s : State) (p : List Byte) : State :=
  if p.length ≠ 0 then mbReply s .invalidLength
  else if s.img.stage = .verifying then entryReply s stBusyRetry 0
  else if s.img.stage ≠ .receiving then entryReply s stInvalid 0
  else if s.host.background.isSome then mbReply s .busy
  else
    let prims := parsePrimers ((sectionBody (stagedImage s) secPrimers).getD [])
    mbReply (holdJobs { s with
      img := { s.img with stage := .verifying, verified := none, changing := slotMask (changedSlots s prims) }
      host := { s.host with background := some .stageCommit, bgOutput := none } }) .background

/-- IMAGE_STAGE_ABORT (R59, R484). -/
def imageStageAbort (s : State) (p : List Byte) : State :=
  if p.length ≠ 0 then mbReply s .invalidLength
  else if s.img.stage = .verifying then entryReply s stBusyRetry 0
  else entryReply { s with img := { s.img with stage := .idle, ranges := [], declared := 0 } } stOk 0

/-- IMAGE_VERIFY_DONE (R59, R61 steps 2 and 3, R69, R70): a refusal ends the session and releases held compressions; the slot of a
verified image is written COMMITTED, the boot choice from then on, and the image waits for its commit point (log 124). In BLANK a
failed signature raises event 0x301 (R54). -/
def imageVerifyDone (s : State) : State :=
  if s.img.stage ≠ .verifying ∨ s.img.verified.isSome then s
  else
    let bs := stagedImage s
    let i := parseImage bs
    let c := lowestCause (verifyFaults s bs s.img.declared ++ faultIf (decide (stagedBytes s < s.img.declared)) icLength ++
      stagingFaults s i)
    if c ≠ 0 then
      let s := { s with img := { s.img with stage := .rejected, cause := BitVec.ofNat 8 c, ranges := [] } }
      completeCmd (releaseJobs s) .mailbox (causeStatus c) 0
    else
      let signed := signatureOk bs (imageKey s)
      let s := if signed then s else raise s 0x301 icSignature
      { s with img := { s.img with
        verified := some i
        slots := mset s.img.slots (1 - s.img.activeSlot.toNat)
          ⟨true, i, signed, ownerNow s, shake256 (bytesAt bs 0 (bodyEnd bs)) 64⟩ } }

/-- Every QOS register takes the new image's values (R63, R401, R416). -/
def loadLabels (s : State) : State :=
  (List.range 16).foldl (fun s l =>
    let f := s.img.active.fld secLabels l
    setPolice (setShape s l (f 3) (f 6)) l (f 4) (f 5)) s

/-- LNK_TIMERS and FAB_E2E_CTRL take the values a commit changes (R52). -/
def loadTimers (s : State) (old new : Basic) : State :=
  let s := if old.e2eTimeoutUs = new.e2eTimeoutUs then s
    else { s with e2e := { s.e2e with timeoutUs := BitVec.ofNat 14 new.e2eTimeoutUs } }
  if old.linkGiveupMs = new.linkGiveupMs ∧ old.replayTimerUs = new.replayTimerUs then s
  else
    { s with links := mmap s.links (fun _ r => { r with
      giveupMs := if old.linkGiveupMs = new.linkGiveupMs then r.giveupMs else BitVec.ofNat 8 new.linkGiveupMs
      replayUs := if old.replayTimerUs = new.replayTimerUs then r.replayUs else BitVec.ofNat 8 new.replayTimerUs }) }

/-- The populated pages of an extent. -/
def extentPages (s : State) (e : Extent) : List Nat :=
  (s.chd.pages.filter (fun x => decide (e.dpa2m * 512 ≤ x.1) && decide (x.1 < (e.dpa2m + e.len2m) * 512) &&
    dTier x.2.desc != tierNone)).map (·.1)

/-- MIRROR of a page whose extent is no longer Mirrored is cleared, and the buddy's copy is freed afterwards (R76). -/
def unmirror (s : State) (p : Nat) : State :=
  let d := (page s p).desc
  if dMirror d then
    let s := descSet s p (dSet d 117 117 0)
    let x := pageIndex s p
    mirrorFree s x.1 x.2 1
  else s

/-- A refold that turns integrity off clears INTEG page by page (R245). -/
def untag (s : State) (p : Nat) : State :=
  let d := (page s p).desc
  if dInteg d then modPage (descSet s p (dSet d 116 116 0)) p (fun x => { x with tags := 0 }) else s

/-- An extent waits for tag tables that the metadata store cannot supply, event 0x1E3; its pages keep INTEG 0 (R81). -/
def tagWait (s : State) (i : Nat) : State := raise (modExtent s i (fun e => { e with tagTables := false, tagWait := true })) 0x1E3 0

/-- An existing extent takes the attributes that its tag resolves to in the new image (R76, R77). Label and policy act at once; a
page keeps its old domain until Chard has moved it; tag tables are allocated where the domain now has integ 1 (R81); a newly Mirrored
extent reserves at the buddy (R97), one no longer Mirrored frees its copies. -/
def refoldExtent (s : State) (i : Nat) : State :=
  match extentEnt s i with
  | none => s
  | some e =>
    match resolveTag s e.tag with
    | none => s
    | some t =>
      if e.shared.isSome then modExtent s i (fun e => { e with attrs := { e.attrs with label := t.label } })
      else
        let ps := extentPages s e
        let s := ensureDomain s t.domain
        let s := if t.domain = e.attrs.domain then s
          else { s with chd := { s.chd with pageDom := ps.foldl (fun m p => if mhas m p then m else mset m p e.attrs.domain) s.chd.pageDom } }
        let on := domainInteg s t.domain
        let s := if on then s else ps.foldl untag s
        let s := modExtent s i (fun e => { e with attrs := t, tagTables := on && e.tagTables, tagWait := false })
        let s := if !on || e.tagTables then s
          else if tagFrames e ≤ framesF s then modExtent s i (fun e => { e with tagTables := true })
          else tagWait s i
        if e.attrs.mirrored == t.mirrored then s
        else if t.mirrored then
          (match myBuddy s with
           | some b => openTx s 5 (mirrorCtl b 1 e.mext 0 e.len2m 14) (.reserve e.mext)
           | none => s)
        else unreserve (ps.foldl unmirror s) e.mext e.len2m

/-- A commit that changes buddy_node: what the old buddy holds no longer protects, and the new one is resilvered (R60, R172). -/
def newBuddy (s : State) (old : Img) : State :=
  let b := s.img.active.fld secDurability 0 0
  if old.fld secDurability 0 0 = b then s
  else
    let s := { s with fab := { s.fab with buddyIntact := false } }
    let s := buddyGone s
    if b = 0xFFFF then mirrorTo s .none
    else
      let s := if s.chd.mirror = .none then mirrorTo s .exposed else s
      if inService s b then buddyBack s else s

/-- The refold work of a commit is posted, and the pages whose slot is no longer their extent's are named in the pending list; with
nothing to move or copy the refold has ended (R60, R76). -/
def startRefold (s : State) (old : Img) : State :=
  if !kindDiffers s.img.active old [secWindow, secTags, secDurability, secDomains] then s
  else
    let s := newBuddy s old
    let s := (mkeys s.chd.extents).foldl refoldExtent s
    let all := (s.chd.extents.filter (fun e => e.2.shared.isNone)).flatMap (fun e => extentPages s e.2)
    let repack := (all.filter (otherPrimer s)).map (BitVec.ofNat 36)
    let s := { s with chd := { s.chd with repack := s.chd.repack ++ repack.filter (fun q => !s.chd.repack.contains q) } }
    refoldEnds (noteRefold (postRefold { s with img := { s.img with refoldActive := true } } (all.filter (wantsRefold s))))

/-- An extent whose refold waits for tag tables gets them once the metadata store can supply them (R81). -/
def tagTablesGo (s : State) : State :=
  match s.chd.extents.find? (fun e => e.2.tagWait && decide (tagFrames e.2 ≤ framesF s)) with
  | none => s
  | some (i, _) =>
    let s := reserveChanged (modExtent s i (fun e => { e with tagTables := true, tagWait := false }))
    let ps := ((extentEnt s i).map (extentPages s)).getD []
    refoldEnds (postRefold s (ps.filter (wantsRefold s)))

/-- A device that has left service for its digest joins again once an image with the pool's digest is committed (R338). -/
def joinMatched (s : State) : State := if s.fab.own == .absent then sendJoins s else s

/-- The pool-wide sections of a committed image, its own and those BASIC derives: pending until their epoch; of an epoch that has
been reached they are applied, unless their digest differs from the one agreed (R64, R65). -/
def commitPool (s : State) : State :=
  let i := s.img.active
  if s.fab.epoch.toNat < i.poolEpoch.toNat then { s with img := { s.img with poolPending := true } }
  else match s.fab.digest with
    | some d => if d = i.poolDigest then joinMatched (applyPool s) else raise { s with img := { s.img with poolPending := false } } 0x22E 0
    | none => applyPool s

/-- A halted boot is left by an accepted commit: a device reset with start cause 6 follows (R613, R621). -/
def restartHalted (s : State) : State :=
  if s.boot.st = .halted ∨ s.boot.st = .romRecovery then
    { s with flt := { s.flt with react := s.flt.react ++ [.deviceReset 6] } }
  else s

/-- COMMIT_POINT (R60 to R65): the new slot becomes active, live tables switch, refold work starts and restart sections are marked
pending; the command completes with OK. A raised ledger_mib acts at once, a lowered one at the next device reset (R141). -/
def commitPoint (s : State) : State :=
  match s.img.verified with
  | none => s
  | some i =>
    let old := s.img.active
    let slot := 1 - s.img.activeSlot.toNat
    let s := { s with
      img := { s.img with
        activeSlot := BitVec.ofNat 1 slot
        active := i
        verified := none
        stage := .idle
        ranges := [] }
      pwr := { s.pwr with expected := BitVec.ofNat 2 i.basic.feedsExpected }
      boot := { s.boot with altDrop := true } }
    let s := taggedDomains (loadTimers (loadLabels s) old.basic i.basic)
    let s := markRestart (commitPool s)
    let s := { s with chd := { s.chd with ledgerMib := max s.chd.ledgerMib (globalPolicy s 20) } }
    let s := startRefold (reserveChanged s) old
    restartHalted (completeCmd (releaseJobs s) .mailbox stOk 0)

end Sys2Proof.Machine
end

