-- ==== Sys2Proof/Machine/Host.lean ====
section
/-! DEFINITION. The rows of the host interface (14): HDM decoders (R477), the host link and its start-up (R474, R497), and the
standard mailbox commands (R481). The layouts that R481 takes from CXL 3.1 are PRESUMED. -/

namespace Sys2Proof.Machine

/-- The defined regions as intervals of 2 MiB units (R71). -/
def regionSpans (s : State) : List (Nat × Nat) :=
  (s.img.active.recs secWindow).map (fun r => (r.2.getD 0 0, r.2.getD 0 0 + r.2.getD 1 0))

/-- Does a list of intervals cover every unit from `a` to `b`? -/
def covered (spans : List (Nat × Nat)) (a b : Nat) : Nat → Bool
  | 0 => decide (b ≤ a)
  | n + 1 =>
    if b ≤ a then true
    else match spans.find? (fun x => decide (x.1 ≤ a) && decide (a < x.2)) with
      | some x => covered spans x.2 b n
      | none => false

/-- A decoder's DPA range in bytes, as its settings and the decoders before it give it (R477). -/
def decoderRange (s : State) (i : Nat) : Nat × Nat :=
  match mget s.host.decoders i with
  | some d => (decoderBase s i, decoderBase s i + decoderLen d)
  | none => (0, 0)

/-- May a decoder's settings be committed (R477)? -/
def decoderOk (s : State) (i : Nat) (x : HdmSetting) : Bool :=
  let r := decoderRange s i
  [1, 2, 3, 4, 6, 8, 12, 16].contains x.ways.toNat && [256, 512, 1024, 2048, 4096, 8192, 16384].contains x.granularity.toNat &&
    x.dpaSkip.toNat % 268435456 == 0 && x.bi && covered (regionSpans s) (r.1 / 2097152) (ceilDiv r.2 2097152) 9 &&
    (List.range 8).all (fun j =>
      let o := decoderRange s j
      j == i || !((mget s.host.decoders j).any (fun d => d.committed)) || decide (o.2 ≤ r.1) || decide (r.2 ≤ o.1))

/-- HDM_DECODER_COMMIT (R477): a refused commit sets Commit Error and leaves the decoder uncommitted. -/
def hdmDecoderCommit (s : State) (i : Nat) (x : HdmSetting) : State :=
  let put := fun (c e : Bool) => { s with host := { s.host with decoders := mset s.host.decoders i ⟨x, c, e⟩ } }
  if decoderOk (put true false) i x then put true false else put false true

/-- HOST_LINK_UP (R474, R497): trained from termination, or back in L0 from L1 or L2. WAKE# is released and pending messages
leave (R496, R651). -/
def hostLinkUp (s : State) (speed : BitVec 4) (width : BitVec 6) : State :=
  if !s.host.termination then s
  else
    let back := s.host.linkLow == some .l1 || s.host.linkLow == some .l2
    let s := { s with host := { s.host with speed := speed, width := width, linkLow := none, wake := false } }
    let s := if back then { s with aon := { s.aon with hostWake := true } } else s
    let s := flushMsix s
    if speed.toNat < 6 ∨ width.toNat < 16 then raise s 0x260 0 else s

/-- HOST_LINK_LEAVES_L0 (R33, R651). A link that is down reports speed and width 0 (R502). -/
def hostLinkLeavesL0 (s : State) (low : HostLinkLow) : State :=
  if low = .down then { s with host := { s.host with linkLow := some .down, speed := 0, width := 0 } }
  else if s.host.linkLow == none && s.host.speed != 0 then { s with host := { s.host with linkLow := some low } }
  else s

/-- HOST_INTERFACE_READY (R497 step 3): CRS ends, the mailbox serves; while the device serves, Memory_Active is 1 again. -/
def hostInterfaceReady (s : State) : State :=
  if s.host.perst || !s.boot.ended.contains 0x05 then s
  else
    let serving := s.boot.st == .serving
    let s := { s with host := { s.host with
      crs := false
      infoValid := true
      memActive := s.host.memActive || serving
      creditsWithheld := s.host.creditsWithheld && !serving } }
    if serving then pump s else s

/-- GET_EVENT_RECORDS: the oldest records of a log that fit the payload. -/
def getEventRecords (s : State) (log : Nat) : State :=
  if 4 < log then mbReply s .invalidInput else mbReply s (.records ((mgetD s.host.logs log []).take 511))

/-- Is a list of handles the oldest records of a log, in order? -/
def oldestHandles : List (BitVec 16) → List CxlRec → Bool
  | [], _ => true
  | _ :: _, [] => false
  | h :: hs, r :: rs => h == r.handle && oldestHandles hs rs

/-- CLEAR_EVENT_RECORDS: all of a log, or its oldest records by their handles. -/
def clearEventRecords (s : State) (log : Nat) (all : Bool) (handles : List (BitVec 16)) : State :=
  if 4 < log then mbReply s .invalidInput
  else
    let rs := mgetD s.host.logs log []
    if !all && !oldestHandles handles rs then mbReply s .invalidHandle
    else
      let left := if all then [] else rs.drop handles.length
      mbReply { s with host := { s.host with logs := mset s.host.logs log left } } .ok

/-- GET and SET_EVENT_INTERRUPT_POLICY: one byte per log, mode in [1:0] and vector in [7:4]. -/
def getEventInterruptPolicy (s : State) : State := mbReply s (.bytes (natLe 5 s.host.policy.toNat))
def setEventInterruptPolicy (s : State) (p : BitVec 40) : State := mbReply { s with host := { s.host with policy := p } } .ok

/-- The revision string of a firmware slot. -/
def fwRevision (s : State) (n : Nat) : List Byte :=
  match mget s.host.fwSlots n with
  | some f => bytesAt (Config.fwRevision f.digest) 0 16
  | none => List.replicate 16 0

/-- GET_FW_INFO: two slots, the active and the staged one, and their revisions. -/
def getFwInfo (s : State) : State :=
  let num := fun (o : Option Nat) => (o.map (· + 1)).getD 0
  mbReply s (.bytes ([2, BitVec.ofNat 8 (num s.host.fwActive + 8 * num s.host.fwPending), 0] ++ List.replicate 13 0 ++
    fwRevision s 0 ++ fwRevision s 1 ++ List.replicate 32 0))

/-- Does a firmware image's format hold (R510): the header of R36 with its own magic, no directory, and the block of R37? -/
def fwFormatOk (bs : List Byte) : Bool :=
  let len := imageLength bs
  field bs 0 4 == 0x5746584C && field bs 4 2 == 1 && within 4096 len 16777216 && len % 16 == 0 && decide (len ≤ bs.length) &&
    field bs 0x0C 4 != 0 && within 0 (field bs 0x10 1) 64 && allZero bs 0x12 2 && allZero bs 0x28 216 && (sigFaults bs).isEmpty

/-- D of a firmware image (R510). -/
def fwDigest (bs : List Byte) : List Byte := shake256 (bytesAt bs 0 (bodyEnd bs)) 64

/-- Does a firmware image verify with the vendor firmware key (R509, R510)? -/
def fwSignatureOk (bs : List Byte) : Bool :=
  let b := sigBlock bs
  shake256 Config.vendorFwKey 32 == bytesAt b 8 32 &&
    Config.falconVerify Config.vendorFwKey (ascii "LX9012-FW1" ++ fwDigest bs) (bytesAt b 0x40 (field b 2 2))

/-- The end of a transfer: the image is verified and stands in its slot (R506, R509). In BLANK a failed signature is recorded, and
the code may run (R508). -/
def fwArrived (s : State) (slot : Nat) (bs : List Byte) : State :=
  let s := { s with host := { s.host with fwTransfer := none } }
  let good := fwFormatOk bs && decide (s.sec.fwFloor ≤ field bs 0x10 1) && (!s.sec.secured || fwSignatureOk bs)
  if good then
    mbReply { s with host := { s.host with
      fwSlots := mset s.host.fwSlots slot ⟨field bs 0x0C 4, field bs 0x10 1, true, fwDigest bs, fwSignatureOk bs⟩ } } .ok
  else mbReply { s with host := { s.host with fwSlots := mdel s.host.fwSlots slot } } .invalidInput

/-- TRANSFER_FW: full, initiate, continue, end or abort; the offset is in 128 B units and only the inactive slot is written. -/
def transferFw (s : State) (action slot offset : Nat) (data : List Byte) : State :=
  if action = 4 then mbReply { s with host := { s.host with fwTransfer := none } } .ok
  else if action = 0 ∨ action = 1 then
    if s.host.fwTransfer.isSome then mbReply s .busy
    else if slot = 0 ∨ 2 < slot ∨ s.host.fwActive = some (slot - 1) ∨ offset ≠ 0 then mbReply s .invalidInput
    else if action = 0 then fwArrived s (slot - 1) data
    else mbReply { s with host := { s.host with
      fwTransfer := some ⟨slot - 1, data.length, data⟩
      fwSlots := mdel s.host.fwSlots (slot - 1) } } .ok
  else if 4 < action then mbReply s .invalidInput
  else match s.host.fwTransfer with
    | none => mbReply s .invalidInput
    | some t =>
      if 128 * offset ≠ t.received ∨ 16777216 < t.received + data.length then mbReply s .invalidInput
      else if action = 3 then fwArrived s t.slot (t.bytes ++ data)
      else mbReply { s with host := { s.host with fwTransfer := some ⟨t.slot, t.received + data.length, t.bytes ++ data⟩ } } .ok

/-- ACTIVATE_FW (R510): a verified slot, at the next device reset; no slot activates online. -/
def activateFw (s : State) (action slot : Nat) : State :=
  if action ≠ 1 ∨ slot = 0 ∨ 2 < slot ∨ !((mget s.host.fwSlots (slot - 1)).any (fun f => f.valid)) then mbReply s .invalidInput
  else mbReply { s with host := { s.host with fwPending := some (slot - 1) } } .ok |> restartHalted

/-- GET and SET_TIMESTAMP. -/
def getTimestamp (s : State) : State :=
  mbReply s (.bytes (natLe 8 (if s.host.timestamp.isSome then (stamp s).toNat else 0)))
def setTimestamp (s : State) (v : BitVec 64) : State :=
  mbReply { s with host := { s.host with timestamp := some (v, s.clockNs) } } .ok

/-- The opcodes the mailbox supports (R481, R482). -/
def mailboxOpcodes : List Nat :=
  [0x0100, 0x0101, 0x0102, 0x0103, 0x0200, 0x0201, 0x0202, 0x0300, 0x0301, 0x0400, 0x0401, 0x4000, 0x4300, 0x4301, 0x4302,
   0x4800, 0x4801, 0x4802, 0x4803, 0xC000, 0xC001, 0xC002, 0xC003, 0xC010, 0xC011, 0xC020]

/-- The Command Effects Log: an opcode and its effects each. -/
def celBytes : List Byte := mailboxOpcodes.flatMap (fun o => natLe 2 o ++ natLe 2 (Config.celEffect o))

/-- The identifier of the Command Effects Log, 0da9c0b5-bf41-4b78-8f79-96b1623b3f17. -/
def celUuid : List Byte :=
  [0x0D, 0xA9, 0xC0, 0xB5, 0xBF, 0x41, 0x4B, 0x78, 0x8F, 0x79, 0x96, 0xB1, 0x62, 0x3B, 0x3F, 0x17]

/-- GET_SUPPORTED_LOGS and GET_LOG: the Command Effects Log only. -/
def getSupportedLogs (s : State) : State :=
  mbReply s (.bytes (natLe 2 1 ++ List.replicate 6 0 ++ celUuid ++ natLe 4 celBytes.length))
def getLog (s : State) (cel : Bool) (offset length : Nat) : State :=
  if !cel || decide (celBytes.length < offset + length) then mbReply s .invalidInput
  else mbReply s (.bytes (bytesAt celBytes offset length))

/-- IDENTIFY_MEMORY_DEVICE: capacities and LSA size 0, poison list limit 4,096; the other fields are not stated. -/
def identifyMemoryDevice (s : State) : State :=
  let f := fun n w => natLe w (Config.identifyField n)
  let rev := match s.host.fwActive with | some n => fwRevision s n | none => List.replicate 16 0
  mbReply s (.bytes (rev ++ natLe 24 0 ++ f 0 8 ++ f 1 2 ++ f 2 2 ++ f 3 2 ++ f 4 2 ++ natLe 4 0 ++ natLe 3 4096 ++ f 5 2 ++ f 6 1 ++
    f 7 1 ++ f 8 2))

/-- A command of 0x4300 to 0x4803 is answered Retry Required until Memory Active (R481). -/
def whenActive (s : State) (run : State → State) : State := if s.host.memActive then run s else mbReply s .retryRequired

/-- The lines of this device's window that a poison mask marks, in DPA order, as DPAs (R465, R481). -/
def poisonDpas (s : State) : List Nat :=
  s.chd.pages.flatMap (fun x => ((List.range 64).filter (fun i => x.2.poison.getLsbD i)).map (fun i => 4096 * x.1 + 64 * i))

/-- GET_POISON_LIST: one record per line of the range, `count` lines from a DPA, at most 4,096. -/
def getPoisonList (s : State) (dpa count : Nat) : State :=
  whenActive s (fun s =>
    let inside := fun a => decide (dpa / 64 * 64 ≤ a) && decide (a < dpa / 64 * 64 + 64 * count)
    mbReply s (.poisonList (((poisonDpas s).filter inside).take 4096 |>.map (fun a => (a, 1)))))

/-- A write of the device itself to a line of its window, as a host write acts (R464, R467). -/
def deviceWrite (s : State) (dpa : Nat) (poison : Bool) (data : Line) : State :=
  let key := lineKey (myNode s) (dpa / 64)
  let kind : OwnKind := .wrLine .i poison (BitVec.allOnes 64) data
  let s := makeWay s key kind
  if !pendBefore s key && mayTake s key kind then goOn (openOwn s key kind .device false false) key
  else putPend s key kind .device .host

/-- INJECT_POISON and CLEAR_POISON (R464, R467, R481): a write of the line, on a shared extent as a host write that its home serves. -/
def poisonCommand (s : State) (dpa : Nat) (poison : Bool) (data : Line) : State :=
  whenActive s (fun s =>
    match extentOf s dpa with
    | some (_, e) =>
      if dpa % 64 != 0 then mbReply s .invalidInput
      else if e.shared.isSome then
        let w : ReqWork := .write .invalid none e.attrs.label data (BitVec.allOnes 64) poison
        mbReply (pump { s with coh := { s.coh with waitHost := s.coh.waitHost ++ [(BitVec.ofNat 64 dpa, w)] } }) .ok
      else mbReply (deviceWrite s dpa poison data) .ok
    | none => mbReply s .invalidInput)
def injectPoison (s : State) (dpa : Nat) : State := poisonCommand s dpa true 0
def clearPoison (s : State) (dpa : Nat) (data : Line) : State := poisonCommand s dpa false data

/-- GET_DYNAMIC_CAPACITY_CONFIGURATION (R72): base DPA, decode length and block size of the regions asked for. -/
def getDcConfiguration (s : State) (count start : Nat) : State :=
  whenActive s (fun s =>
    let rs := s.img.active.recs secWindow
    if rs.length ≤ start then mbReply s .invalidInput
    else mbReply s (.regions (((rs.drop start).take count).map (fun r =>
      (r.2.getD 0 0 * 2097152, r.2.getD 1 0 * 2097152, 2 ^ r.2.getD 3 0)))))

/-- GET_DYNAMIC_CAPACITY_EXTENT_LIST (R98): accepted extents of this window. The generation number of the list is not stated. -/
def getDcExtentList (s : State) (count start : Nat) : State :=
  whenActive s (fun s =>
    let es := s.chd.extents.filter (fun e => e.2.state == .accepted)
    if es.length < start then mbReply s .invalidInput
    else
      let g := free s
      mbReply g.2 (.extents es.length g.1 (((es.drop start).take count).map (fun e =>
        (e.2.dpa2m * 2097152, e.2.len2m * 2097152, e.2.tag)))))

/-- An opcode the mailbox does not support (R481). -/
def mailboxUnsupported (s : State) : State := mbReply s .unsupported

end Sys2Proof.Machine
end

