-- ==== Sys2Proof/Machine/Secure.lean ====
section
/-! DEFINITION. The secure world's rows (15): the SEC mailbox (R511 to R514, R519 to R523), hold votes and the watchdog (R525 to
R530), and the SPDM responder (R515 to R518). SPDM's own layouts and codes are PRESUMED from SPDM 1.3. -/

namespace Sys2Proof.Machine

/-- The current owner slot (R512): the last one that is written and not revoked. -/
def ownerSlot (s : State) : Option (List Byte) :=
  ((s.sec.slots.reverse.find? (fun o => !o.revoked)).map (·.digest))

/-- The digest of the current owner: none while the part is unowned, or treated as such (R512). -/
def ownerDigest (s : State) : Option (List Byte) := if s.sec.ownerOk then ownerSlot s else none

/-- The digest of a public key (R512). -/
def keyDigest (key : List Byte) : List Byte := shake256 key 32

/-- The boot's check of the owner record against the fused digest (R512): a mismatch raises event 0x2E0, and the part is treated as
unowned. -/
def ownerCheck (s : State) : State :=
  if (ownerSlot s).isNone || s.sec.ownerKey.map keyDigest == ownerSlot s then { s with sec := { s.sec with ownerOk := true } }
  else raise { s with sec := { s.sec with ownerOk := false } } 0x2E0 0

/-- A SEC command ends (R522): its status and output stand, done is set, and MSI-X vector 0 is raised. -/
def secDone (s : State) (op : Nat) (input : List Byte) (status : Nat) (out : List Byte) : State :=
  let laid := fun (new old : List Byte) => (new ++ old.drop new.length).take 16384
  let s := { s with sec := { s.sec with
    opcode := BitVec.ofNat 8 op
    inLength := BitVec.ofNat 15 input.length
    outLength := BitVec.ofNat 15 out.length
    status := BitVec.ofNat 8 status
    payload := laid out (laid input s.sec.payload)
    busy := false
    done := true } }
  signalMsix s 0

/-- A SEC command with its layout check (R522): a length that differs from the layout completes LENGTH_RANGE before any effect. -/
def secCmd (s : State) (op : Nat) (input : List Byte) (lengthOk : Bool) (run : State → State × Nat × List Byte) : State :=
  if !lengthOk || decide (16384 < input.length) then secDone s op input stLength []
  else
    let r := run s
    secDone r.1 op input r.2.1 r.2.2

/-- CHALLENGE (R523): a fresh nonce. -/
def secChallenge (s : State) (input : List Byte) : State :=
  secCmd s 0x01 input input.isEmpty (fun s =>
    let f := free s
    let v : BitVec 256 := BitVec.ofNat 256 f.1
    ({ f.2 with sec := { f.2.sec with nonce := some ⟨v, s.clockNs, false⟩ } }, stOk, natLe 32 v.toNat))

/-- The bytes of the nonce a signed command uses: none when there is none, it was used, or its 60 s are over (R523). -/
def nonceBytes (s : State) : Option (List Byte) :=
  match s.sec.nonce with
  | some n => if n.used ∨ n.atNs + 60000000000 < s.clockNs then none else some (natLe 32 n.value.toNat)
  | none => none

/-- A nonce is consumed by its first use, whatever the outcome (R523). -/
def useNonce (s : State) : State :=
  { s with sec := { s.sec with nonce := s.sec.nonce.map (fun n => { n with used := true }) } }

/-- lot_id as 4 little-endian bytes. -/
def lotBytes (s : State) : List Byte := natLe 4 s.sec.lotId.toNat

/-- ENROL (R512, R513). -/
def secEnrol (s : State) (input : List Byte) : State :=
  let n := field input 1793 2
  secCmd s 0x02 input (decide (1795 ≤ input.length) && decide (input.length = 1795 + n)) (fun s =>
    let key := bytesAt input 0 1793
    let nonce := nonceBytes s
    let good := match nonce with
      | some v => Config.falconVerify key (ascii "LX9012-ENROL" ++ v ++ lotBytes s) (bytesAt input 1795 n)
      | none => false
    let s := useNonce s
    if n = 0 then (s, stInvalid, [])
    else if !s.sec.secured || (ownerDigest s).isSome || decide (4 ≤ s.sec.slots.length) || !good then (s, stDenied, [])
    else
      let s := { s with sec := { s.sec with
        slots := s.sec.slots ++ [⟨keyDigest key, false⟩]
        ownerKey := some key
        ownerOk := true } }
      (raise s 0x2E5 0, stOk, []))

/-- Does the enrolled owner's signature over a message hold? -/
def ownerSigned (s : State) (msg sig : List Byte) : Bool :=
  match ownerNow s with
  | some k => Config.falconVerify k msg sig
  | none => false

/-- Every key generation of the owner's domains is destroyed (R514). -/
def destroyOwnerKeys (s : State) : State :=
  { s with xts := { s.xts with domains := mmap s.xts.domains (fun d k =>
      if domainSource s d = 2 then { k with cur := none, old := none, supplied := none } else k) } }

/-- Revoke the last slot. -/
def revokeLast : List OwnerSlot → List OwnerSlot
  | [] => []
  | [o] => [{ o with revoked := true }]
  | o :: os => o :: revokeLast os

/-- RELEASE (R514). -/
def secRelease (s : State) (input : List Byte) : State :=
  let n := field input 0 2
  secCmd s 0x03 input (decide (2 ≤ input.length) && decide (input.length = 2 + n)) (fun s =>
    let good := match nonceBytes s with
      | some v => ownerSigned s (ascii "LX9012-RELEASE" ++ v ++ lotBytes s) (bytesAt input 2 n)
      | none => false
    let s := useNonce s
    if n = 0 then (s, stInvalid, [])
    else if extentCount s.chd.extents ≠ 0 then (s, stBusyRetry, [])
    else if (ownerDigest s).isNone || !good then (s, stDenied, [])
    else
      let s := destroyOwnerKeys s
      let s := { s with sec := { s.sec with slots := revokeLast s.sec.slots, ownerKey := none } }
      (raise s 0x2E6 0, stOk, []))

/-- KEY_SUPPLY (R519). -/
def secKeySupply (s : State) (input : List Byte) : State :=
  let n := field input 0x690 2
  secCmd s 0x04 input (decide (0x692 ≤ input.length) && decide (input.length = 0x692 + n)) (fun s =>
    let d := field input 0 2
    let kgen := field input 2 1
    let serial := field input 4 4
    let k := domKeys s d
    let msg := ascii "LX9012-KEYS" ++ shake256 (bytesAt input 0 0x690) 64 ++ lotBytes s
    let want := if k.cur.isSome then 1 - b2n k.current else 0
    if n = 0 ∨ 1462 < n ∨ 4095 < d ∨ domainSource s d ≠ 2 ∨ field input 3 1 ≠ 0 then (s, stInvalid, [])
    else if !ownerSigned s msg (bytesAt input 0x692 n) then (s, stDenied, [])
    else if kgen ≠ want ∨ serial ≤ k.supplySerial.toNat then (s, 0x0A, [])
    else match Config.unwrapKeys s.sec.deviceSecret (bytesAt input 8 1568) (bytesAt input 0x628 104) with
      | none => (s, stDenied, [])
      | some g =>
        let k := { k with supplySerial := BitVec.ofNat 32 serial }
        let s := if k.cur.isSome then setDom s d { k with supplied := some g }
          else setDom s d { k with cur := some g, current := false, supplied := none }
        (raise s 0x2E8 0, stOk, []))

/-- The measurements 1 to 6 (R518). The index of the owner slot counts from 0; an unowned part shows 32 zero bytes for the digest. -/
def measurement (s : State) (i : Nat) : List Byte :=
  if i = 1 then bytesAt Config.romDigest 0 64
  else if i = 2 then bytesAt s.sec.measFw 0 64
  else if i = 3 then bytesAt s.sec.measImg 0 64
  else if i = 4 then
    shake256 ([BitVec.ofNat 8 (b2n s.sec.secured), BitVec.ofNat 8 s.sec.imgFloor, BitVec.ofNat 8 s.sec.fwFloor,
      BitVec.ofNat 8 (s.sec.slots.length - 1)] ++ (ownerDigest s).getD (List.replicate 32 0)) 64
  else if i = 5 then shake256 (Config.transportKey s.sec.deviceSecret) 64
  else natLe 64 (b2n (!s.sec.secured))

/-- The measurements the alias key is derived over (R515). -/
def aliasInput (s : State) : List Byte := measurement s 1 ++ measurement s 2 ++ measurement s 3 ++ measurement s 4

/-- The alias key of this boot is derived, and certified with the node ID and the owner digest (R515). -/
def certifyAlias (s : State) : State :=
  { s with sec := { s.sec with
    aliasIn := aliasInput s
    aliasNode := s.img.active.basic.nodeId
    aliasOwner := (ownerDigest s).getD (List.replicate 32 0) } }

/-- A signature by the alias key (R515). -/
def aliasSignature (s : State) (msg : List Byte) : List Byte := Config.aliasSign s.sec.deviceSecret s.sec.aliasIn msg

/-- TRANSPORT_KEY (R519). -/
def secTransportKey (s : State) (input : List Byte) : State :=
  secCmd s 0x05 input input.isEmpty (fun s =>
    let k := bytesAt (Config.transportKey s.sec.deviceSecret) 0 1568
    (s, stOk, k ++ aliasSignature s (ascii "LX9012-KEM" ++ k)))

/-- The svn of the firmware that runs. -/
def fwSvn (s : State) : Nat := ((s.host.fwActive.bind (mget s.host.fwSlots)).map (fun f => f.svn)).getD 0

/-- SVN_RAISE (R511). -/
def secSvnRaise (s : State) (input : List Byte) : State :=
  let n := field input 4 2
  secCmd s 0x06 input (decide (6 ≤ input.length) && decide (input.length = 6 + n)) (fun s =>
    let which := field input 0 1
    let floor := field input 1 1
    let good := match nonceBytes s with
      | some v => ownerSigned s (ascii "LX9012-SVN" ++ bytesAt input 0 2 ++ v ++ lotBytes s) (bytesAt input 6 n)
      | none => false
    let s := useNonce s
    let now := if which = 0 then s.sec.imgFloor else s.sec.fwFloor
    let top := if which = 0 then s.img.active.svn else fwSvn s
    if 1 < which ∨ n = 0 ∨ !allZero input 2 2 then (s, stInvalid, [])
    else if (ownerDigest s).isNone || !good then (s, stDenied, [])
    else if floor ≤ now ∨ top < floor ∨ 64 < floor then (s, 0x0A, [])
    else
      let s := if which = 0 then { s with sec := { s.sec with imgFloor := floor } } else { s with sec := { s.sec with fwFloor := floor } }
      (raise s 0x2E7 0, stOk, []))

/-- BUDDY_PAIR (R520). -/
def secBuddyPair (s : State) (input : List Byte) : State :=
  let n := field input 0 4
  secCmd s 0x07 input (decide (4 + n + 1569 ≤ input.length) && decide (input.length ≤ 4 + n + 3030)) (fun s =>
    let chain := bytesAt input 4 n
    if n = 0 then (s, stInvalid, [])
    else if !Config.chainVerifies chain || Config.chainOwner chain != (ownerDigest s).getD (List.replicate 32 0) ||
        myBuddy s != some (Config.chainNode chain) then (s, stDenied, [])
    else
      let s := { s with sec := { s.sec with pairing := .sending, envelopeOut := [] } }
      let s := if s.chd.mirror == .mirrored then mirrorTo s .holding else s
      (raise (sendEnvelope s) 0x2E9 0, stOk, []))

/-- The code of the pairing state (R523). -/
def pairingCode : Pairing → Byte
  | .none => 0
  | .sending => 1
  | .confirmed => 2
  | .refused => 3

/-- INFO (R523). -/
def secInfo (s : State) (input : List Byte) : State :=
  secCmd s 0x08 input input.isEmpty (fun s =>
    (s, stOk, bytesAt ((ownerDigest s).getD []) 0 32 ++ [BitVec.ofNat 8 s.sec.slots.length, pairingCode s.sec.pairing]))

/-- An unknown opcode completes INVALID (R523). -/
def secUnknown (s : State) (op : Nat) : State := secDone s op [] stInvalid []

/-- ACCESS_REFUSED (R505): a read returns 0, a write is ignored; event 0x2E4, at most once per millisecond. -/
def accessRefused (s : State) (read : Bool) : State :=
  let s := if read then emit s (.refusedRead 0) else s
  if elapsed s s.sec.refusedNs 1000000 then raise { s with sec := { s.sec with refusedNs := some s.clockNs } } 0x2E4 0 else s

/-- Apply a clock or power change of a voted block (R526). -/
def applyPower (s : State) (b : Nat) (c : PowerChange) : State :=
  let m : BitVec 7 := (1 : BitVec 7) <<< b
  match c with
  | .gate => { s with sec := { s.sec with gated := s.sec.gated ||| m } }
  | .ungate => { s with sec := { s.sec with gated := s.sec.gated &&& ~~~m } }
  | .powerOff => { s with sec := { s.sec with off := s.sec.off ||| m } }
  | .powerOn => { s with sec := { s.sec with off := s.sec.off &&& ~~~m } }

/-- A change is applied, with what a vote of the same cycle would restore (R526). -/
def applyNoted (s : State) (b : Nat) (c : PowerChange) : State :=
  let x : PowerApplied := ⟨s.clockNs, c, s.sec.gated.getLsbD b, s.sec.off.getLsbD b⟩
  applyPower { s with sec := { s.sec with applied := mset s.sec.applied b x } } b c

/-- A request on a voted block is PENDING (R526); event 0x2E2 at most once per window (R531). -/
def pendPower (s : State) (b : Nat) (c : PowerChange) : State :=
  let s := { s with sec := { s.sec with requests := mset s.sec.requests b c } }
  if s.sec.pendingRaised then s else raise { s with sec := { s.sec with pendingRaised := true } } 0x2E2 0

/-- POWER_REQUEST (R526): applied, or PENDING while a vote stands on the block. -/
def powerRequest (s : State) (b : Nat) (c : PowerChange) : State :=
  if s.sec.held.getLsbD b then pendPower s b c else applyNoted s b c

/-- Pending requests on blocks without a vote are applied (R526). -/
def applyPending (s : State) : State :=
  let ready := s.sec.requests.filter (fun r => !s.sec.held.getLsbD r.1)
  let s := ready.foldl (fun s r => applyNoted s r.1 r.2) s
  { s with sec := { s.sec with requests := s.sec.requests.filter (fun r => s.sec.held.getLsbD r.1) } }

/-- The window closes once no vote stands, and the counters resume with the events of the closing's own cycle (R525, R530). -/
def windowEnds (s : State) : State :=
  if s.sec.held = 0 then countLate { s with sec := { s.sec with windowNs := none }, pmc := { s.pmc with frozen := false } } else s

/-- A request of the cycle in which a vote comes is PENDING: the vote wins (R526). -/
def voteWins (s : State) (b : Nat) : State :=
  match mget s.sec.applied b with
  | some x =>
    if x.atNs ≠ s.clockNs then s
    else
      let s := applyPower (applyPower s b (if x.gated then .gate else .ungate)) b (if x.off then .powerOff else .powerOn)
      pendPower { s with sec := { s.sec with applied := mdel s.sec.applied b } } b x.change
  | none => s

/-- HOLD_VOTE_SET (R525, R526, R527, R530): refused for 1 ms after a window was cut. With the first vote a window opens and the
counters stand still. -/
def holdVoteSet (s : State) (blocks : BitVec 7) : State :=
  if s.clockNs < s.sec.lockoutNs ∨ blocks = 0 then s
  else
    let new := blocks &&& ~~~s.sec.held
    let opens := s.sec.held = 0
    let s := { s with sec := { s.sec with held := s.sec.held ||| blocks } }
    let s := if opens then
        uncountCycle { s with
          sec := { s.sec with windows := s.sec.windows + 1, windowNs := some s.clockNs, pendingRaised := false }
          pmc := { s.pmc with frozen := true } }
      else s
    ((List.range 7).filter (fun b => new.getLsbD b)).foldl voteWins s

/-- HOLD_VOTE_CLEAR (R526). -/
def holdVoteClear (s : State) (blocks : BitVec 7) : State :=
  if s.sec.windowNs.isNone then s
  else windowEnds (applyPending { s with sec := { s.sec with held := s.sec.held &&& ~~~blocks } })

/-- HOLD_WINDOW_CAP (R527): 100 ms have passed. -/
def holdWindowCap (s : State) : State :=
  if s.sec.windowNs.isNone then s
  else
    let s := windowEnds (applyPending { s with sec := { s.sec with held := 0, lockoutNs := s.clockNs + 1000000 } })
    raise s 0x2E3 0

/-- WATCHDOG_RESTART and SECURE_WATCHDOG (R529). The watchdog stands still while engines 60 to 63, or its clock, are gated. -/
def watchdogRestart (s : State) : State := { s with sec := { s.sec with wdSinceNs := s.clockNs } }
def secureWatchdog (s : State) : State :=
  if s.sec.gated.getLsbD 0 || s.sec.gated.getLsbD 6 then s else raise (watchdogRestart s) 0x2E1 0

/-- SPDM response and error codes (SPDM 1.3). -/
def spErrInvalid : BitVec 8 := 0x01
def spErrUnexpected : BitVec 8 := 0x04
def spErrUnsupported : BitVec 8 := 0x07
def spErrTooLarge : BitVec 8 := 0x0E
def spErrLarge : BitVec 8 := 0x0F

/-- An SPDM error. -/
def spdmErr (s : State) (c : BitVec 8) : State := emit s (.spdm (.spdmError c))

/-- An SPDM response: one above DataTransferSize is left to CHUNK_GET (R516). -/
def spdmOut (s : State) (code : BitVec 8) (b : List Byte) : State :=
  if b.length + 4 ≤ 4096 then emit s (.spdm (.spdm code b))
  else spdmErr { s with sec := { s.sec with chunkOut := some (0, 0, code :: b) } } spErrLarge

/-- The responder serves once the host interface is ready (R516). -/
def spdmServes (s : State) (run : State → State) : State := if s.host.infoValid then run s else s

/-- A request of an established connection. -/
def spdmReady (s : State) (run : State → State) : State :=
  spdmServes s (fun s => if s.sec.spdmAlg then run s else spdmErr s spErrUnexpected)

/-- GET_VERSION: the connection starts again; versions 1.2 and 1.3 (R516). -/
def spdmVersion (s : State) : State :=
  spdmServes s (fun s => spdmOut { s with sec := { s.sec with
    spdmVersion := true, spdmCaps := false, spdmAlg := false, chunkIn := none, chunkOut := none } } 0x04 [0, 2, 0x00, 0x12, 0x00, 0x13])

/-- GET_CAPABILITIES: CERT, CHAL, MEAS with signature, MEAS_FRESH and CHUNK; 4,096 B and 65,536 B (R516). -/
def spdmCapabilities (s : State) : State :=
  spdmServes s (fun s =>
    if !s.sec.spdmVersion then spdmErr s spErrUnexpected
    else spdmOut { s with sec := { s.sec with spdmCaps := true } } 0x61
      ([0, Config.ctExponent, 0, 0] ++ natLe 4 0x20036 ++ natLe 4 4096 ++ natLe 4 65536))

/-- NEGOTIATE_ALGORITHMS (R517). -/
def spdmNegotiate (s : State) (extAsym extHash : Bool) : State :=
  spdmServes s (fun s =>
    if !s.sec.spdmCaps then spdmErr s spErrUnexpected
    else if !extAsym && !extHash then spdmErr s Config.negotiationFail
    else spdmOut { s with sec := { s.sec with spdmAlg := true } } 0x63
      (natLe 8 0 ++ (if extAsym then [3, 0, 1, 0] else []) ++ (if extHash then [3, 0, 2, 0] else [])))

/-- The certificate chain of slot 0 (R515, R516): the alias certificate carries the node ID and the owner digest. -/
def certChain (s : State) : List Byte := Config.certChain s.sec.deviceSecret s.sec.aliasIn s.sec.aliasNode s.sec.aliasOwner

/-- GET_DIGESTS and GET_CERTIFICATE: slot 0 only. A BLANK part has no certificate (R508). -/
def spdmDigests (s : State) : State :=
  spdmReady s (fun s => if s.sec.secured then spdmOut s 0x01 ([1] ++ shake256 (certChain s) 64) else spdmErr s spErrUnsupported)
def spdmCertificate (s : State) (slot offset length : Nat) : State :=
  spdmReady s (fun s =>
    let c := certChain s
    if !s.sec.secured then spdmErr s spErrUnsupported
    else if slot ≠ 0 ∨ c.length ≤ offset then spdmErr s spErrInvalid
    else
      let part := (c.drop offset).take length
      spdmOut s 0x02 (natLe 2 part.length ++ natLe 2 (c.length - offset - part.length) ++ part))

/-- CHALLENGE: a BLANK part has no identity (R508). -/
def spdmChallenge (s : State) (slot : Nat) (nonce : BitVec 256) : State :=
  spdmReady s (fun s =>
    if !s.sec.secured then spdmErr s spErrUnsupported
    else if slot ≠ 0 then spdmErr s spErrInvalid
    else
      let f := free s
      let body := shake256 (certChain s) 64 ++ natLe 32 f.1 ++ natLe 2 0
      spdmOut f.2 0x03 (body ++ aliasSignature f.2 (natLe 32 nonce.toNat ++ body)))

/-- The DMTF value type of a measurement (R518): immutable ROM, mutable firmware, hardware and firmware configuration, debug mode; the
last is no digest. -/
def measType (i : Nat) : Byte := if i = 1 then 0 else if i = 2 then 1 else if i = 4 then 3 else if i = 6 then 0x85 else 2

/-- One measurement block: its index, and a DMTF measurement of 64 B with its type (R518). -/
def measBlock (s : State) (i : Nat) : List Byte :=
  [BitVec.ofNat 8 i, 1] ++ natLe 2 67 ++ [measType i] ++ natLe 2 64 ++ measurement s i

/-- GET_MEASUREMENTS (R518): operation 0 asks for their number, 1 to 6 for one, 0xFF for all. -/
def spdmMeasurements (s : State) (op : Nat) (signed : Bool) (nonce : BitVec 256) : State :=
  spdmReady s (fun s =>
    if signed && !s.sec.secured then spdmErr s spErrUnsupported
    else if 6 < op ∧ op ≠ 0xFF then spdmErr s spErrInvalid
    else
      let idx := if op = 0xFF then [1, 2, 3, 4, 5, 6] else if op = 0 then [] else [op]
      let body := [if op = 0 then 6 else BitVec.ofNat 8 idx.length] ++ idx.flatMap (measBlock s)
      if signed then
        let f := free s
        let b := body ++ natLe 32 f.1
        spdmOut f.2 0x60 (b ++ aliasSignature f.2 (natLe 32 nonce.toNat ++ b))
      else spdmOut s 0x60 body)

/-- Does a list of extended algorithm entries name one of the PCI-SIG registry with an id (R517)? -/
def namesAlg (b : List Byte) (off n id : Nat) : Bool :=
  (List.range n).any (fun i => field b (off + 4 * i) 1 == 3 && field b (off + 4 * i + 2) 2 == id)

/-- A request that came in chunks runs once whole (R516). -/
def spdmWhole (s : State) (b : List Byte) : State :=
  let p1 := field b 2 1
  match field b 1 1 with
  | 0x84 => spdmVersion s
  | 0xE1 => spdmCapabilities s
  | 0xE3 => spdmNegotiate s (namesAlg b 32 (field b 28 1) 1) (namesAlg b (32 + 4 * field b 28 1) (field b 29 1) 2)
  | 0x81 => spdmDigests s
  | 0x82 => spdmCertificate s p1 (field b 4 2) (field b 6 2)
  | 0x83 => spdmChallenge s p1 (BitVec.ofNat 256 (field b 4 32))
  | 0xE0 => spdmMeasurements s (field b 3 1) (p1 % 2 == 1) (BitVec.ofNat 256 (field b 4 32))
  | _ => spdmErr s spErrUnsupported

/-- CHUNK_SEND: chunks come in sequence under one handle; the whole message has at most 65,536 B (R516). -/
def spdmChunkSend (s : State) (handle : BitVec 8) (seq : Nat) (last : Bool) (b : List Byte) : State :=
  spdmServes s (fun s =>
    let cur : Option (List Byte) := match s.sec.chunkIn, seq with
      | _, 0 => some []
      | some (h, n, x), _ => if h = handle ∧ n = seq then some x else none
      | none, _ => none
    match cur with
    | none => spdmErr { s with sec := { s.sec with chunkIn := none } } spErrInvalid
    | some x =>
      if 65536 < x.length + b.length then spdmErr { s with sec := { s.sec with chunkIn := none } } spErrTooLarge
      else if last then
        spdmWhole (emit { s with sec := { s.sec with chunkIn := none } } (.spdm (.spdm 0x05 ([handle] ++ natLe 2 seq)))) (x ++ b)
      else emit { s with sec := { s.sec with chunkIn := some (handle, seq + 1, x ++ b) } } (.spdm (.spdm 0x05 ([handle] ++ natLe 2 seq))))

/-- CHUNK_GET: the next chunk of a large response (R516). -/
def spdmChunkGet (s : State) (handle : BitVec 8) (seq : Nat) : State :=
  spdmServes s (fun s =>
    match s.sec.chunkOut with
    | some (h, n, x) =>
      if h = handle ∧ n = seq then
        let part := x.take 4080
        let rest := x.drop 4080
        let s := emit s (.spdm (.spdm 0x06 ([handle, BitVec.ofNat 8 (b2n rest.isEmpty)] ++ natLe 2 seq ++ natLe 4 part.length ++ part)))
        { s with sec := { s.sec with chunkOut := if rest.isEmpty then none else some (h, n + 1, rest) } }
      else spdmErr s spErrInvalid
    | none => spdmErr s spErrUnexpected)

end Sys2Proof.Machine
end

