-- ==== Sys2Proof/Machine/Fault.lean ====
section
/-! DEFINITION. The rows of the fault collector (16) and the fencing of a part (R543). The reactions themselves are performed by
`settle` in Reaction.lean. -/

namespace Sys2Proof.Machine

/-- May an event be raised (R532, R533)? -/
def raisable (e : Nat) : Bool := (eventDefault e).isSome

/-- The reload of a primer slot from the active image begins: jobs naming it wait (R219). The manual gives no row for it: a report
of event 0x164 with cause 1 stands for it, the slot in info bits 5 to 0 (DESIGN CHOICE: assumption 24). -/
def reloadBegins (s : State) (slot : Nat) : State :=
  { s with cmp := { s.cmp with reloading := s.cmp.reloading ||| ((1 : BitVec 64) <<< slot) } }

/-- PRIMER_STORE_RELOAD: a reload completes: event 0x164, and the jobs that waited for it go on (R219). -/
def primerStoreReload (s : State) (slot : Nat) : State :=
  let s := { s with cmp := { s.cmp with reloading := s.cmp.reloading &&& ~~~((1 : BitVec 64) <<< slot) } }
  runLanes (raiseP s 0x164 1 .none slot)

/-- FAULT_RAISE: a unit reports a fault that no other row brings about. -/
def faultRaise (s : State) (event cause : Nat) (part : Part) (info : BitVec 128) : State :=
  if event = 0x164 ∧ cause = 1 then reloadBegins s (info.toNat % 64)
  else if raisable event then raiseP s event cause part info.toNat else s

/-- CLASS_ACKNOWLEDGE (R538, R541, R543): the class's fault is acknowledged; the exclusion of a holder ends with it (R244). What was raised
in the same cycle keeps its claim (R540). -/
def classAcknowledge (s : State) (event : Nat) : State :=
  let c := (cls s event).atCycle s.clockNs
  let s' := setCls s event { c with
    unacked := c.fresh != 0
    pending := c.fresh
    excluded := if c.fresh = 0 then [] else c.excluded }
  let s' := if event = 0x169 then { s' with xts := { s'.xts with holdersOut := [] } } else s'
  driveAlert s s'

/-- RESET_CLASS_ACKNOWLEDGE (R534, R551): a raise of the same cycle keeps its claim (R540). -/
def resetClassAcknowledge (s : State) : State :=
  { s with flt := { s.flt with
    resetStart := if s.flt.resetNs = s.clockNs then s.flt.resetStart else s.flt.resetUnacked
    resetFresh := decide (s.flt.resetNs = s.clockNs) && s.flt.resetFresh
    resetUnacked := decide (s.flt.resetNs = s.clockNs) && s.flt.resetFresh
    resetNs := s.clockNs } }

/-- FAULT_INJECT (R554): ignored for secure-world events, and for an event that is never raised. -/
def faultInject (s : State) (event : Nat) : State :=
  let s := { s with flt := { s.flt with injEvent := BitVec.ofNat 10 event } }
  if (0x2E0 ≤ event ∧ event ≤ 0x2FF) ∨ !raisable event then s else raise s event 0xFF

/-- ENGINE_HANG (R533). -/
def engineHang (s : State) (e : Fin 60) : State := raiseP s (0x340 + e.val) 0x01 (.engine e) 0

/-- The role of an engine (R15, R44). -/
def engineRole (s : State) (e : Nat) : Nat := s.img.restart.fld secRoles e 0

/-- The engines of a role that are not fenced, ascending. -/
def roleEngines (s : State) (role : Nat) : List Nat :=
  (List.range 60).filter (fun e => engineRole s e == role && !s.flt.fencedEngines.any (fun x => x.val == e))

/-- Fence an engine (R179, R543): the open migrations of a placement engine are aborted by journal, its work goes to the others of
its role, at once, with event 0x1F4 of part class 5; the last of a role raises cause 0x03, which is S4 (R533). Page p is worked by engine H mod N (R108). -/
def fenceEngine (s : State) (e : Fin 60) : State :=
  if s.flt.fencedEngines.contains e then s
  else
    let role := engineRole s e
    let es := roleEngines s role
    let mine := if role = 1 then (mkeys s.chd.migs).filter (fun p => es.getD (pageHash p % max 1 es.length) 0 == e.val) else []
    let s := mine.foldl abortMig s
    let s := { s with flt := { s.flt with fencedEngines := e :: s.flt.fencedEngines } }
    if (roleEngines s role).isEmpty then raiseP s (0x340 + e.val) 0x03 (.engine e) 0 else raiseP s 0x1F4 0 .none 5

/-- CXL.mem is fenced until the next H or C reset (R500): event 0x265 at the start of the fence. -/
def fenceHostMem (s : State) : State :=
  if s.host.memFenced then s
  else raiseP { s with host := { s.host with memFenced := true } } 0x265 0 .hostMem 0

/-- A holder leaves the eligible holders until event 0x169 is acknowledged (R244, R543). -/
def fenceHolder (s : State) (n : Node) : State :=
  if s.xts.holdersOut.contains n then s else { s with xts := { s.xts with holdersOut := n :: s.xts.holdersOut } }

end Sys2Proof.Machine
end

