-- ==== Sys2Proof/Machine/Replay.lean ====
section
/-! DEFINITION. Replay of the journal rings after a reset (05: R165, R166): what each copy gives, where a ring's run starts and
ends, and what its records restore. -/

namespace Sys2Proof.Machine

/-- The journal slots whose crc is bad, as step 0x20 reads them: ring, copy, record number. -/
abbrev BadSlots := List (Fin 2 × Fin 2 × Nat)

/-- Does a copy of a ring give a record: it is held there, and its crc is valid (R165 step 1)? Replay reads the spill in place of a
lost stack (R166). -/
def copyGives (g : Ring) (r : Nat) (bad : BadSlots) (c : Nat) (x : JRec) : Bool :=
  copyHolds g c x.seq && x.crc == recCrc x && !bad.any (fun b => b.1.val == r && b.2.1.val == c && b.2.2 == x.seq)

/-- Does a ring give a record from either copy? The two copies of a slot hold one record, so neither differs. -/
def slotGives (g : Ring) (r : Nat) (bad : BadSlots) (x : JRec) : Bool := copyGives g r bad 0 x || copyGives g r bad 1 x

/-- Is one of a slot's two copies bad (R165)? -/
def slotHalf (g : Ring) (r : Nat) (bad : BadSlots) (x : JRec) : Bool :=
  copyHolds g 0 x.seq && copyHolds g 1 x.seq && (copyGives g r bad 0 x != copyGives g r bad 1 x)

/-- The record number a ring's replay starts from (R165 step 2): the ref of the last CHECKPOINT that can be reached, or the first
record of a ring that has none. -/
def replayFrom (g : Ring) (r : Nat) (bad : BadSlots) : Option Nat :=
  let reach := fun (x : JRec) => (List.range (x.seq + 1 - x.ref)).all (fun i =>
    g.recs.any (fun y => y.seq == x.ref + i && slotGives g r bad y))
  if g.lastCheckpoint = 0 then some g.tail
  else (g.recs.find? (fun x => x.type.toNat == recCheckpoint && reach x)).map (·.ref)

/-- The records a ring's replay applies, in order (R165 steps 2 and 3): up to the first slot that does not follow. None where the
checkpoint cannot be reached, or a record stands behind a gap. -/
def replayRun (g : Ring) (r : Nat) (bad : BadSlots) : Option (List JRec) :=
  (replayFrom g r bad).bind (fun start =>
    let xs := (g.recs.filter (fun x => decide (start ≤ x.seq))).reverse
    let run := xs.takeWhile (slotGives g r bad)
    if (xs.drop run.length).any (slotGives g r bad) then none else some run)

/-- The descriptor table as DDR-5 holds it: what the translation cache had not written back is not there. -/
def revertCache (s : State) : State :=
  let s := (s.chd.tc.filter (fun x => x.2.dirtyNs.isSome)).foldl (fun s x => (List.range 4).foldl (fun s i =>
    modPage s (4 * x.1 + i) (fun y => { y with desc := x.2.stored.getD i 0 })) s) s
  { s with chd := { s.chd with tc := [] } }

/-- Set the descriptor table entry that a record names, an owner's page at its buddy likewise. -/
def replayDesc (s : State) (x : JRec) (d : Desc) : State :=
  match x.forOwner with
  | some o =>
    if d = 0 then s else modCopy s (copyKey o.toNat x.extent.toNat x.page.toNat) (fun c => { c with desc := d })
  | none => match extentNamed s x.extent.toNat x.page.toNat with
    | some p => modPage s p (fun y => { y with desc := d })
    | none => s

/-- An EXTENT_ADD sets the extent table (R165); one whose release follows in the run sets nothing. -/
def replayAdd (s : State) (run : List JRec) (x : JRec) : State :=
  let i := x.extent.toNat
  let a := bits x.descA.toNat 63 0 / 2097152
  let n := bits x.descA.toNat 127 64
  let gone := run.any (fun y => y.type.toNat == recExtentRelease && y.extent == x.extent && decide (x.seq < y.seq))
  let region := (List.range 8).find? (fun r => match regionOf s r with
    | some g => decide (g.base ≤ a) && decide (a + n ≤ g.base + g.size)
    | none => false)
  match resolveTag s x.descB, region with
  | some t, some r =>
    if mhas s.chd.extents i || gone then s
    else
      let e : Extent := {
        dpa2m := a
        len2m := n
        region := r
        tag := x.descB
        attrs := t
        shared := none
        state := .pending
        tagTables := domainInteg s t.domain
        tagWait := false
        home := BitVec.ofNat 12 (myNode s)
        mext := i
        mbase := a }
      { s with chd := { s.chd with extents := mset s.chd.extents i e } }
  | _, _ => s

/-- An EXTENT_RELEASE sets the extent table, and its phases run to their end (R165), unless the index has been given again. -/
def replayRelease (s : State) (run : List JRec) (x : JRec) : State :=
  let again := run.any (fun y => y.type.toNat == recExtentAdd && y.extent == x.extent && decide (x.seq < y.seq))
  match extentEnt s x.extent.toNat with
  | some e =>
    if again || bits x.descA.toNat 63 0 != e.dpa2m * 2097152 || bits x.descA.toNat 127 64 != e.len2m then s
    else finishRelease s x.extent.toNat e
  | none => s

/-- An OWNER record sets the ownership of its regions (R161, R165). -/
def replayOwner (s : State) (x : JRec) : State :=
  let o := bits x.descA.toNat 11 0
  let new := bits x.descA.toNat 27 16
  let me := myNode s
  if o = me then { s with chd := { s.chd with ownedAway := if new = me then none else some (BitVec.ofNat 12 new) } }
  else if new ≠ me then { s with chd := { s.chd with acting := mdel s.chd.acting o } }
  else if mhas s.chd.acting o then s
  else { s with chd := { s.chd with acting := mset s.chd.acting o 1 } }

/-- One record of a run is applied (R165). Allocations are journaled with the records that make them and stand as they are. The
refold progress of an IMAGE record is that of the lists of pages, which the metadata store keeps. -/
def replayRec (run : List JRec) (s : State) (x : JRec) : State :=
  let t := x.type.toNat
  if t = recMigOpen ∨ t = recMigCommit ∨ t = recDescSet then replayDesc s x x.descA
  else if t = recMigAbort then
    (match run.find? (fun y => y.type.toNat == recMigOpen && y.seq == x.ref) with
     | some y => replayDesc s y y.descA
     | none => s)
  else if t = recExtentAdd then replayAdd s run x
  else if t = recExtentRelease then replayRelease s run x
  else if t = recEpoch then { s with chd := { s.chd with epoch := x.descA.setWidth 32 } }
  else if t = recMirrorMark then { s with chd := { s.chd with ackedSeq := x.descA.setWidth 48 } }
  else if t = recOwner then replayOwner s x
  else s

/-- The migration kind of a code (R150). -/
def kindOf (code : Nat) : MigKind :=
  ([MigKind.pack, .unpack, .compact, .lend, .recall, .rehome, .thaw, .refold, .mirrorAdd].getD (code - 1)) .refold

/-- The migration that an open MIG_OPEN record tells of. -/
def migOf (x : JRec) : Mig := {
  kind := kindOf x.kind.toNat
  phase := .passing
  pass := 1
  dirty := 0
  src := x.descA
  dstTier := dTier x.descB
  dstLoc := dLoc x.descB
  dstNode := BitVec.ofNat 12 (dNode x.descB)
  dstPods := x.count.toNat
  blocks := []
  waiting := 0
  sent := [some 0]
  resend := []
  images := []
  failedFreezes := 0
  abortPending := false
  openSeq := x.seq
  drawn := 0
  kgen := dKgen x.descA
  domain := 0
  primer := dPrimer x.descA
  sourcePrimer := dPrimer x.descA
  slots := []
  hint := none }

/-- A migration that a reset found open is aborted: the descriptor is set from desc_a, the destination is freed (R159, R165). What the
page's PIN, POISON and MIRROR became since the MIG_OPEN stays, as in any abort. -/
def replayAbort (s : State) (x : JRec) : State :=
  match extentNamed s x.extent.toNat x.page.toNat with
  | some p => abortMig { s with chd := { s.chd with migs := mset s.chd.migs p (migOf x) } } p
  | none => s

/-- A FREE without FREE_DONE: BlkFree is reissued, unless it waits in the deferred-free list (R100, R165). -/
def replayFree (s : State) (r : Nat) (x : JRec) : State :=
  if s.chd.deferred.any (fun d => d.holder && d.ring == r && d.freeSeq == x.seq) then s
  else sendBlkFree s (dNode x.descA) (dLoc x.descA) x.count.toNat 0 r x.seq

/-- A ring holds what its replay has read; the next record follows it. -/
def replayed (s : State) (r : Nat) (run : List JRec) : State :=
  let g := ring s r
  let next := match run.getLast? with
    | some x => x.seq + 1
    | none => g.tail
  setRing s r { g with recs := run.reverse, nextSeq := next }

/-- The rings are replayed (R165), each slot with one bad copy raising event 0x1F6; none where a ring has a gap, or a checkpoint that
cannot be reached. -/
def replayRings (s : State) (bad : BadSlots) : Option State :=
  match replayRun s.chd.ring0 0 bad, replayRun s.chd.ring1 1 bad with
  | some a, some b =>
    let half := a.filter (slotHalf s.chd.ring0 0 bad) ++ b.filter (slotHalf s.chd.ring1 1 bad)
    let s := half.foldl (fun s _ => raise s 0x1F6 0) s
    let s := revertCache (replayed (replayed s 0 a) 1 b)
    let s := b.foldl (replayRec b) (a.foldl (replayRec a) s)
    let frees := fun (s : State) (r : Nat) (run : List JRec) => (run.filter (freeOpen (ring s r))).foldl (fun s x => replayFree s r x) s
    let s := frees (frees s 0 a) 1 b
    some ((a.filter (migOpen ⟨a.reverse, 0, 0, 0, none, false, false, 0, []⟩) ++
      b.filter (migOpen ⟨b.reverse, 0, 0, 0, none, false, false, 0, []⟩)).foldl replayAbort s)
  | _, _ => none

/-- What replay leaves open (R98, R165, R186, R289): a release without its response is undone, extents the host has not accepted are
withdrawn, what waits to be freed is sent again, the mirror state waits for step 0x31, and the near cache gives up other owners'
lines. -/
def replayResume (s : State) : State :=
  let s := ((releasing s).map (·.1)).foldl unrelease s
  let gone := s.chd.extents.filter (fun e => e.2.state != .accepted)
  let s := (gone.map (·.1)).foldl withdrawExtent s
  let s := { s with chd := { s.chd with mirror := if (myBuddy s).isSome then .holding else .none } }
  nearAfterReset (sendDeferred s)

end Sys2Proof.Machine
end

