-- ==== Sys2Proof/Machine/Boot.lean ====
section
/-! DEFINITION. Start-up (19): the boot steps, their alternates, failures and halts, and the boot journal. -/

namespace Sys2Proof.Machine

/-- Outcomes of a boot entry (R622). -/
def outOk : Nat := 1
def outFailed : Nat := 2
def outSkipped : Nat := 3
def outCarried : Nat := 4

/-- Milliseconds since the record's start (R621, R628). -/
def bootMs (s : State) : Nat := (s.clockNs - s.boot.startNs) / 1000000

/-- Is a feed ON: the device's power-good (R561)? -/
def powerGood (s : State) : Bool := s.pwr.feedA.st == .on || s.pwr.feedB.st == .on

/-- Is the alternate of channels and stacks allowed (R608)? -/
def degraded (s : State) : Bool := s.img.active.basic.degradedStart == 1

/-- Does a step have a next-boot alternate (R608)? -/
def hasAlternate (s : State) (k : Nat) : Bool :=
  k = 0x06 || k = 0x07 || (decide (0x28 ≤ k) && decide (k ≤ 0x2F)) ||
    (degraded s && (k = 0x08 || (decide (0x10 ≤ k) && decide (k ≤ 0x1B))))

/-- The last entry of a step in a boot record (R610, R622). -/
def entryOf (r : BootRec) (k : Nat) : Option BootEnt := r.entries.reverse.find? (fun e => e.step.toNat == k)

/-- The previous record's entry of a step, where the two records follow each other (R610, R620). -/
def prevEntry (s : State) (k : Nat) : Option BootEnt :=
  match s.boot.previous with
  | some r => if s.boot.chained then entryOf r k else none
  | none => none

/-- Was the step last tried by its alternate, and did it fail (R610)? -/
def failedByAlternate (s : State) (k : Nat) : Bool :=
  match prevEntry s k with
  | some e => e.outcome.toNat == outFailed && e.method.toNat == 2
  | none => false

/-- The method of a step in this boot (R610): 2 for its alternate, and whether event 0x303 is raised. -/
def stepMethod (s : State) (k : Nat) : Nat × Bool :=
  if !hasAlternate s k then (0, false)
  else match prevEntry s k with
    | none => (0, false)
    | some e =>
      if e.method.toNat = 2 then
        if e.outcome.toNat = outFailed ∨ s.boot.altPrimary then (0, false) else (2, false)
      else if e.outcome.toNat = outFailed then (2, true)
      else (0, false)

/-- The current record joins the journal in flash from step 0x06 on (R620): 256 records. -/
def flushRecord (s : State) : State :=
  let r := s.boot.current
  { s with boot := { s.boot with ring := (r :: s.boot.ring.filter (fun x => x.seq != r.seq)).take 256 } }

/-- Change the current record. -/
def modRecord (s : State) (f : BootRec → BootRec) : State :=
  let s := { s with boot := { s.boot with current := f s.boot.current } }
  if s.boot.ended.contains 0x05 then flushRecord s else s

/-- A step begins (R605, R624). -/
def beginStep (s : State) (k m : Nat) : State :=
  let run : BootRun := ⟨k, s.clockNs, BitVec.ofNat 8 m⟩
  { s with boot := { s.boot with
    running := run :: s.boot.running
    memStep := if k ≤ 0x20 then BitVec.ofNat 8 k else s.boot.memStep
    linkStep := if 0x28 ≤ k ∧ k ≤ 0x30 then BitVec.ofNat 8 k else s.boot.linkStep } }

/-- The run of a step in progress. -/
def runOf (s : State) (k : Nat) : Option BootRun := s.boot.running.find? (fun r => r.step == k)

/-- An entry goes behind those of the record but for the last `n`, which ended in the same cycle and stand in ascending step order
(R606). -/
def putEntry (n : Nat) (e : BootEnt) (es : List BootEnt) : List BootEnt :=
  let old := es.take (es.length - n)
  let same := es.drop (es.length - n)
  old ++ same.filter (fun x => decide (x.step.toNat ≤ e.step.toNat)) ++ [e] ++ same.filter (fun x => decide (e.step.toNat < x.step.toNat))

/-- A step ends: its entry is recorded before the device acts on it (R605, R606, R622). -/
def endEntry (s : State) (k outcome method cause detail : Nat) : State :=
  let t := match runOf s k with
    | some r => (r.startNs - s.boot.startNs) / 1000000
    | none => bootMs s
  let e : BootEnt := ⟨BitVec.ofNat 8 k, BitVec.ofNat 8 outcome, BitVec.ofNat 8 method, BitVec.ofNat 8 cause, BitVec.ofNat 32 t,
    BitVec.ofNat 32 (bootMs s), BitVec.ofNat 16 detail⟩
  let left := s.boot.running.filter (fun r => r.step != k)
  let n := if s.boot.entryNs = s.clockNs then s.boot.entryRun else 0
  let s := { s with boot := { s.boot with
    running := left
    entryNs := s.clockNs
    entryRun := n + 1
    ended := if outcome = outFailed then s.boot.ended else k :: s.boot.ended } }
  modRecord s (fun r => { r with entries := if r.entries.length < 60 then putEntry n e r.entries else r.entries })

/-- A step passed by the method it was begun with. -/
def passStep (s : State) (k detail : Nat) : State :=
  endEntry s k outOk (((runOf s k).map (·.method.toNat)).getD 0) 0 detail

/-- A step failed (R611): event 0x300, and no further step starts. -/
def failStep (s : State) (k cause : Nat) : State :=
  let s := endEntry s k outFailed (((runOf s k).map (·.method.toNat)).getD 0) cause 0
  raise { s with boot := { s.boot with failing := some k, failedStep := BitVec.ofNat 8 k } } 0x300 k

/-- Every laser goes dark, and every link with it (R546, R613). -/
def lasersOff (s : State) : State :=
  let s := (usedLinks s).foldl (fun s l =>
    requeue (dropReplay (modLink s l (fun r => { r with st := .dark, laser := false })) l) l) s
  linksChanged s

/-- The boot halts at a step (R613). -/
def haltBoot (s : State) (k : Nat) : State :=
  let s := { s with boot := { s.boot with
    st := if s.boot.ended.contains 0x06 then .halted else .romRecovery
    haltStep := BitVec.ofNat 8 k
    failing := none } }
  let s := modRecord s (fun r => { r with final := 0x04, haltStep := BitVec.ofNat 8 k })
  raise (lasersOff s) 0x302 k

/-- Has a reaction been started that resets or stops the device (R611)? -/
def reactionPending (s : State) : Bool := s.flt.react.any (fun r => match r with
  | .deviceReset _ => true
  | .latch => true
  | .collapse => true
  | .fence _ _ => false)

/-- Once every step in progress has ended after a failure, the boot is retried with an alternate, or halts (R611, R612). -/
def conclude (s : State) : State :=
  match s.boot.failing with
  | none => s
  | some k =>
    if !s.boot.running.isEmpty || reactionPending s then s
    else
      let e := entryOf s.boot.current k
      let byPrimary := match e with
        | some e => e.method.toNat != 2
        | none => false
      let s := { s with boot := { s.boot with attempt := BitVec.ofNat 4 (min 8 (s.boot.attempt.toNat + 1)) } }
      if hasAlternate s k && byPrimary && !failedByAlternate s k then
        if 8 ≤ s.boot.attempt.toNat then haltBoot (raise s 0x304 0) k
        else
          let s := modRecord { s with boot := { s.boot with st := .retrying, failing := none } } (fun r => { r with final := 0x02 })
          { s with flt := { s.flt with react := s.flt.react ++ [.deviceReset 4] } }
      else haltBoot s k

/-! ### Waves -/

/-- The distinct wake links in NODE order that are used, then the other used links ascending (R302, R615). -/
def waveOrder (s : State) : List Nat :=
  let w := s.img.restart.fld secNode 0 1
  let wake := ((List.range 4).map (fun i => w / 256 ^ i % 256)).filter (linkUsed s)
  let wake := wake.foldl (fun l x => if l.contains x then l else l ++ [x]) []
  wake ++ (usedLinks s).filter (fun l => !wake.contains l)

/-- The links of a wave: 32, but for the last (R615). -/
def waveLinks (s : State) (w : Nat) : List Nat := ((waveOrder s).drop (32 * w)).take 32

/-- The last non-empty wave (R605, R615). -/
def lastWave (s : State) : Nat := ((waveOrder s).length - 1) / 32

/-- A wave starts: each of its links that is not held enters full training, by the alternate at the lower rate (R347, R608,
R615). -/
def startWave (s : State) (w : Nat) (alt : Bool) : State :=
  let s := if alt then { s with boot := { s.boot with lowRateWaves := s.boot.lowRateWaves ||| ((1 : BitVec 8) <<< w) } } else s
  (waveLinks s w).foldl (fun s l =>
    let s := if alt then modLink s l (fun r => { r with rate := 2 }) else s
    let r := link s l
    if r.hold || r.st != .dark then s else toTraining s l) s

/-- Does a link of a wave receive light: its peer has been met in this training? -/
def linkLit (s : State) (l : Nat) : Bool :=
  let r := link s l
  r.isUp || r.st == .givenUp || r.st == .retrain || r.heldByCheck || (r.st == .training && r.identSeen)

/-- A wave ends (R324, R608, R615): JOIN REQUEST leaves on each newly up link. -/
def endWave (s : State) (k : Nat) : State :=
  let ls := waveLinks s (k - 0x28)
  let up := (ls.filter (fun l => (link s l).isUp)).length
  let lit := (ls.filter (linkLit s)).length
  let alt := ((runOf s k).map (·.method.toNat)).getD 0 == 2
  if 2 * up < lit && !alt then failStep s k 0x02
  else
    passStep (joinsLeave s) k up

/-! ### The memory track -/

/-- Does a channel hold DRAM contents in custody (R437, R438)? -/
def inCustody (s : State) (c : Nat) : Bool := s.boot.custody && s.aon.custodyDdr.getLsbD c

/-- Does what the SPD of a socket says agree with its DIMM record (R66, R421)? A DIMM may be faster than its record, and a socket without
a record is empty. -/
def spdAgrees (rec : Option (List Nat)) (spd : Option Spd) : Bool :=
  match rec, spd with
  | none, none => true
  | some r, some d =>
    let f := fun (i : Nat) => r.getD i 0
    decide (d.ranks = f 0) && decide (d.capacityGib = f 1) && decide (f 2 ≤ d.speedMts) && (f 3 == 0 || f 3 == d.mfr.toNat) &&
      (f 4 == 0 || f 4 == d.serial.toNat) && (f 5 == 0 || f 5 == d.part.toNat)
  | _, _ => false

/-- Do the sockets of a channel agree with its records? -/
def channelAgrees (s : State) (c : Nat) (r : StepReport) : Bool :=
  spdAgrees (s.img.restart.dimmRec (2 * c)) r.spd0 && spdAgrees (s.img.restart.dimmRec (2 * c + 1)) r.spd1

/-- What training settings of a channel are saved with (R437). -/
def trainedWith (s : State) (c : Nat) (r : StepReport) : SavedTraining :=
  ⟨[r.spd0, r.spd1].map (fun d => d.map (fun d => (d.mfr, d.serial, d.part))), (dimm0 s c).getD 2 0⟩

/-- The SPDs of a channel have been read: where a DIMM's serial has changed, the marks of its groups are cleared (R456). Its rank
indices are its position x ranks + rank (R423). -/
def noteSerials (s : State) (c : Nat) (r : StepReport) : State :=
  let now := [r.spd0, r.spd1].map (fun d => d.map (·.serial))
  let was := (ctl s c).serials
  let ranks := max 1 ((dimm0 s c).getD 0 1)
  let changed := fun (pos : Nat) => match (was.getD pos none), (now.getD pos none) with
    | some a, some b => a != b
    | _, _ => false
  let gone := fun (k : Nat) => decide (k / 32 = c) && changed (k % 32 / 8 / ranks)
  let s := { s with ecc := { s.ecc with marks := mfilter s.ecc.marks (fun k _ => !gone k) } }
  modCtl s c (fun x => { x with serials := (List.range 2).map (fun i => match now.getD i none with
    | some v => some v
    | none => was.getD i none) })

/-- The HID that a socket's HSA land presents (R655): 2 x (c mod 2) + position, or an open circuit. -/
def hsaHid (s : State) (c pos : Nat) : Option Nat := if (ctl s c).hsa then some (2 * (c % 2) + pos) else none

/-- A channel step begins (R420, R425, R608, R655): by its alternate the channel is excluded and skipped; a channel without DIMM records
has only its sockets looked at. -/
def startChannel (s : State) (c m : Nat) : State :=
  let k := 0x10 + c
  if m = 2 then
    let s := channelGoes s c .excluded
    let s := { s with
      boot := { s.boot with excludedChannels := s.boot.excludedChannels ||| ((1 : BitVec 12) <<< c) }
      aon := { s.aon with custodyDdr := s.aon.custodyDdr &&& ~~~((1 : BitVec 12) <<< c) } }
    endEntry (raiseCtl s c 0x08) k outSkipped 2 0 0
  else
    let s := modCtl s c (fun x => { x with hsa := true })
    if channelGib s c = 0 then s
    else setTrn (modCtl s c (fun x => { x with st := .training })) c { trn s c with destructive := !inCustody s c }

/-- A channel step ends (R66, R420, R436 to R438): the SPDs are compared with the records, and the PMICs are on from then on; a channel
without records is skipped where its sockets are empty. -/
def endChannel (s : State) (c : Nat) (r : StepReport) : State :=
  let k := 0x10 + c
  let held := inCustody s c
  let policy := s.img.restart.fld secMem 0 3
  let with_ := trainedWith s c r
  let restore := !held && policy == 1 && (ctl s c).saved == some with_
  if !channelAgrees s c r then failStep (raiseCtl s c 0x01) k 0x01
  else if channelGib s c = 0 then endEntry s k outSkipped 0 0 0
  else
  let s := modCtl (noteSerials s c r) c (fun x => { x with pmic := true })
  if r.ok then
    let fell := restore && r.fullTraining
    let full := !held && (r.fullTraining || !restore)
    let s := modCtl s c (fun x => { x with st := .active, saved := if full then some with_ else x.saved })
    let s := { s with aon := { s.aon with custodyDdr := s.aon.custodyDdr &&& ~~~((1 : BitVec 12) <<< c) } }
    if fell then endEntry (raiseCtl s c 0x03) k outOk 1 0 0 else passStep s k 0
  else
    let cause := if held then 0x04 else 0x02
    failStep (raiseCtl s c cause) k cause

/-- A stack that fails calibration is fenced and skipped (R443, R608, R626). -/
def skipStack (s : State) (i : Nat) : State :=
  let s := fenceStack s i
  let s := { s with boot := { s.boot with fencedStacks := s.boot.fencedStacks ||| ((1 : BitVec 4) <<< i) } }
  raiseCtl (modCtl s (12 + i) (fun x => { x with st := .excluded })) (12 + i) 0x08

/-- By its alternate step 0x08 begins without the stack that failed the previous one, which its entry names (R608, R622, R626). -/
def startRld (s : State) : State :=
  match prevEntry s 0x08 with
  | some e => if 0x40 ≤ e.cause.toNat ∧ e.cause.toNat < 0x44 then skipStack s (e.cause.toNat - 0x40) else s
  | none => s

/-- Step 0x08 ends (R442, R443): stacks that fail calibration fail it, or by the alternate are fenced and skipped. -/
def endRld (s : State) (r : StepReport) : State :=
  let bad := (List.range 4).filter (fun i => r.rldStacks.getLsbD i && !s.boot.fencedStacks.getLsbD i)
  let alt := ((runOf s 0x08).map (·.method.toNat)).getD 0 == 2
  let up := fun (s : State) => (List.range 4).foldl (fun s i =>
    if bad.contains i || s.boot.fencedStacks.getLsbD i then s else modCtl s (12 + i) (fun x => { x with st := .active })) s
  let out := fun (s : State) => { s with aon := { s.aon with custodyRld := 0 } }
  if !bad.isEmpty && !alt then
    failStep (bad.foldl (fun s i => raiseCtl s (12 + i) 0x02) s) 0x08 (0x40 + bad.headD 0)
  else
    passStep (out (bad.foldl skipStack (up s))) 0x08 0

/-- Step 0x20 without custody (R609): journal, completed requests, metadata and extents are empty, and what DRAM held is gone. -/
def initialise (s : State) : State :=
  { s with
    mem := []
    chd := { s.chd with
      extents := []
      pages := []
      tc := []
      heatSeq := 0
      epoch := 0
      ledger := []
      ledgerGap := false
      segs := []
      pods := []
      borrows := []
      migs := []
      deferred := []
      evicts := []
      refold := []
      repack := []
      extPending := []
      pageDom := []
      ring0 := Ring.empty
      ring1 := Ring.empty
      ackedSeq := 0
      nextMirror := 1
      resync := []
      copies := []
      buddyOf := []
      acting := []
      actResync := []
      atomicFloor := [] }
    coh := { s.coh with dir := [], near := [], unknownSets := [], sliceUnknown := 0, hostUnknown := 0, folded := 0 }
    e2e := { s.e2e with crt := [], crtBad := [], crtLost := [], servedUs := 0 }
    fab := { s.fab with lent := [], lentPods := [], overdueAt := [], buddyIntact := false }
    host := { s.host with grants := [] }
    ecc := { s.ecc with media := [] }
    img := { s.img with refoldActive := false } }

/-- Does the device's metadata fit in its memory (R139)? -/
def metadataFits (s : State) : Bool := decide (metaMib s * 256 ≤ framesP s)

/-- Without custody everything is empty, and the device has a new incarnation (R609, R617). -/
def startEmpty (s : State) : State :=
  let s := initialise s
  let s := { s with chd := { s.chd with mirror := if (myBuddy s).isSome then .holding else .none } }
  if s.boot.current.declaredFailed then s else { s with fab := { s.fab with incarnation := s.fab.incarnation + 1 } }

/-- The tables are there: step 0x20 passes unless the metadata does not fit (R139). From here on the reserve counts (R118, R146). -/
def tablesReady (s : State) : State :=
  let s := modRecord s (fun x => { x with incarnation := s.fab.incarnation })
  if metadataFits s then reserveChanged (passStep s 0x20 0) else failStep (raise s 0x1E9 0) 0x20 0xE9

/-- Step 0x20 ends (R165, R235): with custody the rings are replayed; a report that is not ok cannot read them. -/
def endReplay (s : State) (r : StepReport) : State :=
  if !s.boot.custody then tablesReady (startEmpty s)
  else if r.keyLost then failStep (raise s 0x16B 0) 0x20 0x6B
  else match if r.ok then replayRings s r.badCopies else none with
    | some s => tablesReady (replayResume s)
    | none => failStep (raise s 0x1F7 0) 0x20 0xF7

/-! ### Firmware and image -/

/-- Does a firmware slot qualify (R509, R510)? -/
def fwQualifies (s : State) (f : FwImage) : Bool := f.valid && decide (s.sec.fwFloor ≤ f.svn) && (!s.sec.secured || f.signed)

/-- Of two slots that qualify, the one with the higher serial (R56). -/
def higherSlot (a b : Option Nat) : Option Nat :=
  match a, b with
  | some x, some y => if x < y then some 1 else some 0
  | some _, none => some 0
  | none, some _ => some 1
  | none, none => none

/-- The firmware slot that step 0x06 starts (R510, R608): what Activate FW named, else the higher serial; by the alternate the other
slot than the one that failed. -/
def chooseFw (s : State) (alt : Bool) : Option Nat :=
  let q := fun (n : Nat) => match mget s.host.fwSlots n with
    | some f => if fwQualifies s f then some f.serial else none
    | none => none
  let first := match s.host.fwPending with
    | some n => if (q n).isSome then some n else higherSlot (q 0) (q 1)
    | none => higherSlot (q 0) (q 1)
  if alt then first.bind (fun n => if (q (1 - n)).isSome then some (1 - n) else none) else first

/-- Step 0x06 ends: in BLANK a waived signature raises event 0x301 (R508); the secure firmware checks the owner record (R512). -/
def endFirmware (s : State) (r : StepReport) : State :=
  let alt := ((runOf s 0x06).map (·.method.toNat)).getD 0 == 2
  match chooseFw s alt, r.ok with
  | some n, true =>
    let d := ((mget s.host.fwSlots n).map (·.digest)).getD []
    let s := if ((mget s.host.fwSlots n).map (·.signed)).getD true then s else raise s 0x301 icSignature
    let s := ownerCheck s
    let s := { s with
      host := { s.host with fwActive := some n, fwPending := none }
      sec := { s.sec with measFw := d } }
    passStep (modRecord s (fun x => { x with fwSlot := BitVec.ofNat 8 n })) 0x06 n
  | _, _ => failStep s 0x06 (if r.cause = 0 then 0x03 else r.cause.toNat)

/-- Slots of the primer record that an image lacks or holds with another fingerprint (R208). -/
def primerRefused (s : State) (i : Img) : List Nat :=
  (s.img.primerRecord.filter (fun x => match mget i.primers x.1 with
    | some p => primerFingerprint p.bytes != x.2
    | none => true)).map (·.1)

/-- The causes for which a slot's image does not qualify (R54, R56, R208). -/
def slotFaults (s : State) (f : FlashSlot) : List Nat :=
  faultIf (!f.committed) icMagic ++ faultIf (s.sec.secured && !(f.signed && f.key == ownerNow s)) icSignature ++
    rollbackFaults s f.img ++ faultIf (!(primerRefused s f.img).isEmpty) icPrimerInUse

/-- The image slot that step 0x07 loads (R56). -/
def chooseImage (s : State) (alt : Bool) : Option (Nat × FlashSlot) :=
  let q := fun (n : Nat) => match mget s.img.slots n with
    | some f => if (slotFaults s f).isEmpty then some f.img.serial.toNat else none
    | none => none
  let first := higherSlot (q 0) (q 1)
  let n := if alt then first.bind (fun n => if (q (1 - n)).isSome then some (1 - n) else none) else first
  n.bind (fun n => (mget s.img.slots n).map (fun f => (n, f)))

/-- The lowest cause among the slots, for the entry of a failed step (R69, R70). DESIGN CHOICE (log 125): the manual gives no cause
for a boot at which no slot qualifies; a slot that is not committed counts as MAGIC, a flash without slots as MISSING_SECTION, and
of two refused slots the lowest cause over both is taken. -/
def imageCause (s : State) : Nat :=
  let c := lowestCause (s.img.slots.flatMap (fun x => slotFaults s x.2))
  if c = 0 then icMissing else c

/-- A loaded image comes into force (R60, R64, R65): its restart sections; its pool-wide ones too at a power-on, while across a
device reset those in force are kept until their epoch is reached, and where their digest differs from the one agreed. -/
def loadImage (s : State) (n : Nat) (f : FlashSlot) : State :=
  let i := f.img
  let cold := decide (s.boot.startCause = 1)
  let waits := !cold && decide (s.fab.epoch.toNat < i.poolEpoch.toNat)
  let agreed := cold || s.fab.digest.isNone || s.fab.digest == some i.poolDigest
  let pool := if waits || !agreed then s.img.pool else i
  let s := if !waits && !agreed && i.serial != s.img.active.serial then raise s 0x22E 0 else s
  let s := { s with img := { s.img with
    activeSlot := BitVec.ofNat 1 n
    active := i
    restart := i
    pool := pool
    geom := pool
    restartPending := false
    poolPending := waits } }
  let s := if cold then { s with fab := { s.fab with epoch := i.poolEpoch } } else s
  let s := { s with chd := { s.chd with ledgerMib := globalPolicy s 20 } }
  let keep := fun (c : Nat) =>
    let old := ctl s c
    { MemCtl.init i c with st := old.st, pmic := old.pmic, saved := old.saved, serials := old.serials }
  let ctls : NMap MemCtl := (List.range 16).map (fun c => (c, keep c))
  let pol := s.qos.policeOff
  let fb := s.qos.feedbackOff
  { s with
    ctls := ctls
    links := mmap s.links (fun _ r => { r with
      giveupMs := BitVec.ofNat 8 i.basic.linkGiveupMs
      replayUs := BitVec.ofNat 8 i.basic.replayTimerUs
      rate := BitVec.ofNat 2 (pool.fld secGeometry 0 3) })
    qos := { QosState.init i with policeOff := pol, feedbackOff := fb }
    e2e := { s.e2e with timeoutUs := BitVec.ofNat 14 i.basic.e2eTimeoutUs }
    pwr := { s.pwr with expected := BitVec.ofNat 2 i.basic.feedsExpected }
    sec := { s.sec with measImg := f.digest } } |> taggedDomains

/-- Step 0x07 ends (R54, R56, R69, R208, R609). -/
def endImage (s : State) (r : StepReport) : State :=
  let alt := ((runOf s 0x07).map (·.method.toNat)).getD 0 == 2
  let s := if s.boot.custody then s else { s with img := { s.img with primerRecord := [] } }
  let s := if s.img.slots.any (fun x => x.2.committed && !(primerRefused s x.2.img).isEmpty) then raise s 0x167 icPrimerInUse else s
  match chooseImage s alt, r.ok with
  | some (n, f), true =>
    let s := loadImage s n f
    let s := if f.signed then s else raise s 0x301 icSignature
    let s := modRecord s (fun x => { x with imgSlot := BitVec.ofNat 8 n, imgSerial := f.img.serial })
    passStep (certifyAlias s) 0x07 n
  | _, _ =>
    let c := if r.ok then imageCause s else r.cause.toNat
    failStep { s with img := { s.img with cause := BitVec.ofNat 8 c } } 0x07 c

/-! ### Steps 0x01 to 0x05 -/

/-- The voltage of a feed, and whether the image expects it (R66). -/
def feedOut (s : State) (f : FeedRec) (bit : Nat) : Bool :=
  s.pwr.expected.getLsbD bit && (decide (f.mv < 10200) || decide (13800 < f.mv))

/-- Step 0x03 has the device's power-good: an expected feed out of range is reported (R66, R561). -/
def endFeeds (s : State) : State :=
  let s := if feedOut s s.pwr.feedA 0 then raiseP s 0x280 0x01 (.feed .a) s.pwr.feedA.mv else s
  let s := if feedOut s s.pwr.feedB 1 then raiseP s 0x281 0x01 (.feed .b) s.pwr.feedB.mv else s
  passStep s 0x03 0

/-- No expected feed can start, or none has for 60 s (R561). -/
def noFeed (s : State) : Bool :=
  let dead := fun (f : FeedRec) (bit : Nat) => !s.pwr.expected.getLsbD bit || f.st == .latched || f.st == .absent
  (dead s.pwr.feedA 0 && dead s.pwr.feedB 1) ||
    (match runOf s 0x03 with
     | some r => decide (r.startNs + 60000000000 ≤ s.clockNs)
     | none => false)

/-- The collector leaves reset (R550): Radish's records are written back, oldest first, then held raises are registered. -/
def carryRecords (s : State) : State :=
  if !s.flt.inReset then s
  else
    let held := s.flt.held
    let log := s.flt.radish.map (fun r => { r with carried := true })
    let s := { s with flt := { s.flt with inReset := false, held := [], log := log } }
    held.foldl (fun s r => register s r.event.toNat r.cause.toNat r.part r.info.toNat true) s

/-- After a power-on reset the secure ROM reads the journal in flash (R620); the incarnation is the record's (R617). -/
def readJournal (s : State) : State :=
  if s.boot.startCause ≠ 1 then s
  else match s.boot.ring with
    | r :: _ =>
      { s with
        boot := { s.boot with previous := some r, chained := true, current := { s.boot.current with seq := r.seq + 1 } }
        fab := { s.fab with incarnation := r.incarnation } }
    | [] => raise s 0x306 0

/-- The device starts after it has recorded that it was declared FAILED (R617, R623): a higher incarnation. -/
def newIncarnation (s : State) : State :=
  if !s.boot.declaredFailed then s
  else
    let s := { s with
      fab := { s.fab with incarnation := s.fab.incarnation + 1 }
      boot := { s.boot with declaredFailed := false } }
    modRecord s (fun r => { r with declaredFailed := true })

/-- Step 0x05 ends (R215, R497, R550, R620, R625, R630). -/
def endRom (s : State) (r : StepReport) : State :=
  let s := carryRecords s
  let s := readJournal s
  if !r.ok then failStep s 0x05 0
  else
    let s := newIncarnation s
    let took := s.boot.clearAlt
    let s := { s with
      boot := { s.boot with clearAlt := false }
      pmc := { s.pmc with counting := true }
      host := { s.host with termination := !s.host.perst }
      sec := { s.sec with wdSinceNs := s.clockNs } }
    let s := modRecord s (fun x => { x with clearAltTaken := took, incarnation := s.fab.incarnation })
    let s := ((List.range 16).filter (fun i => r.clanes.getLsbD i)).foldl fenceCLane s
    let s := ((List.range 32).filter (fun i => r.dlanes.getLsbD i)).foldl fenceDLane s
    passStep s 0x05 0

/-! ### Pool and mirror -/

/-- Step 0x30 ends (R326, R327): IN_SERVICE, or in place without the pool, event 0x22F. -/
def endJoin (s : State) (r : StepReport) : State :=
  if s.fab.own == .inService then passStep s 0x30 0
  else if r.ok then s
  else
    let s := { s with fab := { s.fab with alone := true }, boot := { s.boot with poolAlone := true } }
    endEntry (raise s 0x22F 0) 0x30 outOk 2 0 0

/-- The code of a mirror state in an entry's detail (R622, R186). -/
def mirrorCode : MirrorSt → Nat
  | .none => 0
  | .mirrored => 1
  | .holding => 2
  | .exposed => 3
  | .resync => 4

/-- Step 0x31 starts (R618): it is skipped without a buddy, and without the pool until the device is IN_SERVICE. -/
def startSettle (s : State) : State :=
  if (myBuddy s).isNone then endEntry { s with chd := { s.chd with mirror := .none } } 0x31 outSkipped 0 0 0
  else if s.fab.alone && s.fab.own != .inService then
    endEntry { s with boot := { s.boot with settleLater := true } } 0x31 outSkipped 0 0 0
  else s

/-- The mirror is whole: MIRRORED once the buddy has confirmed the pairing, HOLDING until then (R520, R618). -/
def wholeMirror (s : State) : State := mirrorTo s (if s.sec.pairing == .confirmed then .mirrored else .holding)

/-- The mirror state is settled (R618). The buddy's report counts while membership has it IN_SERVICE. -/
def settleMirror (s : State) (b : Nat) (rep : Option BuddyReport) : State :=
  let pend := s.chd.resync
  let clear := fun (s : State) => { s with chd := { s.chd with resync := [] } }
  match memberState s b, rep with
  | .inService, some r =>
    if r.actingOwner then { clear s with chd := { s.chd with mirror := .exposed, ownedAway := some (BitVec.ofNat 12 b), resync := [] } }
    else if s.boot.custody then
      if r.committedSeq = s.chd.nextMirror - 1 then wholeMirror (clear s)
      else
        let s := mirrorTo { s with fab := { s.fab with buddyIntact := r.storeIntact } } .exposed
        let s := buddyBack s
        { s with chd := { s.chd with resync := s.chd.resync ++ pend.filter (fun p => !s.chd.resync.contains p) } }
    else if r.holdsCopies then { s with chd := { s.chd with mirror := .exposed, resync := [] } }
    else wholeMirror (clear s)
  | .failed, _ => raise (mirrorTo (clear s) .exposed) 0x1F3 0
  | .left, _ => raise (mirrorTo (clear s) .exposed) 0x1F3 0
  | _, _ => if s.boot.custody then raise (mirrorTo (clear s) .exposed) 0x1F3 0 else mirrorTo (clear s) .exposed

/-- Step 0x31 ends. -/
def endSettle (s : State) (rep : Option BuddyReport) : State :=
  match myBuddy s with
  | none => passStep s 0x31 0
  | some b =>
    let s := settleMirror s b rep
    passStep { s with boot := { s.boot with settleLater := false } } 0x31 (mirrorCode s.chd.mirror)

/-- Step 0x38 ends: Memory Active (R497, R605, R612). Slices still unknown are asked for again (R291). -/
def memoryActive (s : State) : State :=
  let ms := bootMs s
  let s := passStep s 0x38 0
  let s := { s with
    boot := { s.boot with st := .serving, attempt := 0, activeMs := BitVec.ofNat 32 ms }
    host := { s.host with memActive := !s.host.perst, creditsWithheld := s.host.perst }
    coh := { s.coh with serving := !s.fab.selfFenced } }
  let s := modRecord s (fun r => { r with final := 0x01 })
  let s := ((List.range 4).filter (fun i => s.coh.sliceUnknown.getLsbD i)).foldl (fun s i => sendScope s 2 i) s
  pump s

/-! ### The sequence -/

/-- The steps in ascending order (R605). -/
def bootSteps : List Nat :=
  [0x01, 0x02, 0x03, 0x04, 0x05, 0x06, 0x07, 0x08, 0x10, 0x11, 0x12, 0x13, 0x14, 0x15, 0x16, 0x17, 0x18, 0x19, 0x1A, 0x1B, 0x20,
   0x28, 0x29, 0x2A, 0x2B, 0x2C, 0x2D, 0x2E, 0x2F, 0x30, 0x31, 0x38]

/-- Has the starting condition of a step become true (R605)? -/
def stepReady (s : State) (k : Nat) : Bool :=
  let done := fun (n : Nat) => s.boot.ended.contains n
  if k = 0x01 then powerGood s || (!s.aon.vauxOut && decide (1700 ≤ s.aon.vauxMv.toNat) && decide (s.aon.vauxMv.toNat ≤ 3600))
  else if k ≤ 0x08 then done (k - 1) && (k != 0x04 || powerGood s)
  else if k ≤ 0x1B then done 0x08
  else if k = 0x20 then (List.range 12).all (fun c => done (0x10 + c))
  else if k = 0x28 then done 0x07
  else if k ≤ 0x2F then done (k - 1)
  else if k = 0x30 then done (0x28 + lastWave s)
  else if k = 0x31 then done 0x20 && done 0x30
  else done 0x31

/-- The next step that starts now, if any: none after a failure or a halt (R606, R611). -/
def nextStep (s : State) : Option Nat :=
  if s.boot.failing.isSome || s.boot.st != .running then none
  else bootSteps.find? (fun k => !s.boot.ended.contains k && (runOf s k).isNone && stepReady s k)

/-- A step starts: event 0x303 where it turns to its alternate (R610), and what the step does at once. -/
def startStep (s : State) (k : Nat) : State :=
  let m := stepMethod s k
  let s := beginStep s k m.1
  let s := if m.2 then raise s 0x303 k else s
  if k = 0x01 then
    let c := s.boot.current
    { s with
      boot := { s.boot with startNs := s.clockNs, current := { c with startTicks := BitVec.ofNat 64 (s.clockNs * 32768 / 1000000000) } }
      aon := { s.aon with smbAddr := 0x38 + Config.straps.setWidth 7 } }
  else if k = 0x02 then
    (if s.flt.latch then
       let s := endEntry s 0x02 outFailed 0 0 0
       { s with boot := { s.boot with st := .halted, haltStep := 0x02, failedStep := 0x02 } }
     else s)
  else if k = 0x03 then (if powerGood s then endFeeds s else s)
  else if k = 0x06 then { s with boot := { s.boot with fwAlt := m.1 == 2 } }
  else if k = 0x07 then { s with boot := { s.boot with imageAlt := m.1 == 2 } }
  else if k = 0x08 then (if m.1 = 2 then startRld s else s)
  else if 0x10 ≤ k ∧ k ≤ 0x1B then startChannel s (k - 0x10) m.1
  else if 0x28 ≤ k ∧ k ≤ 0x2F then
    (if (waveLinks s (k - 0x28)).isEmpty then endEntry s k outSkipped 0 0 0 else startWave s (k - 0x28) (m.1 == 2))
  else if k = 0x31 then startSettle s
  else s

/-- Start every step whose condition holds, in ascending order; each is started at most once. -/
def startSteps : Nat → State → State
  | 0, s => s
  | n + 1, s => match nextStep s with
    | some k => startSteps n (startStep s k)
    | none => s

/-- The boot goes on: steps start, and a failure is concluded. -/
def bootOn (s : State) : State := conclude (startSteps 33 s)

/-- BOOT_STEP_END (R605): a step in progress ends as its report says. A wait for cooler parts holds steps 0x04 and 0x05 (R589). -/
def bootStepEnd (s : State) (k : Nat) (r : StepReport) (buddy : Option BuddyReport) : State :=
  if (runOf s k).isNone || (r.hot && (k = 0x04 || k = 0x05)) then s
  else
    let s :=
      if k = 0x01 ∨ k = 0x02 then passStep s k 0
      else if k = 0x03 then (if powerGood s then endFeeds s else if noFeed s then failStep s 0x03 0x80 else s)
      else if k = 0x04 then (if r.ok then passStep s 0x04 0 else failStep s 0x04 0)
      else if k = 0x05 then endRom s r
      else if k = 0x06 then endFirmware s r
      else if k = 0x07 then endImage s r
      else if k = 0x08 then endRld s r
      else if k ≤ 0x1B then endChannel s (k - 0x10) r
      else if k = 0x20 then endReplay s r
      else if k ≤ 0x2F then endWave s k
      else if k = 0x30 then endJoin s r
      else if k = 0x31 then endSettle s buddy
      else memoryActive s
    bootOn s

/-- Step 0x31 that was skipped without the pool runs once the device is IN_SERVICE (R618). -/
def settleNow (s : State) : State :=
  if s.boot.settleLater && s.fab.own == .inService && (runOf s 0x31).isNone then beginStep s 0x31 0 else s

/-- ACTIVE_LATE (R607): Memory Active has not been reached within 16 s; once in a boot. -/
def activeLate (s : State) : State :=
  if s.host.memActive || s.boot.st == .serving || s.boot.lateRaised || s.boot.activeMs != 0 then s
  else raise { s with boot := { s.boot with lateRaised := true } } 0x305 0

/-- BOOT_CTRL.reset, retry and clear_alt (R613, R625). -/
def bootReset (s : State) : State :=
  let cause : BitVec 4 := 5
  { s with flt := { s.flt with react := s.flt.react ++ [.deviceReset cause] } }
def bootRetry (s : State) : State :=
  if s.boot.st = .halted ∨ s.boot.st = .romRecovery then
    { s with
      boot := { s.boot with attempt := 0 }
      flt := { s.flt with react := s.flt.react ++ [.deviceReset 6] } }
  else s
def clearAlt (s : State) : State := { s with boot := { s.boot with clearAlt := true } }

end Sys2Proof.Machine
end

