-- ==== Sys2Proof/Machine/Power.lean ====
section
/-! DEFINITION. Power entry and protection (17): the start, the trips, the retries and the loss of the two 12 V feeds. -/

namespace Sys2Proof.Machine

/-- A feed's record, its bit in feeds_expected and its event (R44, R576). -/
def feed (s : State) (f : Feed) : FeedRec := match f with
  | .a => s.pwr.feedA
  | .b => s.pwr.feedB
def otherFeed : Feed → Feed
  | .a => .b
  | .b => .a
def feedBit : Feed → Nat
  | .a => 0
  | .b => 1

/-- Replace, or change, a feed's record. -/
def setFeed (s : State) (f : Feed) (r : FeedRec) : State := match f with
  | .a => { s with pwr := { s.pwr with feedA := r } }
  | .b => { s with pwr := { s.pwr with feedB := r } }
def modFeed (s : State) (f : Feed) (g : FeedRec → FeedRec) : State := setFeed s f (g (feed s f))

/-- Does the image expect a feed (R66, R578)? -/
def feedExpected (s : State) (f : Feed) : Bool := s.pwr.expected.getLsbD (feedBit f)

/-- A threshold of the part for a feed, which lies between its minimum and its maximum: a FREE VALUE (assumption 26). -/
def threshold (f : Feed) (k low high : Nat) : Nat := low + Config.comparator (2 * k + feedBit f) % (high - low + 1)

/-- The thresholds of R555 in mV, and the fast-trip current of R563 in mA. -/
def mvPresent (f : Feed) : Nat := threshold f 1 4800 5200
def mvLow (f : Feed) : Nat := threshold f 2 10150 10250
def mvHigh (f : Feed) : Nat := threshold f 3 13750 13850
def mvUnder (f : Feed) : Nat := threshold f 4 9500 9700
def mvOver (f : Feed) : Nat := threshold f 5 14250 14550
def maFast (f : Feed) : Nat := threshold f 6 57000 63000
def inWindow (f : Feed) (mv : Nat) : Bool := decide (mvLow f ≤ mv) && decide (mv ≤ mvHigh f)

/-- Fields of a BREAKER record (R565): START parameters of point 0, and the curve. -/
def startIlim (s : State) : Nat := s.img.active.fld secBreaker 0 2
def startTimerMs (s : State) : Nat := s.img.active.fld secBreaker 0 3
def retryPolicy (s : State) : Nat := s.img.active.fld secBreaker 0 4
def curvePoints (s : State) : List Nat := (List.range 32).filter (fun k => (s.img.active.rcd secBreaker k).isSome)
def curveMa (s : State) (k : Nat) : Nat := s.img.active.fld secBreaker k 0 * 100
def curveUs (s : State) (k : Nat) : Nat := s.img.active.fld secBreaker k 1 * 10

/-- Causes of events 0x280 and 0x281 (R576). -/
def fcUnexpected : Nat := 0x02
def fcUndervolt : Nat := 0x03
def fcOvervolt : Nat := 0x04
def fcStartTrip : Nat := 0x05
def fcCurveTrip : Nat := 0x06
def fcFastTrip : Nat := 0x07
def fcReverse : Nat := 0x08
def fcLatched : Nat := 0x09
def fcReleased : Nat := 0x0A

/-- Raise a feed's event with its voltage and current, and a point or the replaced cause (R576). DESIGN CHOICE of the places in the
info bytes: voltage [15:0], current [39:16], point [47:40], replaced cause [55:48]. -/
def raiseFeed (s : State) (f : Feed) (cause point was : Nat) : State :=
  let r := feed s f
  raiseP s (0x280 + feedBit f) cause (.feed f) (r.mv % 2 ^ 16 + r.ma % 2 ^ 24 * 2 ^ 16 + point * 2 ^ 40 + was * 2 ^ 48)

/-- A feed stops conducting: gate, ORing FET and power-good off, curve counters cleared (R555, R564, R568). -/
def FeedRec.stop (r : FeedRec) (st : FeedSt) : FeedRec :=
  { r with st := st, pg := false, gateOn := false, oringOn := false, limiting := false, curve := [], onNs := none }

/-- The gate ramps in START mode (R557 to R559): the ORing FET is on from the start only while VBUS is below 9.0 V. -/
def startRamp (s : State) (f : Feed) : State :=
  modFeed s f (fun r => { r with
    st := .ramp
    gateOn := true
    oringOn := !s.pwr.vbus9
    pg := false
    limiting := false
    rampIlim := startIlim s
    rampTimer := startTimerMs s })

/-- A feed's test bit (R577). -/
def setTest (s : State) (f : Feed) (b : Bool) : State := match f with
  | .a => { s with pwr := { s.pwr with testA := b } }
  | .b => { s with pwr := { s.pwr with testB := b } }

/-- A feed has turned off (R570, R571, R573, R574): the other one carries the device; a test of the other one ends; with none left
VBUS collapses. -/
def feedLost (s : State) (f : Feed) (wasOn : Bool) : State :=
  let o := otherFeed f
  let otherOn := (feed s o).st == .on
  let s := if wasOn && otherOn then raise { s with pwr := { s.pwr with single := true } } 0x282 0 else s
  let s := if otherOn then modFeed s o (fun r => { r with oringOn := true }) else s
  let s := if wasOn && (feed s o).st == .testOff then startRamp (setTest s o false) o else s
  if !otherOn && !(feed s o).oringOn && s.pwr.vbus9 then
    let s := { s with pwr := { s.pwr with vbus9 := false, collapsed := true, single := false } }
    raise { s with flt := { s.flt with react := s.flt.react ++ [.collapse] } } 0x283 0
  else s

/-- A LATCHED feed is released: it starts at step 1 with its trip count at 0 (R569). A release of another feed is noted for its cycle. -/
def releaseFeed (s : State) (f : Feed) : State :=
  let r := feed s f
  if r.st != .latched then setFeed s f { r with releaseNs := some s.clockNs }
  else
    let st := if r.mv < mvPresent f then FeedSt.absent else if !feedExpected s f then .unexpected
      else if inWindow f r.mv then .qualify else .outOfRange
    raiseFeed (setFeed s f { r with st := st, trips := 0, absentNs := none }) f fcReleased 0 0

/-- A trip (R568): kind 1 START, 2 curve, 3 fast. It counts; the fourth, or the first under policy 2, latches the feed. A release of the same
cycle then acts on the latched feed (R569). -/
def tripFeed (s : State) (f : Feed) (kind cause point : Nat) : State :=
  let r := feed s f
  let last := retryPolicy s = 2 ∨ r.trips = 3
  let wasOn := r.st == .on
  let trips := min 3 (r.trips + 1)
  let r' := r.stop (if last then .latched else .retryWait)
  let s := setFeed s f { r' with
    trips := trips
    lastTrip := BitVec.ofNat 4 kind
    tripPoint := if kind = 2 then BitVec.ofNat 8 point else r.tripPoint }
  let s := if last then raiseFeed s f fcLatched point cause else raiseFeed s f cause point 0
  let s := feedLost s f wasOn
  if last && r.releaseNs == some s.clockNs then releaseFeed s f else s

/-- A feed turns off for undervoltage or overvoltage: it is not tripped, and restarts through qualification (R555). -/
def feedOff (s : State) (f : Feed) (mv cause : Nat) : State :=
  let r := feed s f
  if r.st != .on then setFeed s f { r with mv := mv }
  else
    let s := raiseFeed (setFeed s f { r.stop .outOfRange with mv := mv }) f cause 0 0
    feedLost s f true

/-- FEED_UNDERVOLT and FEED_OVERVOLT (R555). -/
def feedUndervolt (s : State) (f : Feed) (mv : Nat) : State := if mv < mvUnder f then feedOff s f mv fcUndervolt else s
def feedOvervolt (s : State) (f : Feed) (mv : Nat) : State := if mvOver f < mv then feedOff s f mv fcOvervolt else s

/-- FEED_PRESENT (R555, R556, R569): a feed crosses the present threshold, at `mv`. -/
def feedPresent (s : State) (f : Feed) (mv : Nat) : State :=
  let r := feed s f
  if mv < mvPresent f then
    let s := if r.st = .on then feedUndervolt s f mv else s
    let r := feed s f
    let wasConducting := r.gateOn
    let gone := match r.st with
      | .latched => { r with mv := mv, absentNs := some (r.absentNs.getD s.clockNs) }
      | .retryWait => { r with mv := mv }
      | .testOff => { r with mv := mv }
      | _ => { r.stop .absent with mv := mv }
    let s := setFeed s f gone
    if wasConducting && !(feed s f).gateOn then feedLost s f false else s
  else
    match r.st with
    | .absent =>
      if feedExpected s f then setFeed s f { r with mv := mv, st := .outOfRange }
      else raiseFeed (setFeed s f { r with mv := mv, st := .unexpected }) f fcUnexpected 0 0
    | .latched =>
      let s := setFeed s f { r with mv := mv, absentNs := none }
      (match r.absentNs with
       | some t => if t + 100000000 ≤ s.clockNs then releaseFeed s f else s
       | none => s)
    | _ => setFeed s f { r with mv := mv }

/-- FEED_WINDOW_ENTRY (R559 step 1). -/
def feedWindowEntry (s : State) (f : Feed) (mv : Nat) : State :=
  let r := feed s f
  if !inWindow f mv then s
  else if (r.st = .outOfRange ∨ r.st = .absent) ∧ feedExpected s f then setFeed s f { r with mv := mv, st := .qualify }
  else setFeed s f { r with mv := mv }

/-- START_WINDOW_EXIT (R559): a feed in QUALIFY returns to step 1. -/
def startWindowExit (s : State) (f : Feed) (mv : Nat) : State :=
  let r := feed s f
  if inWindow f mv then s
  else if r.st = .qualify then setFeed s f { r with mv := mv, st := .outOfRange }
  else setFeed s f { r with mv := mv }

/-- FEED_QUALIFIED (R559 step 2). -/
def feedQualified (s : State) (f : Feed) : State := if (feed s f).st = .qualify then startRamp s f else s

/-- FEED_GATE_FULL (R559 step 3, R560): the interval starts unless the fault timer starts in the same sample. -/
def feedGateFull (s : State) (f : Feed) (limiting : Bool) : State :=
  let r := feed s f
  if r.st != .ramp then s
  else
    let s := setFeed s f { r with st := .pgQual, limiting := limiting }
    if r.oringOn then { s with pwr := { s.pwr with vbus9 := true } } else s

/-- FEED_POWER_GOOD (R559 step 4, R561, R573): the feed is ON in NORMAL mode; the boot goes on. -/
def feedPowerGood (s : State) (f : Feed) : State :=
  let r := feed s f
  if r.st != .pgQual || r.limiting then s
  else
    let s := setFeed s f { r with st := .on, pg := true, oringOn := true, curve := [], onNs := some s.clockNs }
    let s := { s with pwr := { s.pwr with vbus9 := true, collapsed := false } }
    let s := if (feed s (otherFeed f)).st = .on ∧ s.pwr.single then
        raiseP { s with pwr := { s.pwr with single := false } } 0x1F4 0 .none 6
      else s
    let s := if (runOf s 0x03).isSome then endFeeds s else s
    bootOn s

/-- START_TIMER_TRIP (R560): the fault timer reaches startup_timer_ms. -/
def startTimerTrip (s : State) (f : Feed) : State :=
  let r := feed s f
  if (r.st = .ramp ∨ r.st = .pgQual) ∧ r.limiting then tripFeed s f 1 fcStartTrip 0 else s

/-- One sample against the curve: each point's counter counts up above its current, else down (R564). -/
def curveStep (s : State) (ma : Nat) (m : NMap Nat) : NMap Nat :=
  (curvePoints s).map (fun k =>
    let c := mgetD m k 0
    (k, if curveMa s k < ma then c + 1 else c - 1))

/-- BREAKER_SAMPLE (R560, R563, R564, R567): one current sample of 1 µs. A fast trip acts in both modes; the lowest point that
trips is recorded. -/
def breakerSample (s : State) (f : Feed) (ma : Nat) : State :=
  let r := feed s f
  let peak := BitVec.ofNat 16 (max r.peak.toNat (min 65535 (ma / 10)))
  let s := setFeed s f { r with ma := ma, peak := peak }
  let r := feed s f
  if r.gateOn && decide (maFast f < ma) then tripFeed s f 3 fcFastTrip 0
  else if r.st = .on then
    let m := curveStep s ma r.curve
    let s := setFeed s f { r with curve := m }
    (match (curvePoints s).find? (fun k => decide (curveUs s k ≤ mgetD m k 0) && decide (curveMa s k < ma)) with
     | some k => tripFeed s f 2 fcCurveTrip k
     | none => s)
  else if r.gateOn then setFeed s f { r with limiting := decide (r.rampIlim * 100 ≤ ma) }
  else s

/-- RETRY_WAIT_EXPIRY (R568): the feed restarts in START mode, or at step 1 out of its window. -/
def retryWaitExpiry (s : State) (f : Feed) : State :=
  let r := feed s f
  if r.st != .retryWait then s
  else if inWindow f r.mv then startRamp s f
  else setFeed s f { r with st := if r.mv < mvPresent f then .absent else .outOfRange }

/-- TRIP_COUNT_RESET (R568): ON for 60 s. -/
def tripCountReset (s : State) (f : Feed) : State :=
  let r := feed s f
  if r.st = .on then setFeed s f { r with trips := 0 } else s

/-- FEED_RELEASE: PWR_CTRL.release_a or release_b (R569, R577). -/
def feedRelease (s : State) (f : Feed) : State := releaseFeed s f

/-- FEED_TEST (R574): ignored unless the other feed is ON; a feed whose gate is on turns off for 10 ms. -/
def feedTest (s : State) (f : Feed) : State :=
  let r := feed s f
  if (feed s (otherFeed f)).st != .on || !r.gateOn then s
  else feedLost (setTest (setFeed s f (r.stop .testOff)) f true) f (r.st == .on)

/-- FEED_TEST_END (R574): the feed restarts at step 2 of R559. -/
def feedTestEnd (s : State) (f : Feed) : State :=
  if (feed s f).st = .testOff then startRamp (setTest s f false) f else s

/-- ORING_REVERSE (R571): reverse current turns an ORing FET off. -/
def oringReverse (s : State) (f : Feed) : State :=
  let r := feed s f
  if r.oringOn then raiseFeed (setFeed s f { r with oringOn := false }) f fcReverse 0 0 else s

/-- TELEMETRY_WINDOW (R575, R580): all fields of a feed come from one window of 100 µs; the energy adds up. -/
def telemetryWindow (s : State) (f : Feed) (mv ma power : BitVec 16) (energy : BitVec 48) : State :=
  modFeed s f (fun r => { r with telMv := mv, telMa := ma, telPower := power, energy := r.energy + energy })

/-- PEAK_READ (R580): a read returns the peak and clears it. -/
def peakRead (s : State) (f : Feed) : State := modFeed s f (fun r => { r with peak := 0 })

/-- A feed whose expectation a commit or a start has changed (R556, R567): one that is no longer expected turns off and is UNEXPECTED; an
UNEXPECTED one that now is starts at step 1. -/
def feedAgrees (s : State) (f : Feed) : State :=
  let r := feed s f
  if feedExpected s f then (if r.st = .unexpected then setFeed s f { r with st := if inWindow f r.mv then .qualify else .outOfRange } else s)
  else if r.st = .absent ∨ r.st = .unexpected then s
  else feedLost (raiseFeed (setTest (setFeed s f (r.stop .unexpected)) f false) f fcUnexpected 0 0) f (r.st == .on)
def feedsAgree (s : State) : State := feedAgrees (feedAgrees s .a) .b

/-- The reset thresholds of a feed and of VAUX, in mV (R555, R582). -/
def mvReset (f : Feed) : Nat := threshold f 0 1800 2200
def vauxReset : Nat := 1100 + Config.comparator 14 % 201

/-- The state Off (R11, R33, R582): VIN_A, VIN_B and VAUX are all below their reset thresholds, and nothing runs. -/
def isOff (s : State) : Bool :=
  decide (s.pwr.feedA.mv < mvReset .a) && decide (s.pwr.feedB.mv < mvReset .b) && decide (s.aon.vauxMv.toNat < vauxReset)

/-- A feed fenced at S3 is latched off (R543). -/
def latchFeed (s : State) (f : Feed) : State :=
  let r := feed s f
  if r.st = .latched ∨ r.st = .absent ∨ r.st = .unexpected then s
  else feedLost (setFeed s f (r.stop .latched)) f (r.st == .on)

end Sys2Proof.Machine
end

