-- ==== Sys2Proof/Machine/Radish.lean ====
section
/-! DEFINITION. Radish and the power states (18): sampled inputs, the rule table, Doze, Rest, Deep, custody, and what Radish
answers over SMBus. -/

namespace Sys2Proof.Machine

/-! ### Inputs -/

/-- How many instances an input has, 0 for one that does not exist (R584). -/
def inputCount (i : Nat) : Nat :=
  if i = 0x10 ∨ i = 0x11 ∨ i = 0x40 then 4
  else if i = 0x12 then 32
  else if i = 0x13 then 24
  else if [0x01, 0x02, 0x03, 0x04, 0x20, 0x21, 0x30, 0x41, 0x50].contains i then 1
  else 0

/-- Is an input one with an index (R584)? -/
def inputIndexed (i : Nat) : Bool := decide (1 < inputCount i)

/-- The latest sample of an instance (R603). -/
def sampleAt (s : State) (i ix : Nat) : Int := mgetD s.aon.samples (i * 256 + ix) 0

/-- The greatest of a list of values. -/
def maxInt : List Int → Int
  | [] => 0
  | [x] => x
  | x :: xs => max x (maxInt xs)

/-- The value of an input and index: the highest over all instances for index 0xFF (R584); 0 where it does not exist (R603). -/
def inputValue (s : State) (i ix : Nat) : Int :=
  let n := inputCount i
  if n = 0 then 0
  else if !inputIndexed i then sampleAt s i 0
  else if ix = 0xFF then maxInt ((List.range n).map (sampleAt s i))
  else if ix < n then sampleAt s i ix
  else 0

/-- Record a sample. -/
def putSample (s : State) (i ix : Nat) (v : Int) : State :=
  { s with aon := { s.aon with samples := mset s.aon.samples (i * 256 + ix) v } }

/-- One tick of a wake link's run counter (R594): the new counter, and whether the pattern is declared in this tick. -/
def WakeRun.step (w : WakeRun) (v : Bool) : WakeRun × Bool :=
  if v = w.level then ({ w with run := w.run.map (· + 1) }, false)
  else match w.run with
    | none => (⟨v, some 1, 0⟩, false)
    | some n =>
      if 3 ≤ n ∧ n ≤ 5 then
        if w.accepted = 3 then (⟨v, some 1, 0⟩, true) else (⟨v, some 1, w.accepted + 1⟩, false)
      else (⟨v, some 1, 0⟩, false)

/-- The link number of wake link `i` in NODE order (R302). -/
def wakeLinkNo (s : State) (i : Nat) : Nat := s.img.restart.fld secNode 0 1 / 256 ^ i % 256

/-- A tick's sample of one external input (R584): a voltage, a temperature, or the signal detector of a wake link, whose value is
its level and whose WAKE_PATTERN is what the run counter declares. Other inputs are Radish's own. -/
def takeSample (s : State) (x : Sample) : State :=
  let i := x.input.toNat
  let ix := x.index.toNat
  if inputCount i ≤ ix then s
  else if i = 0x40 then
    let w := (mgetD s.aon.wakeRuns ix ⟨false, none, 0⟩).step (decide (x.value ≠ 0))
    let s := { s with aon := { s.aon with wakeRuns := mset s.aon.wakeRuns ix w.1 } }
    let s := if w.2 then { s with aon := { s.aon with wakeLink := BitVec.ofNat 8 (wakeLinkNo s ix) } } else s
    putSample s i ix (if w.2 then 1 else 0)
  else if i = 0x03 then putSample { s with aon := { s.aon with vauxMv := BitVec.ofInt 16 x.value } } i ix x.value
  else if [0x01, 0x02, 0x10, 0x11, 0x12].contains i then putSample s i ix x.value
  else s

/-- The inputs Radish knows itself (R584): FEEDS_ON, HOST_WAKE, HOST_LINK, IDLE, LIGHT, FAULT. The idle count stands still in Rest
and Deep (R589). -/
def ownSamples (s : State) : State :=
  let asleep := s.aon.st == .rest || s.aon.st == .deep
  let idle := if asleep then s.aon.idle
    else if s.aon.active then 0
    else if s.aon.idle = BitVec.allOnes 32 then s.aon.idle
    else s.aon.idle + 1
  let s := { s with aon := { s.aon with idle := idle, active := false } }
  let on := b2n (s.pwr.feedA.st == .on) + b2n (s.pwr.feedB.st == .on)
  let hostLink : Nat := match s.host.linkLow with
    | none => if s.host.speed = 0 then 0 else 2
    | some .down => 0
    | some _ => 1
  let s := putSample s 0x04 0 on
  let s := putSample s 0x20 0 (b2n s.aon.hostWake)
  let s := putSample s 0x21 0 hostLink
  let s := putSample s 0x30 0 idle.toNat
  let s := putSample s 0x41 0 (b2n (!s.aon.light.isEmpty))
  let s := putSample s 0x50 0 s.aon.faultSev
  { s with aon := { s.aon with hostWake := false, faultSev := 0, wakeTick := false } }

/-! ### Rules -/

/-- A rule's state. -/
def ruleSt (s : State) (r : Nat) : RuleSt := mgetD s.aon.rules r RuleSt.zero

/-- The fields of a rule in the active image (R585). -/
def ruleFld (s : State) (r f : Nat) : Nat := s.img.active.fld secRules r f

/-- A field of 4 bytes as a signed number. -/
def signed32 (n : Nat) : Int := (BitVec.ofNat 32 n).toInt

/-- The states a rule names, by the device's present one (R585). -/
def ruleInState (s : State) (r : Nat) : Bool :=
  nbit (ruleFld s r 6) (match s.aon.st with
    | .run => 0
    | .doze => 1
    | .rest => 2
    | .deep => 3)

/-- A rule's condition after a value: true when it meets compare against threshold; false again on the other side by at least the
hysteresis (R586). The value is in 2^-16 units. -/
def ruleCond (compare : Nat) (threshold hyst : Int) (was : Bool) (v : Int) : Bool :=
  let t := threshold * 65536
  let h := hyst * 65536
  if compare = 1 then (if v < t then was && decide (t - v < h) else true)
  else if compare = 2 then (if v < t then true else was && decide (v - t < h))
  else decide (v = t)

/-- One rule over one tick (R586): the average, the condition, and for how many ticks it has been true in a state the rule names. It
stops firing when the condition is false or the state is not named. The average starts at the first value (DESIGN CHOICE). -/
def ruleStep (s : State) (r : Nat) : RuleSt :=
  let c := ruleSt s r
  let x := inputValue s (ruleFld s r 0) (ruleFld s r 1) * 65536
  let n : Nat := 2 ^ ruleFld s r 3
  let avg := if ruleFld s r 2 = 1 ∧ c.started then c.avg + (x - c.avg) / (n : Int) else x
  let v := if ruleFld s r 2 = 1 then avg else x
  let cond := ruleCond (ruleFld s r 4) (signed32 (ruleFld s r 7)) (ruleFld s r 8) c.cond v
  let live := cond && ruleInState s r
  { avg := avg, started := true, cond := cond, held := if live then c.held + 1 else 0, firing := c.firing && live }

/-- The rules of the active image, ascending. -/
def ruleKeys (s : State) : List Nat := (List.range 256).filter (fun r => (s.img.active.rcd secRules r).isSome)

/-- Is a rule to fire: its condition has been true for hold_ticks (R586)? -/
def ruleDue (s : State) (r : Nat) : Bool :=
  let c := ruleSt s r
  !c.firing && c.cond && decide (max 1 (ruleFld s r 9) ≤ c.held)

/-- Bit i of AON_FIRED: rule i fires (R604). -/
def firedMask (rules : NMap RuleSt) : BitVec 256 :=
  rules.foldl (fun m x => if x.2.firing then m ||| ((1 : BitVec 256) <<< x.1) else m) 0

/-- RADISH_SAMPLE (R584, R586, R594): every rule is evaluated on the same tick's samples. -/
def radishSample (s : State) (xs : List Sample) : State :=
  let s := xs.foldl takeSample s
  let s := ownSamples s
  let rules : NMap RuleSt := (ruleKeys s).map (fun r => (r, ruleStep s r))
  { s with aon := { s.aon with rules := rules, fired := firedMask rules } }

/-- The code of a wake's cause (R601), by the rule that fired. -/
def ruleWakeCause (s : State) (r : Nat) : BitVec 4 :=
  let i := ruleFld s r 0
  if ruleFld s r 5 = 5 then 6 else if i = 0x41 then 2 else if i = 0x40 then 3 else if i = 0x20 then 4 else 5

/-- The links of this device that are asleep are lit and retrain (R592, R596). -/
def relight (s : State) : State :=
  (usedLinks s).foldl (fun s l =>
    let r := link s l
    if r.st = .asleep then
      sendTrain (setLink s l { r with
        st := .retrain
        laser := true
        wakeSince := none
        retrains := r.retrains + 1
        retrainNs := some s.clockNs
        peerTrain := none
        identSeen := false }) l false
    else s) s

/-- A wake begins in Doze, Rest or Deep (R587, R592, R596): its cause is recorded, and out of Rest the links are lit. In Run no sleep
state is entered in its tick, and an entry already in progress is left at once when it ends (R35). -/
def startWake (s : State) (cause : BitVec 4) : State :=
  if s.aon.st = .run then { s with aon := { s.aon with
      wakeTick := true
      wakeOwed := s.aon.wakeOwed || rowAsleep s (myNode s / 64) } }
  else if s.aon.exiting then s
  else
    let s := { s with aon := { s.aon with
      wakeCause := cause
      exiting := true
      lightWakeNs := if cause = 2 then some s.clockNs else none } }
    if s.aon.st = .rest then relight s else s

/-- RULE_FIRE (R586, R587): a rule that is due starts to fire: its event with the rule number as cause, and WAKE or VETO. -/
def ruleFire (s : State) (r : Nat) : State :=
  if !ruleDue s r then s
  else
    let rules := mset s.aon.rules r { ruleSt s r with firing := true }
    let s := { s with aon := { s.aon with rules := rules, fired := firedMask rules } }
    let s := if ruleFld s r 10 = 0xFFFF then s else raise s (ruleFld s r 10) r
    if ruleFld s r 5 = 1 ∨ ruleFld s r 5 = 5 then startWake s (ruleWakeCause s r) else s

/-- DIMM_TEMP_READ: in Run and Doze only (R584). -/
def dimmTempRead (s : State) (ts : List Int) : State :=
  if s.aon.st = .run ∨ s.aon.st = .doze then
    ((ts.take 24).zipIdx).foldl (fun s x => putSample s 0x13 x.2 x.1) s
  else s

/-! ### The power states -/

/-- No VETO and no wake of this tick stands in the way of a sleep state (R35, R587, R588): not a request either. -/
def mayDescend (s : State) : Bool :=
  !vetoed s && !s.aon.exiting && !s.aon.wakeTick && !s.aon.active && !s.aon.hostWake && !(ruleKeys s).any (fun r => ruleDue s r && (ruleFld s r 5 == 1 || ruleFld s r 5 == 5))

/-- Is this device's row ASLEEP, with the device in the pool (R588)? -/
def rowSlept (s : State) : Bool := rowAsleep s (myNode s / 64) && (s.fab.own == .asleep || s.fab.own == .inService)

/-- Is the host link down or in L1 or L2 (R33, R588)? -/
def hostLow (s : State) : Bool := !hostL0 s

/-- The ranks without a command go into active power-down with the device's Doze (R33, R434, R590). -/
def dozeRanks (s : State) : State :=
  (List.range 16).foldl (fun s n => (List.range 4).foldl (fun s rank => powerDownEntry s n rank) s) s

/-- The links in Doze are up with the device (R590). -/
def wakeLinks (s : State) : State :=
  (usedLinks s).foldl (fun s l => modLink s l (fun r => if r.st = .doze then { r with st := .up } else r)) s

/-- Doze is entered: the engines are gated, the idle links doze, and the ranks power down (R33, R588, R590). -/
def enterDoze (s : State) : State :=
  let s := dozeRanks (idleLinksDoze (applyNoted s 0 .gate))
  { s with aon := { s.aon with st := .doze } }

/-- DOZE_ENTRY (R588, R590): the engines are clock-gated, which is a request to a voted block (R526): while it is pending Doze is not
entered. -/
def dozeEntry (s : State) : State :=
  if s.aon.st != .run || !actionFires s 2 || s.aon.dozeOff || !mayDescend s then s
  else if s.sec.held.getLsbD 0 then pendPower { s with sec := { s.sec with dozeWait := true } } 0 .gate
  else enterDoze s

/-- A pending entry into Doze is applied in the cycle in which the last vote on the engines is cleared (R526, R527). -/
def dozeResumed (s : State) : State :=
  if !s.sec.dozeWait || s.sec.held.getLsbD 0 then s
  else
    let s := { s with sec := { s.sec with dozeWait := false } }
    if s.aon.st == .run then enterDoze s else s

/-- A vote on the engines in the cycle of an entry into Doze wins: Doze is not entered (R526). -/
def dozeUndone (s : State) (blocks : BitVec 7) : State :=
  if s.aon.st == .doze && blocks.getLsbD 0 && decide (s.sec.lockoutNs ≤ s.clockNs) && (mget s.sec.applied 0).any (fun x => x.atNs == s.clockNs) then
    { wakeLinks s with aon := { s.aon with st := .run }, sec := { s.sec with dozeWait := true } }
  else s

/-- Back to Run: what was counted of Rest and Deep is added (R630), and held requests go on (R34). -/
def backToRun (s : State) : State :=
  let s := { s with aon := { s.aon with st := .run, exiting := false, light := [] } }
  let s := countN s 0x072 none s.aon.restUs
  let s := countN s 0x073 none s.aon.deepUs
  pump { s with aon := { s.aon with restUs := 0, deepUs := 0 } }

/-- The cause code of an exit from Doze (R601). -/
def dozeCode (s : State) : DozeWake → BitVec 4
  | .request => 1
  | .frame => 1
  | .work => 1
  | .wakeRule => s.aon.wakeCause
  | .veto => 6

/-- DOZE_EXIT (R590): a request, a frame or work at once; WAKE or VETO once its rule has fired. -/
def dozeExit (s : State) (c : DozeWake) : State :=
  let ready := match c with
    | .wakeRule => s.aon.exiting
    | .veto => s.aon.exiting || vetoed s
    | _ => true
  if s.aon.st != .doze || !ready then s
  else
    let s := { s with aon := { s.aon with wakeCause := dozeCode s c } }
    backToRun (wakeLinks (applyPower s 0 .ungate))

/-- Is no request queued or open (R591)? -/
def nothingOpen (s : State) : Bool :=
  s.coh.txs.isEmpty && s.coh.pend.isEmpty && s.coh.reqs.isEmpty && s.coh.waitHost.isEmpty && s.coh.asleepIn.isEmpty

/-- Work of an engine (R33, R590): in Doze it wakes the device first, in Rest and Deep the engines stand still. -/
def engineWork (s : State) (run : State → State) : State :=
  match s.aon.st with
  | .run => run s
  | .doze => run (dozeExit s .work)
  | _ => s

/-- What the fast clocks drive stands still in Rest and Deep (R33). -/
def clocked (s : State) (run : State → State) : State := if s.aon.st == .rest || s.aon.st == .deep then s else run s

/-- REST_ENTRY (R588, R591): queues drain, DRAM and RLD go into self-refresh, links sleep dark. A request still open keeps the device
out of it. A wake that came during the entry starts the exit at once (R35, R334). -/
def restEntry (s : State) : State :=
  if !(s.aon.st == .run || s.aon.st == .doze) || !rowSlept s || !actionFires s 3 || !mayDescend s || !hostLow s || !nothingOpen s then s
  else
    let s := (List.range 16).foldl (fun s n => modCtl s n (fun c =>
      if ctlServes c then { c with
        st := .selfRefresh
        srEntries := if c.st = .selfRefresh then c.srEntries else c.srEntries + 1
        wq := []
        openRows := []
        ranksDown := 0
        draining := false }
      else c)) s
    let s := (usedLinks s).foldl (fun s l => modLink s l (fun r =>
      if r.isUp || r.st == .retrain then { r with st := .asleep, laser := false, retrainNs := none } else r)) s
    let owed := s.aon.wakeOwed
    let s := { s with aon := { s.aon with st := .rest, light := [], lightWakeNs := none, wakeOwed := false } }
    if owed then startWake s 1 else s

/-- LIGHT_QUALIFIED (R592): light on a used link, while the Rest light detectors are on. -/
def lightQualified (s : State) (l : Nat) : State :=
  if s.aon.st != .rest || !linkUsed s l then s
  else
    let nl : LinkNo := BitVec.ofNat 8 l
    let s := { s with aon := { s.aon with light := if s.aon.light.contains nl then s.aon.light else nl :: s.aon.light } }
    startWake s 2

/-- DRAM and RLD leave self-refresh (R592, R596). -/
def memoryWakes (s : State) (from_ : MemSt) : State :=
  (List.range 16).foldl (fun s n => modCtl s n (fun c => if c.st = from_ then { c with st := .active } else c)) s

/-- REST_EXIT_COMPLETE (R592): State Run, and HEARTBEAT is sent (R336). -/
def restExitComplete (s : State) : State :=
  if s.aon.st != .rest || !s.aon.exiting then s
  else sendHeartbeats (backToRun (memoryWakes s .selfRefresh)) false

/-- Has a link begun to train with its peer since the wake? -/
def linkMet (s : State) (l : Nat) : Bool :=
  let r := link s l
  r.isUp || r.identSeen || r.peerTrain.isSome

/-- SPURIOUS_WAKE_TIMEOUT (R592): light led to no link training within 100 ms, and nothing else woke the device: event 0x2C7; its
links of a device still on its way out go dark again, and it is back in Rest; one that has reached Run re-enters Rest by its rules. -/
def spuriousWakeTimeout (s : State) : State :=
  if s.aon.lightWakeNs.isNone || s.aon.wakeCause != 2 || (usedLinks s).any (linkMet s) then s
  else
    let s := if s.aon.st == .rest then
        let s := (usedLinks s).foldl (fun s l => modLink s l (fun r =>
          if r.st = .retrain then { r with st := .asleep, laser := false, retrainNs := none } else r)) s
        { s with aon := { s.aon with exiting := false, light := [] } }
      else s
    raise { s with aon := { s.aon with lightWakeNs := none } } 0x2C7 0

/-- The directory cache is written back to RLD (R260, R595). -/
def dirWritten (s : State) : State := { s with coh := { s.coh with dirCache := mmap s.coh.dirCache (fun _ _ => false) } }

/-- DEEP_ENTRY (R588, R595, R597): from Rest; the directory cache is written back, and Radish takes custody of every channel and
stack. -/
def deepEntry (s : State) : State :=
  if s.aon.st != .rest || !rowSlept s || !actionFires s 3 || !actionFires s 4 || !mayDescend s || !hostLow s then s
  else
    let s := dirWritten s
    let held := fun (n : Nat) => (ctl s n).st == .selfRefresh
    let ddr := ((List.range 12).filter held).foldl (fun m c => m ||| ((1 : BitVec 12) <<< c)) 0
    let rld := ((List.range 4).filter (fun i => held (12 + i))).foldl (fun m c => m ||| ((1 : BitVec 4) <<< c)) 0
    let s := (List.range 16).foldl (fun s n => modCtl s n (fun c => if c.st = .selfRefresh then { c with st := .custody } else c)) s
    { s with aon := { s.aon with st := .deep, custodyDdr := ddr, custodyRld := rld, light := [], wakeRuns := [] } }

/-- Has the wake cause of an exit from Deep come about (R596)? -/
def deepCause (s : State) : DeepWake → Option (BitVec 4)
  | .pattern i => if sampleAt s 0x40 i.val = 1 ∨ (s.aon.exiting ∧ s.aon.wakeCause = 3) then some 3 else none
  | .hostWake => if (s.aon.exiting ∧ s.aon.wakeCause = 4) ∨ s.aon.hostWake then some 4 else none
  | .wakeRule => if s.aon.exiting then some s.aon.wakeCause else none
  | .veto => if s.aon.exiting ∨ vetoed s then some 6 else none

/-- DEEP_EXIT (R596): state is restored, custody ends with no training, links are lit, and HEARTBEAT is sent. -/
def deepExit (s : State) (c : DeepWake) : State :=
  if s.aon.st != .deep then s
  else match deepCause s c with
    | none => s
    | some code =>
      let s := { s with aon := { s.aon with
        wakeCause := code
        custodyDdr := 0
        custodyRld := 0
        wakeLink := match c with
          | .pattern i => BitVec.ofNat 8 (wakeLinkNo s i.val)
          | _ => s.aon.wakeLink } }
      sendHeartbeats (backToRun (relight (memoryWakes s .custody))) false

/-- CUSTODY_LOST (R598): VBUS fell below 9.6 V during custody. -/
def custodyLostBody (s : State) : State :=
  if s.aon.custodyDdr = 0 ∧ s.aon.custodyRld = 0 then s
  else
    raise { s with
      aon := { s.aon with custodyDdr := 0, custodyRld := 0, custodyLost := true }
      boot := { s.boot with custody := false } } 0x2C6 0

/-- VAUX_OUT_OF_RANGE (R582): the domain draws from VBUS; event 0x2C3. -/
def vauxOutOfRange (s : State) (mv : BitVec 16) : State :=
  if 1700 ≤ mv.toNat ∧ mv.toNat ≤ 3600 then s
  else
    let was := s.aon.vauxOut
    let s := { s with aon := { s.aon with vauxMv := mv, vauxOut := true } }
    if was then s else raise s 0x2C3 0

/-- VAUX_IN_RANGE (R582, R605): step 0x01 starts. -/
def vauxInRange (s : State) (mv : BitVec 16) : State :=
  if 1700 ≤ mv.toNat ∧ mv.toNat ≤ 3600 then bootOn { s with aon := { s.aon with vauxMv := mv, vauxOut := false } } else s

/-- REFCLK_LOST (R583): event 0x2C4, at S4 by default. -/
def refclkLostBody (s : State) : State :=
  if s.aon.refLost then s else raise { s with aon := { s.aon with refLost := true } } 0x2C4 0

/-! ### SMBus -/

/-- AON_STATE.state and its other fields (R601). -/
def regAonState (s : State) : Nat :=
  let code := match s.aon.st with
    | .run => 0
    | .doze => 1
    | .rest => 2
    | .deep => 3
  code + s.aon.wakeCause.toNat * 2 ^ 8 + s.aon.wakeLink.toNat * 2 ^ 16 + b2n s.flt.latch * 2 ^ 24 + s.aon.vauxMv.toNat * 2 ^ 32

/-- AON_CUSTODY (R602). -/
def regAonCustody (s : State) : Nat :=
  s.aon.custodyDdr.toNat + s.aon.custodyRld.toNat * 2 ^ 16 + b2n s.aon.custodyLost * 2 ^ 24

/-- FLT_STATUS (R551): unacknowledged classes and their highest pending level are derived from the classes. -/
def regFltStatus (s : State) : Nat :=
  let open_ := s.flt.classes.filter (fun c => c.2.unacked)
  s.flt.log.length + s.flt.lost.toNat * 2 ^ 32 + open_.length * 2 ^ 48 +
    ((open_.map (fun c => c.2.pending.toNat)).foldl max 0) * 2 ^ 59 + b2n s.flt.resetUnacked * 2 ^ 62

/-- GET_STATE, GET_RECORDS, GET_SENSE, and any other code (R599). -/
def getStateBody (s : State) : State :=
  emit s (.smbus (.bytes (natLe 8 (regAonState s) ++ natLe 8 (regAonCustody s) ++ natLe 8 (regFltStatus s))))
def getRecordsBody (s : State) : State :=
  let first := match s.flt.latch, s.flt.latchRecord with
    | true, some r => [r]
    | _, _ => []
  emit s (.smbus (.fltRecords (first ++ (s.flt.radish.filter (fun r => !first.contains r)))))
def getSenseBody (s : State) (i ix : Nat) : State :=
  emit s (.smbus (.bytes (natLe 4 ((BitVec.ofInt 32 (inputValue s i ix)).toNat))))
def smbusOther (s : State) (code : Nat) : State :=
  if code = 1 ∨ code = 2 ∨ code = 3 then s else emit s (.smbus .mctpError)

end Sys2Proof.Machine
end

