-- ==== Sys2Proof/Machine/Reset.lean ====
section
/-! DEFINITION. The resets (R11 to R13, R498, R499, R546, R547, R570): power-on, device, host conventional and CXL reset, and
what the S5 latch and a collapse of VBUS leave. -/

namespace Sys2Proof.Machine

/-! ### What a device reset drains and keeps -/

/-- A page whose copy at the buddy a reset leaves behind: it is brought up to date when the mirror state is settled (R172, R618). -/
def unsynced (s : State) (p : Nat) : State :=
  let pn := BitVec.ofNat 36 p
  if mirroredExtent s p && !s.chd.resync.contains pn then { s with chd := { s.chd with resync := s.chd.resync ++ [pn] } } else s

/-- One line of the writeback sink is drained into home memory (R287). -/
def drainEnt (s : State) (x : SinkEnt) : State :=
  if x.stage = .mirroring then s
  else if !ownKey s x.key then
    match actingPlace s (keyOwner x.key) (keyLine x.key) with
    | some (c, i) => writeCopyLine s c i (x.data, x.poison)
    | none => s
  else
    let p := keyPage x.key
    if (page s p).fenced then s
    else
      let s := exposePage s p
      let s := if servingTier s p = tierNone then (populateFrame s p).getD s else s
      if servingTier s p = tierNone then s
      else
        let s := if servingTier s p = tierPlain then placeLine s (keyLine x.key) (x.data, x.poison)
          else placeNear s x.key 15 (x.data, x.poison)
        if mirroredExtent s p && s.chd.mirror != .exposed then
          unsynced { s with chd := { s.chd with nextMirror := s.chd.nextMirror + 1 } } p
        else s

/-- The writeback sink is drained, oldest first (R22, R287). -/
def drainSink (s : State) : State :=
  let s := s.coh.sink.foldl drainEnt s
  { s with coh := { s.coh with sink := [] } }

/-- Own pages with a MirrorWrite or a copy under way. -/
def mirrorOpen (s : State) : List Nat :=
  let keys := s.e2e.txs.filterMap (fun x => match x.2.purpose with
    | .mirror _ key => if ownKey s key then some (keyPage key) else none
    | _ => none)
  keys ++ mkeys s.chd.copyRuns

/-- Copies at the buddy whose free was sent and not acknowledged wait again (R100). A holder's pods are freed again by replay, which
finds their FREE without FREE_DONE (R165). -/
def unfinishedFrees (s : State) : List Deferred :=
  s.e2e.txs.filterMap (fun x => match x.2.purpose with
    | .mirrorFree e p n => some ⟨x.2.msg.dst, false, p, n, e, 0, 0⟩
    | _ => none)

/-- Pods taken in a lease by a rewrite that did not end hold nothing that is named. -/
def dropRewrites (s : State) : State :=
  s.chd.evicts.foldl (fun s x => match x.2.loc with
    | some loc => leaseDrop s (dNode (page s x.1).desc) loc (dPods (rewritten s x.1 (x.2.block % 4) x.2.blen x.2.slot loc x.2.kgen))
    | none => s) s

/-- A line that was evicting, or sent as snoop data, is in the near cache as a dirty line (R266, R289). -/
def keepDirty (s : State) (key : Nat) (v : Line × Bool) (fromHost : Bool) : State :=
  match nearGet s key with
  | some l => if dirtySt l.st then s else nearPut s key 15 { l with data := v.1, poison := v.2, st := .o, whole := true }
  | none => nearPut s key 15 ⟨v.1, v.2, false, if fromHost then .e else .m, .i, fromHost, false, true⟩

/-- The near cache across this device's own reset (R289): evicting lines and unacknowledged snoop data are kept, evictions of
own blocks start again, and no line has a host copy (R290). -/
def keepNear (s : State) : State :=
  let s := s.coh.reqs.foldl (fun s r => match r.2.stage, r.2.kept with
    | .evicting, some (d, p, h) => keepDirty s r.1 (d, p) h
    | _, _ => s) s
  let s := s.coh.sentDirty.foldl (fun s x => keepDirty s x.key (x.data, x.poison) false) s
  let near := mmap s.coh.near (fun _ b => { b with evicting := false, lines := mmap b.lines (fun _ l => { l with hf := HostCopy.i }) })
  { s with coh := { s.coh with near := near } }

/-- Is the content of a memory controller held at a reset (R435, R597)? Memory that no step 0x20 has initialised holds nothing. -/
def ctlHeld (s : State) (n : Nat) : Bool :=
  let st := (ctl s n).st
  let live := st == .active || st == .powerDown || st == .selfRefresh || st == .custody ||
    (st == .training && s.boot.custody && decide (n < 12) && s.aon.custodyDdr.getLsbD n)
  live && (s.boot.custody || s.boot.ended.contains 0x20)

/-- The controllers after a reset: CUSTODY where contents are held, OFF otherwise (R435, R449). -/
def ctlsAfter (s : State) (custody : Bool) : NMap MemCtl :=
  (List.range 16).map (fun n =>
    let c := ctl s n
    let held := custody && ctlHeld s n
    (n, { MemCtl.init s.img.restart n with
      st := if held then MemSt.custody else .off
      pmic := held && c.pmic
      saved := c.saved
      serials := c.serials }))

/-- The custody bits of a reset (R597, R602). -/
def ddrHeld (s : State) : BitVec 12 := (List.range 12).foldl (fun m c => if ctlHeld s c then m ||| ((1 : BitVec 12) <<< c) else m) 0
def rldHeld (s : State) : BitVec 4 :=
  (List.range 4).foldl (fun m i => if ctlHeld s (12 + i) then m ||| ((1 : BitVec 4) <<< i) else m) 0

/-! ### The units at their D values -/

/-- Placement, migration and the mirror: the tables that are journaled are kept; open migrations are aborted by the replay, from
their MIG_OPEN records. -/
def resetChd (s : State) : State :=
  let s := dropRewrites s
  let s := (mirrorOpen s).foldl unsynced s
  let back := (s.chd.acting.filter (fun x => x.2 == 6)).flatMap (fun x =>
    (mkeys s.chd.copies).filter (fun k => copyOwner k == x.1 && copyThere s k))
  { s with chd := { s.chd with
      migs := []
      mirror := if (myBuddy s).isSome then .holding else .none
      lastPassMs := 0
      walkDone := none
      passRunning := false
      epochStartNs := 0
      passInsertFailed := false
      epochStretched := false
      reserveState := 0
      sampleOff := false
      holdLend := false
      holdBackground := false
      cands := []
      localTokens := 0
      fabricTokens := 0
      evicts := []
      rowHeld := []
      committed := 0
      aborted := 0
      deferred := s.chd.deferred ++ unfinishedFrees s
      copyRuns := []
      actResync := back
      resilver := false
      reserveWaitNs := none
      leaseWantedNs := none } }

/-- Coherence: the directory and the near cache are kept, open transactions end without response (R287, R289, R290). -/
def resetCoh (s : State) : State :=
  let s := keepNear s
  let c := s.coh
  { s with coh := { CohState.init with
      dir := mmap c.dir (fun _ e => { e with host := HostCopy.i })
      near := c.near
      pred := c.pred
      bisnpMs := c.bisnpMs
      eGrantOff := c.eGrantOff
      atomicMode := c.atomicMode
      unknownSets := c.unknownSets
      sliceUnknown := c.sliceUnknown
      hostUnknown := c.hostUnknown
      folded := c.folded
      notservingHint := c.notservingHint
      pendingHint := c.pendingHint } }

/-- End-to-end delivery: open tags are quarantined from the reset on (R374); the completed requests are kept (R11, R178). -/
def resetE2e (s : State) : State :=
  let open_ := mkeys s.e2e.txs
  let e := s.e2e
  { s with e2e := { e with
      txs := []
      quarantined := e.quarantined ++ open_.filter (fun k => !e.quarantined.contains k)
      resetQuarantine := e.resetQuarantine ++ open_.filter (fun k => !e.resetQuarantine.contains k)
      late := 0
      reissues := 0
      expired := 0
      duplicates := 0
      waiting := []
      noTag := [] } }

/-- The fabric: membership and links are learnt again; what the metadata store and flash hold is kept (R332, R339 to R345). -/
def resetFab (s : State) : State :=
  let f := s.fab
  { s with fab := { FabState.init with
      incarnation := f.incarnation
      floodSeq := f.floodSeq
      epoch := f.epoch
      digest := f.digest
      lent := f.lent
      overdueAt := f.overdueAt
      leaseFree := f.leaseFree
      aliases := mfilter f.aliases (fun o _ => mhas s.chd.acting o)
      restartGraceS := f.restartGraceS
      sleepVeto := f.sleepVeto
      leave := f.leave
      memberSel := f.memberSel
      leaseSel := f.leaseSel
      lentPods := f.lentPods } }

/-- Regulation, compression, keys, ECC and the image unit at their D values. -/
def resetRest (s : State) : State :=
  let i := s.img.active
  { s with
    links := []
    trns := []
    qos := { QosState.init i with policeOff := s.qos.policeOff, feedbackOff := s.qos.feedbackOff }
    cmp := { CmpState.init with retire := s.cmp.retire, trials := s.cmp.trials }
    xts := { s.xts with
      tagFail := 0
      unrecovered := 0
      domains := mmap s.xts.domains (fun _ d => { d with rotating := none })
      holderFails := []
      rereads := [] }
    ecc := { s.ecc with last := 0, buckets := [], corrected := [], overflows := [] }
    img := { s.img with
      restartPending := false
      stage := .idle
      cause := 0
      declared := 0
      ranges := []
      verified := none
      changing := 0 }
    flt := { s.flt with
      log := []
      lost := 0
      logSel := 0
      injEvent := 0
      classes := mmap s.flt.classes (fun _ c => { c with count := 0 })
      inReset := true
      fencedEngines := [] }
    pmc := { s.pmc with frozen := false, counting := false, ovf := 0, fix := [], ctr := [], before := none, late := [], lateNs := 0, selOld := none } }

/-- The host interface and the secure world at their D values: grants, firmware slots, fuses and keys are kept. -/
def resetHost (s : State) : State :=
  let h := s.host
  let x := s.sec
  { s with
    host := { HostState.init with
      perst := h.perst
      fwSlots := h.fwSlots
      fwPending := h.fwPending
      grants := h.grants
      nextGrant := h.nextGrant }
    sec := { SecState.init with
      secured := x.secured
      lotId := x.lotId
      slots := x.slots
      imgFloor := x.imgFloor
      fwFloor := x.fwFloor
      ownerKey := x.ownerKey
      deviceSecret := x.deviceSecret
      ownerOk := x.ownerOk
      pairing := x.pairing
      nextEnvelope := x.nextEnvelope
      envelopes := x.envelopes.filter (·.2.stored)
      measFw := x.measFw
      measImg := x.measImg } }

/-- Power entry and Radish: a LATCHED feed is released, the device is in Run (R569, R577, R601). -/
def resetPower (s : State) : State :=
  let off := fun (f : FeedRec) => { f with peak := (0 : BitVec 16) }
  let s := { s with
    pwr := { s.pwr with testA := false, testB := false, feedA := off s.pwr.feedA, feedB := off s.pwr.feedB }
    aon := { s.aon with
      st := .run
      idle := 0
      active := false
      fired := 0
      rules := []
      faultSev := 0
      hostWake := false
      light := []
      lightWakeNs := none
      wakeOwed := false
      wakeTick := false
      refLost := false
      exiting := false } }
  releaseFeed (releaseFeed s .a) .b

/-- Every unit at its D values; `custody`: DRAM and RLD pass to Radish. -/
def resetUnits (s : State) (custody : Bool) : State :=
  let s := drainSink s
  let ctls := ctlsAfter s custody
  let ddr := if custody then ddrHeld s else 0
  let rld := if custody then rldHeld s else 0
  let s := { s with ctls := ctls, aon := { s.aon with custodyDdr := ddr, custodyRld := rld } }
  let s := resetPower (resetRest s)
  resetHost (resetFab (resetE2e (resetCoh (resetChd s))))

/-! ### The start that follows -/

/-- An entry CARRIED from before the start (R619). -/
def carriedEnt (k : Nat) : BootEnt := ⟨BitVec.ofNat 8 k, BitVec.ofNat 8 outCarried, 0, 0, 0, 0, 0⟩

/-- A new boot record opens with steps CARRIED; the one it follows ends as reset by fault if it was in progress (R610 to R612, R619
to R621). -/
def newStart (s : State) (cause : BitVec 4) (custody : Bool) (carried : List Nat) : State :=
  let b := s.boot
  let s := if b.current.final == 0xFF && (cause == 2 || cause == 3) then modRecord s (fun r => { r with final := 0x03 }) else s
  let old := s.boot.current
  let counted := b.st == .retrying || b.st == .halted || b.st == .romRecovery
  let attempt := if b.st == .serving then 0 else if counted then b.attempt else BitVec.ofNat 4 (min 8 (b.attempt.toNat + 1))
  let rec_ : BootRec := { BootRec.first with
    seq := old.seq + 1
    startCause := cause.setWidth 8
    custody := custody
    attempt := attempt.setWidth 8
    incarnation := s.fab.incarnation
    startTicks := BitVec.ofNat 64 (s.clockNs * 32768 / 1000000000)
    entries := carried.map carriedEnt }
  { s with boot := { BootState.init with
      startCause := cause
      attempt := attempt
      clearAlt := b.clearAlt
      startNs := s.clockNs
      ended := carried
      current := rec_
      previous := some old
      ring := s.boot.ring
      custody := custody
      declaredFailed := b.declaredFailed
      altPrimary := b.altDrop || b.clearAlt
      chained := true } }

/-- HEARTBEAT with RESETTING leaves on every up link, before the links reset (R322). -/
def resettingBeats (s : State) : State :=
  let m := heartbeatMsg s true
  (usedLinks s).foldl (fun s l =>
    if (link s l).isUp then frameSendBody (sendOnLink (modLink s l (fun r => { r with egress := Wfq.empty })) l m) l else s) s

/-- Does a device reset act: it is absorbed while one is in progress, and there is nothing to reset before the rails are up or
under the S5 latch (R12, R546)? -/
def resetActs (s : State) : Bool := !s.flt.inReset && !s.flt.latch && s.boot.ended.contains 0x04

/-- DEVICE_RESET (R11, R22, R287, R322, R435, R619), with its start cause. -/
def deviceResetBody (s : State) (cause : BitVec 4) : State :=
  if !resetActs s then s
  else
    let s := resettingBeats s
    let held := ddrHeld s != 0
    let before := s
    let s := resetUnits s true
    bootOn (driveAlert before (newStart s cause held [0x01, 0x02, 0x03, 0x04]))

/-- VBUS has collapsed (R570): contents are lost, and the device starts from step 0x04 once a feed is ON. -/
def collapseBody (s : State) : State :=
  if s.flt.latch then s
  else
    let s := custodyLostBody s
    let s := resetUnits s false
    if s.boot.ended.contains 0x03 then bootOn (newStart s 1 false [0x01, 0x02, 0x03]) else s

/-- S5 (R546): the latch is set, ALERT_L asserted; lasers, PCIe termination, PMICs and rails are off. No start proceeds. -/
def latchBody (s : State) : State :=
  let before := s
  let s := lasersOff { s with flt := { s.flt with latch := true } }
  let s := resetUnits s false
  driveAlert before { s with boot := { s.boot with st := .halted, running := [], failing := none } }

/-- POWER_ON_RESET (R11, R547): everything, but what flash and fuses hold. The model's own counters and queues go on. -/
def powerOnResetBody (s : State) : State :=
  let ctls := mmap s.ctls (fun n c => { MemCtl.init Img.default n with saved := c.saved, serials := c.serials })
  let n := { State.reset with
    freeIdx := s.freeIdx
    out := s.out
    pending := s.pending
    nextReq := s.nextReq
    img := { ImgState.init with slots := s.img.slots, primerRecord := s.img.primerRecord }
    ctls := ctls
    ecc := { EccState.init with marks := s.ecc.marks }
    xts := { XtsState.init with
      domains := mmap s.xts.domains (fun _ d => { d with rotating := none })
      nextKey := s.xts.nextKey }
    host := { HostState.init with fwSlots := s.host.fwSlots, fwPending := s.host.fwPending, perst := s.host.perst }
    sec := { SecState.init with
      secured := s.sec.secured
      lotId := s.sec.lotId
      slots := s.sec.slots
      imgFloor := s.sec.imgFloor
      fwFloor := s.sec.fwFloor
      ownerKey := s.sec.ownerKey
      deviceSecret := s.sec.deviceSecret
      pairing := s.sec.pairing
      nextEnvelope := s.sec.nextEnvelope
      envelopes := s.sec.envelopes.filter (·.2.stored) }
    boot := { BootState.init with ring := s.boot.ring, declaredFailed := s.boot.declaredFailed } }
  driveAlert s n

/-- Once all three supplies are below their reset thresholds the always-on domain loses its state: power-on reset (R11, R582). -/
def offCheck (s : State) : State := if isOff s then powerOnResetBody s else s

/-! ### Host-side resets -/

/-- The completion of a host request is discarded (R499). -/
def quietWork : ReqWork → ReqWork
  | .read mv _ l => .read mv none l
  | .write mv _ l d m p => .write mv none l d m p
  | w => w
def quietKind : OwnKind → OwnKind
  | .hostRd mv _ => .hostRd mv none
  | .hostWr mv _ d m p => .hostWr mv none d m p
  | k => k

/-- CXL.mem requests in progress at an H reset: those not started are gone, the others run to their end, and no completion leaves
(R499). -/
def quietHost (s : State) : State :=
  { s with coh := { s.coh with
      txs := mmap s.coh.txs (fun _ t => { t with kind := quietKind t.kind })
      pend := s.coh.pend.map (fun x => { x with kind := quietKind x.kind })
      reqs := mmap s.coh.reqs (fun _ t => { t with work := t.work.map quietWork })
      waitHost := s.coh.waitHost.filter (fun x => match x.2 with
        | .atomic _ _ _ _ _ _ _ => true
        | _ => false) } }

/-- Pending extents are withdrawn (R98). -/
def withdrawPending (s : State) : State :=
  ((s.chd.extents.filter (fun e => isPending e.2)).map (·.1)).foldl withdrawExtent s

/-- The host-facing CXL state that an H and a C reset clear (R98, R290, R498, R516). Timestamp and event interrupt policy go with
it: DESIGN CHOICE. -/
def cxlStateReset (s : State) : State :=
  let s := withdrawPending s
  let s := { s with
    host := { s.host with memFenced := false, decoders := [], policy := 0, timestamp := none }
    sec := { s.sec with spdmVersion := false, spdmCaps := false, spdmAlg := false, chunkIn := none, chunkOut := none } }
  hostCopiesGone s

/-- Is a host-side reset absorbed in a wider one (R12)? -/
def hostResetAbsorbed (s : State) : Bool := s.flt.inReset || s.flt.latch

/-- HOST_CONVENTIONAL_RESET (R498, R499): an H reset, event 0x266 while the device serves. -/
def hostConventionalResetBody (s : State) (kind : HostResetKind) : State :=
  if hostResetAbsorbed s then s
  else
    let serving := s.boot.st == .serving
    let s := quietHost s
    let s := { s with host := { s.host with
      creditsWithheld := true
      crs := true
      infoValid := false
      memActive := false
      width := 0
      speed := 0
      linkLow := some .down
      termination := s.host.termination && kind != HostResetKind.perst
      perst := s.host.perst || kind == HostResetKind.perst
      wake := s.host.wake && kind != HostResetKind.perst
      queueSel := 0
      queues := []
      readNs := []
      bgDiscard := s.host.background.isSome
      bgOutput := none
      msix := [] } }
    let bg := match s.host.background with
      | some (.queueDelete _) => { s with host := { s.host with background := none, bgDiscard := false } }
      | _ => s
    let s := cxlStateReset bg
    if serving then raise s 0x266 0 else s

/-- Is a host conventional reset in progress (R12): PERST# is low, or the port has not come back up (R497 step 3)? -/
def hostResetOpen (s : State) : Bool := s.host.perst || s.host.crs

/-- CXL_RESET (R498): a C reset, event 0x267. With or during an H reset it is absorbed (R12). -/
def cxlResetBody (s : State) : State :=
  if hostResetAbsorbed s || hostResetOpen s then s else raise (cxlStateReset s) 0x267 0

/-- PERST_FILTERED (R497, R650, R651): the level registered. Assertion releases WAKE# and takes termination off; deassertion puts
it on once step 0x05 has ended. -/
def perstFilteredBody (s : State) (asserted : Bool) : State :=
  if asserted then { s with host := { s.host with perst := true, termination := false, wake := false } }
  else { s with host := { s.host with perst := false, termination := s.boot.ended.contains 0x05 && !s.flt.latch } }

end Sys2Proof.Machine
end

