-- ==== Sys2Proof/Machine/Flags.lean ====
section
/-! DEFINITION. The value each register reads (R7, R9): its stored fields and the status fields the manual computes from other
state. A register is named by its 8-byte-aligned BAR 0 offset; an offset that holds no register reads 0 (R479). -/

namespace Sys2Proof.Machine

/-! ### GEN (01, 02, 14) -/

/-- GEN_IDENT (R4): part 0x9012, revision B0. -/
def regIdent (s : State) : Nat :=
  packF [(32, s.sec.lotId.toNat), (4, 0), (4, b2n s.sec.secured), (4, 0), (4, 1), (16, 0x9012)]

/-- GEN_IMAGE_ACTIVE (R67). -/
def regImageActive (s : State) : Nat :=
  packF [(7, s.sec.imgFloor), (13, 0), (1, b2n s.img.poolPending), (1, b2n s.img.refoldActive), (1, b2n s.img.restartPending),
    (1, s.img.activeSlot.toNat), (8, s.img.active.svn), (32, s.img.active.serial.toNat)]

/-- GEN_IMAGE_STAGE (R68). -/
def regImageStage (s : State) : Nat :=
  let st := match s.img.stage with
    | .idle => 0
    | .receiving => 1
    | .verifying => 2
    | .rejected => 3
  packF [(4, st), (4, 0), (8, s.img.cause.toNat), (16, 0), (32, stagedBytes s)]

/-- GEN_HOST (R502): credits are withheld before Memory Active and while an ingress queue is full (R407, R497). -/
def regHost (s : State) : Nat :=
  packF [(4, s.host.speed.toNat), (6, s.host.width.toNat), (1, b2n s.host.memActive), (1, b2n s.host.infoValid),
    (1, b2n s.host.crs), (1, b2n s.host.memFenced), (1, b2n (s.host.creditsWithheld || s.qos.withheldNs.isSome))]

/-- GEN_QUEUE of the selected queue (R503). -/
def regQueue (s : State) : Nat :=
  match mget s.host.queues s.host.queueSel.toNat with
  | none => 0
  | some q =>
    packF [(16, q.cqHead), (16, q.cqTail), (16, q.sqHead), (4, 0), (9, (q.taken.filter (fun t => t.done.isNone)).length),
      (1, b2n q.stopped), (1, b2n q.admin), (1, 1)]

/-- The MSI-X table (R479, R496): address at bytes 0 to 7 of an entry, data and vector control at bytes 8 to 15. -/
def regMsix (s : State) (off : Nat) : Nat :=
  let e := msixEnt s (off / 16)
  if off % 16 = 0 then e.addr.toNat else packF [(32, e.data.toNat), (1, b2n e.masked)]

/-- The MSI-X pending-bit array. -/
def regPba (s : State) (w : Nat) : Nat := packF ((List.range 64).map (fun i => (1, b2n (msixEnt s (64 * w + i)).pending)))

def regGen (s : State) (o : Nat) : Nat :=
  if o = 0 then regIdent s
  else if o = 0x100 then regImageActive s
  else if o = 0x108 then regImageStage s
  else if o = 0x200 then regHost s
  else if o = 0x208 then s.host.queueSel.toNat
  else if o = 0x210 then regQueue s
  else if 0x7000 ≤ o ∧ o < 0x7100 then regPba s ((o - 0x7000) / 8)
  else if 0x8000 ≤ o ∧ o < 0x10000 then regMsix s (o - 0x8000)
  else 0

/-! ### CHD (03, 04, 05) -/

/-- Accepted capacity of non-shared extents in 2 MiB units, and accepted and pending extents (R101, R104). -/
def acceptedUnits (es : List (Nat × Extent)) : Nat :=
  ((es.filter (fun e => e.2.shared.isNone && e.2.state == .accepted)).map (fun e => e.2.len2m)).sum

/-- Pods of this owner's Remote pages at holders. -/
def remotePods (s : State) : Nat := ((s.chd.pages.filter (fun x => dTier x.2.desc == tierRemote)).map (fun x => dPods x.2.desc)).sum

/-- CHD_STATUS (R146). -/
def regChdStatus (s : State) : Nat :=
  packF [(3, s.chd.reserveState.toNat), (1, b2n (s.chd.reserveState != 0)), (1, b2n s.qos.pause), (1, b2n s.chd.ledgerGap),
    (1, b2n s.chd.epochStretched), (9, 0), (16, s.chd.migs.length)]

/-- Has memory been set up by step 0x20, or kept in custody? Before that CHD_META and CHD_JOURNAL read their reset value (R102, R185). -/
def memoryUp (s : State) : Bool := s.boot.custody || s.boot.ended.contains 0x20

/-- CHD_JOURNAL (R185). -/
def regJournal (s : State) : Nat :=
  if !memoryUp s then 0 else
  let free := min (ringFree s 0) (ringFree s 1)
  let st := if free < 65536 then 2 else if free < 262144 then 1 else 0
  packF [(2, st), (1, b2n s.chd.ring0.spill), (1, b2n s.chd.ring1.spill), (28, 0), (32, free)]

/-- CHD_MIRROR (R186). -/
def regMirror (s : State) : Nat :=
  packF [(4, mirrorCode s.chd.mirror), (4, maxNat (s.chd.buddyOf.map (fun b => b.2.role.toNat))), (8, 0), (48, s.chd.ackedSeq.toNat)]

def regChd (s : State) (o : Nat) : Nat :=
  let mib := fun (frames : Nat) => frames / 256
  if o = 0 then packF [(1, b2n s.chd.holdBackground), (1, b2n s.chd.holdLend), (1, b2n s.chd.sampleOff)]
  else if o = 0x8 then regChdStatus s
  else if o = 0x10 then packF [(16, s.chd.lastPassMs.toNat), (16, 0), (32, s.chd.epoch.toNat)]
  else if o = 0x18 then packF [(32, mib (segFrames s .arena)), (32, mib (segFrames s .plain))]
  else if o = 0x20 then packF [(32, remotePods s / 16384), (32, mib (lentFrames s))]
  else if o = 0x28 then packF [(32, mib (pinnedCount s)), (32, mib (buddyFrames s))]
  else if o = 0x30 then packF [(32, mib (reserveLow s)), (32, mib (reserveHigh s))]
  else if o = 0x38 then packF [(32, ledgerCapacity s), (32, s.chd.ledger.length)]
  else if o = 0x100 then regJournal s
  else if o = 0x108 then regMirror s
  else if o = 0x110 then packF [(32, s.chd.resyncDone / 1048576), (32, resyncLeft s)]
  else if o = 0x118 then packF [(32, s.chd.aborted.toNat), (32, s.chd.committed.toNat)]
  else if o = 0x800 then packF [(32, extentCount s.chd.extents), (32, acceptedUnits s.chd.extents)]
  else if o = 0x808 then (if memoryUp s then packF [(32, mib (framesF s)), (32, metaMib s)] else 0)
  else if o = 0x810 then (s.chd.deferred.map (fun d => if d.holder then 1 else d.count)).sum
  else if 0x840 ≤ o ∧ o < 0x880 then
    let n := (o - 0x840) / 8
    let es := s.chd.extents.filter (fun e => e.2.region == n)
    packF [(17, extentCount es), (14, 0), (1, b2n (regionOf s n).isSome), (32, acceptedUnits es)]
  else 0

/-! ### CMP, XTS, COH (06, 07, 08) -/

def regTrial (t : Trial) : Nat :=
  packF [(6, t.slot1.toNat), (6, t.slot2.toNat), (6, t.slot3.toNat), (6, 0), (1, b2n t.enable), (6, 0), (1, b2n t.bad)]

/-- CMP_PRIMER (R223). -/
def regPrimer (s : State) (n : Nat) : Nat :=
  let p := (mget s.img.active.primers n).map (fun p => p.phrases)
  let ps := p.getD []
  packF [(16, 0), (15, (ps.map (·.length)).sum), (1, 0), (12, ps.length), (18, 0), (1, b2n (s.cmp.retire.getLsbD n)), (1, b2n p.isSome)]

def regCmp (s : State) (o : Nat) : Nat :=
  if o = 0 then packF [(16, s.cmp.cFenced.toNat), (32, s.cmp.dFenced.toNat)]
  else if o = 8 then packF [(32, s.cmp.decodeError.toNat), (32, s.cmp.verifyFail.toNat)]
  else if 0x40 ≤ o ∧ o < 0xC0 then min 64 (s.cmp.sched.items.filter (fun i => i.item.label == (o - 0x40) / 8)).length
  else if 0x100 ≤ o ∧ o < 0x300 then regPrimer s ((o - 0x100) / 8)
  else if 0x300 ≤ o ∧ o < 0x500 then (slotFingerprint s ((o - 0x300) / 8)).toNat
  else if 0x500 ≤ o ∧ o < 0x700 then slotUse s ((o - 0x500) / 8)
  else if 0x700 ≤ o ∧ o < 0x780 then regTrial (mgetD s.cmp.trials ((o - 0x700) / 8) Trial.zero)
  else 0

/-- XTS_DOM_STAT of the selected domain (R251). -/
def regDomStat (s : State) : Nat :=
  let d := s.xts.domSel.toNat
  let k := domKeys s d
  let defined := (s.img.active.rcd secDomains d).isSome
  packF [(1, b2n k.current), (1, 0), (1, b2n k.old.isSome), (1, b2n k.rotating.isSome), (2, if defined then domainSource s d else 0),
    (1, b2n (domainInteg s d)), (1, b2n defined), (16, 0), (40, pagesOld s d)]

def regXts (s : State) (o : Nat) : Nat :=
  if o = 0 then packF [(32, s.xts.unrecovered.toNat), (32, s.xts.tagFail.toNat)]
  else if o = 8 then s.xts.domSel.toNat
  else if o = 0x10 then regDomStat s
  else 0

/-- COH_STATUS (R295). -/
def regCohStatus (s : State) : Nat :=
  packF [(1, b2n s.coh.serving), (11, 0), (1, b2n (s.coh.hostUnknown != 0)), (3, 0), (4, s.coh.sliceUnknown.toNat),
    (7, s.coh.unknownSets.length), (5, 0), (16, s.coh.txs.length)]

def regCoh (s : State) (o : Nat) : Nat :=
  if o = 0 then packF [(2, s.coh.atomicMode.toNat), (1, b2n s.coh.predClear), (1, b2n s.coh.eGrantOff), (1, b2n s.coh.hostFlushed),
    (7, 0), (8, s.coh.bisnpMs.toNat)]
  else if o = 8 then regCohStatus s
  else if o = 0x10 then packF [(9, areaUsed s .host), (7, 0), (9, areaUsed s .reserved + s.coh.heldFor.length), (7, 0),
    (12, areaUsed s .general)]
  else if o = 0x18 then packF [(8, s.coh.pendingHint.toNat), (8, s.coh.notservingHint.toNat)]
  else if o = 0x20 then packF [(29, s.coh.dir.length), (3, 0), (32, s.coh.evictions.toNat)]
  else if o = 0x28 then packF [(32, s.coh.farCount.toNat), (32, s.coh.nearCount.toNat)]
  else 0

/-! ### FAB and LNK (09, 10) -/

/-- The member record of a node as FAB_MEMBER gives it (R341). -/
def regMember (s : State) (n : Nat) : Nat :=
  let m := mgetD s.fab.members n Member.zero
  packF [(16, m.lendable.toNat), (16, m.incarnation.toNat), (4, memberCode (memberState s n)), (12, m.authority.toNat),
    (16, m.version.toNat)]

/-- Members in a state (R342), this device among them. -/
def memberCount (s : State) (st : MemberSt) : Nat :=
  (s.fab.members.filter (fun m => m.1 != myNode s && m.2.state == st)).length + b2n (s.fab.own == st)

/-- FAB_LEASE of the selected peer (R345). -/
def regLease (s : State) : Nat :=
  let n := s.fab.leaseSel.toNat
  let b := borrow s n
  let l := mget s.fab.lent n
  packF [(1, b2n (b.recallTo.isSome || l.any (fun x => x.recallTo.isSome))),
    (1, b2n (s.fab.overdueAt.contains s.fab.leaseSel || l.any (fun x => x.overdue))), (30, 0),
    (16, (l.map (fun x => x.sizeGib)).getD 0), (16, b.sizeGib)]

def regFab (s : State) (o : Nat) : Nat :=
  if o = 0 then packF [(9, geoP s * geoK s), (3, 0), (6, myNode s % 64), (6, myNode s / 64), (12, myNode s), (4, memberCode s.fab.own),
    (1, b2n s.fab.founder)]
  else if o = 8 then packF [(32, s.fab.epoch.toNat), (32, if s.img.poolPending then s.img.active.poolEpoch.toNat else 0)]
  else if o = 0x10 then s.fab.memberSel.toNat
  else if o = 0x18 then regMember s s.fab.memberSel.toNat
  else if o = 0x20 then s.fab.rowsAsleep.toNat
  else if o = 0x28 then packF [(13, memberCount s .joining), (13, memberCount s .inService), (13, memberCount s .asleep),
    (13, memberCount s .failed)]
  else if o = 0x30 then packF [(32, s.fab.discarded.toNat), (32, s.fab.threeHop.toNat)]
  else if o = 0x38 then packF [(1, b2n s.fab.leave), (1, b2n s.fab.rejoin), (1, b2n s.fab.sleepVeto), (13, 0),
    (8, s.fab.restartGraceS.toNat)]
  else if o = 0x40 then s.fab.leaseSel.toNat
  else if o = 0x48 then regLease s
  else if o = 0x100 then s.e2e.timeoutUs.toNat
  else if o = 0x108 then packF [(32, s.e2e.reissues.toNat), (32, s.e2e.late.toNat)]
  else if o = 0x110 then packF [(32, s.e2e.duplicates.toNat), (32, s.e2e.expired.toNat)]
  else if o = 0x118 then packF [(19, s.e2e.txs.length), (13, 0), (19, s.e2e.quarantined.length)]
  else if o = 0x120 then packF [(21, 1048576), (11, 0), (21, s.e2e.crt.length)]
  else 0

/-- The code of a link state (R349). -/
def linkCode : LinkSt → Nat
  | .dark => 0
  | .training => 1
  | .up => 2
  | .retrain => 3
  | .givenUp => 4
  | .held => 5
  | .doze => 6
  | .asleep => 7

/-- The registers of a link (R381 to R386). -/
def regLnk (s : State) (l o : Nat) : Nat :=
  let r := link s l
  if o = 0 then packF [(1, 0), (1, b2n r.hold)]
  else if o = 8 then packF [(4, linkCode r.st), (2, r.rate.toNat), (14, 0), (12, r.peerNode.toNat), (8, r.peerLink.toNat),
    (16, r.session.toNat), (8, r.lastCause.toNat)]
  else if o = 0x10 then packF [(8, r.replayUs.toNat), (8, r.giveupMs.toNat)]
  else if o = 0x18 then packF [(12, r.txNext.toNat), (4, 0), (12, r.txAcked.toNat), (4, 0), (12, r.rxNext.toNat), (12, 0),
    (8, r.replay.length)]
  else if 0x20 ≤ o ∧ o < 0x40 then
    let n := (o - 0x20) / 8
    packF ((List.range 4).map (fun i => (16, r.credits.getD (4 * n + i) 0)))
  else if o = 0x40 then packF [(32, r.crcErrors.toNat), (32, r.fecUncorrectable.toNat)]
  else if o = 0x48 then packF [(32, r.replays.toNat), (16, r.malformed.toNat), (16, r.retrains.toNat)]
  else if o = 0x50 then r.fecCorrected.toNat
  else 0

/-! ### QOS, MEM, RLD, ECC (11, 12, 13) -/

/-- QOS_STATUS (R413). at_floor holds from the first adjustment on: it is 0 at reset. -/
def regQosStatus (s : State) : Nat :=
  let mask := fun (f : Nat → Bool) => packF ((List.range 14).map (fun l => (1, b2n (f l))))
  packF [(2, s.qos.level), (2, s.qos.devload.toNat), (1, b2n s.qos.pause), (3, 0), (7, s.qos.qs / 65536), (17, 0),
    (14, mask (fun l => decide (512 ≤ ingressCount s l))), (2, 0), (14, mask (fun l => mget s.qos.scale l == some (scaleFloor s l)))]

/-- QOS_LABEL (R414). -/
def regLabel (s : State) (l : Nat) : Nat :=
  packF [(12, labelWeight s l), (1, b2n (labelRt s l)), (1, b2n (labelGuaranteed s l)), (6, 0), (3, policeMode s l),
    (9, mgetD s.qos.scale l 256), (16, if l < 14 then injWindow s l else 0)]

def regQos (s : State) (o : Nat) : Nat :=
  let l := o / 8 % 16
  if o = 0 then packF [(1, b2n s.qos.feedbackOff), (1, b2n s.qos.policeOff)]
  else if o = 8 then regQosStatus s
  else if o % 0x100 < 0x80 then
    (if o / 0x100 = 1 then regLabel s l
     else if o / 0x100 = 2 then packF [(16, mgetD s.qos.shapeBurst l 0), (16, 0), (32, mgetD s.qos.shapeRate l 0)]
     else if o / 0x100 = 3 then packF [(32, mgetD s.qos.cir l 0), (32, mgetD s.qos.pir l 0)]
     else if o / 0x100 = 4 then packF [(32, (mgetD s.qos.yellow l 0).toNat), (32, (mgetD s.qos.red l 0).toNat)]
     else if o / 0x100 = 5 then (mgetD s.qos.bwm l 0).toNat
     else if o / 0x100 = 6 then (mgetD s.qos.bwf l 0).toNat
     else 0)
  else 0

/-- The code of a controller's state (R449). -/
def memCode : MemSt → Nat
  | .off => 0
  | .training => 1
  | .active => 2
  | .powerDown => 3
  | .selfRefresh => 4
  | .custody => 5
  | .fenced => 6
  | .excluded => 7

/-- MEM_MAP of a channel (R445). -/
def regMemMap (s : State) (c : Nat) : Nat :=
  let set := interleaveSet s
  packF [(6, 0), (4, set.length), (4, if set.contains c then set.idxOf c else 15), (4, 0), (5, granuleLog s), (2, chanRankBits s c),
    (2, chanCidBits s c), (5, if set.contains c then chanRowBits s c else 0), (16, channelGib s c), (16, (dimm0 s c).getD 2 0)]

/-- The scheduling, refresh and power registers of a controller (R447 to R449, R451). -/
def regCtl (s : State) (n o : Nat) : Nat :=
  let c := ctl s n
  if o = 0x80 then packF [(8, c.wqLow), (8, c.wqHigh), (8, c.drainBurst)]
  else if o = 0x88 then packF [(8, c.rq.length), (8, c.wq.length), (1, b2n c.draining)]
  else if 0x100 ≤ o ∧ o < 0x140 then
    let p := (o - 0x100) / 8
    packF [(16, c.targets.getD p 0), (32, (c.urgent3.getD p 0).toNat)]
  else if o = 0x180 then packF [(2, if n < 12 then s.img.restart.fld secMem 0 1 else 1), (1, 0), (3, c.postponeMax), (2, c.rate),
    (4, maxNat c.postponed)]
  else if o = 0x188 then packF [(16, c.pdIdleNs), (16, c.srIdleUs), (4, memCode c.st)]
  else if o = 0x190 then packF [(32, c.pdEntries.toNat), (32, c.srEntries.toNat)]
  else 0

/-- The training helpers of a channel (R450). -/
def regTrn (s : State) (c o : Nat) : Nat :=
  let t := trn s c
  if o = 0x200 then packF [(1, b2n t.busy), (1, b2n t.busy), (1, b2n t.destructive), (10, 0), (1, t.subchannel.toNat), (2, t.cid.toNat),
    (2, t.rank.toNat), (2, t.target.toNat), (4, t.pattern.toNat), (16, t.bursts.toNat)]
  else if o = 0x208 then t.seed.toNat
  else if o = 0x210 then packF [(16, t.failed.toNat), (16, 0), (1, b2n t.refused)]
  else if o = 0x218 then t.fail0.toNat
  else if o = 0x220 then t.fail1.toNat
  else if o = 0x228 then packF [(9, (mgetD t.delays (t.kind.toNat * 256 + t.lane.toNat) 0).toNat), (37, 0), (2, t.kind.toNat),
    (8, t.lane.toNat)]
  else if o = 0x230 then packF [(8, t.hostVref.toNat), (8, t.dramVref.toNat)]
  else 0

/-- The registers of a DDR-5 channel. -/
def regMem (s : State) (c o : Nat) : Nat :=
  if o = 0 then regMemMap s c
  else if 8 ≤ o ∧ o < 0x48 then
    let k := (o - 8) / 8
    let there := decide (k < 6 + chanRankBits s c)
    packF [(17, xorMask s k), (46, 0), (1, b2n there)]
  else if 0x200 ≤ o then regTrn s c o
  else regCtl s c o

/-- Nibble i of ECC_MARK[c][h]: the marked device of group 16h + i, or 0xF (R471). -/
def regMark (s : State) (c h : Nat) : Nat :=
  packF ((List.range 16).map (fun i => (4, match markOf s c (16 * h + i) with
    | some d => d.val
    | none => 15)))

def regEcc (s : State) (o : Nat) : Nat :=
  let e := s.ecc
  if o = 0 then packF [(1, b2n e.scrubOff), (1, b2n e.rldScrubOff), (2, 0), (4, e.ueFence.toNat), (8, e.rldMin.toNat), (16, e.scrubH.toNat),
    (16, e.leakS.toNat), (8, e.threshold.toNat)]
  else if 0x100 ≤ o ∧ o < 0x180 then
    let n := (o - 0x100) / 8
    packF [(8, mgetD e.scrubbed n 0 * 100 / max 1 (scrubTotal s n)), (1, b2n (e.lagging.contains n)), (23, 0),
      (32, (mgetD e.passes n 0).toNat)]
  else if 0x200 ≤ o ∧ o < 0x280 then
    let n := (o - 0x200) / 8
    packF [(16, (mgetD e.overflows n 0).toNat), (16, (mgetD e.uncorrectable n 0).toNat), (32, (mgetD e.corrected n 0).toNat)]
  else if 0x300 ≤ o ∧ o < 0x3C0 then regMark s ((o - 0x300) / 16) (o / 8 % 2)
  else if o = 0x400 then e.last.toNat
  else 0

/-! ### FLT, PWR, AON, BOOT, PMC, SEC (15 to 20) -/

/-- An event record as its 32 bytes, little-endian (R548). -/
def regFltRecord (r : FltRecord) : Nat :=
  packF [(16, r.event.toNat), (8, r.cause.toNat), (3, r.effective.toNat), (3, r.mapped.toNat), (1, b2n r.escalated), (1, 0),
    (8, r.route.toNat), (1, b2n r.carried), (1, b2n r.resetPart), (6, 0), (16, r.vector.toNat), (64, r.time.toNat), (128, r.info.toNat)]

/-- FLT_CLASS (R553). -/
def regClass (s : State) (n : Nat) : Nat :=
  let c := cls s n
  packF [(3, mappedLevel s n 0), (5, 0), (4, (faultMap s n).2.1), (3, c.pending.toNat), (1, b2n c.unacked), (8, 0), (8, c.lastCause.toNat),
    (32, c.count.toNat)]

def regFlt (s : State) (o : Nat) : Nat :=
  if o = 0 then regFltStatus s
  else if o = 8 then s.flt.logSel.toNat
  else if 0x10 ≤ o ∧ o < 0x30 then
    (match s.flt.log[s.flt.logSel.toNat]? with
     | some r => bits (regFltRecord r) (8 * (o - 0x10) + 63) (8 * (o - 0x10))
     | none => 0)
  else if o = 0x30 then s.flt.injEvent.toNat
  else if 0x1000 ≤ o ∧ o < 0x3000 then regClass s ((o - 0x1000) / 8)
  else 0

/-- The code of a feed's state (R578). -/
def feedCode : FeedSt → Nat
  | .absent => 0
  | .outOfRange => 1
  | .qualify => 2
  | .ramp => 3
  | .pgQual => 4
  | .on => 5
  | .retryWait => 6
  | .latched => 7
  | .unexpected => 8
  | .testOff => 9

/-- PWR_FEED (R578). -/
def regFeed (s : State) (f : FeedRec) (bit : Nat) : Nat :=
  packF [(4, feedCode f.st), (1, b2n f.pg), (1, b2n f.gateOn), (1, b2n f.oringOn), (1, b2n (s.pwr.expected.getLsbD bit)), (8, 0),
    (2, f.trips), (2, 0), (4, f.lastTrip.toNat), (8, 0), (8, f.tripPoint.toNat)]

/-- PWR_TELEM (R580). -/
def regTelem (f : FeedRec) : Nat := packF [(16, f.peak.toNat), (16, f.telPower.toNat), (16, f.telMa.toNat), (16, f.telMv.toNat)]

def regPwr (s : State) (o : Nat) : Nat :=
  if o = 0 then packF [(2, 0), (1, b2n s.pwr.testA), (1, b2n s.pwr.testB)]
  else if o = 8 then regFeed s s.pwr.feedA 0
  else if o = 0x10 then regFeed s s.pwr.feedB 1
  else if o = 0x20 then packF [(2, retryPolicy s), (6, 0), (8, startTimerMs s), (8, startIlim s)]
  else if o = 0x100 then regTelem s.pwr.feedA
  else if o = 0x108 then regTelem s.pwr.feedB
  else if o = 0x110 then s.pwr.feedA.energy.toNat
  else if o = 0x118 then s.pwr.feedB.energy.toNat
  else if 0x200 ≤ o ∧ o < 0x300 then
    let k := (o - 0x200) / 8
    if (s.img.active.rcd secBreaker k).isSome then packF [(10, curveMa s k / 100), (14, 0), (24, curveUs s k / 10), (15, 0), (1, 1)] else 0
  else 0

def regAon (s : State) (o : Nat) : Nat :=
  if o = 0 then regAonState s
  else if o = 8 then s.aon.idle.toNat
  else if o = 0x10 then regAonCustody s
  else if o = 0x18 then packF [(8, s.aon.selInput.toNat), (8, s.aon.selIndex.toNat)]
  else if o = 0x20 then (BitVec.ofInt 32 (inputValue s s.aon.selInput.toNat s.aon.selIndex.toNat)).toNat
  else if o = 0x28 then packF [(1, b2n s.aon.dozeOff), (1, b2n s.aon.holdRun)]
  else if 0x100 ≤ o ∧ o < 0x120 then bits s.aon.fired.toNat (8 * (o - 0x100) + 63) (8 * (o - 0x100))
  else 0

/-- The code of the boot state (R624). -/
def bootCode : BootSt → Nat
  | .running => 0
  | .serving => 1
  | .retrying => 2
  | .halted => 3
  | .romRecovery => 4

/-- A boot entry as its 16 bytes (R622). -/
def regBootEnt (e : BootEnt) : Nat :=
  let b := packF [(8, e.step.toNat), (8, e.outcome.toNat), (8, e.method.toNat), (8, e.cause.toNat), (32, e.startMs.toNat),
    (32, e.endMs.toNat), (16, e.detail.toNat)]
  b + 2 ^ 112 * crc16 ((List.range 14).map (fun i => b / 256 ^ i % 256))

/-- A boot record's header as its 64 bytes (R621). -/
def regBootHdr (r : BootRec) : Nat :=
  let flags := b2n r.declaredFailed + 2 * b2n r.clearAltTaken
  let b := packF [(32, 0x314E4A42), (32, r.seq.toNat), (8, r.startCause.toNat), (8, b2n r.custody), (8, r.attempt.toNat),
    (8, r.fwSlot.toNat), (8, r.imgSlot.toNat), (8, flags), (16, r.incarnation.toNat), (32, r.imgSerial.toNat), (32, 0),
    (64, r.startTicks.toNat), (192, 0)]
  let crc := crc32 ((List.range 56).map (fun i => b / 256 ^ i % 256))
  b + 2 ^ 448 * packF [(32, crc), (8, r.final.toNat), (8, r.haltStep.toNat), (8, r.entries.length), (8, 0xFF)]

/-- The record that BOOT_JSEL selects (R627). -/
def bootSel (s : State) : Option BootRec := if s.boot.jselRecord then s.boot.previous else some s.boot.current

def regBoot (s : State) (o : Nat) : Nat :=
  let b := s.boot
  if o = 0 then packF [(4, bootCode b.st), (12, 0), (4, b.attempt.toNat), (4, 0), (4, b.startCause.toNat), (4, 0), (8, b.memStep.toNat),
    (8, b.linkStep.toNat), (8, b.failedStep.toNat), (8, b.haltStep.toNat)]
  else if o = 8 then packF [(1, b2n b.clearAlt)]
  else if o = 0x10 then packF [(1, b2n b.fwAlt), (1, b2n b.imageAlt), (1, b2n b.poolAlone), (21, 0), (4, b.fencedStacks.toNat),
    (12, b.excludedChannels.toNat), (8, b.lowRateWaves.toNat)]
  else if o = 0x18 then packF [(6, b.jselEntry.toNat), (2, 0), (1, b2n b.jselRecord)]
  else if 0x20 ≤ o ∧ o < 0x30 then
    (match (bootSel s).bind (fun r => r.entries[b.jselEntry.toNat]?) with
     | some e => bits (regBootEnt e) (8 * (o - 0x20) + 63) (8 * (o - 0x20))
     | none => 0)
  else if 0x40 ≤ o ∧ o < 0x80 then
    (match (bootSel s).filter (fun _ => b.jselRecord || !(b.running.isEmpty && b.ended.isEmpty)) with
     | some r => bits (regBootHdr r) (8 * (o - 0x40) + 63) (8 * (o - 0x40))
     | none => 0)
  else if o = 0x80 then packF [(32, min (bootMs s) (2 ^ 32 - 1)), (32, b.activeMs.toNat)]
  else 0

def regPmc (s : State) (o : Nat) : Nat :=
  if o = 0 then packF [(1, 0), (1, b2n s.pmc.freezeProg), (1, b2n s.pmc.frozen), (13, 0), (11, s.pmc.vector.toNat)]
  else if o = 0x10 ∨ o = 0x18 then bits s.pmc.ovf.toNat (8 * (o - 0x10) + 63) (8 * (o - 0x10))
  else if 0x1000 ≤ o ∧ o < 0x2000 then (mgetD s.pmc.fix ((o - 0x1000) / 8) 0).toNat
  else if 0x2000 ≤ o ∧ o < 0x2400 then (mgetD s.pmc.ctr ((o - 0x2000) / 8) 0).toNat
  else if 0x2400 ≤ o ∧ o < 0x2800 then
    let x := pmcSel s ((o - 0x2400) / 8)
    packF [(9, x.event.toNat), (15, 0), (4, x.label.toNat), (1, b2n x.labelEn), (1, b2n x.ovfIe), (1, b2n x.chain), (1, b2n x.enable)]
  else if 0x3000 ≤ o ∧ o < 0x3800 then
    let x := mgetD s.pmc.upage ((o - 0x3000) / 8) ⟨0, 0, 0⟩
    packF [(2, x.kind.toNat), (6, 0), (7, x.base.toNat), (1, 0), (8, x.count.toNat)]
  else 0

/-- SEC_HOLD.pending_blocks (R528). -/
def pendingBlocks (s : State) : Nat := packF ((List.range 7).map (fun b => (1, b2n (mhas s.sec.requests b))))

def regSec (s : State) (o : Nat) : Nat :=
  let x := s.sec
  if o = 0 then packF [(8, x.opcode.toNat), (8, 0), (15, x.inLength.toNat)]
  else if o = 8 then packF [(1, b2n x.done), (1, b2n x.busy), (6, 0), (8, x.status.toNat), (16, 0), (15, x.outLength.toNat)]
  else if o = 0x10 then packF [(7, x.held.toNat), (1, b2n (pendingBlocks s != 0)), (8, 0), (7, pendingBlocks s), (9, 0), (32, x.windows.toNat)]
  else if o = 0x18 then field ((ownerDigest s).getD []) 0 8
  else if o = 0x20 then packF [(7, x.imgFloor), (1, b2n x.secured), (7, x.fwFloor), (1, b2n (ownerDigest s).isSome), (4, x.slots.length)]
  else if 0x1000 ≤ o ∧ o < 0x5000 then (if x.busy then 0 else field x.payload (o - 0x1000) 8)
  else 0

/-! ### Configuration space and BAR 2 (R475, R476, R480) -/

/-- A doubleword of the configuration header (R475): vendor and device, revision and class, subsystem. -/
def cfgHeader (o : Nat) : Nat :=
  if o = 0 then packF [(16, 0x1F6E), (16, 0x9012)]
  else if o = 8 then packF [(8, Config.revision), (24, 0x050210)]
  else if o = 0x2C then packF [(16, 0x1F6E), (16, 0x0001)]
  else 0

/-- What the PCIe DVSEC for CXL Devices reports (R476), field by field. -/
structure CxlDvsec where
  memCapable : Bool
  cacheCapable : Bool
  hdmCount : Nat
  range1Size : Nat
  memoryActiveTimeout : BitVec 3
  memoryClassVolatile : Bool
  cxlResetCapable : Bool
  cxlResetTimeout : BitVec 3
  cxlResetMemClrCapable : Bool
deriving DecidableEq, Repr

/-- All capacity is Dynamic Capacity, so range 1 has size 0; the memory is active within 16 s, a CXL reset takes 100 ms (R476). -/
def cxlDvsec : CxlDvsec := ⟨true, false, 1, 0, 2, true, true, 1, false⟩

/-- The Register Locator (R476): the BAR 0 offsets of the Component Registers and of the CXL Memory Device Registers. -/
def registerLocator : Nat × Nat := (0x00000000, 0x00010000)

/-- A 4-byte read of a doorbell page, or an 8-byte read of a user counter page, in BAR 2 (R480, R635): a doorbell reads the value last
accepted. -/
def bar2Read (s : State) (o : Nat) : Nat :=
  let q := mget s.host.queues (o / 4096)
  if o < 0x00400000 then
    (if o % 4096 = 0 then (q.map (·.sqTail)).getD 0 else if o % 4096 = 4 then (q.map (·.cqHead)).getD 0 else 0)
  else if o < 0x00500000 then (upageRead s ((o - 0x00400000) / 4096) (o % 4096)).toNat
  else 0

/-! ### The map (R479) -/

/-- The value of the register at an 8-byte-aligned offset of BAR 0. -/
def regRead (s : State) (o : Nat) : Nat :=
  let b := o / 0x100000
  let r := o % 0x100000
  if b = 0x1 then regGen s r
  else if b = 0x2 then regChd s r
  else if b = 0x3 then regCmp s r
  else if b = 0x4 then regXts s r
  else if b = 0x5 then regCoh s r
  else if b = 0x6 then regFab s r
  else if b = 0x7 then regLnk s (r / 0x1000) (r % 0x1000)
  else if b = 0x8 then regQos s r
  else if b = 0x9 then (if r < 0xC0000 then regMem s (r / 0x10000) (r % 0x10000) else 0)
  else if b = 0xA then (if r < 0x40000 then regCtl s (12 + r / 0x10000) (r % 0x10000) else 0)
  else if b = 0xB then regEcc s r
  else if b = 0xC then regFlt s r
  else if b = 0xD then regPwr s r
  else if b = 0xE then regAon s r
  else if b = 0xF then regBoot s r
  else if b = 0x10 then regPmc s r
  else if b = 0x11 then regSec s r
  else 0

end Sys2Proof.Machine
end

