-- ==== Sys2Proof/Machine/Regs.lean ====
section
/-! DEFINITION. Writes of the BAR 0 registers (R7, R9, R479). `w` is a written register: its 8-byte value after the write, with the
unwritten half as the register reads it (`all`), and the written bits alone, 0 elsewhere (`now`), for fields that act on a 1.
A register with a row of its own is written through that row's operation. -/

namespace Sys2Proof.Machine

/-- A register write: the value all fields then hold, and the written bits. -/
structure RegW where
  all : Word
  now : Word
deriving DecidableEq, Repr

/-- A field of the whole value. -/
def RegW.f (w : RegW) (hi lo : Nat) : Nat := bits w.all.toNat hi lo

/-- Is a bit written as 1? -/
def RegW.one (w : RegW) (i : Nat) : Bool := w.now.getLsbD i

/-- A value where a condition holds, and the old one elsewhere. -/
def taken {α : Type} (c : Bool) (new old : α) : α := if c then new else old

/-- Put bytes into a byte string at an offset, zero-filled up to it. -/
def putBytes (l : List Byte) (i : Nat) (bs : List Byte) : List Byte :=
  let l := l ++ List.replicate (i + bs.length - l.length) 0
  l.take i ++ bs ++ l.drop (i + bs.length)

/-! ### GEN, CHD, CMP, XTS, COH -/

/-- The MSI-X table: address, data and vector control of an entry; unmasking sends a pending message (R479, R496). -/
def writeMsix (s : State) (off : Nat) (w : RegW) : State :=
  let v := off / 16
  if off % 16 = 0 then modMsix s v (fun e => { e with addr := w.all })
  else flushMsix (modMsix s v (fun e => { e with data := w.all.setWidth 32, masked := w.all.getLsbD 32 }))

def writeGen (s : State) (o : Nat) (w : RegW) : State :=
  if o = 0x208 then { s with host := { s.host with queueSel := w.all.setWidth 10 } }
  else if 0x8000 ≤ o ∧ o < 0x10000 then writeMsix s (o - 0x8000) w
  else s

/-- CHD_CTRL (R145). -/
def writeChd (s : State) (o : Nat) (w : RegW) : State :=
  if o = 0 then
    { s with chd := { s.chd with
      sampleOff := w.all.getLsbD 2
      holdLend := w.all.getLsbD 1
      holdBackground := w.all.getLsbD 0 } }
  else s

/-- PRIMER_RETIRE: a write of 1 to CMP_PRIMER[n].retire (R209, R223); a slot that is not installed ignores it. A slot that nothing
names any more is free at once. -/
def primerRetire (s : State) (n : Nat) : State :=
  if (mget s.img.active.primers n).isNone then s
  else
    let was := s.cmp.retire.getLsbD n
    let s := { s with cmp := { s.cmp with retire := s.cmp.retire ||| ((1 : BitVec 64) <<< n) } }
    if !was && slotUse s n == 0 then raiseP s 0x166 0 .none n else s

/-- A write of 0 to CMP_PRIMER[n].retire (R223). -/
def primerKeep (s : State) (n : Nat) : State :=
  { s with cmp := { s.cmp with retire := s.cmp.retire &&& ~~~((1 : BitVec 64) <<< n) } }

/-- CMP_TRIAL[p] (R226): a write clears `bad` and lets event 0x165 be raised again (R217). -/
def writeTrial (s : State) (p : Nat) (w : RegW) : State :=
  let t : Trial := ⟨false, false, w.all.getLsbD 24, w.all.setWidth 6, (w.all >>> 6).setWidth 6, (w.all >>> 12).setWidth 6⟩
  { s with cmp := { s.cmp with trials := mset s.cmp.trials p t } }

def writeCmp (s : State) (o : Nat) (w : RegW) : State :=
  if 0x100 ≤ o ∧ o < 0x300 then
    let n := (o - 0x100) / 8
    if w.all.getLsbD 62 then primerRetire s n else primerKeep s n
  else if 0x700 ≤ o ∧ o < 0x780 then writeTrial s ((o - 0x700) / 8) w
  else s

def writeXts (s : State) (o : Nat) (w : RegW) : State :=
  if o = 8 then { s with xts := { s.xts with domSel := w.all.setWidth 12 } } else s

/-- COH_CTRL (R294). -/
def cohCtrlWrite (s : State) (w : RegW) : State :=
  let ms := w.f 19 12
  let s := { s with coh := { s.coh with
    bisnpMs := taken (decide (1 ≤ ms) && decide (ms ≤ 100)) (BitVec.ofNat 8 ms) s.coh.bisnpMs
    eGrantOff := w.all.getLsbD 3
    atomicMode := taken (w.f 1 0 != 3) (w.all.setWidth 2) s.coh.atomicMode } }
  let s := if w.one 4 then hostFlushedBody s else s
  if w.one 2 then predClearBody s else s

/-- COH_NACK (R280, R297): a hint with count 0 is ignored. -/
def cohNackWrite (s : State) (w : RegW) : State :=
  { s with coh := { s.coh with
    pendingHint := taken (w.f 5 0 != 0) (w.all.setWidth 8) s.coh.pendingHint
    notservingHint := taken (w.f 13 8 != 0) ((w.all >>> 8).setWidth 8) s.coh.notservingHint } }

def writeCoh (s : State) (o : Nat) (w : RegW) : State :=
  if o = 0 then cohCtrlWrite s w else if o = 0x18 then cohNackWrite s w else s

/-! ### FAB, LNK -/

/-- FAB_CTRL (R344). -/
def fabCtrlWrite (s : State) (w : RegW) : State :=
  let s := { s with fab := { s.fab with
    restartGraceS := taken (w.f 23 16 != 0) ((w.all >>> 16).setWidth 8) s.fab.restartGraceS
    sleepVeto := w.all.getLsbD 2 } }
  let s := if w.one 1 then rejoin s else s
  if w.one 0 then leave s else s

/-- The largest LNK_TIMERS.replay_us of all links. -/
def largestReplay (s : State) : Nat := maxNat ((List.range 256).map (fun l => (link s l).replayUs.toNat))

/-- FAB_E2E_CTRL (R50, R387). -/
def e2eCtrlWrite (s : State) (w : RegW) : State :=
  let t := w.f 13 0
  if t < 50 ∨ 10000 < t ∨ t < 4 * largestReplay s then s
  else { s with e2e := { s.e2e with timeoutUs := BitVec.ofNat 14 t } }

def writeFab (s : State) (o : Nat) (w : RegW) : State :=
  if o = 0x10 then { s with fab := { s.fab with memberSel := w.all.setWidth 12 } }
  else if o = 0x38 then fabCtrlWrite s w
  else if o = 0x40 then { s with fab := { s.fab with leaseSel := w.all.setWidth 12 } }
  else if o = 0x100 then e2eCtrlWrite s w
  else s

/-- LNK_CTRL (R381): clear, hold, retrain and reset, in this order; retrain is ignored while hold is 1. -/
def lnkCtrlWrite (s : State) (l : Nat) (w : RegW) : State :=
  let s := if w.one 2 then linkClear s l else s
  let h := w.all.getLsbD 1
  let s := if h = (link s l).hold then s else linkHold s l h
  let s := if w.one 0 && !h then linkRetrain s l else s
  if w.one 3 then linkReset s l else s

/-- LNK_TIMERS (R50, R383): each field within its range. -/
def lnkTimersWrite (s : State) (l : Nat) (w : RegW) : State :=
  let g := w.f 15 8
  let p := w.f 7 0
  modLink s l (fun r => { r with
    giveupMs := taken (decide (1 ≤ g) && decide (g ≤ 100)) (BitVec.ofNat 8 g) r.giveupMs
    replayUs := taken (decide (1 ≤ p) && decide (p ≤ 64) && decide (4 * p ≤ s.e2e.timeoutUs.toNat)) (BitVec.ofNat 8 p) r.replayUs })

def writeLnk (s : State) (l o : Nat) (w : RegW) : State :=
  if o = 0 then lnkCtrlWrite s l w else if o = 0x10 then lnkTimersWrite s l w else s

/-! ### QOS, MEM, RLD, ECC -/

def writeQos (s : State) (o : Nat) (w : RegW) : State :=
  if o = 0 then qosCtrlWrite s w.all
  else if 0x200 ≤ o ∧ o < 0x280 then shapeWrite s ((o - 0x200) / 8) w.all
  else if 0x300 ≤ o ∧ o < 0x380 then policeWrite s ((o - 0x300) / 8) w.all
  else s

/-- MEM_PORT[p].target_ns (R63, R448): MEMCTL target_ns is field 9 of the global record. -/
def memPortWrite (s : State) (n p : Nat) (w : RegW) : State :=
  if memLocked s n 9 ∨ w.f 15 0 < 20 then s else modCtl s n (fun c => { c with targets := c.targets.set p (w.f 15 0) })

/-- MEM_REFRESH.postpone_max (R63, R449): at most 4, and 2 for an RLD stack (R451). -/
def memRefreshWrite (s : State) (n : Nat) (w : RegW) : State :=
  if memLocked s n 2 ∨ (if n < 12 then 4 else 2) < w.f 5 3 then s else modCtl s n (fun c => { c with postponeMax := w.f 5 3 })

/-- Is MEM_POWER.sr_idle_us locked: by the channel record, or by the global record (R63)? -/
def srLocked (s : State) (n : Nat) : Bool :=
  decide (n < 12) && (s.img.active.locks secMem (n + 1) 0 || s.img.active.locks secMem 0 4)

/-- MEM_POWER (R63, R449). -/
def memPowerWrite (s : State) (n : Nat) (w : RegW) : State :=
  let pd := w.f 15 0
  modCtl s n (fun c => { c with
    srIdleUs := taken (!srLocked s n) (w.f 31 16) c.srIdleUs
    pdIdleNs := taken (!memLocked s n 5 && (pd == 0 || decide (10 ≤ pd))) pd c.pdIdleNs })

/-- The scheduling, refresh and power registers of a controller (R447 to R449, R451). -/
def writeCtl (s : State) (n o : Nat) (w : RegW) : State :=
  if o = 0x80 then memSchedWrite s n w.all
  else if 0x100 ≤ o ∧ o < 0x140 then memPortWrite s n ((o - 0x100) / 8) w
  else if o = 0x180 then memRefreshWrite s n w
  else if o = 0x188 then memPowerWrite s n w
  else s

/-- MEM_TRN_CTRL (R450): its fields, then a start. -/
def trnCtrlWrite (s : State) (c : Nat) (w : RegW) : State :=
  let t := trn s c
  let s := setTrn s c { t with
    bursts := taken (w.f 39 24 != 0) ((w.all >>> 24).setWidth 16) t.bursts
    pattern := (w.all >>> 20).setWidth 4
    target := (w.all >>> 18).setWidth 2
    rank := (w.all >>> 16).setWidth 2
    cid := (w.all >>> 14).setWidth 2
    subchannel := (w.all >>> 13).setWidth 1 }
  if w.one 0 then trnStart s c else s

/-- MEM_TRN_DELAY (R450): the selected lane's delay. -/
def trnDelayWrite (s : State) (c : Nat) (w : RegW) : State :=
  let t := trn s c
  setTrn s c { t with
    lane := (w.all >>> 48).setWidth 8
    kind := (w.all >>> 46).setWidth 2
    delays := mset t.delays (w.f 47 46 * 256 + w.f 55 48) (w.all.setWidth 9) }

/-- The training helpers (R450): ignored while the channel is not in training. -/
def writeTrn (s : State) (c o : Nat) (w : RegW) : State :=
  if (ctl s c).st != .training then s
  else if o = 0x200 then trnCtrlWrite s c w
  else if o = 0x208 then setTrn s c { trn s c with seed := w.all.setWidth 32 }
  else if o = 0x228 then trnDelayWrite s c w
  else if o = 0x230 then setTrn s c { trn s c with hostVref := w.all.setWidth 8, dramVref := (w.all >>> 8).setWidth 8 }
  else s

/-- ECC_CTRL (R469). -/
def eccCtrlWrite (s : State) (w : RegW) : State :=
  let e := s.ecc
  let h := w.f 31 16
  { s with ecc := { e with
    threshold := taken (w.f 55 48 != 0) ((w.all >>> 48).setWidth 8) e.threshold
    leakS := taken (w.f 47 32 != 0) ((w.all >>> 32).setWidth 16) e.leakS
    scrubH := taken (decide (1 ≤ h) && decide (h ≤ 720)) ((w.all >>> 16).setWidth 16) e.scrubH
    rldMin := taken (w.f 15 8 != 0) ((w.all >>> 8).setWidth 8) e.rldMin
    ueFence := taken (w.f 7 4 != 0) ((w.all >>> 4).setWidth 4) e.ueFence
    rldScrubOff := w.all.getLsbD 1
    scrubOff := w.all.getLsbD 0 } }

def writeEcc (s : State) (o : Nat) (w : RegW) : State := if o = 0 then eccCtrlWrite s w else s

/-- ECC_LAST_READ: ECC_LAST is cleared by its read (R7, R472). -/
def eccLastRead (s : State) : State := { s with ecc := { s.ecc with last := 0 } }

/-! ### FLT, PWR, AON, BOOT, PMC, SEC -/

/-- FLT_INJECT (R554). -/
def fltInjectWrite (s : State) (w : RegW) : State :=
  if w.one 10 then faultInject s (w.f 9 0) else { s with flt := { s.flt with injEvent := w.all.setWidth 10 } }

def writeFlt (s : State) (o : Nat) (w : RegW) : State :=
  if o = 0 then (if w.one 62 then resetClassAcknowledge s else s)
  else if o = 8 then { s with flt := { s.flt with logSel := w.all.setWidth 9 } }
  else if o = 0x30 then fltInjectWrite s w
  else if 0x1000 ≤ o ∧ o < 0x3000 then (if w.one 15 then classAcknowledge s ((o - 0x1000) / 8) else s)
  else s

/-- PWR_CTRL (R577). -/
def writePwr (s : State) (o : Nat) (w : RegW) : State :=
  if o = 0 then
    let s := if w.one 0 then feedRelease s .a else s
    let s := if w.one 1 then feedRelease s .b else s
    let s := if w.one 2 then feedTest s .a else s
    if w.one 3 then feedTest s .b else s
  else s

def writeAon (s : State) (o : Nat) (w : RegW) : State :=
  if o = 0x10 then (if w.one 24 then { s with aon := { s.aon with custodyLost := false } } else s)
  else if o = 0x18 then
    { s with aon := { s.aon with selIndex := (w.all >>> 8).setWidth 8, selInput := w.all.setWidth 8 } }
  else if o = 0x28 then
    { s with aon := { s.aon with holdRun := w.all.getLsbD 1, dozeOff := w.all.getLsbD 0 } }
  else s

/-- BOOT_CTRL (R625): reset and retry together make one device reset, of cause 6 where a retry acts. -/
def bootCtrlWrite (s : State) (w : RegW) : State :=
  let s := if w.one 0 then clearAlt s else s
  if w.one 1 ∧ (s.boot.st = .halted ∨ s.boot.st = .romRecovery) then bootRetry s
  else if w.one 2 then bootReset s else s

def writeBoot (s : State) (o : Nat) (w : RegW) : State :=
  if o = 8 then bootCtrlWrite s w
  else if o = 0x18 then
    { s with boot := { s.boot with
      jselRecord := w.all.getLsbD 8
      jselEntry := taken (decide (w.f 5 0 < 60)) (w.all.setWidth 6) s.boot.jselEntry } }
  else s

/-- PMC_OVF (R637): a bit that an overflow of the same cycle sets stays set (R8, R634). -/
def pmcOvfWrite (s : State) (i : Nat) (w : RegW) : State :=
  rewriteCtrs s id (fun o => o &&& ~~~((w.now.setWidth 128 : BitVec 128) <<< (64 * i)))

/-- PMC_SEL[n] (R639): the write applies from the next cycle. -/
def pmcSelWrite (s : State) (n : Nat) (w : RegW) : State :=
  { s with pmc := { s.pmc with sel := mset s.pmc.sel n (pmcSelOf n w.all), selOld := some (s.clockNs, selNow s) } }

def writePmc (s : State) (o : Nat) (w : RegW) : State :=
  if o = 0 then
    let s := { s with pmc := { s.pmc with vector := (w.all >>> 16).setWidth 11, freezeProg := w.all.getLsbD 1 } }
    if w.one 0 then pmcClear s else s
  else if o = 0x10 ∨ o = 0x18 then pmcOvfWrite s ((o - 0x10) / 8) w
  else if 0x2000 ≤ o ∧ o < 0x2400 then pmcCtrWrite s ((o - 0x2000) / 8) w.all 0
  else if 0x2400 ≤ o ∧ o < 0x2800 then pmcSelWrite s ((o - 0x2400) / 8) w
  else if 0x3000 ≤ o ∧ o < 0x3800 then pmcUpageWrite s ((o - 0x3000) / 8) w.all
  else s

/-- A submitted SEC command (R522, R523). -/
def secSubmit (s : State) (op n : Nat) : State :=
  let input := bytesAt s.sec.payload 0 n
  if op = 0x01 then secChallenge s input
  else if op = 0x02 then secEnrol s input
  else if op = 0x03 then secRelease s input
  else if op = 0x04 then secKeySupply s input
  else if op = 0x05 then secTransportKey s input
  else if op = 0x06 then secSvnRaise s input
  else if op = 0x07 then secBuddyPair s input
  else if op = 0x08 then secInfo s input
  else secUnknown s op

def writeSec (s : State) (o : Nat) (w : RegW) : State :=
  if o = 0 then
    let s := { s with sec := { s.sec with inLength := (w.all >>> 16).setWidth 15, opcode := w.all.setWidth 8 } }
    if w.one 31 && !s.sec.busy then secSubmit s (w.f 7 0) (w.f 30 16) else s
  else if o = 8 then (if w.one 0 then { s with sec := { s.sec with done := false } } else s)
  else if 0x1000 ≤ o ∧ o < 0x5000 then
    (if s.sec.busy then s
     else { s with sec := { s.sec with payload := putBytes s.sec.payload (o - 0x1000) (natLe 8 w.all.toNat) } })
  else s

/-! ### The map (R479) -/

/-- A write of the register at an 8-byte-aligned offset; an offset that holds no register ignores it. -/
def regWrite (s : State) (o : Nat) (w : RegW) : State :=
  let b := o / 0x100000
  let r := o % 0x100000
  if b = 0x1 then writeGen s r w
  else if b = 0x2 then writeChd s r w
  else if b = 0x3 then writeCmp s r w
  else if b = 0x4 then writeXts s r w
  else if b = 0x5 then writeCoh s r w
  else if b = 0x6 then writeFab s r w
  else if b = 0x7 then writeLnk s (r / 0x1000) (r % 0x1000) w
  else if b = 0x8 then writeQos s r w
  else if b = 0x9 ∧ r < 0xC0000 then
    (if 0x200 ≤ r % 0x10000 then writeTrn s (r / 0x10000) (r % 0x10000) w else writeCtl s (r / 0x10000) (r % 0x10000) w)
  else if b = 0xA ∧ r < 0x40000 then writeCtl s (12 + r / 0x10000) (r % 0x10000) w
  else if b = 0xB then writeEcc s r w
  else if b = 0xC then writeFlt s r w
  else if b = 0xD then writePwr s r w
  else if b = 0xE then writeAon s r w
  else if b = 0xF then writeBoot s r w
  else if b = 0x10 then writePmc s r w
  else if b = 0x11 then writeSec s r w
  else s

/-- What a 4-byte or 8-byte access writes of a register (R479): the unwritten half keeps what the register reads. -/
def regW (old : Nat) (off : Nat) (wide : Bool) (value : Word) : RegW :=
  if wide then ⟨value, value⟩
  else
    let half : Word := (value.setWidth 32).setWidth 64
    let sh := 8 * (off % 8)
    let mask : Word := (0xFFFFFFFF : Word) <<< sh
    ⟨((BitVec.ofNat 64 old : Word) &&& ~~~mask) ||| (half <<< sh), half <<< sh⟩

/-- REGISTER_WRITE (R7, R9, R479): an access that is not naturally aligned is an Unsupported Request without effect. -/
def registerWriteBody (s : State) (off : Nat) (wide : Bool) (value : Word) : State :=
  if off % (if wide then 8 else 4) ≠ 0 then s
  else
    let o := off / 8 * 8
    regWrite s o (regW (regRead s o) off wide value)

end Sys2Proof.Machine
end

