-- ==== Sys2Proof/Machine/Reaction.lean ====
section
/-! DEFINITION. What follows a command in the same step: the reactions of the fault collector (R543 to R547), what waits and can go
on, and step 0x31 once it may run (R618). -/

namespace Sys2Proof.Machine

/-- Fence the part a raise names (R543). For a peer there is no more to do than its class records (R128). -/
def fencePart (s : State) : Part → State
  | .none => s
  | .link l => holdLink s l.toNat
  | .channel c => fenceChannel s c.val
  | .stack i => fenceStack s i.val
  | .clane i => fenceCLane s i.val
  | .dlane i => fenceDLane s i.val
  | .holder n => fenceHolder s n
  | .page p => fencePage s p.toNat
  | .peer _ => s
  | .hostMem => fenceHostMem s
  | .feed f => latchFeed s f
  | .engine e => fenceEngine s e

/-- Perform one reaction of the collector. -/
def react (s : State) : Reaction → State
  | .fence _ part => fencePart s part
  | .deviceReset cause => deviceResetBody s cause
  | .latch => latchBody s
  | .collapse => collapseBody s

/-- Perform the reactions that wait, in order, with a bound on their number; any left over wait for the next command. -/
def reactAll : Nat → State → State
  | 0, s => s
  | n + 1, s =>
    match s.flt.react with
    | [] => s
    | r :: rs => reactAll n (react { s with flt := { s.flt with react := rs } } r)

/-- The end of a command's step: DevLoad follows what changed (R409, R413); reactions, then step 0x31 where it waits for service. -/
def settle (s : State) : State := settleNow (reactAll 1024 (devloadSet s))

/-- The end of a command that can let waiting work go on: reactions, what an owner owes after migrations, keys and tag tables, what waits at the owner and
the host ingress, and the reactions these bring. -/
def work (s : State) : State := settle (pump (tagTablesGo (retireKeys (afterMig (reactAll 1024 s)))))

end Sys2Proof.Machine
end

