-- ==== Sys2Proof/Machine/Reply.lean ====
section
/-! DEFINITION. Responses and the end of end-to-end transactions (10: R369 to R374; 08: R264, R266, R276, R281, R661). -/

namespace Sys2Proof.Machine

/-- A response set's pods by offset: the pod, or nothing and bad where it has not come. -/
def gathered (tx : E2E) : List (Line × Bool) :=
  (List.range tx.need).map (fun i => match tx.got.find? (fun g => g.1 == i) with
    | some (_, d, bad) => (d, bad)
    | none => (0, true))

/-- The bytes of gathered pods. -/
def gatheredBytes (l : List (Line × Bool)) : List Byte := (l.map (fun x => lineBytes x.1)).flatten

/-- The lines of a block that bad pods lose: those pods' own where the block is RAW and no copy is mirrored, otherwise all
(R464). -/
def badLines (s : State) (p b : Nat) (l : List (Line × Bool)) : List Nat :=
  if l.all (fun x => !x.2) then []
  else if dBlen (servedDesc s p) b = 16 ∧ !mirrorable s p then
    (l.zipIdx.filter (fun x => x.1.2)).map (fun x => 16 * b + x.2)
  else (List.range 16).map (fun i => 16 * b + i)

/-- A mask of lines of a page. -/
def lineMask (ls : List Nat) : BitVec 64 := ls.foldl (fun m i => m ||| ((1 : BitVec 64) <<< i)) 0

/-- The VERS a BlkRead carried (R357). -/
def askedVers (tx : E2E) : Nat := (tx.msg.slots.getD 0 0).toNat % 2 ^ 16

/-- The stored image of a Remote block has come whole, and its tag is checked (R242, R243): it is used, read again, or given up. -/
def imageCame (s : State) (tx : E2E) (p b : Nat) (img : List Byte) (use : State → State) (lost : State → State) : State :=
  let d := servedDesc s p
  let r := remoteTag s (4 * p + b) img
  match r.2 with
  | .use => use r.1
  | .again => sendBlkRead r.1 tx.msg.cls (dNode d) (dBlockLoc d b) (dBlen d b) (dVers d) tx.msg.label.toNat tx.purpose
  | .giveUp => lost r.1

/-- The pods of a Remote block have come for the near cache (R17, R18, R242, R243, R661). A page that has moved since is read where it
is now. -/
def fillArrived (s : State) (k : Nat) (tx : E2E) (dec : DecOutcome) : State :=
  let block := blockNo k
  let p := block / 4
  let b := block % 4
  let label := tx.msg.label.toNat
  let l := gathered tx
  let bad := badLines s p b l
  let d := servedDesc s p
  let take := fun (s : State) =>
    let v := remoteBytes s p b label (gatheredBytes l) dec
    fillRead v.1 block label v.2.1 v.2.2
  if servingTier s p ≠ tierRemote ∨ dVers d ≠ askedVers tx then
    let s := { s with coh := { s.coh with fills := s.coh.fills.filter (· != k) } }
    if servingTier s p = tierPlain then blockThere s k else blockThere (startFill s block .host label label) k
  else if bad.length = 16 ∧ !(dBlen d b = 16 ∧ !mirrorable s p) then fillDone s block label none
  else if !bad.isEmpty then
    take (bad.foldl (fun s i => poisonOne s (64 * p + i)) s)
  else imageCame s tx p b (gatheredBytes l) take (fun s => fillDone s block label none)

/-- The pods of a Remote source block have come for a migration (R153, R157): lines that are lost come from the buddy, or are copied
as poisoned. -/
def migPods (s : State) (p b : Nat) (tx : E2E) (dec : DecOutcome) : State :=
  let l := gathered tx
  let take := fun (s : State) => migArrived s p b (gatheredBytes l) dec
  let bad := badLines s p b l
  if bad.isEmpty then
    imageCame s tx p b (gatheredBytes l) take (fun s => migBlockLost s p b ((0xFFFF : BitVec 64) <<< (16 * b)))
  else if bad.length < 16 ∨ (dBlen (servedDesc s p) b = 16 ∧ !mirrorable s p) then take (migBad s p (lineMask bad))
  else migBlockLost s p b (lineMask bad)

/-- The rewrite of a Remote page's pods is given up: the block stays in the near cache, and the page is to be recalled (R663). -/
def evictDropped (s : State) (p : Nat) : State :=
  match mget s.chd.evicts p with
  | none => s
  | some r =>
    let s := { s with chd := { s.chd with evicts := mdel s.chd.evicts p } }
    postCand (setEvicting s (blockKey (myNode s) r.block) false) .recallFirst p

/-- A response set of a bulk read is complete. `dec` is how a decompressor takes the block, where it is decoded at once (R198). -/
def bulkDone (s : State) (tx : E2E) (dec : DecOutcome) : State :=
  match tx.purpose with
  | .fill k => fillArrived s k tx dec
  | .migRead p b => migPods s p b tx dec
  | .evictFetch p b =>
    let l := gathered tx
    let lost := fun (s : State) => (linesLost (evictDropped s p) p (16 * b) 16).1
    if l.any (·.2) then lost s else imageCame s tx p b (gatheredBytes l) (fun s => evictFetched s p b (gatheredBytes l)) lost
  | .mirrorFetch p b =>
    let l := gathered tx
    let lost := fun (s : State) => copyStep (poisonBlock s (4 * p + b)) p
    if l.any (·.2) then lost s else imageCame s tx p b (gatheredBytes l) (fun s => mirrorFetched s p b (l.map (·.1))) lost
  | .mirrorRead p lines =>
    let first := (tx.msg.slots.getD 0 0).toNat % 2 ^ 8
    let all := (List.range tx.need).map (fun i => match tx.got.find? (fun g => g.1 == first + i) with
      | some g => g
      | none => (first + i, 0, true))
    repairCheck (buddyLines s p lines all)
  | _ => s

/-- Does a purpose gather several Data messages? -/
def isBulk : Purpose → Bool
  | .fill _ => true
  | .migRead _ _ => true
  | .evictFetch _ _ => true
  | .mirrorFetch _ _ => true
  | .mirrorRead _ _ => true
  | _ => false

/-- One Data of a bulk read (R357, R369): one with another VERS than was asked is late. -/
def gather (s : State) (key : Nat) (tx : E2E) (vers pod : Nat) (v : Line × Bool) (dec : DecOutcome) : State :=
  let mirror := match tx.purpose with
    | .mirrorRead _ _ => true
    | _ => false
  if (!mirror && vers != askedVers tx) || tx.got.any (fun g => g.1 == pod) then lateResponse s
  else
    let tx := { tx with got := tx.got ++ [(pod, v.1, v.2)] }
    if tx.got.length < tx.need then { s with e2e := { s.e2e with txs := mset s.e2e.txs key tx } }
    else bulkDone (closeTx s key) tx dec

/-- DATA (R264, R266, R272, R369, R370). -/
def dataBody (s : State) (tag : Tag) (src : Nat) (poison contended dirty hostDirty : Bool) (vers pod : Nat) (value : Line)
    (dec : DecOutcome) : State :=
  let c := consumeTag s 2 1 tag
  let s := c.1
  if c.2.old then s
  else match txFor s tag with
    | none => lateResponse s
    | some (key, tx) =>
      match tx.purpose with
      | .snoop k n =>
        snoopAnswered (closeTx s key) k n tag (if dirty || hostDirty then .dirty (value, poison) dirty hostDirty else .clean)
      | .line k => reqGranted (closeTx s key) k tag src false (value, poison) contended
      | .atomicFar k => reqAtomic (closeTx s key) k (value.setWidth 128, poison) contended
      | p => if isBulk p then gather s key tx vers pod (value, poison) dec else lateResponse s

/-- DATA_OWNED (R263). -/
def dataOwnedBody (s : State) (tag : Tag) (src : Nat) (poison contended : Bool) (value : Line) : State :=
  let c := consumeTag s 2 2 tag
  let s := c.1
  if c.2.old then s
  else match txFor s tag with
    | none => lateResponse s
    | some (key, tx) =>
      match tx.purpose with
      | .line k => reqGranted (closeTx s key) k tag src true (value, poison) contended
      | _ => lateResponse s

/-- The holder has acknowledged BlkFree (R100, R159): FREE_DONE is durable, and the pods may be used again. -/
def freeAcked (s : State) (r seq : Nat) (tx : E2E) : State :=
  let pod := tx.msg.body % 2 ^ 38
  let cnt := tx.msg.body / 2 ^ 38 % 2 ^ 7
  let old := (ring s r).recs.find? (fun x => x.seq == seq)
  let s := jwrite s r { plainRec recFreeDone 0 0 with
    ref := seq
    extent := (old.map JRec.extent).getD 0
    page := (old.map JRec.page).getD 0 }
  let n := tx.msg.dst.toNat
  leaseReturnCheck (leaseFreed s n pod cnt) n

/-- Event 0x1FB: Cmp came in answer to a BlkRead (R661): its record names the holder, the page and the status. -/
def holderRefused (s : State) (tx : E2E) (p status : Nat) : State :=
  raiseP s 0x1FB 0 (.holder tx.msg.dst) (packF [(12, tx.msg.dst.toNat), (36, p), (3, status)])

/-- What a Cmp in answer to a transaction of this device brings about. -/
def cmpActs (s : State) (tag : Tag) (src status : Nat) (contended : Bool) (tx : E2E) : State :=
  match tx.purpose with
  | .snoop k n => snoopAnswered s k n tag .clean
  | .scopeSnoop _ => scopeDone s
  | .line k =>
    (match mget s.coh.reqs k with
     | some t => if t.stage = .wrLine then reqWritten s k tag src status else reqDenied s k
     | none => s)
  | .atomicFar k =>
    if status = 1 then
      let f := free s
      reqAtomic f.2 k (BitVec.ofNat 128 f.1, false) contended
    else reqDenied s k
  | .writeback k => reqEvicted s k
  | .fill k => bulkDone (holderRefused s tx (blockNo k / 4) status) tx .ok
  | .migRead p _ => bulkDone (holderRefused s tx p status) tx .ok
  | .evictFetch p _ => bulkDone (holderRefused s tx p status) tx .ok
  | .mirrorFetch p _ => bulkDone (holderRefused s tx p status) tx .ok
  | .mirrorRead _ _ => bulkDone s tx .ok
  | .migWrite p => if status = 0 then migAcked s p else stopMig (migAcked s p) p
  | .evictWrite block => if status = 0 then evictAcked s block else evictDropped s (block / 4)
  | .free r seq => freeAcked s r seq tx
  | .mirror q k => mirrorAnswered s q k status
  | .reserve i => reserveAnswered s i status
  | .unreserve _ => s
  | .mirrorFree _ _ _ => s
  | .envelope _ i => envelopeAnswered s i status
  | .mirrorPage p => if p < 2 ^ 36 then pageAnswered s p status else handBack s ((p - 2 ^ 36) / 2 ^ 44)
  | .mirrorPod p => if p < 2 ^ 36 then copyStep s p else handBack s ((p - 2 ^ 36) / 2 ^ 44)

/-- CMP (R264, R266, R369, R661): an answer to a transaction of this device, an owner's acknowledgement of snoop data, or a
requester's acknowledgement of a grant. -/
def cmpBody (s : State) (tag : Tag) (src status : Nat) (contended : Bool) (vers : Nat) : State :=
  let c := consumeTag s 2 3 tag
  let s := c.1
  if c.2.old then s
  else if tagSource tag ≠ myNode s then
    if s.coh.sentDirty.any (fun x => x.tag.toNat / 4 == tag.toNat / 4) then snoopDataAcked s tag else grantAcked s tag
  else match txFor s tag with
    | none => lateResponse s
    | some (key, tx) =>
      let blk := match tx.purpose with
        | .migWrite _ => true
        | .evictWrite _ => true
        | _ => false
      if blk && decide (vers ≠ tx.msg.body / 2 ^ 38 % 2 ^ 16) then lateResponse s
      else cmpActs (closeTx s key) tag src status contended tx

/-- NACK_RETRY (R29, R281, R369): only the answer to the incarnation last sent counts; a hint with count 0 raises event 0x1A2. -/
def nackRetryBody (s : State) (tag : Tag) (cause hint : Nat) : State :=
  let c := consumeTag s 2 4 tag
  let s := c.1
  if c.2.old then s
  else match txFor s tag with
    | none => lateResponse s
    | some (key, tx) =>
      if tagInc tag ≠ tx.inc then s
      else
        let s := if hint % 64 = 0 then raise s 0x1A2 0 else s
        let tx := { tx with retryWait := true, nacks := if cause = 1 then tx.nacks + 1 else tx.nacks }
        { s with e2e := { s.e2e with txs := mset s.e2e.txs key tx } }

/-- The reserved flag of a request (R281, R357), in the part of the body from bit 32 on: body bit 42; of AtomicFar, whose layout has
none, the first bit above its fields, 53: DESIGN CHOICE (log 143). -/
def reservedFlag (op : Nat) : BitVec 23 := 1 <<< (if op = 5 then 21 else 10)

/-- NACK_RETRY_WAIT_EXPIRY (R281): the request is sent again, after four PENDING_FULL with the reserved flag. -/
def nackExpiryBody (s : State) (key : Nat) : State :=
  match mget s.e2e.txs key with
  | none => s
  | some tx =>
    if !tx.retryWait then s
    else
      let m := if 4 ≤ tx.nacks ∧ tx.msg.cls = 0 then { tx.msg with bodyHi := tx.msg.bodyHi ||| reservedFlag tx.msg.op.toNat } else tx.msg
      resend { s with e2e := { s.e2e with txs := mset s.e2e.txs key { tx with msg := m } } } key

/-- RSP_EVICT_IN_FLIGHT (R276). -/
def evictInFlightBody (s : State) (tag : Tag) : State :=
  let c := consumeTag s 2 5 tag
  let s := c.1
  if c.2.old then s
  else match txFor s tag with
    | some (key, tx) =>
      (match tx.purpose with
       | .snoop k n => snoopAnswered (closeTx s key) k n tag .inFlight
       | _ => lateResponse s)
    | none => lateResponse s

/-- EVICT_ACK (R276). -/
def evictAckBody (s : State) (tag : Tag) : State :=
  let c := consumeTag s 2 6 tag
  let s := c.1
  if c.2.old then s
  else match txFor s tag with
    | some (key, tx) =>
      (match tx.purpose with
       | .writeback k => reqEvicted (closeTx s key) k
       | _ => lateResponse s)
    | none => lateResponse s

/-- E2E_TIMEOUT (R171, R373): a MirrorWrite without an answer makes the owner HOLDING; the transaction is reissued, unless its
destination was declared FAILED and no other device took its regions over (R174). -/
def e2eTimeoutBody (s : State) (key : Nat) : State :=
  match mget s.e2e.txs key with
  | none => s
  | some tx =>
    let s := match tx.purpose with
      | .mirror _ _ => if timerStands s key tx then s else mirrorLate s
      | _ => s
    let n := tx.msg.dst.toNat
    if declaredFailed s n && !mhas s.fab.aliases n && !mhas s.fab.leaseFree n then ownerLost s n else timeoutTx s key

end Sys2Proof.Machine
end

