-- ==== Sys2Proof/Machine/Arrive.lean ====
section
/-! DEFINITION. Messages that reach the device and are consumed by a row of their own: snoops at a requester (08: R264, R268, R276),
writebacks at the owner (R265), and mirror traffic at the buddy (R167, R664). -/

namespace Sys2Proof.Machine

/-- Consume a message of a class, operation and tag, then act on it, unless its age has run out (R375). -/
def arrive (s : State) (cls op : Nat) (t : Tag) (act : State → State) : State :=
  let c := consumeTag s cls op t
  if c.2.old then c.1 else act (active c.1)

/-- A SNP arrives: before step 0x20 has ended the near cache cannot answer, and it is answered NOT_SERVING (R616). -/
def snpArrives (s : State) (op : Nat) (tag : Tag) (act : State → State) : State :=
  arrive s 1 op tag (fun s =>
    if s.boot.ended.contains 0x20 then act s else respondNack s tag 15 2 s.coh.notservingHint.toNat)

/-- SnpInv arrives: of one line, or of a set or stack (R264, R268, R291). -/
def snpInvBody (s : State) (tag : Tag) (line : Nat) (scope : Scope) (grant : Tag) : State :=
  snpArrives s snpInvOp tag (fun s =>
    let src := tagSource tag
    match scope with
    | .line => snoopLine s (snoopKey s src line) snpInvOp tag grant
    | .set => snoopScope s src line .set tag
    | .stack => snoopScope s src line .stack tag)

/-- SnpData or SnpCur arrives (R269, R276). -/
def snpBody (s : State) (op : Nat) (tag : Tag) (line : Nat) : State :=
  snpArrives s op tag (fun s => snoopLine s (snoopKey s (tagSource tag) line) op tag 0)

/-- Evict arrives at the owner (R265): a writeback leaves its buffer only into a free sink entry (R362). -/
def evictArrives (s : State) (h : ReqHdr) (line : Nat) : State :=
  if 4096 ≤ s.coh.sink.length then s
  else arrive s 3 1 h.tag (fun s => writeback s (lineKey (requestOwner s line) line) h none)

/-- WbDirty arrives at the owner's sink of 4,096 lines; credits are returned only for free entries (R265). -/
def wbDirtyArrives (s : State) (h : ReqHdr) (line : Nat) (v : Line × Bool) : State :=
  if 4096 ≤ s.coh.sink.length then s
  else arrive s 3 2 h.tag (fun s => writeback s (lineKey (requestOwner s line) line) h (some v))

/-- Mirror traffic arrives at the buddy (R357, R664): until Memory Active it is answered NOT_SERVING (R616). -/
def mirrorArrives (s : State) (op : Nat) (h : ReqHdr) (act : State → State) : State :=
  arrive s 4 op h.tag (fun s =>
    if serves s then act s else respondNack s h.tag h.label.toNat 2 s.coh.notservingHint.toNat)

/-- What a message of the fabric does when it reaches the device (R254, R264, R265, R269, R275, R331, R664). -/
def takeIn (s : State) : Instr → State
  | .rdShared h line reserved => peerRequest s 1 h line.toNat reserved .rdShared
  | .rdOwn h line reserved => peerRequest s 2 h line.toNat reserved .rdOwn
  | .rdCur h line reserved => peerRequest s 3 h line.toNat reserved .rdCur
  | .wrLine h line reserved keep poison mask data => peerRequest s 4 h line.toNat reserved (.wrLine keep poison mask data)
  | .atomicFar h line operation size seq floor offset operands =>
    peerRequest s 5 h line.toNat false (.atomicFar operation size seq floor offset operands)
  | .snpInv tag line scope grantTag => snpInvBody s tag line.toNat scope grantTag
  | .snpData tag line => snpBody s snpDataOp tag line.toNat
  | .snpCur tag line => snpBody s snpCurOp tag line.toNat
  | .evict h line => evictArrives s h line.toNat
  | .wbDirty h line poison _ value => wbDirtyArrives s h line.toNat (value, poison)
  | .blkRead h pod count vers => blkReadBody s h pod.toNat count.toNat vers.toNat
  | .blkWrite h pod vers value => blkWriteBody s h pod.toNat vers.toNat value
  | .blkFree h pod count => blkFreeBody s h pod.toNat count.toNat
  | .mirrorWrite h body => mirrorArrives s 4 h (fun s => mirrorWriteAt s h body)
  | .mirrorCtlReserve h extent length2m => mirrorArrives s 5 h (fun s => mirrorReserve s h extent.toNat length2m.toNat)
  | .mirrorCtlUnreserve h extent _ => mirrorArrives s 5 h (fun s => mirrorUnreserve s h extent.toNat)
  | .mirrorCtlFree h extent page count => mirrorArrives s 5 h (fun s => mirrorFreeAt s h extent.toNat page.toNat count.toNat)
  | .mirrorCtlRead h extent page line lines =>
    mirrorArrives s 5 h (fun s => mirrorReadAt s h extent.toNat page.toNat line.toNat lines.toNat)
  | .mirrorCtlPage h extent page blen kgen integ raw fingerprint =>
    mirrorArrives s 5 h (fun s => mirrorPageAt s h extent.toNat page.toNat blen.toNat kgen integ raw fingerprint)
  | .mirrorPod h extent page index _ value => mirrorArrives s 6 h (fun s => mirrorPodAt s h extent.toNat page.toNat index.toNat value)
  | _ => s

/-- A message is held at its source while the device is in Doze, Rest or Deep, and served after the wake (R34). -/
def inRun (s : State) (i : Instr) : State :=
  if s.aon.st == .run then takeIn s i else { s with coh := { s.coh with asleepIn := s.coh.asleepIn ++ [i] } }

/-- The device is back in Run: what was held at its sources is served, oldest first (R34). -/
def serveHeld (s : State) : State :=
  if s.aon.st == .run then s.coh.asleepIn.foldl takeIn { s with coh := { s.coh with asleepIn := [] } } else s

/-- BI_CONFLICT: the CXL conflict flow's BIConflictAck (R270). -/
def biConflictBody (s : State) (dpa : Nat) : State := emit s (.biConflictAck dpa)

end Sys2Proof.Machine
end

