-- ==== Sys2Proof/Machine/Awake.lean ====
section
/-! DEFINITION. Radish and the power states (18): the meaning of each row of the table. A meaning is the effect its unit has
(the operation it names), then what follows in the same step (`settle`, or `work` where waiting work can go on). -/

namespace Sys2Proof.Machine

/-- RADISH_SAMPLE (R584): At each tick Radish samples its inputs and evaluates the rule table. -/
def execRadishSample (samples : List Sample) (s : State) : Host.Outcome State Fault Refusal :=
  .next (work (radishSample s samples))

/-- RULE_FIRE (R586): A rule's condition has held for hold_ticks, so it fires its action. -/
def execRuleFire (rule : BitVec 8) (s : State) : Host.Outcome State Fault Refusal :=
  .next (work (ruleFire s rule.toNat))

/-- DIMM_TEMP_READ (R584): Every 1 s the DIMM temperatures are read over I3C. -/
def execDimmTempRead (temps : List Int) (s : State) : Host.Outcome State Fault Refusal :=
  .next (work (dimmTempRead s temps))

/-- DOZE_ENTRY (R590): The device enters Doze and gates its engines. -/
def execDozeEntry (s : State) : Host.Outcome State Fault Refusal :=
  .next (settle (dozeEntry s))

/-- DOZE_EXIT (R590): A request, a frame, posted work or a wake returns the device from Doze to Run. -/
def execDozeExit (cause : DozeWake) (s : State) : Host.Outcome State Fault Refusal :=
  .next (work (serveHeld (dozeExit s cause)))

/-- REST_ENTRY (R591): Write queues drain, DRAM enters self-refresh, lasers go off and clocks stop. -/
def execRestEntry (s : State) : Host.Outcome State Fault Refusal :=
  .next (settle (restEntry s))

/-- LIGHT_QUALIFIED (R592): Light lasting 2 µs on a used link is qualified and Rest is left. -/
def execLightQualified (l : LinkNo) (s : State) : Host.Outcome State Fault Refusal :=
  .next (work (lightQualified s l.toNat))

/-- REST_EXIT_COMPLETE (R592): PLLs relock, DRAM exits self-refresh and links warm-retrain, returning to Run. -/
def execRestExitComplete (s : State) : Host.Outcome State Fault Refusal :=
  .next (work (serveHeld (restExitComplete s)))

/-- SPURIOUS_WAKE_TIMEOUT (R592): Light led to no link training within 100 ms, so event 0x2C7 is raised. -/
def execSpuriousWakeTimeout (s : State) : Host.Outcome State Fault Refusal :=
  .next (work (spuriousWakeTimeout s))

/-- DEEP_ENTRY (R595): The device saves state to the retention SRAM, takes custody and gates its logic rails. -/
def execDeepEntry (s : State) : Host.Outcome State Fault Refusal :=
  .next (settle (deepEntry s))

/-- DEEP_EXIT (R596): Rails and state are restored, DRAM leaves custody and links relight. -/
def execDeepExit (cause : DeepWake) (s : State) : Host.Outcome State Fault Refusal :=
  .next (work (serveHeld (deepExit s cause)))

/-- CUSTODY_LOST (R598): VBUS falls below 9.6 V during custody, so custody is cleared and event 0x2C6 is raised. -/
def execCustodyLost (s : State) : Host.Outcome State Fault Refusal :=
  .next (work (custodyLostBody s))

/-- VAUX_OUT_OF_RANGE (R582): VAUX leaves 1.7–3.6 V, and the always-on domain runs from VBUS. -/
def execVauxOutOfRange (mv : BitVec 16) (s : State) : Host.Outcome State Fault Refusal :=
  .next (settle (offCheck (vauxOutOfRange s mv)))

/-- REFCLK_LOST (R583): The reference oscillator is lost. -/
def execRefclkLost (s : State) : Host.Outcome State Fault Refusal :=
  .next (settle (refclkLostBody s))

/-- GET_STATE (R599): SMBus: AON_STATE, AON_CUSTODY and FLT_STATUS are returned. -/
def execGetState (s : State) : Host.Outcome State Fault Refusal :=
  .next (settle (getStateBody s))

/-- GET_RECORDS (R599): SMBus: the 16 records that Radish holds are returned. -/
def execGetRecords (s : State) : Host.Outcome State Fault Refusal :=
  .next (settle (getRecordsBody s))

/-- GET_SENSE (R599): SMBus: one sampled input value is returned. -/
def execGetSense (input index : BitVec 8) (s : State) : Host.Outcome State Fault Refusal :=
  .next (settle (getSenseBody s input.toNat index.toNat))

/-- SMBUS_UNSUPPORTED (R599): SMBus: an unknown request code gets the MCTP unsupported error. -/
def execSmbusUnsupported (code : BitVec 8) (s : State) : Host.Outcome State Fault Refusal :=
  .next (settle (smbusOther s code.toNat))

/-- VAUX_IN_RANGE (R605): VAUX rises into 1.7–3.6 V, and step 0x01 starts. -/
def execVauxInRange (mv : BitVec 16) (s : State) : Host.Outcome State Fault Refusal :=
  .next (settle (vauxInRange s mv))

end Sys2Proof.Machine
end

