-- ==== Sys2Proof/Machine/Capacity.lean ====
section
/-! DEFINITION. Extents, grants, commands, queues and the host link (03, 07, 14): the meaning of each row of the table. A
meaning is the effect its unit has (the operation it names), then what follows in the same step (`settle`, or `work` where
waiting work can go on). -/

namespace Sys2Proof.Machine

/-- EXTENT_ADD (R97): EXTENT_ADD checks, reserves and zeroes metadata, confirms the buddy reservation and offers the extent to
the host. -/
def execExtentAdd (src : CmdSrc) (entry : Line) (s : State) : Host.Outcome State Fault Refusal :=
  .next (work (extentAddCmd s src entry))

/-- EXTENT_ADD_BUDDY_TIMEOUT (R97): The buddy has not confirmed its reservation 1 ms after step 3, so EXTENT_ADD completes
BUSY_RETRY and its reservations are freed. -/
def execExtentAddBuddyTimeout (dpa : Dpa) (s : State) : Host.Outcome State Fault Refusal :=
  .next (work (extentAddBuddyTimeoutBody s dpa.toNat))

/-- ADD_DYNAMIC_CAPACITY_RESPONSE (R97): The host accepts or declines a pending extent. -/
def execAddDynamicCapacityResponse (accepted : List (BitVec 64 × BitVec 64)) (s : State) : Host.Outcome State Fault Refusal :=
  .next (work (mailbox s false (fun s => whenActive s (fun s => addResponseBody s accepted))))

/-- RELEASE_DYNAMIC_CAPACITY (R99): The host releases a range: the release point is set and open migrations are aborted. -/
def execReleaseDynamicCapacity (ranges : List (BitVec 64 × BitVec 64)) (s : State) : Host.Outcome State Fault Refusal :=
  .next (work (mailbox s false (fun s => whenActive s (fun s => releaseBody s ranges))))

/-- RELEASE_RESPONSE (R99): Every request taken before the release point has completed, so the response is sent and phases 4 to
6 run. -/
def execReleaseResponse (dpa : Dpa) (s : State) : Host.Outcome State Fault Refusal :=
  .next (work (releaseResponseBody s dpa.toNat))

/-- SHARE_GRANT (R494): The owner grants part of an extent to a grantee node. -/
def execShareGrant (src : CmdSrc) (entry : Line) (s : State) : Host.Outcome State Fault Refusal :=
  .next (work (shareGrantCmd s src entry))

/-- SHARE_REVOKE (R79): A grant is revoked, and the grantee is asked to release its shared extent. -/
def execShareRevoke (src : CmdSrc) (entry : Line) (s : State) : Host.Outcome State Fault Refusal :=
  .next (work (shareRevokeCmd s src entry))

/-- PLACE_HINT (R142): A HOT, COLD, PIN or UNPIN hint is applied to a range of pages. -/
def execPlaceHint (src : CmdSrc) (entry : Line) (s : State) : Host.Outcome State Fault Refusal :=
  .next (work (placeHintBody s src entry))

/-- ATOMIC (R495): An atomic operation on a line is executed near or far. -/
def execAtomic (src : CmdSrc) (entry : Line) (s : State) : Host.Outcome State Fault Refusal :=
  .next (work (atomicBody s src entry))

/-- KEY_ROTATE (R236): Rotation of a key domain to a new generation starts. -/
def execKeyRotate (src : CmdSrc) (entry : Line) (s : State) : Host.Outcome State Fault Refusal :=
  .next (work (keyRotateBody s src entry))

/-- KEY_ROTATE_SWITCH (R237): At the switch point the new generation becomes current, the command completes and rewrap work is
posted. -/
def execKeyRotateSwitch (domain : BitVec 12) (s : State) : Host.Outcome State Fault Refusal :=
  .next (work (keyRotateSwitchBody s domain.toNat))

/-- PRIMER_EVAL (R218): Blocks from host memory are compressed under one slot, and one result byte per block is written. -/
def execPrimerEval (src : CmdSrc) (entry : Line) (blocks : List (List Byte)) (dmaOk : Bool)
    (s : State) : Host.Outcome State Fault Refusal :=
  .next (work (primerEvalBody s src entry blocks dmaOk))

/-- QUEUE_CREATE (R485): A command-queue pair is created. -/
def execQueueCreate (payload : List Byte) (s : State) : Host.Outcome State Fault Refusal :=
  .next (settle (mailbox s false (fun s => queueCreateBody s payload)))

/-- QUEUE_DELETE (R486): A queue stops taking entries, and it completes once its taken entries have completed. -/
def execQueueDelete (payload : List Byte) (s : State) : Host.Outcome State Fault Refusal :=
  .next (work (mailbox s false (fun s => queueDeleteBody s payload)))

/-- EXEC_ENTRY (R483): One 64 B command entry is executed through the mailbox. -/
def execExecEntry (payload : List Byte) (blocks : List (List Byte)) (dmaOk : Bool)
    (s : State) : Host.Outcome State Fault Refusal :=
  .next (work (mailbox s false (fun s => execEntryBody s payload blocks dmaOk)))

/-- SQ_TAIL (R487): A write to a submission-queue tail doorbell makes the device take new entries. -/
def execSqTail (qid : BitVec 10) (value : BitVec 32) (entries : List Line) (s : State) : Host.Outcome State Fault Refusal :=
  .next (work (sqTailBody s qid.toNat value.toNat entries))

/-- CQ_HEAD (R487): A write to a completion-queue head doorbell frees completion slots. -/
def execCqHead (qid : BitVec 10) (value : BitVec 32) (s : State) : Host.Outcome State Fault Refusal :=
  .next (work (cqHeadBody s qid.toNat value.toNat))

/-- COMMAND_COMPLETE (R487): A finished command's completion entry is posted to the CQ, or held while the CQ is full. -/
def execCommandComplete (qid : BitVec 10) (s : State) : Host.Outcome State Fault Refusal :=
  .next (work (commandCompleteBody s qid.toNat))

/-- DMA_ERROR (R501): A queue or command DMA fails, and the queue stops taking entries. -/
def execDmaError (qid : BitVec 10) (s : State) : Host.Outcome State Fault Refusal :=
  .next (work (dmaErrorBody s qid.toNat))

/-- HDM_DECODER_COMMIT (R477): An HDM decoder commit is checked and committed, or sets Commit Error. -/
def execHdmDecoderCommit (index : Fin 8) (setting : HdmSetting) (s : State) : Host.Outcome State Fault Refusal :=
  .next (settle (hdmDecoderCommit s index.val setting))

/-- HOST_LINK_UP (R474): The host PCIe link trains, and a degraded rate or width raises event 0x260. -/
def execHostLinkUp (speed : BitVec 4) (width : BitVec 6) (s : State) : Host.Outcome State Fault Refusal :=
  .next (work (hostLinkUp s speed width))

/-- HOST_LINK_LEAVES_L0 (R584): The host PCIe link goes down or enters L1 or L2, which permits Rest and Deep and lets WAKE#
assert. -/
def execHostLinkLeavesL0 (low : HostLinkLow) (s : State) : Host.Outcome State Fault Refusal :=
  .next (work (hostLinkLeavesL0 s low))

/-- HOST_INTERFACE_READY (R497): The host interface becomes ready: CRS ends, the mailbox serves and Memory_Info_Valid is 1, and
after an H reset Memory_Active returns. -/
def execHostInterfaceReady (s : State) : Host.Outcome State Fault Refusal :=
  .next (work (hostInterfaceReady s))

/-- REVOCATION_AT_GRANTEE (R79): A grantee device receives a grant revocation and asks its host to release the shared extent
through the CXL release flow. -/
def execRevocationAtGrantee (owner : Node) (grantId : BitVec 32) (s : State) : Host.Outcome State Fault Refusal :=
  .next (work (revocationBody s owner.toNat grantId.toNat))

end Sys2Proof.Machine
end

