-- ==== Sys2Proof/Machine/Coherence.lean ====
section
/-! DEFINITION. Coherence, bulk and mirror traffic (05, 08): the meaning of each row of the table. A meaning is the effect its
unit has (the operation it names), then what follows in the same step (`settle`, or `work` where waiting work can go on). -/

namespace Sys2Proof.Machine

/-- BI_RSP (R270): A host back-invalidate response arrives, with any host writeback to commit. -/
def execBiRsp (dpa : Dpa) (writeback : Option (Line × Bool)) (s : State) : Host.Outcome State Fault Refusal :=
  .next (work (biRspBody s dpa.toNat writeback))

/-- BI_CONFLICT (R270): A host BIConflict is resolved by the CXL conflict flow with BIConflictAck. -/
def execBiConflict (dpa : Dpa) (s : State) : Host.Outcome State Fault Refusal :=
  .next (settle (biConflictBody s dpa.toNat))

/-- BISNP_TIMEOUT (R271): No BIRsp within bisnp_timeout_ms: the host is recorded I and CXL.mem is fenced. -/
def execBisnpTimeout (dpa : Dpa) (s : State) : Host.Outcome State Fault Refusal :=
  .next (work (bisnpTimeoutBody s dpa.toNat))

/-- RD_SHARED (R269): RdShared arrives at an owner and is served per the directory state. -/
def execRdShared (h : ReqHdr) (line : LineNo) (reserved : Bool) (s : State) : Host.Outcome State Fault Refusal :=
  .next (work (inRun s (.rdShared h line reserved)))

/-- RD_OWN (R269): RdOwn arrives at an owner and is granted E after invalidation. -/
def execRdOwn (h : ReqHdr) (line : LineNo) (reserved : Bool) (s : State) : Host.Outcome State Fault Refusal :=
  .next (work (inRun s (.rdOwn h line reserved)))

/-- RD_CUR (R269): RdCur arrives at an owner and returns current data without a grant. -/
def execRdCur (h : ReqHdr) (line : LineNo) (reserved : Bool) (s : State) : Host.Outcome State Fault Refusal :=
  .next (work (inRun s (.rdCur h line reserved)))

/-- WR_LINE (R269): WrLine arrives at an owner, which invalidates, merges, commits and grants keep. -/
def execWrLine (h : ReqHdr) (line : LineNo) (reserved : Bool) (keep : Keep) (poison : Bool)
    (mask : BitVec 64) (data : Line) (s : State) : Host.Outcome State Fault Refusal :=
  .next (work (inRun s (.wrLine h line reserved keep poison mask data)))

/-- ATOMIC_FAR (R177): AtomicFar arrives at an owner and is executed at home under the sequence rules. -/
def execAtomicFar (h : ReqHdr) (line : LineNo) (operation : BitVec 8) (size : BitVec 3)
    (seq floor : BitVec 32) (offset : BitVec 6) (operands : BitVec 256) (s : State) : Host.Outcome State Fault Refusal :=
  .next (work (inRun s (.atomicFar h line operation size seq floor offset operands)))

/-- SNP_INV (R272): SnpInv arrives at a requester, which invalidates and returns dirty data or Cmp. -/
def execSnpInv (tag : Tag) (line : LineNo) (scope : Scope) (grantTag : Tag) (s : State) : Host.Outcome State Fault Refusal :=
  .next (work (inRun s (.snpInv tag line scope grantTag)))

/-- SNP_DATA (R272): SnpData arrives at a requester, which downgrades and returns data or Cmp. -/
def execSnpData (tag : Tag) (line : LineNo) (s : State) : Host.Outcome State Fault Refusal :=
  .next (work (inRun s (.snpData tag line)))

/-- SNP_CUR (R272): SnpCur arrives at a requester, which returns current data or Cmp. -/
def execSnpCur (tag : Tag) (line : LineNo) (s : State) : Host.Outcome State Fault Refusal :=
  .next (work (inRun s (.snpCur tag line)))

/-- DATA (R264): Data arrives: a requester installs the grant and acknowledges it, or an owner takes the snoop or pod data. -/
def execData (tag : Tag) (src : Node) (poison contended dirty hostDirty : Bool) (bulk : Option DecOutcome)
    (vers : BitVec 16) (pod : BitVec 6) (value : Line) (s : State) : Host.Outcome State Fault Refusal :=
  .next (work (dataBody s tag src.toNat poison contended dirty hostDirty vers.toNat pod.toNat value (bulk.getD .ok)))

/-- DATA_OWNED (R263): DataOwned arrives, and the requester installs the line in E and acknowledges. -/
def execDataOwned (tag : Tag) (src : Node) (poison contended : Bool) (value : Line)
    (s : State) : Host.Outcome State Fault Refusal :=
  .next (work (dataOwnedBody s tag src.toNat poison contended value))

/-- CMP (R369): Cmp arrives and completes a transaction or acknowledges a grant. -/
def execCmp (tag : Tag) (src : Node) (status : BitVec 3) (contended : Bool) (vers : BitVec 16)
    (s : State) : Host.Outcome State Fault Refusal :=
  .next (work (cmpBody s tag src.toNat status.toNat contended vers.toNat))

/-- NACK_RETRY (R281): NackRetry arrives, and the requester waits the hint before retrying. -/
def execNackRetry (tag : Tag) (cause : BitVec 4) (hint : BitVec 8) (s : State) : Host.Outcome State Fault Refusal :=
  .next (work (nackRetryBody s tag cause.toNat hint.toNat))

/-- RSP_EVICT_IN_FLIGHT (R276): RspEvictInFlight arrives, and the owner's snoop waits for the writeback. -/
def execRspEvictInFlight (tag : Tag) (_src : Node) (_line : LineNo) (s : State) : Host.Outcome State Fault Refusal :=
  .next (work (evictInFlightBody s tag))

/-- EVICT_ACK (R276): EvictAck arrives, and the requester frees its eviction-buffer entry. -/
def execEvictAck (tag : Tag) (_line : LineNo) (s : State) : Host.Outcome State Fault Refusal :=
  .next (work (evictAckBody s tag))

/-- EVICT (R265): Evict arrives at the owner's writeback sink and removes the sender. -/
def execEvict (h : ReqHdr) (line : LineNo) (s : State) : Host.Outcome State Fault Refusal :=
  .next (work (inRun s (.evict h line)))

/-- WB_DIRTY (R265): WbDirty arrives at the owner's sink, and its data is committed. -/
def execWbDirty (h : ReqHdr) (line : LineNo) (poison hostDirty : Bool) (value : Line)
    (s : State) : Host.Outcome State Fault Refusal :=
  .next (work (inRun s (.wbDirty h line poison hostDirty value)))

/-- BLK_READ (R275): BlkRead arrives at a holder, which returns the named pods. -/
def execBlkRead (h : ReqHdr) (pod : BitVec 38) (count : BitVec 7) (vers : BitVec 16)
    (s : State) : Host.Outcome State Fault Refusal :=
  .next (work (inRun s (.blkRead h pod count vers)))

/-- BLK_WRITE (R275): BlkWrite arrives at a holder, which stores the pod. -/
def execBlkWrite (h : ReqHdr) (pod : BitVec 38) (vers : BitVec 16) (value : Line)
    (s : State) : Host.Outcome State Fault Refusal :=
  .next (work (inRun s (.blkWrite h pod vers value)))

/-- BLK_FREE (R275): BlkFree arrives at a holder, which frees the pods. -/
def execBlkFree (h : ReqHdr) (pod : BitVec 38) (count : BitVec 7) (s : State) : Host.Outcome State Fault Refusal :=
  .next (work (inRun s (.blkFree h pod count)))

/-- MIRROR_WRITE (R168): MirrorWrite arrives at the buddy, which applies each sequence once and answers Cmp, or stores an
envelope fragment. -/
def execMirrorWrite (h : ReqHdr) (body : MirrorBody) (s : State) : Host.Outcome State Fault Refusal :=
  .next (work (inRun s (.mirrorWrite h body)))

/-- MIRROR_CTL_RESERVE (R664): The buddy reserves metadata for an extent's copies. -/
def execMirrorCtlReserve (h : ReqHdr) (extent : BitVec 16) (length2m : BitVec 32)
    (s : State) : Host.Outcome State Fault Refusal :=
  .next (work (inRun s (.mirrorCtlReserve h extent length2m)))

/-- MIRROR_CTL_UNRESERVE (R664): The buddy frees a reservation. -/
def execMirrorCtlUnreserve (h : ReqHdr) (extent : BitVec 16) (length2m : BitVec 32)
    (s : State) : Host.Outcome State Fault Refusal :=
  .next (work (inRun s (.mirrorCtlUnreserve h extent length2m)))

/-- MIRROR_CTL_FREE (R664): The buddy frees its copies of the named pages. -/
def execMirrorCtlFree (h : ReqHdr) (extent : BitVec 16) (page : BitVec 28) (count : BitVec 32)
    (s : State) : Host.Outcome State Fault Refusal :=
  .next (work (inRun s (.mirrorCtlFree h extent page count)))

/-- MIRROR_CTL_READ (R664): The buddy returns lines of its copy. -/
def execMirrorCtlRead (h : ReqHdr) (extent : BitVec 16) (page : BitVec 28) (line : BitVec 6)
    (lines : BitVec 5) (s : State) : Host.Outcome State Fault Refusal :=
  .next (work (inRun s (.mirrorCtlRead h extent page line lines)))

/-- MIRROR_CTL_PAGE (R664): The buddy accepts a page's stored form or asks for it raw. -/
def execMirrorCtlPage (h : ReqHdr) (extent : BitVec 16) (page : BitVec 28) (blen : BitVec 20)
    (kgen integ raw : Bool) (fingerprint : BitVec 64) (s : State) : Host.Outcome State Fault Refusal :=
  .next (work (inRun s (.mirrorCtlPage h extent page blen kgen integ raw fingerprint)))

/-- MIRROR_POD (R664): The buddy stores one pod or plaintext line of a resync page. -/
def execMirrorPod (h : ReqHdr) (extent : BitVec 16) (page : BitVec 28) (index : BitVec 6) (raw : Bool)
    (value : Line) (s : State) : Host.Outcome State Fault Refusal :=
  .next (work (inRun s (.mirrorPod h extent page index raw value)))

/-- RESYNC_PAGE (R172): The owner sends the next page of a resync or resilver at resilver_mbps. -/
def execResyncPage (s : State) : Host.Outcome State Fault Refusal :=
  .next (work (resyncPage s))

/-- ACK_TIMEOUT (R264): No acknowledgement of a grant within 4 e2e timeouts, so a recovery SnpInv is sent. -/
def execAckTimeout (line : LineNo) (s : State) : Host.Outcome State Fault Refusal :=
  .next (work (ackTimeout s line.toNat))

/-- NACK_RETRY_WAIT_EXPIRY (R281): The requester's retry wait ends and the request is sent again. -/
def execNackRetryWaitExpiry (queue : BitVec 4) (idx : BitVec 14) (s : State) : Host.Outcome State Fault Refusal :=
  .next (work (nackExpiryBody s (queue.toNat * 16384 + idx.toNat)))

/-- RESERVED_HOLD_TIMEOUT (R282): A reserved entry held 64 µs for a standby node passes to the next node. -/
def execReservedHoldTimeout (node : Node) (s : State) : Host.Outcome State Fault Refusal :=
  .next (work (reservedHoldTimeout s node))

/-- HOST_FLUSHED (R291): Software confirms that its host caches of the window are written back and invalid. -/
def execHostFlushed (s : State) : Host.Outcome State Fault Refusal :=
  .next (work (hostFlushedBody s))

/-- PRED_CLEAR (R294): Every atomic predictor counter is reset to 1. -/
def execPredClear (s : State) : Host.Outcome State Fault Refusal :=
  .next (settle (predClearBody s))

end Sys2Proof.Machine
end

