-- ==== Sys2Proof/Machine/Compress.lean ====
section
/-! DEFINITION. Compression (06): the meaning of each row of the table. A meaning is the effect its unit has (the operation it
names), then what follows in the same step (`settle`, or `work` where waiting work can go on). -/

namespace Sys2Proof.Machine

/-- COMPRESSION_RESULT (R188): A compressor lane returns a block's result of ZERO, PACKED, NOGAIN or VERIFY_FAIL after its
shadow verification. -/
def execCompressionResult (lane : Fin 16) (shadowOk : Bool) (s : State) : Host.Outcome State Fault Refusal :=
  .next (work (compressionResultBody s lane.val shadowOk))

/-- LANE_TIMEOUT (R659): A lane with no result 1 µs after taking a block is fenced, and its job moves to another lane. -/
def execLaneTimeout (decompressor : Bool) (lane : Fin 32) (s : State) : Host.Outcome State Fault Refusal :=
  .next (work (laneTimeoutBody s decompressor lane.val))

/-- PRIMER_RETIRE (R209): A write of 1 to CMP_PRIMER[n].retire starts retiring the slot. -/
def execPrimerRetire (slot : BitVec 6) (s : State) : Host.Outcome State Fault Refusal :=
  .next (settle (primerRetire s slot.toNat))

/-- PRIMER_STORE_RELOAD (R219): A primer slot reload from the active image completes, and the jobs naming the slot stop waiting.
-/
def execPrimerStoreReload (slot : BitVec 6) (s : State) : Host.Outcome State Fault Refusal :=
  .next (work (primerStoreReload s slot.toNat))

end Sys2Proof.Machine
end

