-- ==== Sys2Proof/Machine/Count.lean ====
section
/-! DEFINITION. Performance counters and registers (01, 20): the meaning of each row of the table. A meaning is the effect its
unit has (the operation it names), then what follows in the same step (`settle`, or `work` where waiting work can go on). -/

namespace Sys2Proof.Machine

/-- PMC_CTR_WRITE (R634): A write sets a programmable counter. -/
def execPmcCtrWrite (n : BitVec 7) (value : Word) (occurrences : Nat) (s : State) : Host.Outcome State Fault Refusal :=
  .next (settle (pmcCtrWrite s n.toNat value occurrences))

/-- PMC_CLEAR (R636): PMC_CTRL.clear_prog zeroes every programmable counter and PMC_OVF. -/
def execPmcClear (s : State) : Host.Outcome State Fault Refusal :=
  .next (settle (pmcClear s))

/-- PMC_UPAGE_WRITE (R640): A write sets a user page's kind, base and count, or is ignored. -/
def execPmcUpageWrite (u : BitVec 8) (value : Word) (s : State) : Host.Outcome State Fault Refusal :=
  .next (settle (pmcUpageWrite s u.toNat value))

/-- REGISTER_WRITE (R7): A write to a register field with no row of its own takes effect by its access code. -/
def execRegisterWrite (offset : BitVec 26) (wide : Bool) (value : Word) (s : State) : Host.Outcome State Fault Refusal :=
  .next (work (registerWriteBody s offset.toNat wide value))

end Sys2Proof.Machine
end

