-- ==== Sys2Proof/Machine/Fabric.lean ====
section
/-! DEFINITION. Membership, leases, sleep and the pool epoch (09): the meaning of each row of the table. A meaning is the effect
its unit has (the operation it names), then what follows in the same step (`settle`, or `work` where waiting work can go on). -/

namespace Sys2Proof.Machine

/-- HEARTBEAT_SEND (R319): Every 1 ms a HEARTBEAT is sent on every up link. -/
def execHeartbeatSend (s : State) : Host.Outcome State Fault Refusal :=
  .next (work (heartbeatSend s))

/-- HEARTBEAT (R319): A HEARTBEAT arrives, marking the neighbour heard or announcing RESETTING. -/
def execHeartbeat (l : LinkNo) (node : Node) (incarnation : BitVec 16) (state : BitVec 4)
    (sleepReady resetting : Bool) (s : State) : Host.Outcome State Fault Refusal :=
  .next (work (heartbeat s l.toNat node.toNat incarnation state.toNat sleepReady resetting))

/-- HEARTBEAT_SILENCE (R320): Four intervals without a heartbeat, so ROUTE SUSPECT goes to the authority and repeats. -/
def execHeartbeatSilence (node : Node) (s : State) : Host.Outcome State Fault Refusal :=
  .next (work (heartbeatSilence s node.toNat))

/-- ROUTE_SUSPECT (R320): The authority records a SUSPECT report and may declare the node FAILED. -/
def execRouteSuspect (src node : Node) (s : State) : Host.Outcome State Fault Refusal :=
  .next (work (routeSuspect s src.toNat node.toNat))

/-- ISOLATION_TIMEOUT (R321): Hearing at most half of its neighbours for 8 ms, the device fences itself. -/
def execIsolationTimeout (s : State) : Host.Outcome State Fault Refusal :=
  .next (work (isolationTimeout s))

/-- RESTART_GRACE_EXPIRY (R322): A RESTARTING member has not rejoined within restart_grace_s and is declared FAILED. -/
def execRestartGraceExpiry (node : Node) (s : State) : Host.Outcome State Fault Refusal :=
  .next (work (restartGraceExpiry s node.toNat))

/-- ROUTE_LINKSTATE (R307): A LINKSTATE flood updates the link map if its version is newer. -/
def execRouteLinkstate (f : FloodHdr) (version : BitVec 16) (vector : BitVec 126)
    (s : State) : Host.Outcome State Fault Refusal :=
  .next (work (routeLinkstate s f version vector))

/-- LINKSTATE_PERIODIC (R307): The own link vector is flooded every 100 ms, or within 100 µs of a change. -/
def execLinkstatePeriodic (s : State) : Host.Outcome State Fault Refusal :=
  .next (work (floodLinkstate s))

/-- ROUTE_MEMBER (R318): A MEMBER record updates membership and triggers its consequences: EXPOSED, failover, self-fence and
restart handling. -/
def execRouteMember (f : FloodHdr) (rec_ : MemberWire) (s : State) : Host.Outcome State Fault Refusal :=
  .next (work (routeMember s f rec_))

/-- FAILOVER_SERVE (R174): After invalidation the buddy serves the regions and floods ALIAS with serving 1. -/
def execFailoverServe (s : State) : Host.Outcome State Fault Refusal :=
  .next (work (failoverServe s))

/-- ROUTE_CAPACITY (R328): A capacity advertisement updates a holder's lendable_gib. -/
def execRouteCapacity (f : FloodHdr) (lendable : BitVec 16) (s : State) : Host.Outcome State Fault Refusal :=
  .next (work (routeCapacity s f lendable))

/-- CAPACITY_PERIODIC (R328): ROUTE CAPACITY is flooded every 1 s, or on a change of 16 GiB. -/
def execCapacityPeriodic (s : State) : Host.Outcome State Fault Refusal :=
  .next (work (capacityPeriodic s))

/-- ROUTE_ALIAS (R332): An ALIAS flood redirects requests for a failed owner and may free its leases. -/
def execRouteAlias (f : FloodHdr) (failed owner : Node) (regions : BitVec 8) (serving : Bool)
    (s : State) : Host.Outcome State Fault Refusal :=
  .next (work (routeAlias s f failed.toNat owner.toNat regions.toNat serving))

/-- LEASE_FREE_TIMEOUT (R332): 100 ms after a declaration without an alias, the holder frees the failed owner's lease. -/
def execLeaseFreeTimeout (node : Node) (s : State) : Host.Outcome State Fault Refusal :=
  .next (work (leaseFreeTimeout s node.toNat))

/-- JOIN_REQUEST (R324): A JOIN REQUEST is answered with ACCEPT, REFUSE or JOIN_WAIT. -/
def execJoinRequest (l : LinkNo) (node : Node) (poolId : BitVec 64) (incarnation : BitVec 16)
    (epoch : BitVec 32) (digest : BitVec 128) (custody : Bool) (s : State) : Host.Outcome State Fault Refusal :=
  .next (work (joinRequest s l.toNat node.toNat poolId incarnation epoch digest custody))

/-- JOIN_ACCEPT (R326): A joiner records an ACCEPT with the member records it carries. -/
def execJoinAccept (_l : LinkNo) (node : Node) (state : BitVec 4) (epoch : BitVec 32)
    (_part _parts : BitVec 7) (records : List MemberWire) (s : State) : Host.Outcome State Fault Refusal :=
  .next (work (joinAccept s node.toNat state.toNat epoch records))

/-- JOIN_REFUSE (R324): A joiner receives REFUSE and raises event 0x220. -/
def execJoinRefuse (l : LinkNo) (cause : BitVec 4) (s : State) : Host.Outcome State Fault Refusal :=
  .next (work (joinRefuse s l.toNat cause.toNat))

/-- JOIN_WAIT (R325): A joiner receives JOIN_WAIT and delays its JOIN. -/
def execJoinWait (l : LinkNo) (delayMs : BitVec 7) (s : State) : Host.Outcome State Fault Refusal :=
  .next (work (joinWait s l.toNat delayMs))

/-- JOIN_WAIT_EXPIRY (R325): The JOIN_WAIT delay ends and JOIN is sent again. -/
def execJoinWaitExpiry (l : LinkNo) (s : State) : Host.Outcome State Fault Refusal :=
  .next (work (joinWaitExpiry s l.toNat))

/-- JOIN_JUDGE (R326): 2 ms after its last wave the joiner judges its answers and may found the pool. -/
def execJoinJudge (s : State) : Host.Outcome State Fault Refusal :=
  .next (work (joinJudge s))

/-- JOIN_RETRY (R327): A device started without the pool retries JOIN every 1 s. -/
def execJoinRetry (s : State) : Host.Outcome State Fault Refusal :=
  .next (work (joinRetry s))

/-- REJOIN (R344): FAB_CTRL.rejoin sends JOIN now. -/
def execRejoin (s : State) : Host.Outcome State Fault Refusal :=
  .next (work (rejoin s))

/-- LEAVE (R332): FAB_CTRL.leave puts the device in LEAVING and recalls its leases. -/
def execLeave (s : State) : Host.Outcome State Fault Refusal :=
  .next (work (leave s))

/-- LEASE_REQUEST (R330): A holder answers a lease request with GRANT or DENY. -/
def execLeaseRequest (src : Node) (size : BitVec 14) (s : State) : Host.Outcome State Fault Refusal :=
  .next (work (leaseRequest s src.toNat size.toNat))

/-- LEASE_GRANT (R329): The owner records the new lease size. -/
def execLeaseGrant (src : Node) (size : BitVec 14) (s : State) : Host.Outcome State Fault Refusal :=
  .next (work (leaseGrant s src.toNat size.toNat))

/-- LEASE_DENY (R329): The owner records a denial. -/
def execLeaseDeny (src : Node) (_cause : BitVec 2) (s : State) : Host.Outcome State Fault Refusal :=
  .next (work (leaseDeny s src.toNat))

/-- LEASE_RECALL (R329): The owner must vacate the recalled part by the deadline. -/
def execLeaseRecall (src : Node) (size : BitVec 14) (_deadlineS : BitVec 12) (s : State) : Host.Outcome State Fault Refusal :=
  .next (work (leaseRecall s src.toNat size.toNat))

/-- LEASE_RETURN (R329): The holder frees the range above the returned size. -/
def execLeaseReturn (src : Node) (size : BitVec 14) (s : State) : Host.Outcome State Fault Refusal :=
  .next (work (leaseReturn s src.toNat size.toNat))

/-- LEASE_DEADLINE (R331): A recall deadline passes without RETURN, so event 0x229 is raised and grants stop. -/
def execLeaseDeadline (node : Node) (s : State) : Host.Outcome State Fault Refusal :=
  .next (work (leaseDeadline s node.toNat))

/-- SLEEP_PROPOSE (R333): The row authority, seeing every member SLEEP_READY, floods WAKE PROPOSE. -/
def execSleepPropose (s : State) : Host.Outcome State Fault Refusal :=
  .next (work (sleepPropose s))

/-- WAKE_PROPOSE (R333): A device receives PROPOSE and answers CONSENT once Chard consents, or REFUSE. -/
def execWakePropose (f : FloodHdr) (row : BitVec 6) (s : State) : Host.Outcome State Fault Refusal :=
  .next (work (wakePropose s f row))

/-- WAKE_CONSENT (R333): The authority records a CONSENT and floods COMMIT when all are in. -/
def execWakeConsent (src : Node) (row : BitVec 6) (s : State) : Host.Outcome State Fault Refusal :=
  .next (work (wakeConsent s src.toNat row))

/-- WAKE_REFUSE (R333): The authority receives REFUSE and floods ABORT. -/
def execWakeRefuse (src : Node) (row : BitVec 6) (s : State) : Host.Outcome State Fault Refusal :=
  .next (work (wakeRefuse s src.toNat row))

/-- SLEEP_PROPOSE_TIMEOUT (R333): An answer is missing at 100 ms, so ABORT is flooded. -/
def execSleepProposeTimeout (s : State) : Host.Outcome State Fault Refusal :=
  .next (work (sleepProposeTimeout s))

/-- WAKE_COMMIT (R333): The row is recorded ASLEEP, and its devices write back and enter sleep. -/
def execWakeCommit (f : FloodHdr) (row : BitVec 6) (s : State) : Host.Outcome State Fault Refusal :=
  .next (work (wakeCommit s f row))

/-- WAKE_ABORT (R333): A sleep proposal is abandoned. -/
def execWakeAbort (f : FloodHdr) (row : BitVec 6) (s : State) : Host.Outcome State Fault Refusal :=
  .next (work (wakeAbort s f row))

/-- ROW_WAKE (R336): ROW_WAKE arrives, and devices light their links into the row's wake links. -/
def execRowWake (f : FloodHdr) (row : BitVec 6) (s : State) : Host.Outcome State Fault Refusal :=
  .next (work (rowWake s f row))

/-- EPOCH_PREPARE_START (R337): The coordinator floods EPOCH PREPARE for the next epoch, repeating every 10 s. -/
def execEpochPrepareStart (s : State) : Host.Outcome State Fault Refusal :=
  .next (work (epochPrepareStart s))

/-- EPOCH_PREPARE (R337): A device answers READY or NOT_READY. -/
def execEpochPrepare (f : FloodHdr) (epoch : BitVec 32) (digest : BitVec 128) (s : State) : Host.Outcome State Fault Refusal :=
  .next (work (epochPrepare s f epoch digest))

/-- EPOCH_READY (R337): The coordinator records READY. -/
def execEpochReady (src : Node) (epoch : BitVec 32) (s : State) : Host.Outcome State Fault Refusal :=
  .next (work (epochReady s src.toNat epoch))

/-- EPOCH_NOT_READY (R337): The coordinator records NOT_READY. -/
def execEpochNotReady (src : Node) (epoch : BitVec 32) (s : State) : Host.Outcome State Fault Refusal :=
  .next (work (epochNotReady s src.toNat epoch))

/-- EPOCH_PREPARE_TIMEOUT (R337): 1 s after PREPARE, the coordinator floods COMMIT if no device answered NOT_READY. -/
def execEpochPrepareTimeout (s : State) : Host.Outcome State Fault Refusal :=
  .next (work (epochPrepareTimeout s))

/-- EPOCH_COMMIT (R337): A device applies pending pool-wide sections with a matching digest, or raises event 0x22E. -/
def execEpochCommit (f : FloodHdr) (epoch : BitVec 32) (digest : BitVec 128) (s : State) : Host.Outcome State Fault Refusal :=
  .next (work (epochCommit s f epoch digest))

/-- CTRL_RESEND_TIMER (R359): A routed CTRL message that needs an answer is repeated after 100 ms without one. -/
def execCtrlResendTimer (dst : Node) (s : State) : Host.Outcome State Fault Refusal :=
  .next (work (ctrlResend s dst.toNat))

/-- WAKE_PATTERN_LIMIT (R593): A peer that has sent the wake pattern for 10 ms without seeing the training pattern stops and
trains as R350 states. -/
def execWakePatternLimit (l : LinkNo) (s : State) : Host.Outcome State Fault Refusal :=
  .next (work (wakePatternLimit s l.toNat))

end Sys2Proof.Machine
end

