-- ==== Sys2Proof/Machine/Faults.lean ====
section
/-! DEFINITION. The fault collector (16): the meaning of each row of the table. A meaning is the effect its unit has (the
operation it names), then what follows in the same step (`settle`, or `work` where waiting work can go on). -/

namespace Sys2Proof.Machine

/-- FAULT_RAISE (R542): An event is raised, mapped, escalated, recorded, routed and reacted to by severity. -/
def execFaultRaise (event : BitVec 10) (cause : BitVec 8) (part : Part) (info : BitVec 128)
    (s : State) : Host.Outcome State Fault Refusal :=
  .next (work (faultRaise s event.toNat cause.toNat part info))

/-- CLASS_ACKNOWLEDGE (R538): A write of 1 to FLT_CLASS[n].unacked acknowledges a class. -/
def execClassAcknowledge (event : BitVec 10) (s : State) : Host.Outcome State Fault Refusal :=
  .next (work (classAcknowledge s event.toNat))

/-- RESET_CLASS_ACKNOWLEDGE (R551): A write of 1 to FLT_STATUS.s4_unacked acknowledges the reset class. -/
def execResetClassAcknowledge (s : State) : Host.Outcome State Fault Refusal :=
  .next (settle (resetClassAcknowledge s))

/-- FAULT_INJECT (R554): FLT_INJECT.go raises the selected event with cause 0xFF. -/
def execFaultInject (event : BitVec 10) (s : State) : Host.Outcome State Fault Refusal :=
  .next (work (faultInject s event.toNat))

/-- ENGINE_HANG (R533): An engine has retired no instruction for 10 ms while work is queued. -/
def execEngineHang (engine : Fin 60) (s : State) : Host.Outcome State Fault Refusal :=
  .next (work (engineHang s engine))

end Sys2Proof.Machine
end

