-- ==== Sys2Proof/Machine/Feeds.lean ====
section
/-! DEFINITION. Power entry (17): the meaning of each row of the table. A meaning is the effect its unit has (the operation it
names), then what follows in the same step (`settle`, or `work` where waiting work can go on). -/

namespace Sys2Proof.Machine

/-- FEED_PRESENT (R555): A feed crosses the present or reset threshold. -/
def execFeedPresent (f : Feed) (mv : BitVec 16) (s : State) : Host.Outcome State Fault Refusal :=
  .next (settle (offCheck (feedPresent s f mv.toNat)))

/-- FEED_WINDOW_ENTRY (R559): An expected feed enters the start window and qualification starts. -/
def execFeedWindowEntry (f : Feed) (mv : BitVec 16) (s : State) : Host.Outcome State Fault Refusal :=
  .next (settle (feedWindowEntry s f mv.toNat))

/-- FEED_QUALIFIED (R559): After 10 ms in the window the gate ramps in START mode. -/
def execFeedQualified (f : Feed) (s : State) : Host.Outcome State Fault Refusal :=
  .next (settle (feedQualified s f))

/-- FEED_GATE_FULL (R559): The gate reaches full enhancement and the 1 ms qualification interval starts. -/
def execFeedGateFull (f : Feed) (limiting : Bool) (s : State) : Host.Outcome State Fault Refusal :=
  .next (settle (feedGateFull s f limiting))

/-- FEED_POWER_GOOD (R559): The interval ends with the fault timer idle, so the feed is ON in NORMAL mode. -/
def execFeedPowerGood (f : Feed) (s : State) : Host.Outcome State Fault Refusal :=
  .next (settle (feedPowerGood s f))

/-- START_TIMER_TRIP (R560): The START fault timer reaches startup_timer_ms and the feed trips. -/
def execStartTimerTrip (f : Feed) (s : State) : Host.Outcome State Fault Refusal :=
  .next (settle (startTimerTrip s f))

/-- BREAKER_SAMPLE (R564): Each 1 µs current sample updates the curve counters, which may trip the feed by curve or fast trip.
-/
def execBreakerSample (f : Feed) (ma : BitVec 17) (s : State) : Host.Outcome State Fault Refusal :=
  .next (settle (breakerSample s f ma.toNat))

/-- FEED_UNDERVOLT (R555): An ON feed falls below the undervoltage threshold and turns off. -/
def execFeedUndervolt (f : Feed) (mv : BitVec 16) (s : State) : Host.Outcome State Fault Refusal :=
  .next (settle (offCheck (feedUndervolt s f mv.toNat)))

/-- FEED_OVERVOLT (R555): An ON feed rises above the overvoltage threshold and turns off. -/
def execFeedOvervolt (f : Feed) (mv : BitVec 16) (s : State) : Host.Outcome State Fault Refusal :=
  .next (settle (feedOvervolt s f mv.toNat))

/-- RETRY_WAIT_EXPIRY (R568): A tripped feed's retry interval ends and it restarts in START mode. -/
def execRetryWaitExpiry (f : Feed) (s : State) : Host.Outcome State Fault Refusal :=
  .next (settle (retryWaitExpiry s f))

/-- TRIP_COUNT_RESET (R568): A feed ON for 60 s has its trip count reset. -/
def execTripCountReset (f : Feed) (s : State) : Host.Outcome State Fault Refusal :=
  .next (settle (tripCountReset s f))

/-- FEED_RELEASE (R569): PWR_CTRL.release_a or release_b releases a LATCHED feed. -/
def execFeedRelease (f : Feed) (s : State) : Host.Outcome State Fault Refusal :=
  .next (settle (feedRelease s f))

/-- FEED_TEST (R574): PWR_CTRL.test_a or test_b turns a feed off for 10 ms. -/
def execFeedTest (f : Feed) (s : State) : Host.Outcome State Fault Refusal :=
  .next (settle (feedTest s f))

/-- FEED_TEST_END (R574): The 10 ms test ends and the feed restarts. -/
def execFeedTestEnd (f : Feed) (s : State) : Host.Outcome State Fault Refusal :=
  .next (settle (feedTestEnd s f))

/-- ORING_REVERSE (R571): Reverse current turns an ORing FET off. -/
def execOringReverse (f : Feed) (s : State) : Host.Outcome State Fault Refusal :=
  .next (settle (oringReverse s f))

/-- TELEMETRY_WINDOW (R575): A 100 µs telemetry window ends and the averages are updated. -/
def execTelemetryWindow (f : Feed) (mv ma power10mw : BitVec 16) (energyMj : BitVec 48)
    (s : State) : Host.Outcome State Fault Refusal :=
  .next (settle (telemetryWindow s f mv ma power10mw energyMj))

/-- PEAK_READ (R580): A read of PWR_TELEM.peak_10ma returns the peak sample and clears it. -/
def execPeakRead (f : Feed) (s : State) : Host.Outcome State Fault Refusal :=
  .next (settle (peakRead s f))

/-- ECC_LAST_READ (R472): A read of ECC_LAST returns the last uncorrectable error and clears it. -/
def execEccLastRead (s : State) : Host.Outcome State Fault Refusal :=
  .next (settle (eccLastRead s))

/-- START_WINDOW_EXIT (R559): A feed in QUALIFY leaves the start window before 10 ms and returns to step 1. -/
def execStartWindowExit (f : Feed) (mv : BitVec 16) (s : State) : Host.Outcome State Fault Refusal :=
  .next (settle (startWindowExit s f mv.toNat))

end Sys2Proof.Machine
end

