-- ==== Sys2Proof/Machine/HostMem.lean ====
section
/-! DEFINITION. Host memory and the memory controllers (12, 13, 14): the meaning of each row of the table. A meaning is the
effect its unit has (the operation it names), then what follows in the same step (`settle`, or `work` where waiting work can go
on). -/

namespace Sys2Proof.Machine

/-- MEM_RD (R17): A CXL.mem read from the host is decoded, labelled, translated, sampled, ordered by the directory and served by
tier. -/
def execMemRd (hpa : BitVec 64) (mv : MetaVal) (req : BitVec 16) (s : State) : Host.Outcome State Fault Refusal :=
  .next (work (memRdBody s hpa.toNat mv req))

/-- MEM_WR (R21): A CXL.mem write from the host is decoded, every other copy is invalidated, the write is committed by tier, and
the completion is sent. -/
def execMemWr (hpa : BitVec 64) (mv : MetaVal) (req : BitVec 16) (data : Line) (mask : BitVec 64)
    (poison : Bool) (s : State) : Host.Outcome State Fault Refusal :=
  .next (work (memWrBody s hpa.toNat mv req data mask poison))

/-- MEM_DATA_RETURN (R429): Read data returns from a DDR-5 or RLD controller and is corrected, decrypted, tag-checked and
decompressed, then delivered. -/
def execMemDataReturn (ctrl : Fin 16) (res : ReturnResult) (s : State) : Host.Outcome State Fault Refusal :=
  .next (work (memDataReturnBody s ctrl.val res))

/-- BUCKET_LEAK (R455): Every leak_s seconds each corrected-error bucket falls by 1. -/
def execBucketLeak (s : State) : Host.Outcome State Fault Refusal :=
  .next (settle (bucketLeak s))

/-- MEM_ADMIT (R428): The label scheduler admits a read or write into a free controller queue entry. -/
def execMemAdmit (ctrl : Fin 16) (write : Bool) (s : State) : Host.Outcome State Fault Refusal :=
  .next (work (memAdmitBody s ctrl.val write))

/-- MEM_ISSUE (R429): The controller issues the next DRAM read or write by urgency, row hit and age, and drains writes by the
watermarks. -/
def execMemIssue (ctrl : Fin 16) (blocked : List Nat) (s : State) : Host.Outcome State Fault Refusal :=
  .next (settle (memIssue s ctrl.val blocked))

/-- REFRESH_DUE (R433): A rank's refresh interval expires, and the refresh is issued or postponed. -/
def execRefreshDue (ctrl : Fin 16) (rank : Fin 4) (s : State) : Host.Outcome State Fault Refusal :=
  .next (settle (refreshDue s ctrl.val rank.val))

/-- MR4_POLL (R433): Mode register 4 is polled every 1 ms, and the refresh rate follows it. -/
def execMr4Poll (chan : Fin 12) (report : Mr4) (s : State) : Host.Outcome State Fault Refusal :=
  .next (work (mr4Poll s chan.val report))

/-- POWER_DOWN_ENTRY (R434): A rank with no command for pd_idle_ns enters active power-down. -/
def execPowerDownEntry (ctrl : Fin 16) (rank : Fin 4) (s : State) : Host.Outcome State Fault Refusal :=
  .next (settle (powerDownEntry s ctrl.val rank.val))

/-- SELF_REFRESH_ENTRY (R434): A channel idle for sr_idle_us enters self-refresh. -/
def execSelfRefreshEntry (ctrl : Fin 16) (s : State) : Host.Outcome State Fault Refusal :=
  .next (settle (selfRefreshEntry s ctrl.val))

/-- SCRUB_LINE (R461): The paced scrubber reads one line and writes back a corrected burst or the MEDIA marker. -/
def execScrubLine (ctrl : Fin 16) (line : BitVec 42) (error : BurstError) (s : State) : Host.Outcome State Fault Refusal :=
  .next (work (clocked s (fun s => scrubLineBody s ctrl.val line.toNat error)))

end Sys2Proof.Machine
end

