-- ==== Sys2Proof/Machine/Images.lean ====
section
/-! DEFINITION. Image staging and commit (02): the meaning of each row of the table. A meaning is the effect its unit has (the
operation it names), then what follows in the same step (`settle`, or `work` where waiting work can go on). -/

namespace Sys2Proof.Machine

/-- IMAGE_STAGE_BEGIN (R57): A staging session opens for an image of the declared length, and the inactive slot is emptied. -/
def execImageStageBegin (payload : List Byte) (s : State) : Host.Outcome State Fault Refusal :=
  .next (settle (mailbox s true (fun s => imageStageBegin s payload)))

/-- IMAGE_STAGE_DATA (R58): A range of image bytes is written into the staging slot. -/
def execImageStageData (payload : List Byte) (s : State) : Host.Outcome State Fault Refusal :=
  .next (settle (mailbox s true (fun s => imageStageData s payload)))

/-- IMAGE_STAGE_COMMIT (R61): The staged image enters VERIFYING, and verification, the slot-state write and the commit point
follow. -/
def execImageStageCommit (payload : List Byte) (s : State) : Host.Outcome State Fault Refusal :=
  .next (settle (mailbox s true (fun s => imageStageCommit s payload)))

/-- IMAGE_STAGE_ABORT (R59): The staging session is ended, or a REJECTED state returns to IDLE. -/
def execImageStageAbort (payload : List Byte) (s : State) : Host.Outcome State Fault Refusal :=
  .next (settle (mailbox s true (fun s => imageStageAbort s payload)))

/-- IMAGE_VERIFY_DONE (R61): The hashing, signature and field checks of a staged commit end, with a refusal or the slot-state
write. -/
def execImageVerifyDone (s : State) : Host.Outcome State Fault Refusal :=
  .next (work (imageVerifyDone s))

/-- COMMIT_POINT (R60): The COMMITTED slot-state write completes, live sections switch, refold starts and restart sections are
marked pending. -/
def execCommitPoint (s : State) : Host.Outcome State Fault Refusal :=
  .next (work (feedsAgree (commitPoint s)))

end Sys2Proof.Machine
end

