-- ==== Sys2Proof/Machine/Links.lean ====
section
/-! DEFINITION. Links and end-to-end delivery (10): the meaning of each row of the table. A meaning is the effect its unit has
(the operation it names), then what follows in the same step (`settle`, or `work` where waiting work can go on). -/

namespace Sys2Proof.Machine

/-- FRAME_SEND (R391): Link egress sends a frame built from eligible messages by the schedulers. -/
def execFrameSend (l : LinkNo) (s : State) : Host.Outcome State Fault Refusal :=
  .next (work (frameSendBody s l.toNat))

/-- DATA_FRAME (R363): A DATA frame is received and accepted, rediscarded or dropped by sequence, and its messages are
delivered. -/
def execDataFrame (l : LinkNo) (bits : BitVec 2016) (s : State) : Host.Outcome State Fault Refusal :=
  .next (work (receiveFrame s l.toNat bits))

/-- BYPASS_FRAME (R363): A BYPASS frame of CTRL messages is received and sequenced. -/
def execBypassFrame (l : LinkNo) (bits : BitVec 2016) (s : State) : Host.Outcome State Fault Refusal :=
  .next (work (receiveFrame s l.toNat bits))

/-- ACK_FRAME (R364): An ACK frame is received and frees acknowledged replay entries. -/
def execAckFrame (l : LinkNo) (bits : BitVec 2016) (s : State) : Host.Outcome State Fault Refusal :=
  .next (work (receiveFrame s l.toNat bits))

/-- TRAIN_FRAME (R351): A TRAIN frame is received during training, or one in UP starts a retrain. -/
def execTrainFrame (l : LinkNo) (body : TrainBody) (s : State) : Host.Outcome State Fault Refusal :=
  .next (work (trainBody s l.toNat body))

/-- REPLAY_TIMER_EXPIRY (R365): The replay timer expires and every unacknowledged frame is resent. -/
def execReplayTimerExpiry (l : LinkNo) (s : State) : Host.Outcome State Fault Refusal :=
  .next (work (replayExpiry s l.toNat))

/-- ACK_ONLY_TIMER (R364): No frame has gone for 128 ns after an accept, so an ACK frame is sent. -/
def execAckOnlyTimer (l : LinkNo) (s : State) : Host.Outcome State Fault Refusal :=
  .next (settle (ackOnly s l.toNat))

/-- CREDIT_RETURN_TIMER (R362): Credit returns are pending and no DATA or BYPASS frame has gone for 128 ns, so a DATA frame with
used 0 is sent. -/
def execCreditReturnTimer (l : LinkNo) (s : State) : Host.Outcome State Fault Refusal :=
  .next (settle (creditReturn s l.toNat))

/-- LOSS_OF_SIGNAL (R366): A link loses signal or alignment, or sees bursts of uncorrectable codewords, and enters RETRAIN. -/
def execLossOfSignal (l : LinkNo) (kind : LossKind) (s : State) : Host.Outcome State Fault Refusal :=
  .next (work (lossOfSignal s l.toNat kind))

/-- LIGHT_PRESENT (R350): Light is present at both ends and full training of a link starts. -/
def execLightPresent (l : LinkNo) (s : State) : Host.Outcome State Fault Refusal :=
  .next (work (lightPresent s l.toNat))

/-- LINK_TRAINING_DONE (R350): Training completes to UP, or fails after 40 ms. -/
def execLinkTrainingDone (l : LinkNo) (ok : Bool) (s : State) : Host.Outcome State Fault Refusal :=
  .next (work (joinsLeave (trainingDone s l.toNat ok)))

/-- RETRAIN_COMPLETE (R352): A warm retrain ends, resuming the link or restarting its session. -/
def execRetrainComplete (l : LinkNo) (dropUnits : BitVec 4) (s : State) : Host.Outcome State Fault Refusal :=
  .next (work (retrainDone s l.toNat dropUnits.toNat))

/-- LINK_GIVE_UP (R368): Retraining outlasts link_giveup_ms: the replay buffer is discarded and transactions are reissued. -/
def execLinkGiveUp (l : LinkNo) (s : State) : Host.Outcome State Fault Refusal :=
  .next (work (giveUp s l.toNat))

/-- GIVEN_UP_RETRY (R349): A GIVEN_UP link retries full training every 100 ms. -/
def execGivenUpRetry (l : LinkNo) (s : State) : Host.Outcome State Fault Refusal :=
  .next (work (givenUpRetry s l.toNat))

/-- LINK_CLEAR (R381): LNK_CTRL.clear clears the link error counters. -/
def execLinkClear (l : LinkNo) (s : State) : Host.Outcome State Fault Refusal :=
  .next (settle (linkClear s l.toNat))

/-- LINK_HOLD (R381): A write of LNK_CTRL.hold holds the link dark, or releases it into training. -/
def execLinkHold (l : LinkNo) (hold : Bool) (s : State) : Host.Outcome State Fault Refusal :=
  .next (work (linkHold s l.toNat hold))

/-- LINK_RETRAIN (R381): LNK_CTRL.retrain releases HELD or GIVEN_UP into full training. -/
def execLinkRetrain (l : LinkNo) (s : State) : Host.Outcome State Fault Refusal :=
  .next (work (linkRetrain s l.toNat))

/-- E2E_TIMEOUT (R373): A transaction's end-to-end timeout expires and it is reissued with incarnation + 1. -/
def execE2eTimeout (queue : BitVec 4) (idx : BitVec 14) (s : State) : Host.Outcome State Fault Refusal :=
  .next (work (e2eTimeoutBody s (queue.toNat * 16384 + idx.toNat)))

/-- TAG_QUARANTINE_END (R374): A quarantined end-to-end tag becomes free 4 timeouts after completion. -/
def execTagQuarantineEnd (queue : BitVec 4) (idx : BitVec 14) (s : State) : Host.Outcome State Fault Refusal :=
  .next (work (quarantineEnd s (queue.toNat * 16384 + idx.toNat)))

/-- CRT_ENTRY_EXPIRY (R178): A completed-request entry passes its retention and may be dropped. -/
def execCrtEntryExpiry (key : BitVec 30) (s : State) : Host.Outcome State Fault Refusal :=
  .next (work (crtExpire s key.toNat))

/-- FRAME_BAD_CRC (R348): A frame with a bad CRC, or one overlapping an uncorrectable codeword, is discarded and counted. -/
def execFrameBadCrc (l : LinkNo) (uncorrectable : Bool) (s : State) : Host.Outcome State Fault Refusal :=
  .next (settle (frameBadCrc s l.toNat uncorrectable))

end Sys2Proof.Machine
end

