-- ==== Sys2Proof/Machine/Mailbox.lean ====
section
/-! DEFINITION. The CXL mailbox (14): the meaning of each row of the table. A meaning is the effect its unit has (the operation
it names), then what follows in the same step (`settle`, or `work` where waiting work can go on). -/

namespace Sys2Proof.Machine

/-- GET_EVENT_RECORDS (R481): Mailbox: the event records are returned. -/
def execGetEventRecords (log : BitVec 8) (s : State) : Host.Outcome State Fault Refusal :=
  .next (settle (mailbox s true (fun s => getEventRecords s log.toNat)))

/-- CLEAR_EVENT_RECORDS (R481): Mailbox: event records are cleared. -/
def execClearEventRecords (log : BitVec 8) (all : Bool) (handles : List (BitVec 16))
    (s : State) : Host.Outcome State Fault Refusal :=
  .next (settle (mailbox s true (fun s => clearEventRecords s log.toNat all handles)))

/-- GET_EVENT_INTERRUPT_POLICY (R481): Mailbox: the event interrupt policy is returned. -/
def execGetEventInterruptPolicy (s : State) : Host.Outcome State Fault Refusal :=
  .next (settle (mailbox s true getEventInterruptPolicy))

/-- SET_EVENT_INTERRUPT_POLICY (R481): Mailbox: the event interrupt policy is set. -/
def execSetEventInterruptPolicy (policy : BitVec 40) (s : State) : Host.Outcome State Fault Refusal :=
  .next (settle (mailbox s true (fun s => setEventInterruptPolicy s policy)))

/-- GET_FW_INFO (R481): Mailbox: the firmware slot information is returned. -/
def execGetFwInfo (s : State) : Host.Outcome State Fault Refusal :=
  .next (settle (mailbox s true getFwInfo))

/-- TRANSFER_FW (R481): Mailbox: firmware is written to the inactive slot through the secure world. -/
def execTransferFw (action : BitVec 8) (slot : BitVec 8) (offset : BitVec 32) (data : List Byte)
    (s : State) : Host.Outcome State Fault Refusal :=
  .next (settle (mailbox s true (fun s => transferFw s action.toNat slot.toNat offset.toNat data)))

/-- ACTIVATE_FW (R510): Mailbox: a firmware slot is activated, taking effect at the next device reset. -/
def execActivateFw (action : BitVec 8) (slot : BitVec 8) (s : State) : Host.Outcome State Fault Refusal :=
  .next (settle (mailbox s true (fun s => activateFw s action.toNat slot.toNat)))

/-- GET_TIMESTAMP (R481): Mailbox: the timestamp is returned. -/
def execGetTimestamp (s : State) : Host.Outcome State Fault Refusal :=
  .next (settle (mailbox s false getTimestamp))

/-- SET_TIMESTAMP (R481): Mailbox: the timestamp used for event records is set. -/
def execSetTimestamp (value : BitVec 64) (s : State) : Host.Outcome State Fault Refusal :=
  .next (settle (mailbox s false (fun s => setTimestamp s value)))

/-- GET_SUPPORTED_LOGS (R481): Mailbox: the supported logs are returned. -/
def execGetSupportedLogs (s : State) : Host.Outcome State Fault Refusal :=
  .next (settle (mailbox s false getSupportedLogs))

/-- GET_LOG (R481): Mailbox: the Command Effects Log is returned. -/
def execGetLog (cel : Bool) (offset : BitVec 32) (length : BitVec 32) (s : State) : Host.Outcome State Fault Refusal :=
  .next (settle (mailbox s false (fun s => getLog s cel offset.toNat length.toNat)))

/-- IDENTIFY_MEMORY_DEVICE (R481): Mailbox: the memory device identity is returned. -/
def execIdentifyMemoryDevice (s : State) : Host.Outcome State Fault Refusal :=
  .next (settle (mailbox s false identifyMemoryDevice))

/-- GET_POISON_LIST (R465): Mailbox: the poison list is built from the masks in DPA order. -/
def execGetPoisonList (dpa : BitVec 64) (count : BitVec 64) (s : State) : Host.Outcome State Fault Refusal :=
  .next (settle (mailbox s false (fun s => getPoisonList s dpa.toNat count.toNat)))

/-- INJECT_POISON (R464): Mailbox: a line's poison is set as a poisoned host write would set it. -/
def execInjectPoison (dpa : BitVec 64) (s : State) : Host.Outcome State Fault Refusal :=
  .next (work (mailbox s false (fun s => injectPoison s dpa.toNat)))

/-- CLEAR_POISON (R467): Mailbox: a whole-line write clears a line's poison. -/
def execClearPoison (dpa : BitVec 64) (data : Line) (s : State) : Host.Outcome State Fault Refusal :=
  .next (work (mailbox s false (fun s => clearPoison s dpa.toNat data)))

/-- GET_DYNAMIC_CAPACITY_CONFIGURATION (R72): Mailbox: the regions are reported. -/
def execGetDynamicCapacityConfiguration (count : BitVec 8) (start : BitVec 8) (s : State) : Host.Outcome State Fault Refusal :=
  .next (settle (mailbox s false (fun s => getDcConfiguration s count.toNat start.toNat)))

/-- GET_DYNAMIC_CAPACITY_EXTENT_LIST (R98): Mailbox: the accepted extents are returned. -/
def execGetDynamicCapacityExtentList (count : BitVec 32) (start : BitVec 32) (s : State) : Host.Outcome State Fault Refusal :=
  .next (settle (mailbox s false (fun s => getDcExtentList s count.toNat start.toNat)))

/-- MAILBOX_UNSUPPORTED (R481): An unsupported mailbox opcode returns Unsupported. -/
def execMailboxUnsupported (_opcode : BitVec 16) (s : State) : Host.Outcome State Fault Refusal :=
  .next (settle (mailbox s false mailboxUnsupported))

end Sys2Proof.Machine
end

