-- ==== Sys2Proof/Machine/Placing.lean ====
section
/-! DEFINITION. Placement, migration and the journal (04, 05): the meaning of each row of the table. A meaning is the effect its
unit has (the operation it names), then what follows in the same step (`settle`, or `work` where waiting work can go on). -/

namespace Sys2Proof.Machine

/-- EPOCH_START (R109): A new heat epoch starts after epoch_ms or at the end of the previous pass, whichever is later. -/
def execEpochStart (s : State) : Host.Outcome State Fault Refusal :=
  .next (work (engineWork s (fun s => epochStart s)))

/-- WALKER_PAGE (R109): The decay walker halves one page's heat byte and posts candidates or ledger entries. -/
def execWalkerPage (p : PageNo) (s : State) : Host.Outcome State Fault Refusal :=
  .next (work (engineWork s (fun s => walkerPage s p.toNat)))

/-- BUCKET_REFILL (R136): The local and fabric migration token buckets refill every 1 ms. -/
def execBucketRefill (s : State) : Host.Outcome State Fault Refusal :=
  .next (settle (clocked s bucketRefill))

/-- MIGRATION_START (R152): Chard opens a migration: it draws tokens, reserves the destination and issues MIG_OPEN. -/
def execMigrationStart (kind : MigKind) (p : PageNo) (s : State) : Host.Outcome State Fault Refusal :=
  .next (work (engineWork s (fun s => migrationStart s kind p.toNat)))

/-- MIGRATION_PASS_END (R152): A copy pass ends, the dirty mask is read and cleared, and another pass or the freeze follows. -/
def execMigrationPassEnd (p : PageNo) (bad : PassErrors) (s : State) : Host.Outcome State Fault Refusal :=
  .next (work (engineWork s (fun s => passEndBody s p.toNat bad.lines (bad.decs.map (fun x => (x.1.val, x.2))))))

/-- FREEZE_TIMEOUT (R154): A freeze reaches 2 µs without a durable MIG_COMMIT and resumes at step 4, or aborts after the fourth
failure. -/
def execFreezeTimeout (p : PageNo) (s : State) : Host.Outcome State Fault Refusal :=
  .next (work (engineWork s (fun s => afterFreeze s (freezeTimeout s p.toNat) p.toNat)))

/-- MIGRATION_COMMIT (R152): MIG_COMMIT becomes durable, the descriptor switches, VERS rises and the source is freed. -/
def execMigrationCommit (p : PageNo) (s : State) : Host.Outcome State Fault Refusal :=
  .next (work (engineWork s (fun s => afterFreeze s (migrationCommit s p.toNat) p.toNat)))

/-- RESERVE_WAIT_TIMEOUT (R127): A write that has waited 10 ms for space sets reserve_state 3 and raises event 0x1E6. -/
def execReserveWaitTimeout (s : State) : Host.Outcome State Fault Refusal :=
  .next (settle (reserveWaitTimeout s))

/-- WAITING_WRITE_RESUME (R127): A write held for a frame or pods proceeds once reclaim frees space. -/
def execWaitingWriteResume (s : State) : Host.Outcome State Fault Refusal :=
  .next (work s)

/-- LEASE_WAIT_TIMEOUT (R132): No holder has granted a lease within 1 s, and event 0x1E8 is raised. -/
def execLeaseWaitTimeout (s : State) : Host.Outcome State Fault Refusal :=
  .next (settle (leaseWaitTimeout s))

/-- CHECKPOINT (R163): A ring writes a CHECKPOINT after 65,536 records, or 10 ms after the first record that follows the last
one. -/
def execCheckpoint (ring : Fin 2) (s : State) : Host.Outcome State Fault Refusal :=
  .next (settle (checkpointRing s ring.val))

/-- TRANSLATION_WRITEBACK (R92): The background cleaner writes back a translation-cache line that is old or far behind the
journal. -/
def execTranslationWriteback (quad : BitVec 34) (s : State) : Host.Outcome State Fault Refusal :=
  .next (settle (translationWriteback s quad.toNat))

/-- NEAR_CACHE_EVICTION (R663): A near-cache block is evicted: a dirty block is recompressed and rewritten, and a requester
sends Evict or WbDirty per line. -/
def execNearCacheEviction (owner : Node) (block : BitVec 38) (s : State) : Host.Outcome State Fault Refusal :=
  .next (work (nearEviction s owner.toNat block.toNat))

/-- SPILL_COPY_BUILT (R166): The spill copy of a journal ring whose stack was fenced is complete, which completes the stack's
re-protection with the directory rebuild. -/
def execSpillCopyBuilt (ring : Fin 2) (s : State) : Host.Outcome State Fault Refusal :=
  .next (work (spillCopyBuilt s ring.val))

end Sys2Proof.Machine
end

