-- ==== Sys2Proof/Machine/Regulate.lean ====
section
/-! DEFINITION. Regulation and memory-controller registers (11, 12): the meaning of each row of the table. A meaning is the
effect its unit has (the operation it names), then what follows in the same step (`settle`, or `work` where waiting work can go
on). -/

namespace Sys2Proof.Machine

/-- SHAPER_REFILL (R400): Every 10 ns the shaper and policer buckets gain tokens and release waiting items. -/
def execShaperRefill (s : State) : Host.Outcome State Fault Refusal :=
  .next (work (clocked s shaperRefill))

/-- SHAPE_WRITE (R401): A QOS_SHAPE write changes a shaper's rate or burst, with the bucket rules. -/
def execShapeWrite (label : Lbl) (value : Word) (s : State) : Host.Outcome State Fault Refusal :=
  .next (work (shapeWrite s label.toNat value))

/-- POLICE_WRITE (R416): A QOS_POLICE write changes the policer rates. -/
def execPoliceWrite (label : Lbl) (value : Word) (s : State) : Host.Outcome State Fault Refusal :=
  .next (settle (policeWrite s label.toNat value))

/-- FEEDBACK_SAMPLE (R406): Every 1 µs Q is sampled, Qs smoothed and the feedback level and DevLoad derived. -/
def execFeedbackSample (s : State) : Host.Outcome State Fault Refusal :=
  .next (work (clocked s feedbackSample))

/-- SCALE_ADJUST (R407): Every 10 µs each label's injection scale is adjusted. -/
def execScaleAdjust (s : State) : Host.Outcome State Fault Refusal :=
  .next (work (clocked s scaleAdjust))

/-- MEM_SCHED_WRITE (R447): A MEM_SCHED write sets the drain watermarks, or is ignored as a whole. -/
def execMemSchedWrite (ctrl : Fin 16) (value : Word) (s : State) : Host.Outcome State Fault Refusal :=
  .next (settle (memSchedWrite s ctrl.val value))

/-- MEM_TRN_START (R450): A training-helper run starts, or is refused. -/
def execMemTrnStart (chan : Fin 12) (s : State) : Host.Outcome State Fault Refusal :=
  .next (settle (trnStart s chan.val))

/-- MEM_TRN_RUN_END (R450): A training run ends and records failing bursts and lanes. -/
def execMemTrnRunEnd (chan : Fin 12) (failed : BitVec 16) (lanes0 lanes1 : BitVec 40)
    (s : State) : Host.Outcome State Fault Refusal :=
  .next (settle (trnEnd s chan.val failed lanes0 lanes1))

/-- PMIC_FAULT (R444): A PMIC reports a fault and the channel is fenced. -/
def execPmicFault (chan : Fin 12) (s : State) : Host.Outcome State Fault Refusal :=
  .next (work (pmicFault s chan.val))

end Sys2Proof.Machine
end

