-- ==== Sys2Proof/Machine/Resets.lean ====
section
/-! DEFINITION. The resets (01, 10, 14, 19): the meaning of each row of the table. A meaning is the effect its unit has (the
operation it names), then what follows in the same step (`settle`, or `work` where waiting work can go on). -/

namespace Sys2Proof.Machine

/-- POWER_ON_RESET (R11): VIN_A, VIN_B and VAUX all fall below their reset thresholds and everything is reset, the Radish state
and the S5 latch included. -/
def execPowerOnReset (s : State) : Host.Outcome State Fault Refusal :=
  .next (settle (powerOnResetBody s))

/-- DEVICE_RESET (R11): A device reset resets the engines, controllers, host interface and links, and keeps DRAM and RLD in
self-refresh under Radish custody. -/
def execDeviceReset (cause : BitVec 4) (s : State) : Host.Outcome State Fault Refusal :=
  .next (settle (deviceResetBody s cause))

/-- HOST_CONVENTIONAL_RESET (R498): PERST#, a hot reset or a link disable resets the PCIe link, configuration space and all CXL
state. -/
def execHostConventionalReset (kind : HostResetKind) (s : State) : Host.Outcome State Fault Refusal :=
  .next (work (hostConventionalResetBody s kind))

/-- CXL_RESET (R498): Initiate CXL Reset resets only the host-facing CXL state, within 100 ms. -/
def execCxlReset (s : State) : Host.Outcome State Fault Refusal :=
  .next (work (cxlResetBody s))

/-- LINK_RESET (R366): A link reset sends one Dexex link into a warm retrain and keeps its replay buffer. -/
def execLinkReset (l : LinkNo) (s : State) : Host.Outcome State Fault Refusal :=
  .next (settle (linkReset s l.toNat))

/-- PERST_FILTERED (R651): A PERST# level that has been stable for 10 µs is registered. -/
def execPerstFiltered (asserted : Bool) (s : State) : Host.Outcome State Fault Refusal :=
  .next (settle (perstFilteredBody s asserted))

end Sys2Proof.Machine
end

