-- ==== Sys2Proof/Machine/Start.lean ====
section
/-! DEFINITION. Start-up (19): the meaning of each row of the table. A meaning is the effect its unit has (the operation it
names), then what follows in the same step (`settle`, or `work` where waiting work can go on). -/

namespace Sys2Proof.Machine

/-- BOOT_STEP_END (R605): A boot step ends, its entry is recorded, and dependent steps start or the failure handling runs. -/
def execBootStepEnd (step : BitVec 8) (report : StepReport) (buddy : Option BuddyReport)
    (s : State) : Host.Outcome State Fault Refusal :=
  .next (work (feedsAgree (bootStepEnd s step.toNat report buddy)))

/-- ACTIVE_LATE (R607): Memory Active has not been reached 16 s after the start. -/
def execActiveLate (s : State) : Host.Outcome State Fault Refusal :=
  .next (settle (activeLate s))

/-- BOOT_RESET (R625): BOOT_CTRL.reset starts a device reset with start cause 5. -/
def execBootReset (s : State) : Host.Outcome State Fault Refusal :=
  .next (settle (bootReset s))

/-- BOOT_RETRY (R613): BOOT_CTRL.retry leaves a halt through a device reset. -/
def execBootRetry (s : State) : Host.Outcome State Fault Refusal :=
  .next (settle (bootRetry s))

/-- CLEAR_ALT (R610): BOOT_CTRL.clear_alt makes the next start try the primaries again. -/
def execClearAlt (s : State) : Host.Outcome State Fault Refusal :=
  .next (settle (clearAlt s))

end Sys2Proof.Machine
end

