-- ==== Sys2Proof/Machine/World.lean ====
section
/-! DEFINITION. The secure world (15): the meaning of each row of the table. A meaning is the effect its unit has (the operation
it names), then what follows in the same step (`settle`, or `work` where waiting work can go on). -/

namespace Sys2Proof.Machine

/-- CHALLENGE (R523): SEC: a 32-byte nonce is issued. -/
def execChallenge (input : List Byte) (s : State) : Host.Outcome State Fault Refusal :=
  .next (settle (secChallenge s input))

/-- ENROL (R513): SEC: an owner key is enrolled in the next fuse slot. -/
def execEnrol (input : List Byte) (s : State) : Host.Outcome State Fault Refusal :=
  .next (settle (secEnrol s input))

/-- RELEASE (R514): SEC: the owner is released, and owner keys are destroyed. -/
def execRelease (input : List Byte) (s : State) : Host.Outcome State Fault Refusal :=
  .next (settle (secRelease s input))

/-- KEY_SUPPLY (R519): SEC: owner-wrapped keys for a key_source 2 domain are delivered. -/
def execKeySupply (input : List Byte) (s : State) : Host.Outcome State Fault Refusal :=
  .next (settle (secKeySupply s input))

/-- TRANSPORT_KEY (R519): SEC: the signed transport public key is returned. -/
def execTransportKey (input : List Byte) (s : State) : Host.Outcome State Fault Refusal :=
  .next (settle (secTransportKey s input))

/-- SVN_RAISE (R511): SEC: a fused SVN floor is raised. -/
def execSvnRaise (input : List Byte) (s : State) : Host.Outcome State Fault Refusal :=
  .next (settle (secSvnRaise s input))

/-- BUDDY_PAIR (R520): SEC: a pair key and the domain keys are sent to the buddy in envelopes. -/
def execBuddyPair (input : List Byte) (s : State) : Host.Outcome State Fault Refusal :=
  .next (settle (secBuddyPair s input))

/-- INFO (R523): SEC: the owner digest, slots used and pairing state are returned. -/
def execInfo (input : List Byte) (s : State) : Host.Outcome State Fault Refusal :=
  .next (settle (secInfo s input))

/-- SEC_UNKNOWN_OPCODE (R523): SEC: an unknown opcode completes INVALID. -/
def execSecUnknownOpcode (opcode : BitVec 8) (s : State) : Host.Outcome State Fault Refusal :=
  .next (settle (secUnknown s opcode.toNat))

/-- ACCESS_REFUSED (R505): A normal-world access to a secure resource is refused. -/
def execAccessRefused (read : Bool) (s : State) : Host.Outcome State Fault Refusal :=
  .next (settle (accessRefused s read))

/-- HOLD_VOTE_SET (R525): The secure world sets a hold vote, opening a window. -/
def execHoldVoteSet (blocks : BitVec 7) (s : State) : Host.Outcome State Fault Refusal :=
  .next (settle (holdVoteSet (serveHeld (dozeUndone s blocks)) blocks))

/-- HOLD_VOTE_CLEAR (R526): The secure world clears a vote, and pending requests on the block are applied. -/
def execHoldVoteClear (blocks : BitVec 7) (s : State) : Host.Outcome State Fault Refusal :=
  .next (settle (dozeResumed (holdVoteClear s blocks)))

/-- POWER_REQUEST (R526): A clock or power change to a voted block is applied, or left PENDING. -/
def execPowerRequest (block : Fin 7) (change : PowerChange) (s : State) : Host.Outcome State Fault Refusal :=
  .next (settle (powerRequest s block.val change))

/-- HOLD_WINDOW_CAP (R527): A secure window reaches 100 ms, so every vote is cleared and pending requests are applied. -/
def execHoldWindowCap (s : State) : Host.Outcome State Fault Refusal :=
  .next (settle (dozeResumed (holdWindowCap s)))

/-- WATCHDOG_RESTART (R529): A secure engine restarts the secure watchdog. -/
def execWatchdogRestart (s : State) : Host.Outcome State Fault Refusal :=
  .next (settle (watchdogRestart s))

/-- SECURE_WATCHDOG (R529): The secure watchdog expires, raising 0x2E1 at S4 and a device reset. -/
def execSecureWatchdog (s : State) : Host.Outcome State Fault Refusal :=
  .next (settle (secureWatchdog s))

/-- GET_VERSION (R516): SPDM: the supported versions are returned. -/
def execGetVersion (s : State) : Host.Outcome State Fault Refusal :=
  .next (settle (spdmServes s spdmVersion))

/-- GET_CAPABILITIES (R516): SPDM: the capabilities are returned. -/
def execGetCapabilities (s : State) : Host.Outcome State Fault Refusal :=
  .next (settle (spdmServes s spdmCapabilities))

/-- NEGOTIATE_ALGORITHMS (R517): SPDM: Falcon-1024 and SHAKE256 are selected. -/
def execNegotiateAlgorithms (extAsym extHash : Bool) (s : State) : Host.Outcome State Fault Refusal :=
  .next (settle (spdmServes s (fun s => spdmNegotiate s extAsym extHash)))

/-- GET_DIGESTS (R516): SPDM: the certificate digests are returned. -/
def execGetDigests (s : State) : Host.Outcome State Fault Refusal :=
  .next (settle (spdmServes s spdmDigests))

/-- GET_CERTIFICATE (R516): SPDM: the slot-0 certificate chain is returned. -/
def execGetCertificate (slot : BitVec 4) (offset length : BitVec 16) (s : State) : Host.Outcome State Fault Refusal :=
  .next (settle (spdmServes s (fun s => spdmCertificate s slot.toNat offset.toNat length.toNat)))

/-- SPDM_CHALLENGE (R516): SPDM: the device is authenticated by CHALLENGE. -/
def execSpdmChallenge (slot : BitVec 4) (nonce : BitVec 256) (s : State) : Host.Outcome State Fault Refusal :=
  .next (settle (spdmServes s (fun s => spdmChallenge s slot.toNat nonce)))

/-- GET_MEASUREMENTS (R518): SPDM: the measurement blocks are returned. -/
def execGetMeasurements (operation : BitVec 8) (signed : Bool) (nonce : BitVec 256)
    (s : State) : Host.Outcome State Fault Refusal :=
  .next (settle (spdmServes s (fun s => spdmMeasurements s operation.toNat signed nonce)))

/-- CHUNK_SEND (R516): SPDM: a message chunk is received. -/
def execChunkSend (handle : BitVec 8) (seq : BitVec 16) (last : Bool) (bytes : List Byte)
    (s : State) : Host.Outcome State Fault Refusal :=
  .next (settle (spdmServes s (fun s => spdmChunkSend s handle seq.toNat last bytes)))

/-- CHUNK_GET (R516): SPDM: a message chunk is returned. -/
def execChunkGet (handle : BitVec 8) (seq : BitVec 16) (s : State) : Host.Outcome State Fault Refusal :=
  .next (settle (spdmServes s (fun s => spdmChunkGet s handle seq.toNat)))

end Sys2Proof.Machine
end

