-- ==== Sys2Proof/Machine/Dispatch.lean ====
section
/-! DEFINITION. The dispatch of every command to its meaning: one arm per row of the table. -/

namespace Sys2Proof.Machine

/-- The effect of a command on everything but the queue. -/
def exec (i : Instr) (s : State) : Host.Outcome State Fault Refusal :=
  match i with
  | .powerOnReset => Sys2Proof.Machine.execPowerOnReset s
  | .deviceReset cause => Sys2Proof.Machine.execDeviceReset cause s
  | .hostConventionalReset kind => Sys2Proof.Machine.execHostConventionalReset kind s
  | .cxlReset => Sys2Proof.Machine.execCxlReset s
  | .linkReset l => Sys2Proof.Machine.execLinkReset l s
  | .perstFiltered asserted => Sys2Proof.Machine.execPerstFiltered asserted s
  | .memRd hpa mv req => Sys2Proof.Machine.execMemRd hpa mv req s
  | .memWr hpa mv req data mask poison => Sys2Proof.Machine.execMemWr hpa mv req data mask poison s
  | .memDataReturn ctrl res => Sys2Proof.Machine.execMemDataReturn ctrl res s
  | .bucketLeak => Sys2Proof.Machine.execBucketLeak s
  | .memAdmit ctrl write => Sys2Proof.Machine.execMemAdmit ctrl write s
  | .memIssue ctrl blocked => Sys2Proof.Machine.execMemIssue ctrl blocked s
  | .refreshDue ctrl rank => Sys2Proof.Machine.execRefreshDue ctrl rank s
  | .mr4Poll chan report => Sys2Proof.Machine.execMr4Poll chan report s
  | .powerDownEntry ctrl rank => Sys2Proof.Machine.execPowerDownEntry ctrl rank s
  | .selfRefreshEntry ctrl => Sys2Proof.Machine.execSelfRefreshEntry ctrl s
  | .scrubLine ctrl line error => Sys2Proof.Machine.execScrubLine ctrl line error s
  | .epochStart => Sys2Proof.Machine.execEpochStart s
  | .walkerPage p => Sys2Proof.Machine.execWalkerPage p s
  | .bucketRefill => Sys2Proof.Machine.execBucketRefill s
  | .migrationStart kind p => Sys2Proof.Machine.execMigrationStart kind p s
  | .migrationPassEnd p bad => Sys2Proof.Machine.execMigrationPassEnd p bad s
  | .freezeTimeout p => Sys2Proof.Machine.execFreezeTimeout p s
  | .migrationCommit p => Sys2Proof.Machine.execMigrationCommit p s
  | .reserveWaitTimeout => Sys2Proof.Machine.execReserveWaitTimeout s
  | .waitingWriteResume => Sys2Proof.Machine.execWaitingWriteResume s
  | .leaseWaitTimeout => Sys2Proof.Machine.execLeaseWaitTimeout s
  | .checkpoint ring => Sys2Proof.Machine.execCheckpoint ring s
  | .translationWriteback quad => Sys2Proof.Machine.execTranslationWriteback quad s
  | .nearCacheEviction owner block => Sys2Proof.Machine.execNearCacheEviction owner block s
  | .compressionResult lane shadowOk => Sys2Proof.Machine.execCompressionResult lane shadowOk s
  | .laneTimeout decompressor lane => Sys2Proof.Machine.execLaneTimeout decompressor lane s
  | .primerRetire slot => Sys2Proof.Machine.execPrimerRetire slot s
  | .imageStageBegin payload => Sys2Proof.Machine.execImageStageBegin payload s
  | .imageStageData payload => Sys2Proof.Machine.execImageStageData payload s
  | .imageStageCommit payload => Sys2Proof.Machine.execImageStageCommit payload s
  | .imageStageAbort payload => Sys2Proof.Machine.execImageStageAbort payload s
  | .imageVerifyDone => Sys2Proof.Machine.execImageVerifyDone s
  | .commitPoint => Sys2Proof.Machine.execCommitPoint s
  | .extentAdd src entry => Sys2Proof.Machine.execExtentAdd src entry s
  | .extentAddBuddyTimeout dpa => Sys2Proof.Machine.execExtentAddBuddyTimeout dpa s
  | .addDynamicCapacityResponse accepted => Sys2Proof.Machine.execAddDynamicCapacityResponse accepted s
  | .releaseDynamicCapacity ranges => Sys2Proof.Machine.execReleaseDynamicCapacity ranges s
  | .releaseResponse dpa => Sys2Proof.Machine.execReleaseResponse dpa s
  | .shareGrant src entry => Sys2Proof.Machine.execShareGrant src entry s
  | .shareRevoke src entry => Sys2Proof.Machine.execShareRevoke src entry s
  | .placeHint src entry => Sys2Proof.Machine.execPlaceHint src entry s
  | .atomic src entry => Sys2Proof.Machine.execAtomic src entry s
  | .keyRotate src entry => Sys2Proof.Machine.execKeyRotate src entry s
  | .keyRotateSwitch domain => Sys2Proof.Machine.execKeyRotateSwitch domain s
  | .primerEval src entry blocks dmaOk => Sys2Proof.Machine.execPrimerEval src entry blocks dmaOk s
  | .queueCreate payload => Sys2Proof.Machine.execQueueCreate payload s
  | .queueDelete payload => Sys2Proof.Machine.execQueueDelete payload s
  | .execEntry payload blocks dmaOk => Sys2Proof.Machine.execExecEntry payload blocks dmaOk s
  | .sqTail qid value entries => Sys2Proof.Machine.execSqTail qid value entries s
  | .cqHead qid value => Sys2Proof.Machine.execCqHead qid value s
  | .commandComplete qid => Sys2Proof.Machine.execCommandComplete qid s
  | .dmaError qid => Sys2Proof.Machine.execDmaError qid s
  | .hdmDecoderCommit index setting => Sys2Proof.Machine.execHdmDecoderCommit index setting s
  | .hostLinkUp speed width => Sys2Proof.Machine.execHostLinkUp speed width s
  | .getEventRecords log => Sys2Proof.Machine.execGetEventRecords log s
  | .clearEventRecords log all handles => Sys2Proof.Machine.execClearEventRecords log all handles s
  | .getEventInterruptPolicy => Sys2Proof.Machine.execGetEventInterruptPolicy s
  | .setEventInterruptPolicy policy => Sys2Proof.Machine.execSetEventInterruptPolicy policy s
  | .getFwInfo => Sys2Proof.Machine.execGetFwInfo s
  | .transferFw action slot offset data => Sys2Proof.Machine.execTransferFw action slot offset data s
  | .activateFw action slot => Sys2Proof.Machine.execActivateFw action slot s
  | .getTimestamp => Sys2Proof.Machine.execGetTimestamp s
  | .setTimestamp value => Sys2Proof.Machine.execSetTimestamp value s
  | .getSupportedLogs => Sys2Proof.Machine.execGetSupportedLogs s
  | .getLog cel offset length => Sys2Proof.Machine.execGetLog cel offset length s
  | .identifyMemoryDevice => Sys2Proof.Machine.execIdentifyMemoryDevice s
  | .getPoisonList dpa count => Sys2Proof.Machine.execGetPoisonList dpa count s
  | .injectPoison dpa => Sys2Proof.Machine.execInjectPoison dpa s
  | .clearPoison dpa data => Sys2Proof.Machine.execClearPoison dpa data s
  | .getDynamicCapacityConfiguration count start => Sys2Proof.Machine.execGetDynamicCapacityConfiguration count start s
  | .getDynamicCapacityExtentList count start => Sys2Proof.Machine.execGetDynamicCapacityExtentList count start s
  | .mailboxUnsupported opcode => Sys2Proof.Machine.execMailboxUnsupported opcode s
  | .biRsp dpa writeback => Sys2Proof.Machine.execBiRsp dpa writeback s
  | .biConflict dpa => Sys2Proof.Machine.execBiConflict dpa s
  | .bisnpTimeout dpa => Sys2Proof.Machine.execBisnpTimeout dpa s
  | .rdShared h line reserved => Sys2Proof.Machine.execRdShared h line reserved s
  | .rdOwn h line reserved => Sys2Proof.Machine.execRdOwn h line reserved s
  | .rdCur h line reserved => Sys2Proof.Machine.execRdCur h line reserved s
  | .wrLine h line reserved keep poison mask data => Sys2Proof.Machine.execWrLine h line reserved keep poison mask data s
  | .atomicFar h line operation size seq floor offset operands => Sys2Proof.Machine.execAtomicFar h line operation size seq floor offset operands s
  | .snpInv tag line scope grantTag => Sys2Proof.Machine.execSnpInv tag line scope grantTag s
  | .snpData tag line => Sys2Proof.Machine.execSnpData tag line s
  | .snpCur tag line => Sys2Proof.Machine.execSnpCur tag line s
  | .data tag src poison contended dirty hostDirty bulk vers pod value => Sys2Proof.Machine.execData tag src poison contended dirty hostDirty bulk vers pod value s
  | .dataOwned tag src poison contended value => Sys2Proof.Machine.execDataOwned tag src poison contended value s
  | .cmp tag src status contended vers => Sys2Proof.Machine.execCmp tag src status contended vers s
  | .nackRetry tag cause hint => Sys2Proof.Machine.execNackRetry tag cause hint s
  | .rspEvictInFlight tag src line => Sys2Proof.Machine.execRspEvictInFlight tag src line s
  | .evictAck tag line => Sys2Proof.Machine.execEvictAck tag line s
  | .evict h line => Sys2Proof.Machine.execEvict h line s
  | .wbDirty h line poison hostDirty value => Sys2Proof.Machine.execWbDirty h line poison hostDirty value s
  | .blkRead h pod count vers => Sys2Proof.Machine.execBlkRead h pod count vers s
  | .blkWrite h pod vers value => Sys2Proof.Machine.execBlkWrite h pod vers value s
  | .blkFree h pod count => Sys2Proof.Machine.execBlkFree h pod count s
  | .mirrorWrite h body => Sys2Proof.Machine.execMirrorWrite h body s
  | .mirrorCtlReserve h extent length2m => Sys2Proof.Machine.execMirrorCtlReserve h extent length2m s
  | .mirrorCtlUnreserve h extent length2m => Sys2Proof.Machine.execMirrorCtlUnreserve h extent length2m s
  | .mirrorCtlFree h extent page count => Sys2Proof.Machine.execMirrorCtlFree h extent page count s
  | .mirrorCtlRead h extent page line lines => Sys2Proof.Machine.execMirrorCtlRead h extent page line lines s
  | .mirrorCtlPage h extent page blen kgen integ raw fingerprint => Sys2Proof.Machine.execMirrorCtlPage h extent page blen kgen integ raw fingerprint s
  | .mirrorPod h extent page index raw value => Sys2Proof.Machine.execMirrorPod h extent page index raw value s
  | .resyncPage => Sys2Proof.Machine.execResyncPage s
  | .ackTimeout line => Sys2Proof.Machine.execAckTimeout line s
  | .nackRetryWaitExpiry queue idx => Sys2Proof.Machine.execNackRetryWaitExpiry queue idx s
  | .reservedHoldTimeout node => Sys2Proof.Machine.execReservedHoldTimeout node s
  | .hostFlushed => Sys2Proof.Machine.execHostFlushed s
  | .predClear => Sys2Proof.Machine.execPredClear s
  | .frameSend l => Sys2Proof.Machine.execFrameSend l s
  | .dataFrame l bits => Sys2Proof.Machine.execDataFrame l bits s
  | .bypassFrame l bits => Sys2Proof.Machine.execBypassFrame l bits s
  | .ackFrame l bits => Sys2Proof.Machine.execAckFrame l bits s
  | .trainFrame l body => Sys2Proof.Machine.execTrainFrame l body s
  | .replayTimerExpiry l => Sys2Proof.Machine.execReplayTimerExpiry l s
  | .ackOnlyTimer l => Sys2Proof.Machine.execAckOnlyTimer l s
  | .creditReturnTimer l => Sys2Proof.Machine.execCreditReturnTimer l s
  | .lossOfSignal l kind => Sys2Proof.Machine.execLossOfSignal l kind s
  | .lightPresent l => Sys2Proof.Machine.execLightPresent l s
  | .linkTrainingDone l ok => Sys2Proof.Machine.execLinkTrainingDone l ok s
  | .retrainComplete l dropUnits => Sys2Proof.Machine.execRetrainComplete l dropUnits s
  | .linkGiveUp l => Sys2Proof.Machine.execLinkGiveUp l s
  | .givenUpRetry l => Sys2Proof.Machine.execGivenUpRetry l s
  | .linkClear l => Sys2Proof.Machine.execLinkClear l s
  | .linkHold l hold => Sys2Proof.Machine.execLinkHold l hold s
  | .linkRetrain l => Sys2Proof.Machine.execLinkRetrain l s
  | .e2eTimeout queue idx => Sys2Proof.Machine.execE2eTimeout queue idx s
  | .tagQuarantineEnd queue idx => Sys2Proof.Machine.execTagQuarantineEnd queue idx s
  | .crtEntryExpiry key => Sys2Proof.Machine.execCrtEntryExpiry key s
  | .heartbeatSend => Sys2Proof.Machine.execHeartbeatSend s
  | .heartbeat l node incarnation state sleepReady resetting => Sys2Proof.Machine.execHeartbeat l node incarnation state sleepReady resetting s
  | .heartbeatSilence node => Sys2Proof.Machine.execHeartbeatSilence node s
  | .routeSuspect src node => Sys2Proof.Machine.execRouteSuspect src node s
  | .isolationTimeout => Sys2Proof.Machine.execIsolationTimeout s
  | .restartGraceExpiry node => Sys2Proof.Machine.execRestartGraceExpiry node s
  | .routeLinkstate f version vector => Sys2Proof.Machine.execRouteLinkstate f version vector s
  | .linkstatePeriodic => Sys2Proof.Machine.execLinkstatePeriodic s
  | .routeMember f rec => Sys2Proof.Machine.execRouteMember f rec s
  | .failoverServe => Sys2Proof.Machine.execFailoverServe s
  | .routeCapacity f lendable => Sys2Proof.Machine.execRouteCapacity f lendable s
  | .capacityPeriodic => Sys2Proof.Machine.execCapacityPeriodic s
  | .routeAlias f failed owner regions serving => Sys2Proof.Machine.execRouteAlias f failed owner regions serving s
  | .leaseFreeTimeout node => Sys2Proof.Machine.execLeaseFreeTimeout node s
  | .joinRequest l node poolId incarnation epoch digest custody => Sys2Proof.Machine.execJoinRequest l node poolId incarnation epoch digest custody s
  | .joinAccept l node state epoch part parts records => Sys2Proof.Machine.execJoinAccept l node state epoch part parts records s
  | .joinRefuse l cause => Sys2Proof.Machine.execJoinRefuse l cause s
  | .joinWait l delayMs => Sys2Proof.Machine.execJoinWait l delayMs s
  | .joinWaitExpiry l => Sys2Proof.Machine.execJoinWaitExpiry l s
  | .joinJudge => Sys2Proof.Machine.execJoinJudge s
  | .joinRetry => Sys2Proof.Machine.execJoinRetry s
  | .rejoin => Sys2Proof.Machine.execRejoin s
  | .leave => Sys2Proof.Machine.execLeave s
  | .leaseRequest src size => Sys2Proof.Machine.execLeaseRequest src size s
  | .leaseGrant src size => Sys2Proof.Machine.execLeaseGrant src size s
  | .leaseDeny src cause => Sys2Proof.Machine.execLeaseDeny src cause s
  | .leaseRecall src size deadlineS => Sys2Proof.Machine.execLeaseRecall src size deadlineS s
  | .leaseReturn src size => Sys2Proof.Machine.execLeaseReturn src size s
  | .leaseDeadline node => Sys2Proof.Machine.execLeaseDeadline node s
  | .sleepPropose => Sys2Proof.Machine.execSleepPropose s
  | .wakePropose f row => Sys2Proof.Machine.execWakePropose f row s
  | .wakeConsent src row => Sys2Proof.Machine.execWakeConsent src row s
  | .wakeRefuse src row => Sys2Proof.Machine.execWakeRefuse src row s
  | .sleepProposeTimeout => Sys2Proof.Machine.execSleepProposeTimeout s
  | .wakeCommit f row => Sys2Proof.Machine.execWakeCommit f row s
  | .wakeAbort f row => Sys2Proof.Machine.execWakeAbort f row s
  | .rowWake f row => Sys2Proof.Machine.execRowWake f row s
  | .epochPrepareStart => Sys2Proof.Machine.execEpochPrepareStart s
  | .epochPrepare f epoch digest => Sys2Proof.Machine.execEpochPrepare f epoch digest s
  | .epochReady src epoch => Sys2Proof.Machine.execEpochReady src epoch s
  | .epochNotReady src epoch => Sys2Proof.Machine.execEpochNotReady src epoch s
  | .epochPrepareTimeout => Sys2Proof.Machine.execEpochPrepareTimeout s
  | .epochCommit f epoch digest => Sys2Proof.Machine.execEpochCommit f epoch digest s
  | .shaperRefill => Sys2Proof.Machine.execShaperRefill s
  | .shapeWrite label value => Sys2Proof.Machine.execShapeWrite label value s
  | .policeWrite label value => Sys2Proof.Machine.execPoliceWrite label value s
  | .feedbackSample => Sys2Proof.Machine.execFeedbackSample s
  | .scaleAdjust => Sys2Proof.Machine.execScaleAdjust s
  | .memSchedWrite ctrl value => Sys2Proof.Machine.execMemSchedWrite ctrl value s
  | .memTrnStart chan => Sys2Proof.Machine.execMemTrnStart chan s
  | .memTrnRunEnd chan failed lanes0 lanes1 => Sys2Proof.Machine.execMemTrnRunEnd chan failed lanes0 lanes1 s
  | .pmicFault chan => Sys2Proof.Machine.execPmicFault chan s
  | .faultRaise event cause part info => Sys2Proof.Machine.execFaultRaise event cause part info s
  | .classAcknowledge event => Sys2Proof.Machine.execClassAcknowledge event s
  | .resetClassAcknowledge => Sys2Proof.Machine.execResetClassAcknowledge s
  | .faultInject event => Sys2Proof.Machine.execFaultInject event s
  | .engineHang engine => Sys2Proof.Machine.execEngineHang engine s
  | .feedPresent f mv => Sys2Proof.Machine.execFeedPresent f mv s
  | .feedWindowEntry f mv => Sys2Proof.Machine.execFeedWindowEntry f mv s
  | .feedQualified f => Sys2Proof.Machine.execFeedQualified f s
  | .feedGateFull f limiting => Sys2Proof.Machine.execFeedGateFull f limiting s
  | .feedPowerGood f => Sys2Proof.Machine.execFeedPowerGood f s
  | .startTimerTrip f => Sys2Proof.Machine.execStartTimerTrip f s
  | .breakerSample f ma => Sys2Proof.Machine.execBreakerSample f ma s
  | .feedUndervolt f mv => Sys2Proof.Machine.execFeedUndervolt f mv s
  | .feedOvervolt f mv => Sys2Proof.Machine.execFeedOvervolt f mv s
  | .retryWaitExpiry f => Sys2Proof.Machine.execRetryWaitExpiry f s
  | .tripCountReset f => Sys2Proof.Machine.execTripCountReset f s
  | .feedRelease f => Sys2Proof.Machine.execFeedRelease f s
  | .feedTest f => Sys2Proof.Machine.execFeedTest f s
  | .feedTestEnd f => Sys2Proof.Machine.execFeedTestEnd f s
  | .oringReverse f => Sys2Proof.Machine.execOringReverse f s
  | .telemetryWindow f mv ma power10mw energyMj => Sys2Proof.Machine.execTelemetryWindow f mv ma power10mw energyMj s
  | .peakRead f => Sys2Proof.Machine.execPeakRead f s
  | .eccLastRead => Sys2Proof.Machine.execEccLastRead s
  | .radishSample samples => Sys2Proof.Machine.execRadishSample samples s
  | .ruleFire rule => Sys2Proof.Machine.execRuleFire rule s
  | .dimmTempRead temps => Sys2Proof.Machine.execDimmTempRead temps s
  | .dozeEntry => Sys2Proof.Machine.execDozeEntry s
  | .dozeExit cause => Sys2Proof.Machine.execDozeExit cause s
  | .restEntry => Sys2Proof.Machine.execRestEntry s
  | .lightQualified l => Sys2Proof.Machine.execLightQualified l s
  | .restExitComplete => Sys2Proof.Machine.execRestExitComplete s
  | .spuriousWakeTimeout => Sys2Proof.Machine.execSpuriousWakeTimeout s
  | .deepEntry => Sys2Proof.Machine.execDeepEntry s
  | .deepExit cause => Sys2Proof.Machine.execDeepExit cause s
  | .custodyLost => Sys2Proof.Machine.execCustodyLost s
  | .vauxOutOfRange mv => Sys2Proof.Machine.execVauxOutOfRange mv s
  | .refclkLost => Sys2Proof.Machine.execRefclkLost s
  | .getState => Sys2Proof.Machine.execGetState s
  | .getRecords => Sys2Proof.Machine.execGetRecords s
  | .getSense input index => Sys2Proof.Machine.execGetSense input index s
  | .smbusUnsupported code => Sys2Proof.Machine.execSmbusUnsupported code s
  | .challenge input => Sys2Proof.Machine.execChallenge input s
  | .enrol input => Sys2Proof.Machine.execEnrol input s
  | .release input => Sys2Proof.Machine.execRelease input s
  | .keySupply input => Sys2Proof.Machine.execKeySupply input s
  | .transportKey input => Sys2Proof.Machine.execTransportKey input s
  | .svnRaise input => Sys2Proof.Machine.execSvnRaise input s
  | .buddyPair input => Sys2Proof.Machine.execBuddyPair input s
  | .info input => Sys2Proof.Machine.execInfo input s
  | .secUnknownOpcode opcode => Sys2Proof.Machine.execSecUnknownOpcode opcode s
  | .accessRefused read => Sys2Proof.Machine.execAccessRefused read s
  | .holdVoteSet blocks => Sys2Proof.Machine.execHoldVoteSet blocks s
  | .holdVoteClear blocks => Sys2Proof.Machine.execHoldVoteClear blocks s
  | .powerRequest block change => Sys2Proof.Machine.execPowerRequest block change s
  | .holdWindowCap => Sys2Proof.Machine.execHoldWindowCap s
  | .watchdogRestart => Sys2Proof.Machine.execWatchdogRestart s
  | .secureWatchdog => Sys2Proof.Machine.execSecureWatchdog s
  | .getVersion => Sys2Proof.Machine.execGetVersion s
  | .getCapabilities => Sys2Proof.Machine.execGetCapabilities s
  | .negotiateAlgorithms extAsym extHash => Sys2Proof.Machine.execNegotiateAlgorithms extAsym extHash s
  | .getDigests => Sys2Proof.Machine.execGetDigests s
  | .getCertificate slot offset length => Sys2Proof.Machine.execGetCertificate slot offset length s
  | .spdmChallenge slot nonce => Sys2Proof.Machine.execSpdmChallenge slot nonce s
  | .getMeasurements operation signed nonce => Sys2Proof.Machine.execGetMeasurements operation signed nonce s
  | .chunkSend handle seq last bytes => Sys2Proof.Machine.execChunkSend handle seq last bytes s
  | .chunkGet handle seq => Sys2Proof.Machine.execChunkGet handle seq s
  | .bootStepEnd step report buddy => Sys2Proof.Machine.execBootStepEnd step report buddy s
  | .activeLate => Sys2Proof.Machine.execActiveLate s
  | .bootReset => Sys2Proof.Machine.execBootReset s
  | .bootRetry => Sys2Proof.Machine.execBootRetry s
  | .clearAlt => Sys2Proof.Machine.execClearAlt s
  | .pmcCtrWrite n value occurrences => Sys2Proof.Machine.execPmcCtrWrite n value occurrences s
  | .pmcClear => Sys2Proof.Machine.execPmcClear s
  | .pmcUpageWrite u value => Sys2Proof.Machine.execPmcUpageWrite u value s
  | .registerWrite offset wide value => Sys2Proof.Machine.execRegisterWrite offset wide value s
  | .startWindowExit f mv => Sys2Proof.Machine.execStartWindowExit f mv s
  | .vauxInRange mv => Sys2Proof.Machine.execVauxInRange mv s
  | .hostLinkLeavesL0 low => Sys2Proof.Machine.execHostLinkLeavesL0 low s
  | .hostInterfaceReady => Sys2Proof.Machine.execHostInterfaceReady s
  | .ctrlResendTimer dst => Sys2Proof.Machine.execCtrlResendTimer dst s
  | .wakePatternLimit l => Sys2Proof.Machine.execWakePatternLimit l s
  | .primerStoreReload slot => Sys2Proof.Machine.execPrimerStoreReload slot s
  | .spillCopyBuilt ring => Sys2Proof.Machine.execSpillCopyBuilt ring s
  | .frameBadCrc l uncorrectable => Sys2Proof.Machine.execFrameBadCrc l uncorrectable s
  | .revocationAtGrantee owner grantId => Sys2Proof.Machine.execRevocationAtGrantee owner grantId s

end Sys2Proof.Machine
end

