-- ==== Sys2Proof/Safety.lean ====
section
/-! DEFINITION. The terms of the statements: what a step may answer, a device at rest, and what every command keeps. -/

namespace Sys2Proof.Safety

/-- The outcome of a step is a next state: the block goes on. -/
def goesOn : Host.Outcome Machine.State Machine.Fault Machine.Refusal → Prop
  | .next _ => True
  | .fault _ => False
  | .refused _ => False

/-- Nothing is owed at the end of a step: no reaction of the collector waits (R543 to R547), step 0x31 does not wait for service (R618),
and the DevLoad that is reported is that of the load there is (R408). -/
structure Calm (s : Machine.State) : Prop where
  react : s.flt.react = []
  settled : s.boot.settleLater = false
  load : Machine.devloadNow s = s.qos.devload.toNat

/-- Nothing waits on the device: it is calm, and no transaction, request, migration or lease waits for another part. -/
structure Quiet (s : Machine.State) : Prop where
  calm : Calm s
  txs : s.coh.txs = []
  sink : s.coh.sink = []
  pend : s.coh.pend = []
  reqs : s.coh.reqs = []
  scope : s.coh.scopeOwed = []
  waitHost : s.coh.waitHost = []
  decoding : s.cmp.dWait = []
  oldKeys : ∀ x ∈ s.xts.domains, x.2.old = none
  tables : s.chd.extents.all (fun e => !e.2.tagWait) = true
  leave : s.fab.leave = false
  borrows : s.chd.borrows = []
  consents : s.fab.consentOwed = []
  waitNs : s.chd.reserveWaitNs = none
  reserve : s.chd.reserveState ≠ 3

/-- A command's own effect leaves the state `t`, and its step ends there: the reactions the collector owes in `t` follow
(R543 to R547); in a calm `t` there are none, and `t` is the answer. -/
def Ends (c : Instr) (s t : Machine.State) : Prop :=
  Machine.exec c s = .next (Machine.settle t) ∧ (Calm t → Machine.exec c s = .next t)

/-- The same for a command after which what waits on the device may go on; in a quiet `t` nothing waits, and `t` is the
answer. -/
def EndsWork (c : Instr) (s t : Machine.State) : Prop :=
  Machine.exec c s = .next (Machine.work t) ∧ (Quiet t → Machine.exec c s = .next t)

/-- A command entry may run: no fence holds it back (R488), and it passes the checks of R489 and R491. -/
def Runs (s : Machine.State) (src : CmdSrc) (e : Line) : Prop := Machine.fenceHolds s src e = false ∧ Machine.gate s src e = none

/-- The mailbox serves every command: the host interface is ready (R497), and the device is not in ROM recovery (R613). -/
def Serves (s : Machine.State) : Prop := s.host.infoValid = true ∧ s.boot.st ≠ .romRecovery

/-- A flooded message is new here once taken from its link: its origin is another node and its sequence has not been seen
(R305). -/
def News (s : Machine.State) (f : FloodHdr) (type opn : Nat) : Prop :=
  let u := Machine.consumeCtrl s type opn f.origin.toNat
  f.origin.toNat ≠ Machine.myNode u ∧ Machine.floodNew u f.origin.toNat f.seq = true

/-- What a new flooded message leaves before the device acts on it: it is taken from its link, its sequence is noted, and it is
forwarded to the neighbours in service but the one it came from (R305). -/
def spread (s : Machine.State) (f : FloodHdr) (type opn : Nat) (fields : List (Nat × Nat)) : Machine.State :=
  let u := Machine.consumeCtrl s type opn f.origin.toNat
  Machine.floodOn (Machine.noteFlood u f.origin.toNat f.seq) (Machine.mkCtrl type opn 0 f.origin.toNat f.seq.toNat fields)
    ((Machine.peerOf u f.link.toNat).map (·.1))

/-- No request of a controller has newly reached urgency 3 (R427, R448). -/
def NoneDue (s : Machine.State) (n : Nat) : Prop :=
  ∀ r ∈ (Machine.ctl s n).sched.items.map (·.item) ++ (Machine.ctl s n).rq ++ (Machine.ctl s n).wq,
    r.counted = true ∨ Machine.urgency s.clockNs r ≠ 3

/-- What every command keeps or only raises: the commands that wait, the canonical form of the window memory, the lot, SECURED
(R3), and the two anti-rollback floors, which only rise (R511). -/
structure Kept (s t : Machine.State) : Prop where
  pending : t.pending = s.pending
  mem : Machine.Memory.wf s.mem → Machine.Memory.wf t.mem
  secured : s.sec.secured = true → t.sec.secured = true
  lot : t.sec.lotId = s.sec.lotId
  imgFloor : s.sec.imgFloor ≤ t.sec.imgFloor
  fwFloor : s.sec.fwFloor ≤ t.sec.fwFloor

/-- The invariant of the block: the window memory is in the model's canonical form, and the part is SECURED, which nothing takes back
(R3). -/
def Inv (s : Machine.State) : Prop := Machine.Memory.wf s.mem ∧ s.sec.secured = true

end Sys2Proof.Safety
end

