-- ==== Sys2Proof/Certificates/Slice0/Obligations.lean ====
section
/-! DEFINITION. The statements for the provers. -/

open Sys2Proof Sys2Proof.Machine Sys2Proof.Safety

/-- R433, R434: what the refresh timer, the poll of mode register 4, power-down and self-refresh do to a controller. -/
def Obligations.MemoryRefreshAndLowPower : Prop :=
  (∀ (s : State) (n : Fin 16) (r : Fin 4), (ctl s n.val).st = .active ∨ (ctl s n.val).st = .powerDown →
    let c := ctl s n.val
    let k := c.postponed.getD r.val 0
    let asked := c.rq.any (fun q => rankOf s n.val q.addr == r.val && decide (2 ≤ urgency s.clockNs q))
    (asked = true → k < c.postponeMax →
      Ends (.refreshDue n r) s (setCtl s n.val { c with postponed := c.postponed.set r.val (k + 1) })) ∧
    (asked = false ∨ c.postponeMax ≤ k →
      Ends (.refreshDue n r) s (setCtl s n.val { c with
        postponed := c.postponed.set r.val 0
        openRows := c.openRows.filter (fun x => decide (n.val < 12) && decide (x.1 / 256 ≠ r.val)) }))) ∧
  (∀ (s : State) (c : Fin 12), ctlServes (ctl s c.val) = true →
    EndsWork (.mr4Poll c .normal) s (setCtl s c.val { ctl s c.val with rate := 1 }) ∧
    ((ctl s c.val).rate = 2 → EndsWork (.mr4Poll c .double) s (setCtl s c.val { ctl s c.val with rate := 2 })) ∧
    ((ctl s c.val).rate ≠ 2 →
      EndsWork (.mr4Poll c .double) s (raiseP (setCtl s c.val { ctl s c.val with rate := 2 }) (0x100 + c.val) 0x06 (.channel c) 0)) ∧
    (channelOut s c.val = false →
      EndsWork (.mr4Poll c .beyond) s (raiseP (fenceChannel s c.val) (0x100 + c.val) 0x07 (.channel c) 0))) ∧
  (∀ (s : State) (n : Fin 16) (r : Fin 4),
    let c := ctl s n.val
    let ranks := if n.val < 12 then 2 ^ chanRankBits s n.val else 1
    c.st = .active → c.pdIdleNs ≠ 0 → r.val < ranks → c.ranksDown.getLsbD r.val = false →
    (c.rq ++ c.wq).any (fun q => rankOf s n.val q.addr == r.val) = false →
      Ends (.powerDownEntry n r) s (setCtl s n.val { c with
        ranksDown := c.ranksDown ||| ((1 : BitVec 4) <<< r.val)
        pdEntries := c.pdEntries + 1
        st := if popCount 4 (c.ranksDown ||| ((1 : BitVec 4) <<< r.val)).toNat = ranks then .powerDown else .active })) ∧
  (∀ (s : State) (n : Fin 16),
    let c := ctl s n.val
    c.st = .active ∨ c.st = .powerDown → c.srIdleUs ≠ 0 → c.rq = [] → c.wq = [] → c.flight = [] → c.sched.items = [] →
      Ends (.selfRefreshEntry n) s
        (setCtl s n.val { c with st := .selfRefresh, srEntries := c.srEntries + 1, openRows := [], ranksDown := 0 }))

/-- R428 to R431: a read is admitted to a free read entry and issued when its turn comes; a write is issued to its row; the data
of the oldest read in flight returns. -/
def Obligations.MemoryQueues : Prop :=
  (∀ (s : State) (n : Fin 16) (x : Queued MemReq) (q : Wfq MemReq), NoneDue s n.val →
    let c := ctl s n.val
    c.st = .active → c.upstream = [] → c.ranksDown.getLsbD (rankOf s n.val x.item.addr) = false → c.rq.length < 64 →
    wfqPick c.sched (labelRt s) (fun _ => false) (fun r => r.write == false) (fun _ => 0) = some (x, q) →
    x.item.write = false → (∀ key, x.item.use ≠ .homeWrite key) → c.wq.any (sameLine x.item) = false →
      EndsWork (.memAdmit n false) s { s with
        qos := { s.qos with bwm := mupd s.qos.bwm x.item.label 0 (· + BitVec.ofNat 48 x.item.size) }
        ctls := mset s.ctls n.val { c with sched := q, rq := c.rq ++ [x.item] } }) ∧
  (∀ (s : State) (n : Fin 16) (x : Queued MemReq) (q : Wfq MemReq), NoneDue s n.val →
    let c := ctl s n.val
    let on := if c.draining then decide (c.wqLow < c.wq.length + 1) else decide (c.wqHigh ≤ c.wq.length + 1)
    c.st = .active → c.upstream = [] → c.ranksDown.getLsbD (rankOf s n.val x.item.addr) = false → c.wq.length < 64 →
    wfqPick c.sched (labelRt s) (fun _ => false) (fun r => r.write == true) (fun _ => 0) = some (x, q) →
    x.item.use = .podWrite → c.wq.any (sameLine x.item) = false →
      EndsWork (.memAdmit n true) s { s with
        qos := { s.qos with bwm := mupd s.qos.bwm x.item.label 0 (· + BitVec.ofNat 48 x.item.size) }
        ctls := mset s.ctls n.val { c with
          sched := q
          wq := c.wq ++ [x.item]
          draining := on
          drained := if on then c.drained else 0 } }) ∧
  (∀ (s : State) (n : Fin 16) (blocked : List Nat) (r : MemReq), NoneDue s n.val →
    let c := ctl s n.val
    let b := bankOf s n.val r.addr
    ctlServes c = true → c.draining = false → nextRead s n.val c blocked = some r → r.write = false → c.rq ≠ [] →
      Ends (.memIssue n blocked) s (countBurst (setCtl s n.val { c with
        openRows := mset c.openRows b.1 b.2
        rq := c.rq.filter (fun w => w.id != r.id)
        flight := c.flight ++ [r]
        drained := 0 }) n.val false (rowHit s n.val c r))) ∧
  (∀ (s : State) (n : Fin 16) (blocked : List Nat) (r : MemReq), NoneDue s n.val →
    let c := ctl s n.val
    let b := bankOf s n.val r.addr
    let wq := c.wq.filter (fun w => w.id != r.id)
    ctlServes c = true → c.draining = true → c.drained < c.drainBurst → nextWrite s n.val c blocked = some r → r.write = true →
      Ends (.memIssue n blocked) s (countBurst (setCtl s n.val { c with
        openRows := mset c.openRows b.1 b.2
        wq := wq
        draining := decide (c.wqLow < wq.length)
        drained := if c.wqLow < wq.length then c.drained + 1 else 0 }) n.val true (rowHit s n.val c r))) ∧
  (∀ (s : State) (n : Fin 16) (r : MemReq) (rest : List MemReq) (res : ReturnResult) (tag : Tag) (pod off : Nat) (vers : BitVec 16)
      (label : Nat), (ctl s n.val).flight = r :: rest → r.use = .podRead tag pod off vers label → res.errors.getD 0 0 = 0 →
    markedMedia s n.val r.addr = false →
    let t := respondData (setCtl s n.val { ctl s n.val with flight := rest }) 1 tag label false false false false true vers.toNat off
      (mgetD s.fab.lentPods (podKey (tagSource tag) pod) 0)
    Quiet t → exec (.memDataReturn n res) s = .next t)

/-- R455, R460 to R462: a leak lowers every bucket by 1 down to 0; a line of a scrub pass is read and counts; a corrected one adds
1 to the bucket of its device and to the corrected count, a clean one and one that holds a poison marker change nothing else.
R447, R450, R444: a write of MEM_SCHED with every field in range and unlocked sets the watermarks, one with a field out of range
is ignored as a whole; a training run starts and ends, and is refused without destructive; a PMIC fault fences the channel. -/
def Obligations.ErrorBucketsAndControllerRegisters : Prop :=
  ((∀ s : State, Ends .bucketLeak s { s with ecc := { s.ecc with
      buckets := (s.ecc.buckets.filter (fun b => decide (1 < b.2.toNat))).map (fun b => (b.1, b.2 - 1)) } }) ∧
  (∀ (s : State) (n : Fin 16) (line : BitVec 42) (e : BurstError),
    let lines := mgetD s.ecc.scrubbed n.val 0 + 1
    let u := scrubRead { s with ecc := { s.ecc with scrubbed := mset s.ecc.scrubbed n.val lines } } n.val line.toNat
    scrubRuns s n.val = true → s.clockNs ≤ mgetD s.ecc.passStartNs n.val 0 + 2 * scrubPeriod s n.val → lines < scrubTotal s n.val →
    (scrubOutcome s n.val line.toNat e = .clean → EndsWork (.scrubLine n line e) s u) ∧
    (∀ media, scrubOutcome s n.val line.toNat e = .marker media → EndsWork (.scrubLine n line e) s u) ∧
    (∀ dev, scrubOutcome s n.val line.toNat e = .corrected dev →
      let k := bucketNo u n.val (64 * line.toNat) dev.val
      let b := (mgetD u.ecc.buckets k 0).toNat + 1
      b < u.ecc.threshold.toNat →
      EndsWork (.scrubLine n line e) s { u with ecc := { u.ecc with
        corrected := mupd u.ecc.corrected n.val 0 (· + 1)
        buckets := mset u.ecc.buckets k (BitVec.ofNat 8 b) } }))) ∧
  ((∀ (s : State) (n : Fin 16) (v : Word),
    let lo := bits v.toNat 7 0
    let hi := bits v.toNat 15 8
    let db := bits v.toNat 23 16
    (lo ≤ 63 → lo + 1 ≤ hi → hi ≤ 64 → 1 ≤ db → db ≤ 64 →
      memLocked s n.val 6 = false → memLocked s n.val 7 = false → memLocked s n.val 8 = false →
      Ends (.memSchedWrite n v) s (setCtl s n.val (drainUpdate { ctl s n.val with wqLow := lo, wqHigh := hi, drainBurst := db }))) ∧
    (63 < lo ∨ hi < lo + 1 ∨ 64 < hi ∨ db = 0 ∨ 64 < db → Ends (.memSchedWrite n v) s s)) ∧
  (∀ (s : State) (c : Fin 12), (ctl s c.val).st = .training → (trn s c.val).busy = false →
    ((trn s c.val).destructive = true ∨ ((trn s c.val).target ≠ 2 ∧ (trn s c.val).pattern = 6) →
      Ends (.memTrnStart c) s (setTrn s c.val { trn s c.val with busy := true, refused := false })) ∧
    ((trn s c.val).destructive = false → (trn s c.val).target = 2 ∨ (trn s c.val).pattern ≠ 6 →
      Ends (.memTrnStart c) s (setTrn s c.val { trn s c.val with refused := true }))) ∧
  (∀ (s : State) (c : Fin 12) (failed : BitVec 16) (l0 l1 : BitVec 40), (trn s c.val).busy = true →
    Ends (.memTrnRunEnd c failed l0 l1) s
      (setTrn s c.val { trn s c.val with busy := false, failed := failed, fail0 := l0, fail1 := l1 })) ∧
  (∀ (s : State) (c : Fin 12), channelOut s c.val = false →
    EndsWork (.pmicFault c) s (raiseP (fenceChannel s c.val) (0x100 + c.val) 0x05 (.channel c) 0)))

/-- R109, R136: an epoch starts with its EPOCH record while its pass has a page to go to; the walker passes one page, halving its
heat, and goes on with the next, or ends the pass; the two token buckets hold 1 ms of their rates, four times that in band 2. -/
def Obligations.HeatEpochAndBudgets : Prop :=
  (∀ s : State,
    let e := s.chd.epoch + 1
    let u := jwrite s 0 (plainRec recEpoch (e.setWidth 128) 0)
    let t := { u with chd := { u.chd with
      epoch := e
      epochStartNs := u.clockNs
      passInsertFailed := false
      walkDone := none
      passRunning := true } }
    s.aon.st = .run → s.chd.passRunning = false → s.host.memActive = true →
    s.chd.epochStartNs + globalPolicy s 9 * 1000000 ≤ s.clockNs ∨ s.chd.epochStartNs = 0 →
    e.toNat % 64 ≠ 0 →
      ((walkNext t).isSome = true → EndsWork .epochStart s t) ∧
      ((walkNext t).isSome = false → EndsWork .epochStart s (passEnd t))) ∧
  (∀ (s : State) (p : PageNo) (x : Nat × Nat),
    let t := walkPage { s with chd := { s.chd with walkDone := some x } } p.toNat
    s.aon.st = .run → s.chd.passRunning = true → walkNext s = some x → x.2 = p.toNat →
      ((walkNext t).isSome = true → EndsWork (.walkerPage p) s t) ∧
      ((walkNext t).isSome = false → EndsWork (.walkerPage p) s (passEnd t))) ∧
  (∀ (s : State) (p : Nat), dTier (page s p).desc ≠ tierNone →
    (page (walkPage s p) p).heat.toNat = (page s p).heat.toNat / 2 ∧ (page (walkPage s p) p).desc = (page s p).desc) ∧
  (∀ s : State,
    let k := if framesF s < reserveLow s then 4000 else 1000
    s.aon.st = .run ∨ s.aon.st = .doze →
    Ends .bucketRefill s { s with chd := { s.chd with
      localTokens := globalPolicy s 16 * k
      fabricTokens := globalPolicy s 17 * k } })

/-- R136, R152 to R154, R179: a migration that may start draws its tokens and opens; the end of a pass that finds no dirty block
begins the freeze, one that finds two or more is followed by another pass, in which a LEND of a Plain page gets back, after its
first pass, the budget it did not use; a freeze that reaches 2 µs goes back to its passes three times, and aborts with event 0x1F1
at the fourth; the commit ends the migration. -/
def Obligations.MigrationSequence : Prop :=
  (∀ (s u : State) (k : MigKind) (p : PageNo) (r tier loc node pods : Nat),
    let n := if drawsLocal k || drawsFabric k then migBytes (page s p.toNat).desc else 0
    s.aon.st = .run → workRank s k p.toNat = some r → mayStart s k r = true → budgetOk s k (page s p.toNat).desc r = true →
    outranked s r = false → sleepingRow s k p.toNat = none → reserveDst s p.toNat k = some (tier, loc, node, pods, u) →
      EndsWork (.migrationStart k p) s (leaseHeadroom (openMig (drawBudget u k n) k p.toNat (tier, loc, node, pods) n))) ∧
  (∀ (s : State) (p : PageNo) (m : Mig), s.aon.st = .run → mget s.chd.migs p.toNat = some m → passReady s p.toNat m = true →
    pageMedia s p.toNat = 0 →
    let u := returnBudget (clearPageMedia s p.toNat) p.toNat m
    (dirtyCount m.dirty ≤ 1 ∨ 8 ≤ m.pass ∨ spaceState u = 2 →
      EndsWork (.migrationPassEnd p ⟨0, []⟩) s
        (let t := modMig u p.toNat (fun m => { m with dirty := 0, phase := .frozen })
         if m.dirty = 0 then t else copyBlocks t p.toNat (dirtyBlocks m.dirty))) ∧
    (2 ≤ dirtyCount m.dirty → m.pass < 8 → spaceState u ≠ 2 → m.dirty ≠ 0 →
      EndsWork (.migrationPassEnd p ⟨0, []⟩) s
        (copyBlocks (modMig u p.toNat (fun m => { m with dirty := 0, pass := m.pass + 1, phase := .passing })) p.toNat
          (dirtyBlocks m.dirty)))) ∧
  (∀ (s : State) (p : PageNo) (m : Mig), s.aon.st = .run → mget s.chd.migs p.toNat = some m → m.phase = .frozen →
    m.abortPending = false →
    (m.failedFreezes < 3 → EndsWork (.freezeTimeout p) s (modMig s p.toNat (fun m => { m with
      phase := .passing, failedFreezes := m.failedFreezes + 1 }))) ∧
    (3 ≤ m.failedFreezes →
      EndsWork (.freezeTimeout p) s (afterFreeze s (raiseP (abortMig s p.toNat) 0x1F1 0 (.page p) 0) p.toNat))) ∧
  (∀ (s : State) (p : PageNo) (m : Mig), s.aon.st = .run → mget s.chd.migs p.toNat = some m → m.phase = .frozen →
    writesUnderWay s p.toNat = false → mhas s.chd.evicts p.toNat = false → pageFetching s p.toNat = false →
    m.waiting = 0 → (migBlens m).isSome = true → m.dirty = 0 →
      EndsWork (.migrationCommit p) s (afterFreeze s (commitMig s p.toNat) p.toNat))

/-- R92, R163, R166, R663: a ring that needs no record gets a CHECKPOINT that names itself, and a ring without a new record gets
none; the cleaner writes a line of the translation cache back once it is due, and not before; a spill copy that is built stands
for the lost stack; a clean block of the near cache is dropped, and a dirty one of this owner goes to a compressor, or is stored
as a ZERO block; a line of another owner's is given up. R127, R132: a write that has waited 10 ms for space sets reserve_state 3
and raises event 0x1E6; a lease wanted for 1 s raises event 0x1E8; a write held for space goes on when space is found. -/
def Obligations.JournalNearCacheAndWaits : Prop :=
  ((∀ (s : State) (r : Fin 2) (t : Nat),
    let g := ring s r.val
    let u := jwrite s r.val { plainRec recCheckpoint 0 0 with ref := g.nextSeq }
    g.firstAfterNs = some t → g.recs.filter (recNeeded s r.val) = [] →
    g.recs.filter (fun x => latestKept s g x && !recNeeded s r.val x) = [] →
      let t := setRing u r.val { ring u r.val with
        recs := (ring u r.val).recs.filter (fun x => decide (g.nextSeq ≤ x.seq))
        tail := g.nextSeq
        lastCheckpoint := g.nextSeq
        firstAfterNs := none }
      Ends (.checkpoint r) s (if r.val = 0 then writeExtents t else t)) ∧
  (∀ (s : State) (r : Fin 2), (ring s r.val).firstAfterNs = none → Ends (.checkpoint r) s s) ∧
  (∀ (s : State) (quad : BitVec 34) (l : TcLine), mget s.chd.tc quad.toNat = some l →
    let u := metaPort s true (tableAddr s quad.toNat) (some (descLine (tcDescs s quad.toNat)))
    (cleanerDue s l = true → Ends (.translationWriteback quad) s
      { u with chd := { u.chd with tc := mset u.chd.tc quad.toNat TcLine.clean } }) ∧
    (cleanerDue s l = false → Ends (.translationWriteback quad) s s)) ∧
  (∀ (s : State) (r : Fin 2), (ring s r.val).spillBuilding = true →
    let t := setRing s r.val { ring s r.val with spillBuilding := false, spill := true }
    (s.coh.sliceUnknown ≠ 0 → EndsWork (.spillCopyBuilt r) s t) ∧
    (s.coh.sliceUnknown = 0 → (ring s (1 - r.val)).spillBuilding = false →
      EndsWork (.spillCopyBuilt r) s (raiseP t 0x1F4 0 .none 3))) ∧
  (∀ (s : State) (o : Node) (block : BitVec 38) (b : NcBlock), o.toNat = myNode s →
    let k := blockKey o.toNat block.toNat
    mget s.coh.near k = some b →
    ((b.lines.any (fun l => l.2.dirty)) = false →
      EndsWork (.nearCacheEviction o block) s { s with coh := { s.coh with near := mdel s.coh.near k } }) ∧
    ((b.lines.any (fun l => l.2.dirty)) = true → b.evicting = false → pageFrozen s (block.toNat / 4) = false →
      mhas s.chd.evicts (block.toNat / 4) = false → (page s (block.toNat / 4)).fenced = false →
      thawDue s (block.toNat / 4) b.label = false →
      let job := jobOf (.evict k) [evictSlot s (block.toNat / 4)] b.label (nearBytes b)
      EndsWork (.nearCacheEviction o block) s
        (if job.data.all (· == 0) then evictDone (countL (setEvicting s k true) 0x022 b.label) k job 0
         else pushJob (setEvicting s k true) job))) ∧
  (∀ (s : State) (o : Node) (block : BitVec 38) (b : NcBlock) (i : Nat) (l : NcLine), o.toNat ≠ myNode s →
    let key := lineKey o.toNat (16 * block.toNat + i)
    mget s.coh.near (blockKey o.toNat block.toNat) = some b → b.lines = [(i, l)] → mhas s.coh.reqs key = false →
    mhas s.coh.hostSnoops key = false →
      EndsWork (.nearCacheEviction o block) s (evictFirst s key []))) ∧
  ((∀ (s : State) (t : Nat), s.chd.reserveWaitNs = some t → s.chd.reserveState ≠ 3 →
    Ends .reserveWaitTimeout s (raise { s with chd := { s.chd with reserveState := 3 } } 0x1E6 0)) ∧
  (∀ (s : State) (t : Nat), s.chd.leaseWantedNs = some t →
    Ends .leaseWaitTimeout s (raise { s with chd := { s.chd with leaseWantedNs := none } } 0x1E8 0)) ∧
  (∀ s : State, EndsWork .waitingWriteResume s s))

/-- R188, R209, R215, R219, R658, R659: a lane's result frees the lane and takes the job on with its BLEN value, 17 standing for a
failed shadow check; a compressor lane with no result within 1 µs is fenced and its job queued again, and a decompressor lane
likewise, its block going to a free lane; a lane that holds no job is left alone; a slot set to retire is noted, with event 0x166
at once where nothing names it; a reloaded slot no longer holds jobs back. -/
def Obligations.CompressionLanes : Prop :=
  (∀ (s : State) (i : Fin 16) (slot : BitVec 6) (label : Nat) (data : List Byte) (src : CmdSrc) (k : Nat),
    mget s.cmp.lanes i.val = some ⟨.eval src k, [slot], [], label, data⟩ →
    let u := { s with cmp := { s.cmp with lanes := mdel s.cmp.lanes i.val } }
    let r := compressBlock (primerOf s slot.toNat) data
    (∀ a b, r = .packed a b →
      EndsWork (.compressionResult i true) s (pump (evalResult (runLanes (countL u 0x020 label)) src k (resultBlen r)))) ∧
    (r = .zero → EndsWork (.compressionResult i true) s (pump (evalResult (runLanes (countL u 0x022 label)) src k 0))) ∧
    (r = .nogain → EndsWork (.compressionResult i true) s (pump (evalResult (runLanes (countL u 0x021 label)) src k 16))) ∧
    EndsWork (.compressionResult i false) s (pump (evalResult (runLanes (verifyFail (countL u 0x023 label) i.val)) src k 17))) ∧
  (∀ (s : State) (i : Fin 16) (j : Job), s.cmp.cFenced.getLsbD i.val = false → mget s.cmp.lanes i.val = some j →
    let mask := s.cmp.cFenced ||| ((1 : BitVec 16) <<< i.val)
    EndsWork (.laneTimeout false (i.castLE (by decide))) s
      (pushJob (raiseP { s with cmp := { s.cmp with cFenced := mask, lanes := mdel s.cmp.lanes i.val } } 0x162
        (if mask = BitVec.allOnes 16 then 1 else 0) (.clane i) i.val) j)) ∧
  (∀ (s : State) (i : Fin 32) (j : DJob), s.cmp.dFenced.getLsbD i.val = false → mget s.cmp.dLanes i.val = some j →
    let mask := s.cmp.dFenced ||| ((1 : BitVec 32) <<< i.val)
    EndsWork (.laneTimeout true i) s (pump (raiseP { s with cmp := { s.cmp with
      dFenced := mask
      dWait := s.cmp.dWait ++ [j]
      dLanes := mdel s.cmp.dLanes i.val } } 0x163 (if mask = BitVec.allOnes 32 then 1 else 0) (.dlane i) i.val))) ∧
  (∀ (s : State) (i : Fin 32), mget s.cmp.dLanes i.val = none → EndsWork (.laneTimeout true i) s s) ∧
  (∀ (s : State) (n : BitVec 6), (mget s.img.active.primers n.toNat).isSome = true →
    let t := { s with cmp := { s.cmp with retire := s.cmp.retire ||| ((1 : BitVec 64) <<< n.toNat) } }
    (slotUse t n.toNat ≠ 0 → Ends (.primerRetire n) s t) ∧
    (slotUse t n.toNat = 0 → s.cmp.retire.getLsbD n.toNat = false → Ends (.primerRetire n) s (raiseP t 0x166 0 .none n.toNat))) ∧
  (∀ (s : State) (n : BitVec 6), EndsWork (.primerStoreReload n) s (runLanes (raiseP { s with cmp := { s.cmp with
      reloading := s.cmp.reloading &&& ~~~((1 : BitVec 64) <<< n.toNat) } } 0x164 1 .none n.toNat)))

/-- R57 whole: the four outcomes of IMAGE_STAGE_BEGIN. -/
def Obligations.StageBegin : Prop :=
  ∀ (s : State) (payload : List Byte), s.host.infoValid = true → payload.length = 4 →
    let n := field payload 0 4
    let opened := s.img.stage = .receiving ∨ s.img.stage = .verifying
    (opened ∨ s.img.refoldActive = true → Ends (.imageStageBegin payload) s (entryReply s 0x03 0)) ∧
    (¬opened → s.img.refoldActive = false → n = 0 → Ends (.imageStageBegin payload) s (entryReply s stInvalid 0)) ∧
    (¬opened → s.img.refoldActive = false → n ≠ 0 → n % 16 ≠ 0 ∨ 16777216 < n →
      Ends (.imageStageBegin payload) s (entryReply s stLength 0)) ∧
    (¬opened → s.img.refoldActive = false → n ≠ 0 → n % 16 = 0 → n ≤ 16777216 →
      Ends (.imageStageBegin payload) s (entryReply { s with img := { s.img with
        stage := .receiving
        cause := 0
        declared := n
        ranges := []
        slots := mdel s.img.slots (1 - s.img.activeSlot.toNat) } } stOk 0))

/-- R58, R59, R61: a range inside the declared length is staged, one past it completes with LENGTH_RANGE and writes nothing; a
commit enters VERIFYING in the background; an abort returns to IDLE. -/
def Obligations.StageDataCommitAbort : Prop :=
  ∀ (s : State), s.host.infoValid = true →
    (∀ payload : List Byte,
      let off := field payload 0 4
      let n := field payload 4 4
      16 ≤ payload.length → payload.length = 16 + n → s.img.stage = .receiving → n ≠ 0 → allZero payload 8 8 = true →
        (off + n ≤ s.img.declared → Ends (.imageStageData payload) s
          (entryReply { s with img := { s.img with ranges := (off, payload.drop 16) :: s.img.ranges } } stOk 0)) ∧
        (s.img.declared < off + n → Ends (.imageStageData payload) s (entryReply s stLength 0))) ∧
    (s.img.stage = .receiving → s.host.background = none →
      let prims := parsePrimers ((sectionBody (stagedImage s) secPrimers).getD [])
      Ends (.imageStageCommit []) s (mbReply (holdJobs { s with
        img := { s.img with stage := .verifying, verified := none, changing := slotMask (changedSlots s prims) }
        host := { s.host with background := some .stageCommit, bgOutput := none } }) .background)) ∧
    (s.img.stage ≠ .verifying →
      Ends (.imageStageAbort []) s
        (entryReply { s with img := { s.img with stage := .idle, ranges := [], declared := 0 } } stOk 0)) ∧
    (s.img.stage = .verifying → Ends (.imageStageAbort []) s (entryReply s 0x03 0))

/-- R59 to R61: the checks of a staged image end in the lowest cause, with the session over, or in a verified image in a COMMITTED
slot; at the commit point the new image is the active one, its slot the active slot, and the live tables switch, a refold starts
and restart sections are marked before the command completes with OK. -/
def Obligations.ImageVerifyAndCommit : Prop :=
  (∀ s : State, s.img.stage = .verifying → s.img.verified = none →
    let bs := stagedImage s
    let i := parseImage bs
    let c := lowestCause (verifyFaults s bs s.img.declared ++ faultIf (decide (stagedBytes s < s.img.declared)) icLength ++
      stagingFaults s i)
    let u := if signatureOk bs (imageKey s) then s else raise s 0x301 icSignature
    EndsWork .imageVerifyDone s (if c ≠ 0 then completeCmd (releaseJobs { s with img := { s.img with
        stage := .rejected
        cause := BitVec.ofNat 8 c
        ranges := [] } }) .mailbox (causeStatus c) 0
      else { u with img := { u.img with
        verified := some i
        slots := mset u.img.slots (1 - u.img.activeSlot.toNat)
          ⟨true, i, signatureOk bs (imageKey s), ownerNow u, shake256 (bytesAt bs 0 (bodyEnd bs)) 64⟩ } })) ∧
  (∀ (s : State) (i : Img), s.img.verified = some i →
    let slot := 1 - s.img.activeSlot.toNat
    let u : State := { s with
      img := { s.img with
        activeSlot := BitVec.ofNat 1 slot
        active := i
        verified := none
        stage := .idle
        ranges := [] }
      pwr := { s.pwr with expected := BitVec.ofNat 2 i.basic.feedsExpected }
      boot := { s.boot with altDrop := true } }
    let live := markRestart (commitPool (taggedDomains (loadTimers (loadLabels u) s.img.active.basic i.basic)))
    let ledger := { live with chd := { live.chd with ledgerMib := max live.chd.ledgerMib (globalPolicy live 20) } }
    EndsWork .commitPoint s (feedsAgree
      (restartHalted (completeCmd (releaseJobs (startRefold (reserveChanged ledger) s.img.active)) .mailbox stOk 0))))

/-- R489, R491: a command whose entry is not well formed completes INVALID, one a user queue may not carry DENIED, and one that
comes before Memory_Active is 1 BUSY_RETRY (PRIMER_EVAL apart), with nothing else done. -/
def Obligations.CommandGate : Prop :=
  ∀ (s : State) (src : CmdSrc) (e : Line) (st : Nat), fenceHolds s src e = false → gate s src e = some st →
    (entryValid e = false → st = stInvalid) ∧
    (entryValid e = true → userQueue s src = true → userMay e = false → st = stDenied) ∧
    (entryValid e = true → userQueue s src = false → s.host.memActive = false → st = 0x03 ∧ entryNat e 0 1 ≠ 7) ∧
    ∀ c ∈ [Instr.extentAdd src e, .shareGrant src e, .shareRevoke src e, .placeHint src e, .atomic src e, .keyRotate src e,
        .primerEval src e [] true],
      EndsWork c s (completeCmd (active s) src st 0)

/-- R96, R97: EXTENT_ADD completes with the first status that applies, or reserves an index and the metadata; an extent without a
Mirrored class, and a shared one, is then offered to the host, and a Mirrored one first asks the buddy; a buddy silent for 1 ms
fails it with BUSY_RETRY and event 0x1FA; the host accepts what it was offered. -/
def Obligations.ExtentAdd : Prop :=
  (∀ (s : State) (src : CmdSrc) (e : Line), Runs s src e →
    let a := addArgs e
    (∀ st, addCheck (active s) a = .error st → EndsWork (.extentAdd src e) s (completeCmd (active s) src st 0)) ∧
    (∀ (start i : Nat) (t : Attrs), addCheck (active s) a = .ok start → freeIndex (active s) = some i →
      resolveTag (active s) a.tag = some t →
      let x : Extent := {
        dpa2m := start
        len2m := a.len
        region := a.region
        tag := a.tag
        attrs := t
        shared := if a.shared then some ⟨BitVec.ofNat 12 a.owner, BitVec.ofNat 32 a.grant, (grantHeld a).getD 0⟩ else none
        state := .reserving src
        tagTables := !a.shared && domainInteg s t.domain
        tagWait := false
        home := BitVec.ofNat 12 (myNode s)
        mext := i
        mbase := start }
      let v := reserveChanged { chosen (active s) 2 with chd := { s.chd with extents := mset s.chd.extents i x } }
      let u := if a.shared then v else ensureDomain v t.domain
      (a.shared = true ∨ t.mirrored = false → EndsWork (.extentAdd src e) s (offerExtent u i src)) ∧
      (∀ b, a.shared = false → t.mirrored = true → myBuddy u = some b →
        EndsWork (.extentAdd src e) s (openTx u 5 (mirrorCtl b 1 i 0 a.len 14) (.reserve i))))) ∧
  (∀ (s : State) (dpa : Dpa) (i : Nat) (x y : Extent) (src : CmdSrc), extentFrom s dpa.toNat = some (i, x) →
    let u := ((s.e2e.txs.filter (fun t => t.2.purpose == Purpose.reserve i)).map (·.1)).foldl closeTx s
    extentEnt u i = some y → y.state = .reserving src →
      EndsWork (.extentAddBuddyTimeout dpa) s
        (completeCmd (raise (unreserve (dropExtent u i) i y.len2m) 0x1FA 0) src 0x03 0)) ∧
  (∀ (s : State) (ranges : List (BitVec 64 × BitVec 64)), Serves s →
    s.host.memActive = true → ranges ≠ [] →
    let hit := fun (r : BitVec 64 × BitVec 64) (e : Extent) =>
      e.state == .pending && e.dpa2m * 2097152 == r.1.toNat && e.len2m * 2097152 == r.2.toNat
    ranges.all (fun r => s.chd.extents.any (fun e => hit r e.2)) = true →
      EndsWork (.addDynamicCapacityResponse ranges) s (mbReply { s with chd := { s.chd with
        extents := mmap s.chd.extents (fun _ e => if ranges.any (fun r => hit r e) then { e with state := .accepted } else e) } } .ok))

/-- R98, R99: a release of a whole extent, with no migration of its pages, sets its release point; once no request of any released
range is open, the response is sent, and the release of an own extent is journalled in its phases and the extent goes; that of a
shared one gives up its lines, and the grant is returned with the last of its extents. -/
def Obligations.ExtentRelease : Prop :=
  (∀ (s : State) (r : BitVec 64 × BitVec 64) (i : Nat) (e : Extent), Serves s →
    s.host.memActive = true → releaseCheck s r.1.toNat r.2.toNat = stOk →
    releaseOf s (r.1.toNat / 2097152) (r.2.toNat / 2097152) = some (i, e) → e.dpa2m = r.1.toNat / 2097152 →
    e.len2m = r.2.toNat / 2097152 → migsIn s e.dpa2m e.len2m = [] →
      EndsWork (.releaseDynamicCapacity [r]) s { s with chd := { s.chd with
        extents := mset s.chd.extents i { extentPart e e.dpa2m e.len2m with state := .releasing } } }) ∧
  (∀ (s : State) (dpa : Dpa) (i : Nat) (e : Extent), releasing s = [(i, e)] → e.dpa2m * 2097152 = dpa.toNat →
    rangeBusy s e = false →
    let v := mbReply s .ok
    (e.shared = none → e.attrs.mirrored = false → listedPages (releasePhase v i 4 e) e = [] →
      EndsWork (.releaseResponse dpa) s
        (retireKey (dropExtent (tcForget (releasePhase (releasePhase (releasePhase v i 4 e) i 5 e) i 6 e) e) i) e.attrs.domain)) ∧
    (e.shared.isSome = true → EndsWork (.releaseResponse dpa) s (dropShared (releasePhase v i 6 e) i e))) ∧
  (∀ (s : State) (dpa : Dpa), (∃ e ∈ releasing s, rangeBusy s e.2 = true) → EndsWork (.releaseResponse dpa) s s)

/-- R79, R494: a grant is recorded under the next number that is free, which the command completes with; a revocation is noted and
told to the grantee, and refused for a grant being revoked; at the grantee the host is asked to release the extents of a revoked
grant, and at the owner the grantee's answer ends the grant with event 0x264. -/
def Obligations.SharingGrants : Prop :=
  (∀ (s : State) (src : CmdSrc) (entry : Line) (i : Nat) (e : Extent), Runs s src entry →
    let dpa := entryNat entry 8 8
    let len := entryNat entry 0x10 4
    let n := entryNat entry 0x14 2
    let a := dpa / 2097152
    let block := ((regionOf s e.region).map (·.block)).getD 1
    let id := freeGrant s 4096 s.host.nextGrant
    extentOf s dpa = some (i, e) → len ≠ 0 → dpa % (2097152 * block) = 0 → n ≠ myNode s → n < 4096 → populated s n = true →
    e.shared = none →
    s.host.grants.any (fun g => g.2.grantee.toNat == n && decide (a < g.2.dpa2m + g.2.len2m) && decide (g.2.dpa2m < a + len)) = false →
    (e.dpa2m + e.len2m < a + len → EndsWork (.shareGrant src entry) s (completeCmd (active s) src stLength 0)) ∧
    (a + len ≤ e.dpa2m + e.len2m → 4096 ≤ s.host.grants.length →
      EndsWork (.shareGrant src entry) s (completeCmd (active s) src stNoSpace 0)) ∧
    (a + len ≤ e.dpa2m + e.len2m → s.host.grants.length < 4096 →
      EndsWork (.shareGrant src entry) s (completeCmd { active s with host := { s.host with
        grants := mset s.host.grants id.toNat ⟨a, len, BitVec.ofNat 12 n, false⟩
        nextGrant := if id = 0xFFFFFFFF then 1 else id + 1 } } src stOk id.toNat))) ∧
  (∀ (s : State) (src : CmdSrc) (entry : Line) (g : Grant), Runs s src entry →
    let id := entryNat entry 8 4
    (mget s.host.grants id = some g → g.revoking = false →
      EndsWork (.shareRevoke src entry) s (completeCmd (emit { active s with host := { s.host with
        grants := mset s.host.grants id { g with revoking := true } } } (.grantRevoked g.grantee (BitVec.ofNat 32 id))) src stOk 0)) ∧
    (mget s.host.grants id = some g → g.revoking = true →
      EndsWork (.shareRevoke src entry) s (completeCmd (active s) src stInvalid 0)) ∧
    (mget s.host.grants id = none → EndsWork (.shareRevoke src entry) s (completeCmd (active s) src stInvalid 0))) ∧
  (∀ (s : State) (owner : Node) (grant : BitVec 32) (i : Nat) (e : Extent) (x : SharedRef), owner.toNat ≠ myNode s →
    s.chd.extents = [(i, e)] → e.shared = some x → x.owner = owner → x.grantId = grant → e.state = .accepted →
      EndsWork (.revocationAtGrantee owner grant) s
        (postEvent s 4 (.releaseCapacity (e.dpa2m * 2097152) (e.len2m * 2097152) e.tag e.region))) ∧
  (∀ (s : State) (owner : Node) (grant : BitVec 32), owner.toNat = myNode s → mhas s.host.grants grant.toNat = true →
    EndsWork (.revocationAtGrantee owner grant) s
      (raise { s with host := { s.host with grants := mdel s.host.grants grant.toNat } } 0x264 0))

/-- R142 to R144, R236, R237, R495, R218: a hint of one page is applied and completes with OK; COLD sets the heat of a populated
page to 0; an atomic waits its turn at its line; a rotation waits for its switch point, with an envelope to the buddy where the
domain has a Mirrored extent, where the new generation becomes current and the command completes with it; an evaluation runs one
job for each block. -/
def Obligations.HintAtomicKeyPrimer : Prop :=
  (∀ (s : State) (src : CmdSrc) (e : Line) (i : Nat) (x : Extent), Runs s src e →
    let u := active s
    let dpa := entryNat e 8 8
    let kind := entryNat e 0x14 1
    let p := dpa / 4096
    extentOf u dpa = some (i, x) → dpa % 4096 = 0 → 1 ≤ kind → kind ≤ 4 → kind ≠ 3 → entryNat e 0x10 4 = 1 →
    p + 1 ≤ (x.dpa2m + x.len2m) * 512 → x.shared = none →
    u.chd.pages.any (fun y => y.2.fenced && decide (p ≤ y.1) && decide (y.1 < p + 1)) = false →
      EndsWork (.placeHint src e) s (completeCmd (hintPage u kind p) src stOk 0)) ∧
  (∀ (s : State) (p : Nat), dTier (page s p).desc ≠ tierNone →
    (page (hintPage s 2 p) p).heat = 0 ∧ (page (hintPage s 2 p) p).desc = (page s p).desc) ∧
  (∀ (s : State) (src : CmdSrc) (e : Line) (i : Nat) (x : Extent), Runs s src e →
    let u := active s
    let dpa := entryNat e 8 8
    let op := entryNat e 0x10 1
    let size := entryNat e 0x11 1
    let raddr := entryNat e 0x18 8
    extentOf u dpa = some (i, x) → atomicValid op size = true → dpa % 2 ^ size = 0 → (size = 4 → raddr ≠ 0 ∧ raddr % 16 = 0) →
      EndsWork (.atomic src e) s (pump { u with coh := { u.coh with waitHost := u.coh.waitHost ++
        [(BitVec.ofNat 64 (dpa / 64 * 64), .atomic src x.attrs.label (BitVec.ofNat 8 op) (BitVec.ofNat 3 size)
          (BitVec.ofNat 6 (dpa % 64)) (BitVec.ofNat 256 (entryNat e 0x20 32)) (BitVec.ofNat 64 raddr))] } })) ∧
  (∀ (s : State) (src : CmdSrc) (e : Line), Runs s src e →
    let u := active s
    let d := entryNat e 8 2
    d ≤ 4095 → (u.img.active.rcd secDomains d).isSome = true → domainSource u d ≠ 2 → (domKeys u d).old = none →
    (domKeys u d).rotating = none → domainRefolding u d = false →
    let v := setDom u d { domKeys u d with rotating := some src }
    (domainMirrored u d = false → EndsWork (.keyRotate src e) s v) ∧
    (domainMirrored u d = true → u.chd.mirror = .mirrored → domainMirrored v d = true →
      EndsWork (.keyRotate src e) s (sendEnvelope v))) ∧
  (∀ (s : State) (d : BitVec 12) (src : CmdSrc),
    let k := domKeys s d.toNat
    k.rotating = some src → domainMirrored s d.toNat = false → k.supplied = none →
    let u := completeCmd (setDom { s with xts := { s.xts with nextKey := s.xts.nextKey + 1 } } d.toNat { k with
      current := !k.current
      cur := some (Config.keyValues s.xts.nextKey)
      old := k.cur
      rotating := none
      supplied := none }) src stOk (b2n (!k.current))
    let ps := (u.chd.pages.filter (fun x => dTier x.2.desc != tierNone && !x.2.fenced && pageDomain u x.1 == d.toNat &&
      dKgen x.2.desc == k.current)).map (·.1)
    EndsWork (.keyRotateSwitch d) s (retireKey (postRefold u ps) d.toNat)) ∧
  (∀ (s : State) (src : CmdSrc) (e : Line) (block : List Byte), Runs s src e →
    let u := active s
    let a := entryNat e 8 8
    let dst := entryNat e 0x10 8
    let slot := entryNat e 0x1A 1
    a % 64 = 0 → dst % 64 = 0 → entryNat e 0x18 2 = 1 → slotInstalled u slot = true →
    let v := { u with cmp := { u.cmp with evals := ⟨src, BitVec.ofNat 6 slot, 1, [], BitVec.ofNat 64 dst⟩ :: u.cmp.evals } }
    let bytes := bytesAt block 0 1024
    EndsWork (.primerEval src e [block] true) s
      (if bytes.all (· == 0) then evalResult (countL v 0x022 14) src 0 0
       else pushJob v (jobOf (.eval src 0) [slot] 14 bytes)))

/-- R485 whole: the statuses of QUEUE_CREATE in their order, and the two empty queues it makes. -/
def Obligations.QueueCreate : Prop :=
  ∀ (s : State) (payload : List Byte), Serves s → payload.length = 32 →
    let qid := field payload 0x00 2
    let vector := field payload 0x02 2
    let sqEntries := field payload 0x04 4
    let sqBase := field payload 0x08 8
    let cqEntries := field payload 0x10 4
    let cls := field payload 0x14 1
    let cqBase := field payload 0x18 8
    let invalid := 1024 ≤ qid ∨ 2048 ≤ vector ∨ sqEntries < 2 ∨ sqBase % 4096 ≠ 0 ∨ cqEntries < 2 ∨ 1 < cls ∨
      allZero payload 0x15 3 = false ∨ cqBase % 4096 ≠ 0
    let long := 65536 < sqEntries ∨ 65536 < cqEntries ∨ 2 ^ 64 < sqBase + 64 * sqEntries ∨ 2 ^ 64 < cqBase + 16 * cqEntries
    let taken := (mget s.host.queues qid).isSome = true
    (invalid → Ends (.queueCreate payload) s (entryReply s stInvalid 0)) ∧
    (¬invalid → long → Ends (.queueCreate payload) s (entryReply s stLength 0)) ∧
    (¬invalid → ¬long → taken → Ends (.queueCreate payload) s (entryReply s 0x03 0)) ∧
    (¬invalid → ¬long → ¬taken → Ends (.queueCreate payload) s (entryReply { s with host := { s.host with
      queues := mset s.host.queues qid {
        vector := BitVec.ofNat 11 vector
        admin := cls == 1
        sqEntries := sqEntries
        cqEntries := cqEntries
        sqBase := BitVec.ofNat 64 sqBase
        cqBase := BitVec.ofNat 64 cqBase
        sqHead := 0
        sqTail := 0
        cqHead := 0
        cqTail := 0
        phase := true
        stopped := false
        deleting := false
        waiting := []
        taken := [] } } } stOk 0))

/-- R483, R486 to R488, R501: a doorbell past its queue is ignored with event 0x262; a tail inside it hands over the new entries,
which are taken in order; a head frees completion slots; the first finished command is posted to the slot at the CQ tail with the
current phase unless the CQ is full; a failed DMA stops the queue with event 0x263; a deleted queue takes no more; EXEC_ENTRY runs
one entry. -/
def Obligations.CommandQueues : Prop :=
  (∀ (s : State) (qid : BitVec 10) (v : BitVec 32) (es : List Line) (q : Queue), mget s.host.queues qid.toNat = some q →
    (q.sqEntries ≤ v.toNat → EndsWork (.sqTail qid v es) s (raise s 0x262 0)) ∧
    (q.cqEntries ≤ v.toNat → EndsWork (.cqHead qid v) s (raise s 0x262 0)) ∧
    (v.toNat < q.sqEntries →
      let n := (v.toNat + q.sqEntries - q.sqTail) % q.sqEntries
      es.length = n →
      EndsWork (.sqTail qid v es) s (takeEntries 256 { s with host := { s.host with queues := mset s.host.queues qid.toNat { q with
        sqTail := v.toNat
        waiting := q.waiting ++ es } } } qid.toNat)) ∧
    (v.toNat < q.cqEntries → EndsWork (.cqHead qid v) s { s with host := { s.host with
      queues := mset s.host.queues qid.toNat { q with cqHead := v.toNat } } }) ∧
    EndsWork (.dmaError qid) s (raise { s with host := { s.host with
      queues := mset s.host.queues qid.toNat { q with stopped := true } } } 0x263 0)) ∧
  (∀ (s : State) (qid : BitVec 10) (q : Queue) (t : Taken) (c : Completion), mget s.host.queues qid.toNat = some q →
    q.taken.find? (fun t => t.done.isSome) = some t → t.done = some c →
    ((q.cqTail + 1) % q.cqEntries = q.cqHead → EndsWork (.commandComplete qid) s s) ∧
    ((q.cqTail + 1) % q.cqEntries ≠ q.cqHead →
      EndsWork (.commandComplete qid) s (deleteCheck (takeEntries 256 (postOne s qid.toNat q t c) qid.toNat) qid.toNat) ∧
      ∃ u, postOne s qid.toNat q t c = signalMsix u q.vector.toNat ∧
        ∃ q', mget u.host.queues qid.toNat = some q' ∧ q'.cqTail = (q.cqTail + 1) % q.cqEntries ∧
          q'.phase = (if q'.cqTail = 0 then !q.phase else q.phase))) ∧
  (∀ (s : State) (payload : List Byte) (q : Queue), Serves s → payload.length = 2 →
    s.host.background = none →
    let qid := field payload 0 2
    mget s.host.queues qid = some q →
      EndsWork (.queueDelete payload) s (deleteCheck (mbReply { s with host := { s.host with
        background := some (.queueDelete (BitVec.ofNat 10 qid))
        queues := mset s.host.queues qid { q with deleting := true, waiting := [] } } } .background) qid)) ∧
  (∀ (s : State) (payload : List Byte) (c : Completion), Serves s → payload.length = 64 →
    s.host.background = none →
    let e := bytesLine payload
    let u := runEntry { s with host := { s.host with background := some (.execEntry e), bgOutput := none } } .mailbox e [] true
    u.host.background = none → u.host.bgOutput = some c →
      EndsWork (.execEntry payload [] true) s (emit { u with host := { u.host with bgOutput := none } } (.mailbox (.entry c))))

/-- R474, R477, R497, R584: a decoder commit that the rule accepts commits, and one with its BI bit 0 sets Commit Error; the host
link comes up at its speed and width, a degraded one with event 0x260; it leaves L0 to L1, L2 or down; the host interface becomes
ready. -/
def Obligations.HostPort : Prop :=
  (∀ (s : State) (i : Fin 8) (x : HdmSetting),
    let put := fun (c e : Bool) => { s with host := { s.host with decoders := mset s.host.decoders i.val ⟨x, c, e⟩ } }
    (decoderOk (put true false) i.val x = true → Ends (.hdmDecoderCommit i x) s (put true false)) ∧
    (decoderOk (put true false) i.val x = false → Ends (.hdmDecoderCommit i x) s (put false true)) ∧
    (x.bi = false → decoderOk (put true false) i.val x = false)) ∧
  (∀ (s : State) (speed : BitVec 4) (width : BitVec 6), s.host.termination = true → s.host.linkLow = some .down → s.host.msix = [] →
    let t := { s with host := { s.host with speed := speed, width := width, linkLow := none, wake := false } }
    (6 ≤ speed.toNat → 16 ≤ width.toNat → EndsWork (.hostLinkUp speed width) s t) ∧
    (speed.toNat < 6 ∨ width.toNat < 16 → EndsWork (.hostLinkUp speed width) s (raise t 0x260 0))) ∧
  (∀ s : State,
    EndsWork (.hostLinkLeavesL0 .down) s { s with host := { s.host with linkLow := some .down, speed := 0, width := 0 } } ∧
    (s.host.linkLow = none → s.host.speed ≠ 0 → ∀ low ∈ [HostLinkLow.l1, .l2],
      EndsWork (.hostLinkLeavesL0 low) s { s with host := { s.host with linkLow := some low } })) ∧
  (∀ s : State, s.host.perst = false → s.boot.ended.contains 0x05 = true →
    (s.boot.st ≠ .serving → EndsWork .hostInterfaceReady s { s with host := { s.host with crs := false, infoValid := true } }) ∧
    (s.boot.st = .serving → EndsWork .hostInterfaceReady s (pump { s with host := { s.host with
      crs := false
      infoValid := true
      memActive := true
      creditsWithheld := false } })))

/-- R481: the event logs, the interrupt policy and the timestamp through the mailbox. -/
def Obligations.MailboxEvents : Prop :=
  ∀ s : State, Serves s →
    (∀ log : BitVec 8, log.toNat ≤ 4 →
      Ends (.getEventRecords log) s (mbReply s (.records ((mgetD s.host.logs log.toNat []).take 511))) ∧
      (∀ hs, Ends (.clearEventRecords log true hs) s
        (mbReply { s with host := { s.host with logs := mset s.host.logs log.toNat [] } } .ok)) ∧
      (∀ hs, oldestHandles hs (mgetD s.host.logs log.toNat []) = true → Ends (.clearEventRecords log false hs) s
        (mbReply { s with host := { s.host with
          logs := mset s.host.logs log.toNat ((mgetD s.host.logs log.toNat []).drop hs.length) } } .ok)) ∧
      (∀ hs, oldestHandles hs (mgetD s.host.logs log.toNat []) = false →
        Ends (.clearEventRecords log false hs) s (mbReply s .invalidHandle))) ∧
    (∀ log : BitVec 8, 4 < log.toNat → ∀ all hs,
      Ends (.getEventRecords log) s (mbReply s .invalidInput) ∧ Ends (.clearEventRecords log all hs) s (mbReply s .invalidInput)) ∧
    Ends .getEventInterruptPolicy s (mbReply s (.bytes (natLe 5 s.host.policy.toNat))) ∧
    (∀ p, Ends (.setEventInterruptPolicy p) s (mbReply { s with host := { s.host with policy := p } } .ok)) ∧
    (s.host.timestamp = none → Ends .getTimestamp s (mbReply s (.bytes (natLe 8 0)))) ∧
    (∀ v t, s.host.timestamp = some (v, t) →
      Ends .getTimestamp s (mbReply s (.bytes (natLe 8 (v + BitVec.ofNat 64 (s.clockNs - t)).toNat)))) ∧
    (∀ v, Ends (.setTimestamp v) s (mbReply { s with host := { s.host with timestamp := some (v, s.clockNs) } } .ok))

/-- R481, R506, R508 to R510: firmware through the mailbox. Only the inactive slot is written; at the end of a transfer the image
stands in its slot if its format, its svn and, in SECURED, its signature hold, and the slot is empty otherwise; an activation of a
valid slot waits for the next device reset. -/
def Obligations.MailboxFirmware : Prop :=
  ∀ s : State, Serves s →
    (let num := fun (o : Option Nat) => (o.map (· + 1)).getD 0
     Ends .getFwInfo s (mbReply s (.bytes ([2, BitVec.ofNat 8 (num s.host.fwActive + 8 * num s.host.fwPending), 0] ++
      List.replicate 13 0 ++ fwRevision s 0 ++ fwRevision s 1 ++ List.replicate 32 0)))) ∧
    (∀ (slot : BitVec 8) (data : List Byte), s.host.fwTransfer = none → 1 ≤ slot.toNat → slot.toNat ≤ 2 →
      s.host.fwActive ≠ some (slot.toNat - 1) →
      Ends (.transferFw 1 slot 0 data) s (mbReply { s with host := { s.host with
        fwTransfer := some ⟨slot.toNat - 1, data.length, data⟩
        fwSlots := mdel s.host.fwSlots (slot.toNat - 1) } } .ok)) ∧
    (∀ (slot : BitVec 8) (data : List Byte), s.host.fwActive = some (slot.toNat - 1) → s.host.fwTransfer = none →
      Ends (.transferFw 1 slot 0 data) s (mbReply s .invalidInput)) ∧
    (∀ (slot : BitVec 8) (off : BitVec 32) (data : List Byte) (t : FwTransfer), s.host.fwTransfer = some t →
      128 * off.toNat = t.received → t.received + data.length ≤ 16777216 →
      Ends (.transferFw 2 slot off data) s (mbReply { s with host := { s.host with
        fwTransfer := some ⟨t.slot, t.received + data.length, t.bytes ++ data⟩ } } .ok) ∧
      (let bs := t.bytes ++ data
       let good := fwFormatOk bs && decide (s.sec.fwFloor ≤ field bs 0x10 1) && (!s.sec.secured || fwSignatureOk bs)
       Ends (.transferFw 3 slot off data) s (if good then mbReply { s with host := { s.host with
           fwTransfer := none
           fwSlots := mset s.host.fwSlots t.slot ⟨field bs 0x0C 4, field bs 0x10 1, true, fwDigest bs, fwSignatureOk bs⟩ } } .ok
         else mbReply { s with host := { s.host with
           fwTransfer := none
           fwSlots := mdel s.host.fwSlots t.slot } } .invalidInput))) ∧
    (∀ (slot : BitVec 8) (off : BitVec 32) (data : List Byte),
      Ends (.transferFw 4 slot off data) s (mbReply { s with host := { s.host with fwTransfer := none } } .ok)) ∧
    (∀ (slot : BitVec 8) (f : FwImage), 1 ≤ slot.toNat → slot.toNat ≤ 2 → mget s.host.fwSlots (slot.toNat - 1) = some f →
      f.valid = true → s.boot.st ≠ .halted →
      Ends (.activateFw 1 slot) s (mbReply { s with host := { s.host with fwPending := some (slot.toNat - 1) } } .ok))

/-- R72, R98, R481: logs, identity, regions and extents through the mailbox; an opcode it does not support is answered
Unsupported. The generation number of the extent list is a free value (log entry 5). -/
def Obligations.MailboxReports : Prop :=
  ∀ s : State, Serves s →
    Ends .getSupportedLogs s (mbReply s (.bytes (natLe 2 1 ++ List.replicate 6 0 ++ celUuid ++ natLe 4 celBytes.length))) ∧
    (∀ off len : BitVec 32,
      (off.toNat + len.toNat ≤ celBytes.length →
        Ends (.getLog true off len) s (mbReply s (.bytes (bytesAt celBytes off.toNat len.toNat)))) ∧
      Ends (.getLog false off len) s (mbReply s .invalidInput)) ∧
    (∃ bytes, bytes.length = 69 ∧ bytesAt bytes 16 24 = natLe 24 0 ∧ bytesAt bytes 56 4 = natLe 4 0 ∧
      bytesAt bytes 60 3 = natLe 3 4096 ∧ Ends .identifyMemoryDevice s (mbReply s (.bytes bytes))) ∧
    (∀ op, Ends (.mailboxUnsupported op) s (mbReply s .unsupported)) ∧
    (s.host.memActive = true → ∀ count start : BitVec 8, start.toNat < (s.img.active.recs secWindow).length →
      Ends (.getDynamicCapacityConfiguration count start) s
        (mbReply s (.regions ((((s.img.active.recs secWindow).drop start.toNat).take count.toNat).map (fun r =>
          (r.2.getD 0 0 * 2097152, r.2.getD 1 0 * 2097152, 2 ^ r.2.getD 3 0)))))) ∧
    (s.host.memActive = true → ∀ count start : BitVec 32,
      let es := s.chd.extents.filter (fun e => e.2.state == .accepted)
      start.toNat ≤ es.length →
      Ends (.getDynamicCapacityExtentList count start) s (mbReply { s with freeIdx := s.freeIdx + 1 }
        (.extents es.length (Config.freeNat s.freeIdx) (((es.drop start.toNat).take count.toNat).map (fun e =>
          (e.2.dpa2m * 2097152, e.2.len2m * 2097152, e.2.tag)))))) ∧
    (s.host.memActive = false → ∀ (a b : BitVec 8) (c d : BitVec 32), Ends (.getDynamicCapacityConfiguration a b) s (mbReply s .retryRequired) ∧
      Ends (.getDynamicCapacityExtentList c d) s (mbReply s .retryRequired))

/-- R464, R465, R467, R481: the poison list holds the marked lines of the range in DPA order, at most 4,096; a line of an own
extent is poisoned or cleared by a write of the whole line, which the mailbox answers. -/
def Obligations.MailboxPoison : Prop :=
  ∀ s : State, Serves s → s.host.memActive = true →
    (∀ dpa count : BitVec 64, ∃ l : List Nat,
      Ends (.getPoisonList dpa count) s (mbReply s (.poisonList (l.map (fun a => (a, 1))))) ∧ l.length ≤ 4096 ∧
      (∀ a ∈ l, dpa.toNat / 64 * 64 ≤ a ∧ a < dpa.toNat / 64 * 64 + 64 * count.toNat ∧
        ∃ x ∈ s.chd.pages, ∃ i < 64, x.2.poison.getLsbD i = true ∧ a = 4096 * x.1 + 64 * i)) ∧
    (∀ (dpa : BitVec 64) (i : Nat) (e : Extent) (data : Line), extentOf s dpa.toNat = some (i, e) → e.shared = none → dpa.toNat % 64 = 0 →
      EndsWork (.injectPoison dpa) s (mbReply (deviceWrite s dpa.toNat true 0) .ok) ∧
      EndsWork (.clearPoison dpa data) s (mbReply (deviceWrite s dpa.toNat false data) .ok))

/-- R261, R267, R269, R279, R281: a peer's request that this owner serves, that a grant covers, that is no duplicate and that
finds room and its line free, opens its transaction at the line; one whose line is not free waits in the pending table; a request
this device does not serve is answered NackRetry, and one that no grant covers Cmp with event 0x1A3. -/
def Obligations.PeerRequests : Prop :=
  ∀ (s : State) (h : ReqHdr) (line : LineNo) (reserved : Bool) (keep : Keep) (poison : Bool) (mask : BitVec 64) (data : Line),
    ∀ r ∈ [(1, OwnKind.rdShared, Instr.rdShared h line reserved), (2, .rdOwn, .rdOwn h line reserved), (3, .rdCur, .rdCur h line reserved),
        (4, .wrLine keep poison mask data, .wrLine h line reserved keep poison mask data)],
    let got := consumeTag s 0 r.1 h.tag
    let u := active got.1
    let src := tagSource h.tag
    let owner := requestOwner u line.toNat
    let key := lineKey owner line.toNat
    let v := makeWay u key r.2.1
    let counted := fun (x : State) => if owner = myNode x then heatTaken x (line.toNat / 64) r.2.1 else x
    let who : Asker := .peer (BitVec.ofNat 12 src) h.tag h.label.toNat (queueLabel h.label.toNat got.2.demoted got.2.yellow) h.isNew
    s.aon.st = .run → got.2.old = false →
    (servingFor u owner = false → EndsWork r.2.2 s (respondNack u h.tag h.label.toNat 2 u.coh.notservingHint.toNat)) ∧
    (servingFor u owner = true → owner = myNode u → grantCovers u src line.toNat = false → EndsWork r.2.2 s
      (respondCmp (raiseP u 0x1A3 0 (.peer (BitVec.ofNat 12 src)) line.toNat) h.tag h.label.toNat 2 false 0)) ∧
    (servingFor u owner = true → (owner = myNode u → grantCovers u src line.toNat = true) → tagOpen u h.tag = false →
      crtDuplicate u h.tag h.isNew = none → crtFull u h.tag = false →
      (pendBefore v key = false → mayTake v key r.2.1 = true → EndsWork r.2.2 s (goOn (openOwn (counted v) key r.2.1 who false false) key)) ∧
      (mayTake v key r.2.1 = false → reserved = false → areaUsed v .general < 3584 →
        EndsWork r.2.2 s (counted (putPend v key r.2.1 who .general))))

/-- R283 to R286: a far atomic not older than the floor of its source raises the floor and opens its transaction; an older one is
answered Cmp with status 1. -/
def Obligations.FarAtomics : Prop :=
  ∀ (s : State) (h : ReqHdr) (line : LineNo) (op : BitVec 8) (size : BitVec 3) (seq floor : BitVec 32) (off : BitVec 6) (ops : BitVec 256),
    let got := consumeTag s 0 5 h.tag
    let u := active got.1
    let src := tagSource h.tag
    let owner := requestOwner u line.toNat
    let key := lineKey owner line.toNat
    let kind : OwnKind := .atomicFar op size seq floor off ops
    let old := floorOf u src owner
    let f := { u with chd := { u.chd with
      atomicFloor := mset u.chd.atomicFloor (floorKey src owner) (if seqBefore old floor then floor else old) } }
    let counted := fun (x : State) => if owner = myNode x then heatTaken x (line.toNat / 64) kind else x
    s.aon.st = .run → got.2.old = false → servingFor u owner = true → (owner = myNode u → grantCovers u src line.toNat = true) →
    tagOpen u h.tag = false → crtDuplicate u h.tag h.isNew = none →
    (seqBefore seq old = true → EndsWork (.atomicFar h line op size seq floor off ops) s (respondCmp f h.tag h.label.toNat 1 false 0)) ∧
    (let v := makeWay f key kind
     seqBefore seq old = false → crtFull u h.tag = false → pendBefore v key = false → mayTake v key kind = true →
      EndsWork (.atomicFar h line op size seq floor off ops) s (goOn (openOwn (counted v) key kind
        (.peer (BitVec.ofNat 12 src) h.tag h.label.toNat (queueLabel h.label.toNat got.2.demoted got.2.yellow) h.isNew) false false)
        key))

/-- R262, R269: when an owner replies to RdOwn of a peer, the directory holds the line as E of that peer alone; when it replies to
a WrLine with keep I, no copy is recorded and the line is free. -/
def Obligations.SingleOwnerAfterReply : Prop :=
  ∀ (s : State) (key : Nat) (tx : OwnTx) (q : Node) (tag : Tag) (label queue : Nat) (n : Bool), tx.who = .peer q tag label queue n →
    (tx.kind = .rdOwn →
      (dirEnt (reply s key tx) key).st = .e ∧ (dirEnt (reply s key tx) key).ptr0 = some q ∧
      (dirEnt (reply s key tx) key).sharers = [] ∧ (dirEnt (reply s key tx) key).host = .i) ∧
    (∀ poison mask data, tx.kind = .wrLine .i poison mask data → mget (mdel s.coh.dir key) key = none →
      dirEnt (reply s key tx) key = DirEnt.none)

/-- R262, R269, R288: the answer of the host to a back-invalidate lets the transaction at the line go on with what was written
back; a BIConflict is acknowledged; a back-invalidate that no answer meets in time raises event 0x1A4, and the first one fences
the host's memory with event 0x265. -/
def Obligations.HostSnoopAnswers : Prop :=
  (∀ (s : State) (dpa : Dpa) (wb : Option (Line × Bool)) (tx : OwnTx) (t : Nat),
    let key := biKey s dpa.toNat
    let e := dirEnt s key
    ownKey s key = true → mget s.coh.txs key = some tx → tx.bisnp = some t →
      EndsWork (.biRsp dpa wb) s (goOn (modTx (setEnt s key { e with host := match biOf s key tx.kind with
          | .inv => .i
          | .data => .s
          | .cur => e.host }) key (fun t => { t with bisnp := none, commit := match wb with
        | some v => some v
        | none => t.commit })) key)) ∧
  (∀ (s : State) (dpa : Dpa) (wb : Option (Line × Bool)), ownKey s (biKey s dpa.toNat) = false →
    EndsWork (.biRsp dpa wb) s (hostInvDone s (biKey s dpa.toNat) wb)) ∧
  (∀ (s : State) (dpa : Dpa), Ends (.biConflict dpa) s (emit s (.biConflictAck dpa.toNat))) ∧
  (∀ (s : State) (dpa : Dpa) (tx : OwnTx) (t : Nat),
    let key := biKey s dpa.toNat
    let u := raiseP s 0x1A4 0 .hostMem dpa.toNat
    let v := { u with host := { u.host with memFenced := true } }
    ownKey s key = true → mget s.coh.txs key = some tx → tx.bisnp = some t → s.host.memFenced = false →
      let w := raiseP v 0x265 0 .hostMem 0
      EndsWork (.bisnpTimeout dpa) s (biAnswered (setEnt w key { dirEnt w key with host := .i }) key none))

/-- R268, R271 to R273: a snoop of a line this device holds no copy of, and has no request for, is answered as from I, whatever
the snoop is; a snoop of a set or a stack takes every line of it; one that meets an eviction of the line is answered
RspEvictInFlight; one that arrives before step 0x20 of the start has ended is answered NOT_SERVING (R616). -/
def Obligations.SnoopsAtRequester : Prop :=
  ∀ (s : State) (tag : Tag) (line : LineNo), s.aon.st = .run →
    (∀ (sc : Scope) (g : Tag), sc ≠ .line → (consumeTag s 1 1 tag).2.old = false →
      (consumeTag s 1 1 tag).1.boot.ended.contains 0x20 = true →
      EndsWork (.snpInv tag line sc g) s (snoopScope (active (consumeTag s 1 1 tag).1) (tagSource tag) line.toNat sc tag)) ∧
    ∀ r ∈ [(1, Instr.snpInv tag line .line 0), (2, .snpData tag line), (3, .snpCur tag line)],
    let got := consumeTag s 1 r.1 tag
    let u := active got.1
    let key := snoopKey u (tagSource tag) line.toNat
    got.2.old = false →
    (u.boot.ended.contains 0x20 = false → EndsWork r.2 s (respondNack u tag 15 2 u.coh.notservingHint.toNat)) ∧
    (u.boot.ended.contains 0x20 = true → u.coh.sentDirty.find? (fun x => x.tag.toNat / 4 == tag.toNat / 4) = none →
     (∀ t, mget u.coh.reqs key = some t → t.stage = .evicting → EndsWork r.2 s (respondLine u 5 tag (keyLine key))) ∧
     (mget u.coh.reqs key = none → nearGet u key = none → EndsWork r.2 s (respondCmp u tag 15 0 false 0)))

/-- R264, R273, R274, R376, R378: a response is taken by the transaction its tag names. The clean and the dirty answer of a snoop,
the grant of a line, the completion and the retry, each at its place; a response that names no transaction is counted as late. -/
def Obligations.Responses : Prop :=
  ∀ (s : State) (tag : Tag) (src : Node) (poison contended : Bool) (value : Line),
    (let u := (consumeTag s 2 1 tag).1
     (consumeTag s 2 1 tag).2.old = false →
     (∀ hd bulk vers pod, txFor u tag = none →
       EndsWork (.data tag src poison contended true hd bulk vers pod value) s (lateResponse u)) ∧
     (∀ key tx k n hd bulk vers pod, txFor u tag = some (key, tx) → tx.purpose = .snoop k n →
       EndsWork (.data tag src poison contended true hd bulk vers pod value) s
         (snoopAnswered (closeTx u key) k n tag (.dirty (value, poison) true hd)) ∧
       EndsWork (.data tag src poison contended false true bulk vers pod value) s
         (snoopAnswered (closeTx u key) k n tag (.dirty (value, poison) false true)) ∧
       EndsWork (.data tag src poison contended false false bulk vers pod value) s
         (snoopAnswered (closeTx u key) k n tag .clean)) ∧
     (∀ key tx k bulk vers pod, txFor u tag = some (key, tx) → tx.purpose = .line k →
       EndsWork (.data tag src poison contended false false bulk vers pod value) s
         (reqGranted (closeTx u key) k tag src.toNat false (value, poison) contended))) ∧
    (let u := (consumeTag s 2 2 tag).1
     (consumeTag s 2 2 tag).2.old = false → ∀ key tx k, txFor u tag = some (key, tx) → tx.purpose = .line k →
       EndsWork (.dataOwned tag src poison contended value) s
         (reqGranted (closeTx u key) k tag src.toNat true (value, poison) contended)) ∧
    (let u := (consumeTag s 2 3 tag).1
     (consumeTag s 2 3 tag).2.old = false →
     (∀ status vers, tagSource tag ≠ myNode u → u.coh.sentDirty.any (fun x => x.tag.toNat / 4 == tag.toNat / 4) = false →
       EndsWork (.cmp tag src status contended vers) s (grantAcked u tag)) ∧
     (∀ vers key tx k n, txFor u tag = some (key, tx) → tagSource tag = myNode u → tx.purpose = .snoop k n →
       EndsWork (.cmp tag src 0 contended vers) s (snoopAnswered (closeTx u key) k n tag .clean))) ∧
    (let u := (consumeTag s 2 4 tag).1
     (consumeTag s 2 4 tag).2.old = false → ∀ key tx (cause : BitVec 4) (hint : BitVec 8), txFor u tag = some (key, tx) →
     tagInc tag = tx.inc → hint.toNat % 64 ≠ 0 →
       EndsWork (.nackRetry tag cause hint) s { u with e2e := { u.e2e with txs := mset u.e2e.txs key { tx with
         retryWait := true
         nacks := if cause = 1 then tx.nacks + 1 else tx.nacks } } }) ∧
    (let u := (consumeTag s 2 5 tag).1
     (consumeTag s 2 5 tag).2.old = false → ∀ line key tx k n, txFor u tag = some (key, tx) → tx.purpose = .snoop k n →
       EndsWork (.rspEvictInFlight tag src line) s (snoopAnswered (closeTx u key) k n tag .inFlight)) ∧
    (let u := (consumeTag s 2 6 tag).1
     (consumeTag s 2 6 tag).2.old = false → ∀ line key tx k, txFor u tag = some (key, tx) → tx.purpose = .writeback k →
       EndsWork (.evictAck tag line) s (reqEvicted (closeTx u key) k))

/-- R265, R266, R271: an Evict of a line on which no snoop of its sender is out takes the sender off the entry and is
acknowledged; a WbDirty of the recorded owner does the same, its data waiting in the sink for the home write. -/
def Obligations.WritebacksAtOwner : Prop :=
  ∀ (s : State) (h : ReqHdr) (line : LineNo) (poison hostDirty : Bool) (value : Line),
    s.aon.st = .run → s.coh.sink.length < 4096 →
    let n : Node := BitVec.ofNat 12 (tagSource h.tag)
    (let u := active (consumeTag s 3 1 h.tag).1
     let key := lineKey (requestOwner u line.toNat) line.toNat
     (consumeTag s 3 1 h.tag).2.old = false → crtDuplicate u h.tag h.isNew = none → crtFull u h.tag = false →
     u.coh.sink.any (fun x => x.tag.toNat / 4 == h.tag.toNat / 4) = false → mget u.coh.txs key = none →
     servingFor u (keyOwner key) = true → (dirEnt u key).records n = true → (dirEnt u key).st = .s ∨ (dirEnt u key).st = .e →
       EndsWork (.evict h line) s (respondLine (crtRecordFor (setEnt u key ((dirEnt u key).dropPeer n)) (keyOwner key)
         h.tag h.isNew 25 0 (keyLine key) 0 0) 6 h.tag (keyLine key))) ∧
    (let u := active (consumeTag s 3 2 h.tag).1
     let key := lineKey (requestOwner u line.toNat) line.toNat
     (consumeTag s 3 2 h.tag).2.old = false → crtDuplicate u h.tag h.isNew = none →
     crtFull u h.tag = false → u.coh.sink.any (fun x => x.tag.toNat / 4 == h.tag.toNat / 4) = false → mget u.coh.txs key = none →
     servingFor u (keyOwner key) = true → (dirEnt u key).owns n = true →
       EndsWork (.wbDirty h line poison hostDirty value) s
         (sinkPut (setEnt u key ((dirEnt u key).dropPeer n)) ⟨key, h.tag, h.isNew, value, poison, false, .waiting⟩))

/-- R275, R331: a holder answers a BlkRead or a BlkWrite outside the lease Cmp with status 3, and a count of 0 or above 64 Cmp
with status 4; a BlkWrite inside it stores the pod under its owner, and a BlkFree drops the pods of its range. -/
def Obligations.PodsAtHolder : Prop :=
  ∀ (s : State) (h : ReqHdr) (pod : BitVec 38) (vers : BitVec 16) (value : Line), s.aon.st = .run →
    let o := tagSource h.tag
    let label := h.label.toNat
    (let u := active (consumeTag s 4 1 h.tag).1
     (consumeTag s 4 1 h.tag).2.old = false → serves u = true →
     (EndsWork (.blkRead h pod 0 vers) s (respondCmp u h.tag label 4 false vers.toNat)) ∧
     (∀ n : BitVec 7, n.toNat ≠ 0 → n.toNat ≤ 64 → inLease u o pod.toNat n.toNat false = false →
       EndsWork (.blkRead h pod n vers) s (respondCmp u h.tag label 3 false vers.toNat)) ∧
     (inLease u o pod.toNat 1 false = true →
       let a := podAddr u o pod.toNat
       channelOut u (paChannel u a) = false →
       EndsWork (.blkRead h pod 1 vers) s (pushDdr u .fabric label
         (queueLabel label (consumeTag s 4 1 h.tag).2.demoted (consumeTag s 4 1 h.tag).2.yellow) false
         (.podRead h.tag pod.toNat 0 vers label) a 64 none))) ∧
    (let u := active (consumeTag s 4 2 h.tag).1
     (consumeTag s 4 2 h.tag).2.old = false → serves u = true → crtDuplicate u h.tag h.isNew = none → crtFull u h.tag = false →
     (inLease u o pod.toNat 1 true = false →
       EndsWork (.blkWrite h pod vers value) s
         (respondCmp (crtRecord u h.tag h.isNew 34 3 pod.toNat 0 0) h.tag label 3 false vers.toNat)) ∧
     (inLease u o pod.toNat 1 true = true →
       let v := { u with fab := { u.fab with lentPods := mset u.fab.lentPods (podKey o pod.toNat) value } }
       let w := pushDdr (podsWritten v label 1) .fabric label
         (queueLabel label (consumeTag s 4 2 h.tag).2.demoted (consumeTag s 4 2 h.tag).2.yellow) true .podWrite
         (podAddr v o pod.toNat) 64 (some value)
       EndsWork (.blkWrite h pod vers value) s
         (respondCmp (crtRecord w h.tag h.isNew 34 0 pod.toNat 0 0) h.tag label 0 false vers.toNat))) ∧
    (let u := active (consumeTag s 4 3 h.tag).1
     ∀ n : BitVec 7, (consumeTag s 4 3 h.tag).2.old = false → serves u = true → n.toNat ≠ 0 → n.toNat ≤ 64 → crtDuplicate u h.tag h.isNew = none →
     crtFull u h.tag = false → inLease u o pod.toNat n.toNat false = true →
       let v := { u with fab := { u.fab with lentPods := mfilter u.fab.lentPods (fun k _ =>
         !(decide (podKey o pod.toNat ≤ k) && decide (k < podKey o pod.toNat + n.toNat))) } }
       EndsWork (.blkFree h pod n) s (respondCmp (crtRecord v h.tag h.isNew 35 0 pod.toNat 0 0) h.tag label 0 false 0))

/-- R168, R172, R173: a serving buddy applies a mirror sequence once and answers a repeat with Cmp; a new one is applied, its copy
written, the entries at or below the retire floor dropped, and Cmp sent. R97, R170, R357, R664: the buddy's reservations and
copies. RESERVE takes room for an extent or is answered DENIED; UNRESERVE and FREE give it back; READ answers the lines of a copy,
PAGE announces one and its pods follow; a count of 0 is INVALID and a range past the extent LENGTH_RANGE. -/
def Obligations.MirrorProtocol : Prop :=
  (∀ (s : State) (h : ReqHdr) (b : MirrorBody), s.aon.st = .run →
    let u := active (consumeTag s 4 4 h.tag).1
    let o := tagSource h.tag
    let r := buddyOf u o
    (consumeTag s 4 4 h.tag).2.old = false → serves u = true → b.seq ≠ 0 → mhas u.chd.acting o = false →
    (b.seq.toNat ≤ r.applied ∨ r.ahead.contains b.seq.toNat = true → EndsWork (.mirrorWrite h b) s (buddyCmp u h (storeStatus u o))) ∧
    (r.applied < b.seq.toNat → r.ahead.contains b.seq.toNat = false →
      (b.origin = none → EndsWork (.mirrorWrite h b) s (buddyCmp (retireEntries (mirrorApply u o b) o b.floor) h (storeStatus u o))) ∧
      (∀ t, b.origin = some t → crtFull u t = false →
        EndsWork (.mirrorWrite h b) s (buddyCmp (retireEntries (mirrorEntry (mirrorApply u o b) o t b) o b.floor) h (storeStatus u o))))) ∧
  (∀ (s : State) (h : ReqHdr) (ext : BitVec 16) (page : BitVec 28), s.aon.st = .run →
    let u := active (consumeTag s 4 5 h.tag).1
    let o := tagSource h.tag
    let b := buddyOf u o
    (consumeTag s 4 5 h.tag).2.old = false → serves u = true →
    (EndsWork (.mirrorCtlReserve h ext 0) s (buddyCmp u h 4)) ∧
    (∀ len : BitVec 32, len ≠ 0 → mhas b.reserved ext.toNat = false →
      (copyRoom u len.toNat = true → EndsWork (.mirrorCtlReserve h ext len) s
        (buddyCmp (reserveChanged (setBuddyOf u o { b with reserved := mset b.reserved ext.toNat len.toNat })) h 0)) ∧
      (copyRoom u len.toNat = false → EndsWork (.mirrorCtlReserve h ext len) s (buddyCmp u h 2))) ∧
    (∀ len : BitVec 32, len ≠ 0 → mhas b.reserved ext.toNat = true → EndsWork (.mirrorCtlReserve h ext len) s (buddyCmp u h 0)) ∧
    (∀ len : BitVec 32, EndsWork (.mirrorCtlUnreserve h ext len) s
      (buddyCmp (reserveChanged (setBuddyOf u o { b with reserved := mdel b.reserved ext.toNat })) h 0)) ∧
    (EndsWork (.mirrorCtlFree h ext page 0) s (buddyCmp u h 4)) ∧
    (∀ cnt : BitVec 32, cnt ≠ 0 →
      let past := copyPast u o ext.toNat page.toNat cnt.toNat = true ∨ 2 ^ 28 < page.toNat + cnt.toNat
      let first := copyKey o ext.toNat page.toNat
      (past → EndsWork (.mirrorCtlFree h ext page cnt) s (buddyCmp u h 3)) ∧
      (¬past → EndsWork (.mirrorCtlFree h ext page cnt) s (buddyCmp (reserveChanged (((mkeys u.chd.copies).filter
        (fun k => decide (first ≤ k) && decide (k < first + cnt.toNat))).foldl dropCopy u)) h 0))) ∧
    (∀ line : BitVec 6,
      let v := readCopyLine u (copyKey o ext.toNat page.toNat) line.toNat
      (copyPast u o ext.toNat page.toNat 1 = false → EndsWork (.mirrorCtlRead h ext page line 1) s
        (respondData u 1 h.tag h.label.toNat v.2 false false false true 0 line.toNat v.1)) ∧
      (copyPast u o ext.toNat page.toNat 1 = true → EndsWork (.mirrorCtlRead h ext page line 1) s (buddyCmp u h 3)) ∧
      EndsWork (.mirrorCtlRead h ext page line 0) s (buddyCmp u h 4)) ∧
    (∀ (blen : BitVec 20) (kgen integ : Bool) (f : BitVec 64),
      let k := copyKey o ext.toNat page.toNat
      let w := setBuddyOf u o { b with storeIntact := true }
      let x := if mhas w.chd.copies k then w else setCopy w k Copy.zero
      (copyPast u o ext.toNat page.toNat 1 = true → EndsWork (.mirrorCtlPage h ext page blen kgen integ true f) s (buddyCmp u h 3)) ∧
      (copyPast u o ext.toNat page.toNat 1 = false → EndsWork (.mirrorCtlPage h ext page blen kgen integ true f) s
        (buddyCmp (modCopy x k (fun c => { c with
          coming := some ⟨mkDesc tierNone kgen 0 true integ false false 0 0 (myNode u) 0, true, [], 64⟩ })) h 0)))) ∧
  (∀ (s : State) (h : ReqHdr) (ext : BitVec 16) (page : BitVec 28) (index : BitVec 6) (raw : Bool) (value : Line), s.aon.st = .run →
    let u := active (consumeTag s 4 6 h.tag).1
    let k := copyKey (tagSource h.tag) ext.toNat page.toNat
    (consumeTag s 4 6 h.tag).2.old = false → serves u = true →
    ((copyOf u k).coming = none → EndsWork (.mirrorPod h ext page index raw value) s (buddyCmp u h 0)) ∧
    (∀ x, (copyOf u k).coming = some x →
      let pods := mset x.pods index.toNat value
      (x.expect ≤ index.toNat → EndsWork (.mirrorPod h ext page index raw value) s (buddyCmp u h 3)) ∧
      (index.toNat < x.expect → pods.length < x.expect → EndsWork (.mirrorPod h ext page index raw value) s
        (buddyCmp (modCopy u k (fun c => { c with coming := some { x with pods := pods } })) h 0))))

/-- R171, R174, R264, R282, R292, R376: the timers of mirroring and coherence. A resynchronisation sends the next page; a grant
without acknowledgement is recovered by SnpInv with its tag; a request that was answered NackRetry goes out again, marked reserved
after the fourth; a reserved entry not used within 64 µs goes to the next node; a flushed host is known again; a cleared predictor
is empty. -/
def Obligations.CoherenceTimers : Prop :=
  (∀ (s : State) (p : PageNo) (rest : List PageNo),
    let u := { s with chd := { s.chd with resync := rest } }
    s.chd.resync = p :: rest → s.chd.mirror = .resync → dTier (page s p.toNat).desc ≠ tierNone → (page s p.toNat).fenced = false →
    mhas s.chd.copyRuns p.toNat = false → EndsWork .resyncPage s (mirrorPage u p.toNat (sendRaw u p.toNat))) ∧
  (∀ (s : State) (line : LineNo) (key : Nat) (tx : OwnTx) (n : Node) (tag : Tag) (label queue : Nat) (w : Bool),
    s.coh.txs.find? (fun x => keyLine x.1 == line.toNat && x.2.stage == .acking && !x.2.recovering) = some (key, tx) →
    tx.who = .peer n tag label queue w →
      EndsWork (.ackTimeout line) s (sendSnoop (modTx s key (fun t => { t with recovering := true })) key n.toNat 1 tag.toNat)) ∧
  (∀ (s : State) (queue : BitVec 4) (idx : BitVec 14) (tx : E2E),
    let key := queue.toNat * 16384 + idx.toNat
    mget s.e2e.txs key = some tx → tx.retryWait = true →
    (tx.nacks < 4 → EndsWork (.nackRetryWaitExpiry queue idx) s
      (resend { s with e2e := { s.e2e with txs := mset s.e2e.txs key tx } } key)) ∧
    (4 ≤ tx.nacks → tx.msg.cls = 0 → EndsWork (.nackRetryWaitExpiry queue idx) s
      (resend { s with e2e := { s.e2e with
        txs := mset s.e2e.txs key { tx with msg := { tx.msg with bodyHi := tx.msg.bodyHi ||| reservedFlag tx.msg.op.toNat } } } } key))) ∧
  (∀ (s : State) (n : Node), s.coh.heldFor.contains n = true →
    let u := { s with coh := { s.coh with heldFor := s.coh.heldFor.erase n } }
    (s.coh.standby = [] → EndsWork (.reservedHoldTimeout n) s u) ∧
    (∀ m, nextStandby u = some m → EndsWork (.reservedHoldTimeout n) s { u with coh := { u.coh with
      heldFor := u.coh.heldFor ++ [m]
      standby := u.coh.standby.filter (· != m)
      pointer := m } })) ∧
  (∀ s : State, EndsWork .hostFlushed s { s with coh := { s.coh with hostUnknown := 0, hostFlushed := false } }) ∧
  (∀ s : State, Ends .predClear s { s with coh := { s.coh with pred := [], predClear := false } })

/-- R352 to R355, R361 to R363: a frame leaves an UP link with what the link's queues give it, as a bypass frame while 120 or more
frames wait in the replay buffer; an arriving frame that is well formed acknowledges, is accepted when it is the next in sequence,
asks for an acknowledgement when it was seen before, and is dropped when a gap is before it. -/
def Obligations.LinkFrames : Prop :=
  (∀ (s u : State) (l : LinkNo) (ms : List Msg), (link s l.toNat).isUp = true → ms ≠ [] →
    ((link s l.toNat).replay.length < 120 → fillFrame l.toNat false 15 s 15 [] = (u, ms) →
      EndsWork (.frameSend l) s (sendFrame u l.toNat 0 ms)) ∧
    (120 ≤ (link s l.toNat).replay.length → (link s l.toNat).replay.length < 128 → fillFrame l.toNat true 15 s 15 [] = (u, ms) →
      EndsWork (.frameSend l) s (sendFrame u l.toNat 2 ms))) ∧
  (∀ (s : State) (l : LinkNo) (bits : BitVec 2016), ∀ c ∈ [Instr.dataFrame l bits, .bypassFrame l bits, .ackFrame l bits],
    let h := frameHead bits
    let r := { link s l.toNat with st := .up, frameNs := s.clockNs }
    let u := frameWakes (setLink s l.toNat r)
    let ms := readSlots h.yellow (h.type == 2) 15 0 true none (frameSlots bits)
    let a := applyAck { r with malformedRun := 0, lastMalformed := none } (BitVec.ofNat 12 h.ack)
    let v := setLink u l.toNat a
    let d := (BitVec.ofNat 12 h.seq - a.rxNext).toNat
    (link s l.toNat).isUp = true → h.type ≠ 3 → malformed u r h ms = false →
    (h.type = 1 → EndsWork c s v) ∧
    (h.type ≠ 1 → d = 0 → EndsWork c s (acceptFrame v l.toNat h (ms.getD []))) ∧
    (h.type ≠ 1 → d ≠ 0 → d < 2048 → EndsWork c s v) ∧
    (h.type ≠ 1 → 2048 ≤ d → EndsWork c s (setLink v l.toNat { a with ackOwed := true }))) ∧
  (∀ (s : State) (l : LinkNo), (link s l.toNat).isUp = true →
    let r := link s l.toNat
    (r.ackOwed = true →
      let b := buildFrame 1 0 (r.rxNext - 1).toNat 0 0 0 0 []
      Ends (.ackOnlyTimer l) s (emit (setLink s l.toNat { r with ackOwed := false, frameNs := s.clockNs }) (.frame (BitVec.ofNat 8 l.toNat) b (frameCrc b)))) ∧
    (owing r ≠ [] → r.replay.length < 120 → Ends (.creditReturnTimer l) s (sendFrame s l.toNat 0 [])) ∧
    (r.replay ≠ [] →
      let u := count (setLink s l.toNat { r with replays := r.replays + 1, expiries := r.expiries + 1 }) (0x1B0 + l.toNat / 8)
      (r.expiries + 1 ≠ 4 → EndsWork (.replayTimerExpiry l) s (replayAll u l.toNat)) ∧
      (r.expiries + 1 = 4 → EndsWork (.replayTimerExpiry l) s (toRetrain (linkCause u l.toNat 0x08) l.toNat)))) ∧
  (∀ (s : State) (l : LinkNo),
    Ends (.frameBadCrc l true) s (setLink s l.toNat { link s l.toNat with fecUncorrectable := (link s l.toNat).fecUncorrectable + 1 }) ∧
    Ends (.frameBadCrc l false) s (count (setLink s l.toNat { link s l.toNat with
      crcErrors := (link s l.toNat).crcErrors + 1
      malformedRun := 0
      lastMalformed := none })
      (0x1D0 + l.toNat / 8)))

/-- R300, R347, R364 to R369, R382 to R384: the states of a link. An UP link goes to RETRAIN on a reset or a loss, and to ASLEEP
where its peer's row sleeps; light starts a dark link's training; the identity a TRAIN frame carries is held against the peer's
and a wrong one holds the link; training and retraining end in UP or GIVEN_UP; hold, clear, retrain and retry act as written. -/
def Obligations.LinkStates : Prop :=
  (∀ (s : State) (l : LinkNo),
    let r := link s l.toNat
    let again := sendTrain (setLink s l.toNat { r with
      st := .retrain
      retrains := r.retrains + 1
      retrainNs := some s.clockNs
      peerTrain := none
      identSeen := false
      expiries := 0 }) l.toNat false
    r.isUp = true →
    (s.flt.inReset = false → Ends (.linkReset l) s again) ∧
    ((∀ n k, peerOf s l.toNat = some (n, k) → rowAsleep s (n / 64) = false) →
      ∀ kind, EndsWork (.lossOfSignal l kind) s again) ∧
    (∀ n k, peerOf s l.toNat = some (n, k) → rowAsleep s (n / 64) = true →
      ∀ kind, EndsWork (.lossOfSignal l kind) s (setLink s l.toNat { r with st := .asleep, laser := false }))) ∧
  (∀ (s : State) (l : LinkNo), (link s l.toNat).st = .dark → (link s l.toNat).hold = false →
    EndsWork (.lightPresent l) s (toTraining s l.toNat)) ∧
  (∀ (s : State) (l : LinkNo) (b : TrainBody),
    let u := setLink s l.toNat { link s l.toNat with peerNode := b.node, peerLink := b.link }
    let e := linkExpect u l.toNat
    (link s l.toNat).st = .training ∨ (link s l.toNat).st = .retrain →
    (e.1 ≠ 1 → EndsWork (.trainFrame l b) s (holdLink (linkCause u l.toNat 0x04) l.toNat)) ∧
    (e.1 = 1 → b.node.toNat ≠ e.2.1 ∨ b.link.toNat ≠ e.2.2 →
      EndsWork (.trainFrame l b) s (holdLink (linkCause u l.toNat 0x03) l.toNat)) ∧
    (e.1 = 1 → b.node.toNat = e.2.1 → b.link.toNat = e.2.2 → b.rate.toNat ≠ (link s l.toNat).rate.toNat →
      EndsWork (.trainFrame l b) s (holdLink (linkCause u l.toNat 0x02) l.toNat)) ∧
    (e.1 = 1 → b.node.toNat = e.2.1 → b.link.toNat = e.2.2 → b.rate.toNat = (link s l.toNat).rate.toNat →
      let v := setLink u l.toNat { link u l.toNat with
        identSeen := true
        peerTrain := if b.ready then some b else (link s l.toNat).peerTrain }
      ((link s l.toNat).identSeen = true → EndsWork (.trainFrame l b) s v) ∧
      ((link s l.toNat).identSeen = false → EndsWork (.trainFrame l b) s (sendTrain v l.toNat true)))) ∧
  (∀ (s : State) (l : LinkNo),
    ((link s l.toNat).st = .training → (link s l.toNat).peerTrain.isSome = true →
      EndsWork (.linkTrainingDone l true) s (joinsLeave (linkComesUp s l.toNat))) ∧
    ((link s l.toNat).st = .training → EndsWork (.linkTrainingDone l false) s
      (joinsLeave (linksChanged (modLink (linkCause s l.toNat 0x02) l.toNat (fun r => { r with st := .givenUp }))))) ∧
    ((link s l.toNat).st = .retrain → EndsWork (.linkGiveUp l) s (linkExcluded (requeue (dropReplay
      (linkCause (setLink s l.toNat { link s l.toNat with st := .givenUp, retrainNs := none }) l.toNat 0x06) l.toNat) l.toNat) true)) ∧
    ((link s l.toNat).st = .givenUp → EndsWork (.givenUpRetry l) s (toTraining s l.toNat)) ∧
    ((link s l.toNat).st = .givenUp ∨ (link s l.toNat).st = .held → (link s l.toNat).hold = false →
      EndsWork (.linkRetrain l) s (toTraining s l.toNat))) ∧
  (∀ (s : State) (l : LinkNo) (units : BitVec 4) (t : TrainBody),
    let r := link s l.toNat
    let n := (t.rxNext - 1 - r.txAcked).toNat
    r.st = .retrain → r.peerTrain = some t →
    (t.resume = true → r.peerSession = some t.session → n ≤ r.replay.length →
      EndsWork (.retrainComplete l units) s (linksChanged (replayAll (linkCause (setLink s l.toNat { r with
        replay := r.replay.drop n
        txAcked := t.rxNext - 1
        st := .up
        laser := true
        retrainNs := none
        expiries := 0
        rxReplayTo := if t.txLastValid then some (t.txLast, units.toNat) else none }) l.toNat 0x05) l.toNat))) ∧
    (t.resume = false →
      let u := dropReplay s l.toNat
      EndsWork (.retrainComplete l units) s (linksChanged (linkCause (setLink u l.toNat { (link u l.toNat).fresh with
        st := .up
        laser := true
        peerSession := some t.session }) l.toNat 0x09)))) ∧
  (∀ (s : State) (l : LinkNo),
    let r := link s l.toNat
    Ends (.linkClear l) s (setLink s l.toNat { r with
      fecUncorrectable := 0
      crcErrors := 0
      retrains := 0
      malformed := 0
      replays := 0
      fecCorrected := 0 }) ∧
    (r.hold = false → EndsWork (.linkHold l true) s
      (linksChanged (requeue (dropReplay (setLink s l.toNat { r with hold := true, st := .held, laser := false }) l.toNat) l.toNat))) ∧
    (r.hold = true → r.st = .held → r.heldByCheck = false →
      EndsWork (.linkHold l false) s (toTraining (setLink s l.toNat { r with hold := false }) l.toNat)))

/-- R371 to R377: a transaction whose timer expires is reissued under the next incarnation of its tag, not new, on another path
where there is one; a tag leaves its quarantine and a request that waits for one goes on; an expired duplicate record goes. -/
def Obligations.EndToEndTimers : Prop :=
  (∀ (s : State) (queue : BitVec 4) (idx : BitVec 14) (tx : E2E),
    let key := queue.toNat * 16384 + idx.toNat
    mget s.e2e.txs key = some tx → (∀ q k, tx.purpose ≠ .mirror q k) → declaredFailed s tx.msg.dst.toNat = false →
    timerStands s key tx = false → EndsWork (.e2eTimeout queue idx) s (noteReissue (reissue s key))) ∧
  (∀ (s : State) (key : Nat) (tx : E2E), mget s.e2e.txs key = some tx →
    ∃ u tx', reissue s key = count u 0x060 ∧ mget u.e2e.txs key = some tx' ∧ tx'.inc = tx.inc + 1 ∧ tx'.reissued = true ∧
      tx'.msg.isNew = false ∧ tx'.retryWait = false ∧ tx'.purpose = tx.purpose) ∧
  (∀ (s : State) (queue : BitVec 4) (idx : BitVec 14),
    let key := queue.toNat * 16384 + idx.toNat
    s.e2e.resetQuarantine.contains key = false ∨ s.host.memActive = true → s.e2e.noTag = [] →
      EndsWork (.tagQuarantineEnd queue idx) s { s with e2e := { s.e2e with
        quarantined := s.e2e.quarantined.filter (fun k => k != key)
        resetQuarantine := if s.host.memActive then s.e2e.resetQuarantine.filter (· != key) else s.e2e.resetQuarantine } }) ∧
  (∀ (s : State) (key : BitVec 30) (c : Crt), mget s.e2e.crt key.toNat = some c → crtHeld s key.toNat c = false →
    EndsWork (.crtEntryExpiry key) s { s with e2e := { s.e2e with crt := mdel s.e2e.crt key.toNat } })

/-- R305: a flooded message whose origin is this device, or whose sequence has been seen, is taken from its link and discarded:
nothing else changes. R307, R318, R328, R332: a new flood is forwarded and acted on. A link vector of a later version replaces the
one held; a member record of a later version, or of the same version from a lower authority, is stored; a capacity is stored with
the holder's record; an alias names the node that serves a failed owner's lines, or ends it. -/
def Obligations.PoolFloods : Prop :=
  (∀ (s : State) (f : FloodHdr) (version lendable : BitVec 16) (vector : BitVec 126) (w : MemberWire) (failed owner : Node)
    (regions : BitVec 8) (serving : Bool) (row : BitVec 6) (epoch : BitVec 32) (digest : BitVec 128),
    ∀ c ∈ [(Instr.routeLinkstate f version vector, 6, 1), (.routeMember f w, 6, 2), (.routeCapacity f lendable, 6, 3),
      (.routeAlias f failed owner regions serving, 6, 4), (.wakePropose f row, 4, 1), (.wakeCommit f row, 4, 4),
      (.wakeAbort f row, 4, 5), (.rowWake f row, 4, 6), (.epochPrepare f epoch digest, 7, 1), (.epochCommit f epoch digest, 7, 4)],
      ¬ News s f c.2.1 c.2.2 → EndsWork c.1 s (consumeCtrl s c.2.1 c.2.2 f.origin.toNat)) ∧
  ((∀ (s : State) (f : FloodHdr) (version : BitVec 16) (vector : BitVec 126), News s f 6 1 →
    let u := spread s f 6 1 [(16, version.toNat), (126, vector.toNat)]
    let o := f.origin.toNat
    let held := (mgetD u.fab.linkMap o ⟨0, 0⟩).version
    (version ≠ held → (version - held).toNat < 2 ^ 15 → EndsWork (.routeLinkstate f version vector) s
      (retryWaiting { u with fab := { u.fab with linkMap := mset u.fab.linkMap o ⟨vector, version⟩ } })) ∧
    (version = held ∨ 2 ^ 15 ≤ (version - held).toNat → EndsWork (.routeLinkstate f version vector) s u)) ∧
  (∀ (s : State) (f : FloodHdr) (w : MemberWire) (st : MemberSt), News s f 6 2 → codeMember w.state.toNat = some st →
    let n := w.node.toNat
    let u := spread s f 6 2 (memberFields n w.state.toNat w.incarnation.toNat w.version.toNat)
    let old := memberOf u n
    let v := { u with fab := { u.fab with
      members := mset u.fab.members n ⟨st, w.incarnation, f.origin, w.version, old.lendable⟩ } }
    (w.version = old.version → old.authority.toNat ≤ f.origin.toNat → EndsWork (.routeMember f w) s u) ∧
    (versionAfter w.version old.version = true ∨ (w.version = old.version ∧ f.origin.toNat < old.authority.toNat) →
      (n ≠ myNode u → old.state = st → old.incarnation = w.incarnation → EndsWork (.routeMember f w) s v) ∧
      (inService u n = true → st = .failed →
        (n = myNode u → EndsWork (.routeMember f w) s (selfFailed { v with fab := { v.fab with own := .failed } })) ∧
        (n ≠ myNode u → EndsWork (.routeMember f w) s (nodeFails v n))))) ∧
  (∀ (s : State) (f : FloodHdr) (lendable : BitVec 16), News s f 6 3 →
    let u := spread s f 6 3 [(16, lendable.toNat)]
    let o := f.origin.toNat
    EndsWork (.routeCapacity f lendable) s
      { u with fab := { u.fab with members := mset u.fab.members o { memberOf u o with lendable := lendable } } }) ∧
  (∀ (s : State) (f : FloodHdr) (failed owner : Node) (regions : BitVec 8) (serving : Bool), News s f 6 4 →
    let u := spread s f 6 4 (aliasFields failed.toNat owner.toNat regions.toNat serving)
    let n := failed.toNat
    let taken := aliasTaken u n owner.toNat serving
    let ended := { u with fab := { u.fab with aliases := mdel u.fab.aliases n } }
    let c := Instr.routeAlias f failed owner regions serving
    (owner ≠ failed → n = myNode u → EndsWork c s { u with chd := { u.chd with ownedAway := some owner } }) ∧
    (owner ≠ failed → n ≠ myNode u → serving = false → EndsWork c s taken) ∧
    (owner ≠ failed → n ≠ myNode u → serving = true → mhas taken.fab.leaseFree n = true → EndsWork c s (freeLease taken n)) ∧
    (owner = failed → n = myNode u → EndsWork c s (takeBack ended)) ∧
    (owner = failed → n ≠ myNode u → EndsWork c s (redirectBack ended n (aliasOf u n)))))

/-- R174, R319 to R322, R332: heartbeats leave on every up link; one that is heard marks its neighbour heard and withdraws the
suspicion of it, and its authority records a reset, a departure or a wake; silence is reported to the authority, which declares a
node FAILED when more than half of its neighbours in service report it; isolation fences; a grace that ends, a lease to free and
the buddy's serving act as written; a heartbeat heard in the same cycle stops the action for silence (R26). -/
def Obligations.Heartbeats : Prop :=
  (∀ s : State,
    let u := (usedLinks s).foldl (fun u l => sendOnLink u l (heartbeatMsg s false)) s
    (u.fab.proposal = none ∨ sleepReady u = true → EndsWork .heartbeatSend s u) ∧
    (u.fab.proposal.isSome = true → sleepReady u = false → EndsWork .heartbeatSend s (abortProposal u))) ∧
  (∀ (s : State) (l : LinkNo) (node : Node) (inc : BitVec 16) (state : BitVec 4) (ready resetting : Bool),
    let n := node.toNat
    let u := consumeCtrl s 3 1 n
    let c := Instr.heartbeat l node inc state ready resetting
    let v := { u with fab := { u.fab with
      heard := mset u.fab.heard n ⟨u.clockNs, ready, resetting, false⟩
      suspects := u.fab.suspects.filter (fun x => x.1.toNat != n)
      joiningHeard := if state = 1 then
          (if u.fab.joiningHeard.contains node then u.fab.joiningHeard else node :: u.fab.joiningHeard)
        else u.fab.joiningHeard.filter (fun m => m.toNat != n) } }
    let held := memberOf v n
    ((peerOf u l.toNat).map (·.1) ≠ some n → EndsWork c s u) ∧
    ((peerOf u l.toNat).map (·.1) = some n → ready = true ∨ v.fab.proposal = none →
      (isAuthority v n = false → EndsWork c s v) ∧
      (isAuthority v n = true → resetting = true → held.state = .inService ∨ held.state = .leaving →
        EndsWork c s (declare v n .restarting held.incarnation)) ∧
      (isAuthority v n = true → resetting = false → held.state = .inService →
        (state = 6 → EndsWork c s (declare v n .leaving inc)) ∧
        (state ≠ 6 → EndsWork c s v)) ∧
      (isAuthority v n = true → resetting = false → held.state = .leaving → state = 7 → EndsWork c s (declare v n .left inc)) ∧
      (isAuthority v n = true → resetting = false → held.state = .asleep →
        EndsWork c s (declare v n .inService held.incarnation)))) ∧
  (∀ (s : State) (node : Node) (a : Nat),
    let n := node.toNat
    let u := setHeard s n { (heardOf s n).getD ⟨0, false, false, false⟩ with silent := true }
    let now := (heardOf s n).any (fun h => h.lastNs == s.clockNs)
    (now = true → EndsWork (.heartbeatSilence node) s s) ∧
    (now = false → isNeighbour (myNode s) n = true → watched s n = true → authorityOf u n = some a → a ≠ myNode u →
      EndsWork (.heartbeatSilence node) s (sendCtrl u a 6 5 [(12, n)] false))) ∧
  (∀ (s : State) (src node : Node),
    let n := node.toNat
    let r := consumeCtrl s 6 5 src.toNat
    let u := { r with fab := { r.fab with
      suspects := (node, src, r.clockNs) :: r.fab.suspects.filter (fun x => !(x.1.toNat == n && x.2.1.toNat == src.toNat)) } }
    (isAuthority r n = false → EndsWork (.routeSuspect src node) s r) ∧
    (isAuthority r n = true → isAuthority u n = true → watched u n = true →
      (2 * (currentReports u n).length ≤ (serviceNeighbours u n).length → EndsWork (.routeSuspect src node) s u) ∧
      ((serviceNeighbours u n).length < 2 * (currentReports u n).length → (memberOf u n).state ≠ .asleep →
        EndsWork (.routeSuspect src node) s (raiseP (declare u n .failed (memberOf u n).incarnation) 0x222 0 (.peer node) 0)))) ∧
  (∀ s : State,
    let ns := (neighbourList s).filter (inService s)
    let heard := ns.filter (fun n => match heardOf s n with
      | some h => !h.silent
      | none => false)
    (ns ≠ [] → 2 * heard.length ≤ ns.length → s.fab.selfFenced = false → EndsWork .isolationTimeout s (raiseP { s with
      fab := { s.fab with selfFenced := true }
      host := { s.host with memFenced := true }
      coh := { s.coh with serving := false } } 0x223 0 .hostMem 0)) ∧
    (ns = [] → EndsWork .isolationTimeout s s)) ∧
  (∀ (s : State) (node : Node),
    (isAuthority s node.toNat = true → (memberOf s node.toNat).state = .restarting → EndsWork (.restartGraceExpiry node) s
      (raiseP (declare s node.toNat .failed (memberOf s node.toNat).incarnation) 0x222 0 (.peer node) 0)) ∧
    (mhas s.fab.leaseFree node.toNat = true → mhas s.fab.aliases node.toNat = false →
      EndsWork (.leaseFreeTimeout node) s (freeLease (ownerLost s node.toNat) node.toNat))) ∧
  (∀ (s : State) (o k : Nat), s.chd.acting = [(o, k)] → k < 5 →
    let u := { s with
      chd := { s.chd with acting := mset s.chd.acting o 5 }
      e2e := { s.e2e with crt := mmap s.e2e.crt (fun _ c => if c.mirroredFor = some (BitVec.ofNat 12 o) then
        { c with mirroredFor := none, servedUs := s.e2e.servedUs } else c) }
      fab := { s.fab with aliases := mset s.fab.aliases o (BitVec.ofNat 12 (myNode s), true) } }
    EndsWork .failoverServe s (raiseP (floodAlias u o (myNode s) (regionMask u o) true) 0x1F5 0 (.peer (BitVec.ofNat 12 o)) 0))

/-- R324 to R327, R344: a JOIN REQUEST is refused with its cause, put off beyond the eighth of a millisecond, or accepted and the
sender watched; the joiner records its answers, sends again after a JOIN_WAIT, founds the pool when its ID is the lowest of those
it heard, and tries again as written. -/
def Obligations.Joining : Prop :=
  (∀ (s : State) (l : LinkNo) (node : Node) (poolId : BitVec 64) (inc : BitVec 16) (epoch : BitVec 32) (digest : BitVec 128)
    (custody : Bool),
    let n := node.toNat
    let u := consumeCtrl s 1 1 n
    let k := if u.fab.joinsMs.1 = nowMs u then u.fab.joinsMs.2 else 0
    let c := Instr.joinRequest l node poolId inc epoch digest custody
    let others := u.fab.joiningHeard.filter (fun m => m != node)
    let v := sendAccept { u with fab := { u.fab with
      joinsMs := (nowMs u, k + 1)
      accepted := u.fab.accepted.filter (fun a => a.1 != node) ++ [(node, inc)]
      joiningHeard := node :: others
      buddyIntact := if myBuddy u = some n then custody && !u.chd.resilver else u.fab.buddyIntact
      heard := mset u.fab.heard n ⟨u.clockNs, false, false, false⟩ } } l.toNat
    (∀ cause, refuseCause u n poolId inc epoch digest = some cause →
      EndsWork c s (sendOnLink u l.toNat (mkCtrl 1 3 0 (myNode u) 0 [(4, cause)]))) ∧
    (refuseCause u n poolId inc epoch digest = none → 8 ≤ k →
      let w := sendOnLink { u with freeIdx := u.freeIdx + 1 } l.toNat
        (mkCtrl 2 1 0 (myNode { u with freeIdx := u.freeIdx + 1 }) 0 [(7, 1 + Config.freeNat u.freeIdx % 64)])
      (elapsed w w.fab.lastThrottleNs 1000000000 = false → EndsWork c s w) ∧
      (elapsed w w.fab.lastThrottleNs 1000000000 = true →
        EndsWork c s (raise { w with fab := { w.fab with lastThrottleNs := some w.clockNs } } 0x221 0))) ∧
    (refuseCause u n poolId inc epoch digest = none → k < 8 →
      (v.fab.own ≠ .inService → EndsWork c s v) ∧
      (v.fab.own = .inService → EndsWork c s (admitNode v n inc custody)))) ∧
  (∀ (s : State) (l : LinkNo) (node : Node) (epoch : BitVec 32) (part parts : BitVec 7) (records : List MemberWire),
    let n := node.toNat
    let u := consumeCtrl s 1 2 n
    EndsWork (.joinAccept l node 1 epoch part parts records) s
      (records.foldl (fun v r =>
        if r.node.toNat = myNode v then v else applyMember v r ((authorityOf v r.node.toNat).getD n))
        { u with fab := { u.fab with
          heard := mset u.fab.heard n ⟨u.clockNs, false, false, false⟩
          answers := ⟨node, 1⟩ :: u.fab.answers.filter (fun a => a.node.toNat != n) } })) ∧
  (∀ (s : State) (l : LinkNo) (cause : BitVec 4) (delay : BitVec 7) (n k : Nat), peerOf s l.toNat = some (n, k) →
    EndsWork (.joinRefuse l cause) s (raiseP (consumeCtrl s 1 3 n) 0x220 cause.toNat .none l.toNat) ∧
    (let u := consumeCtrl s 2 1 n
    EndsWork (.joinWait l delay) s { u with fab := { u.fab with
      joinWaiting := u.fab.joinWaiting.filter (fun w => w.1.toNat != l.toNat) ++ [(l, delay)] } })) ∧
  (∀ (s : State) (l : LinkNo),
    (s.fab.joinWaiting.any (fun w => w.1.toNat == l.toNat) = true → EndsWork (.joinWaitExpiry l) s (sendJoin { s with
      fab := { s.fab with joinWaiting := s.fab.joinWaiting.filter (fun w => w.1.toNat != l.toNat) } } l.toNat)) ∧
    (s.fab.joinWaiting.any (fun w => w.1.toNat == l.toNat) = false → EndsWork (.joinWaitExpiry l) s s)) ∧
  (∀ s : State, s.fab.own = .joining → s.fab.selfFenced = false → s.fab.answers.all (fun a => a.state == 1) = true →
    let me := myNode s
    let row := s.fab.joiningHeard.filter (fun n => n.toNat / 64 == me / 64)
    let col := s.fab.joiningHeard.filter (fun n => n.toNat % 64 == me % 64)
    let peers := if row = [] then col else row
    let mine := s.fab.accepted.filter (fun n => n.1.toNat / 64 == me / 64)
    ((∃ n ∈ peers, n.toNat < me) → EndsWork .joinJudge s s) ∧
    ((∀ n ∈ peers, me ≤ n.toNat) → EndsWork .joinJudge s
      (formEpoch (declareAll { s with fab := { s.fab with founder := true, own := .inService } }
        ((me, s.fab.incarnation) :: mine.map (fun n => (n.1.toNat, n.2))))))) ∧
  (∀ s : State,
    (s.fab.alone = true → s.fab.selfFenced = false → EndsWork .joinRetry s (sendJoins s)) ∧
    (s.fab.alone = false → EndsWork .joinRetry s s) ∧
    ((∃ l ∈ usedLinks s, (link s l).isUp = true) → EndsWork .rejoin s (sendJoins { s with fab := { s.fab with rejoin := false } })) ∧
    ((∀ l ∈ usedLinks s, (link s l).isUp = false) → EndsWork .rejoin s { s with fab := { s.fab with rejoin := true } }))

/-- R329 to R332: a holder grants up to what it can lend or denies with the cause; the owner records grants, denials and recalls
and returns what holds no pod above a recalled size; a return frees the range above it; a deadline marks the lease overdue; a
device that leaves recalls every lease and, with none left, is LEFT. -/
def Obligations.Leases : Prop :=
  (∀ (s : State) (src : Node) (size : BitVec 14),
    let o := src.toNat
    let u := consumeCtrl s 5 1 o
    let t := mgetD u.fab.lent o ⟨0, none, 0, false⟩
    let cur := t.recallTo.getD t.sizeGib
    let new := min size.toNat (cur + lendable u)
    let deny := fun (cause : Nat) => sendCtrl u o 5 3 (leaseFields 0 cause 0) false
    (u.fab.own = .leaving ∨ u.fab.own = .left → EndsWork (.leaseRequest src size) s (deny 3)) ∧
    (u.fab.own ≠ .leaving → u.fab.own ≠ .left → poolFault u = true → EndsWork (.leaseRequest src size) s (deny 1)) ∧
    (u.fab.own ≠ .leaving → u.fab.own ≠ .left → poolFault u = false → t.overdue = true →
      EndsWork (.leaseRequest src size) s (deny 2)) ∧
    (u.fab.own ≠ .leaving → u.fab.own ≠ .left → poolFault u = false → t.overdue = false → t.recallTo = none →
      (new ≤ t.sizeGib ∨ 12288 < new →
        EndsWork (.leaseRequest src size) s (deny (if lendCap u - lentFrames u < 262144 then 1 else 2))) ∧
      (t.sizeGib < new → new ≤ 12288 → EndsWork (.leaseRequest src size) s
        (sendCtrl (ctrlAnswered (reserveChanged { u with fab := { u.fab with
          lent := mset u.fab.lent o { t with sizeGib := new } } }) o 5 4) o 5 2 (leaseFields new 0 0) false)))) ∧
  (∀ (s : State) (src : Node) (size : BitVec 14) (cause : BitVec 2),
    let n := src.toNat
    let u := ctrlAnswered (consumeCtrl s 5 2 n) n 5 1
    let b := borrow u n
    let v := ctrlAnswered (consumeCtrl s 5 3 n) n 5 1
    EndsWork (.leaseGrant src size) s { u with
      fab := { u.fab with leaseAsked := mdel u.fab.leaseAsked n }
      chd := { u.chd with
        leaseWantedNs := none
        borrows := mset u.chd.borrows n { b with
          sizeGib := max b.sizeGib size.toNat
          recallTo := if b.recallTo.isSome && decide (size.toNat < b.sizeGib) then some size.toNat else none } } } ∧
    EndsWork (.leaseDeny src cause) s { v with fab := { v.fab with leaseAsked := mdel v.fab.leaseAsked n } }) ∧
  (∀ (s : State) (src : Node) (size : BitVec 14) (deadline : BitVec 12),
    let n := src.toNat
    let u := consumeCtrl s 5 4 n
    let b := borrow u n
    let v := raiseP u 0x228 0 (.holder src) size.toNat
    let w := setBorrow v n { b with recallTo := if size.toNat < b.sizeGib then some size.toNat else b.recallTo }
    (b.sizeGib = 0 → EndsWork (.leaseRecall src size deadline) s (sendCtrl u n 5 5 (leaseFields size.toNat 0 0) false)) ∧
    (b.sizeGib ≠ 0 → w.chd.migs = [] → EndsWork (.leaseRecall src size deadline) s
      (leaseReturnCheck (leaseHeadroom (((w.chd.pages.filter (fun x => vacates w x.2.desc && dNode x.2.desc == n)).map (·.1)).foldl
        (fun z p => postCand z .rehome p) w)) n))) ∧
  (∀ (s : State) (src : Node) (size : BitVec 14) (t : Lent),
    let o := src.toNat
    let u := ctrlAnswered (consumeCtrl s 5 5 o) o 5 4
    mget u.fab.lent o = some t → size ≠ 0 →
      EndsWork (.leaseReturn src size) s (leaveCheck (reserveChanged { u with fab := { u.fab with
        lent := mset u.fab.lent o { t with sizeGib := min t.sizeGib size.toNat, recallTo := none, overdue := false }
        lentPods := mfilter u.fab.lentPods (fun k _ => k / 2 ^ 38 != o || decide (k % 2 ^ 38 < size.toNat * podsPerGib)) } }))) ∧
  (∀ (s : State) (node : Node) (t : Lent), mget s.fab.lent node.toNat = some t → t.recallTo ≠ none → t.overdue = false →
    (borrow s node.toNat).recallTo = none → EndsWork (.leaseDeadline node) s
      (raiseP { s with fab := { s.fab with lent := mset s.fab.lent node.toNat { t with overdue := true } } } 0x229 0
        (.peer node) 0)) ∧
  (∀ s : State,
    let u := { s with fab := { s.fab with leave := true, own := if s.fab.own == .inService then .leaving else s.fab.own } }
    EndsWork .leave s (leaveCheck ((mkeys s.fab.lent).foldl (fun v o => recallLease v o 0) u)) ∧
    (s.fab.own = .inService → s.fab.lent = [] → (authorityOf { u with fab := { u.fab with own := .leaving } } (myNode s)).isSome = true →
      EndsWork .leave s { s with fab := { s.fab with leave := true, own := .left } }))

/-- R333 to R336, R593: the row's authority proposes sleep once every device of the row is ready; a device of the row that is not
ready refuses; consents of every device in service commit the row, a refusal or a missing answer aborts; a committed row is
recorded asleep with its members and an aborted one owes no consent; ROW_WAKE is noted and lights the links into a sleeping row;
the wake pattern ends in training. -/
def Obligations.RowSleepAndWake : Prop :=
  (∀ s : State,
    let me := myNode s
    let row := me / 64
    let members := (allInService s).filter (fun n => n / 64 == row)
    let ready := members.all (fun n => if n = me then sleepReady s else match heardOf s n with
      | some h => h.sleepReady
      | none => false)
    s.fab.proposal = none → s.fab.nextProposalNs ≤ s.clockNs → lowestInService s (fun n => n / 64 == row) = some me →
    (ready = true → EndsWork .sleepPropose s
      (takeProposal (flood { s with fab := { s.fab with proposal := some (BitVec.ofNat 6 row, []) } } 4 1 [(6, row)])
        (BitVec.ofNat 6 row))) ∧
    (ready = false → EndsWork .sleepPropose s s)) ∧
  (∀ (s : State) (f : FloodHdr) (row : BitVec 6), News s f 4 1 →
    let u := spread s f 4 1 [(6, row.toNat)]
    (u.fab.own ≠ .inService → EndsWork (.wakePropose f row) s u) ∧
    (u.fab.own = .inService → myNode u / 64 = row.toNat → sleepReady u = false →
      EndsWork (.wakePropose f row) s (sendCtrl u f.origin.toNat 4 3 [(6, row.toNat)] false)) ∧
    (u.fab.own = .inService → myNode u / 64 ≠ row.toNat ∨ sleepReady u = true →
      EndsWork (.wakePropose f row) s (takeProposal u row))) ∧
  (∀ (s : State) (src : Node) (row : BitVec 6) (got : List Node),
    let u := consumeCtrl s 4 2 src.toNat
    let all := src :: got.filter (fun m => m.toNat != src.toNat)
    u.fab.proposal = some (row, got) →
    ((∃ n ∈ allInService u, all.contains (BitVec.ofNat 12 n) = false) →
      EndsWork (.wakeConsent src row) s { u with fab := { u.fab with proposal := some (row, all) } }) ∧
    ((∀ n ∈ allInService u, all.contains (BitVec.ofNat 12 n) = true) → EndsWork (.wakeConsent src row) s
      (rowSleeps (flood { u with fab := { u.fab with proposal := none } } 4 4 [(6, row.toNat)]) row.toNat))) ∧
  (∀ (s : State) (src : Node) (row : BitVec 6) (got : List Node),
    let u := consumeCtrl s 4 3 src.toNat
    let aborted := fun (v : State) => flood { v with fab := { v.fab with
      proposal := none
      nextProposalNs := v.clockNs + 60000000000 } } 4 5 [(6, row.toNat)]
    (u.fab.proposal = some (row, got) → EndsWork (.wakeRefuse src row) s (aborted u)) ∧
    (u.fab.proposal = none → EndsWork (.wakeRefuse src row) s u) ∧
    (s.fab.proposal = some (row, got) → EndsWork .sleepProposeTimeout s (aborted s)) ∧
    (s.fab.proposal = none → EndsWork .sleepProposeTimeout s s)) ∧
  (∀ (s : State) (f : FloodHdr) (row : BitVec 6),
    let u := spread s f 4 4 [(6, row.toNat)]
    let v := spread s f 4 5 [(6, row.toNat)]
    let w := spread s f 4 6 [(6, row.toNat)]
    let noted := sleepUndone { w with fab := { w.fab with waking := mset w.fab.waking row.toNat w.clockNs } } row.toNat
    (News s f 4 4 → mget u.fab.waking row.toNat ≠ some u.clockNs → myNode u / 64 ≠ row.toNat →
      let x := raise { u with fab := { u.fab with consentOwed := u.fab.consentOwed.filter (fun r => r.toNat != row.toNat) } } 0x22A 0
      EndsWork (.wakeCommit f row) s { x with fab := { x.fab with
        rowsAsleep := x.fab.rowsAsleep ||| ((1 : BitVec 64) <<< row.toNat)
        slept := mset x.fab.slept row.toNat x.clockNs
        waking := mdel x.fab.waking row.toNat
        members := mmap x.fab.members (fun n m =>
          if n / 64 = row.toNat ∧ m.state = .inService then { m with state := .asleep } else m) } }) ∧
    (News s f 4 5 → EndsWork (.wakeAbort f row) s
      { v with fab := { v.fab with consentOwed := v.fab.consentOwed.filter (fun r => r != row) } }) ∧
    (News s f 4 6 → rowAsleep noted row.toNat = false → EndsWork (.rowWake f row) s noted) ∧
    (News s f 4 6 → rowAsleep noted row.toNat = true →
      EndsWork (.rowWake f row) s (lightRow (ownWake noted row.toNat) row.toNat))) ∧
  (∀ (s : State) (l : LinkNo) (since : Nat), (link s l.toNat).wakeSince = some since → (link s l.toNat).isUp = false →
    EndsWork (.wakePatternLimit l) s (toTraining (modLink s l.toNat (fun r => { r with wakeSince := none })) l.toNat))

/-- R307, R328, R337, R338, R359: the coordinator prepares the epoch after the one in force; a device answers READY when its
pending sections are of that epoch, and NOT_READY otherwise; the coordinator notes the answers and commits when none was
NOT_READY; a commit of a later epoch applies the pending sections whose digest it names, and raises 0x22E where they differ; link
vectors and capacities are flooded; what awaits an answer is sent again. -/
def Obligations.PoolEpochs : Prop :=
  (∀ s : State,
    let i := s.img.active
    (coordinator s = some (myNode s) → i.poolEpoch = s.fab.epoch + 1 → EndsWork .epochPrepareStart s
      (flood { s with fab := { s.fab with prepare := some (i.poolEpoch, i.poolDigest, [], []) } } 7 1
        [(32, i.poolEpoch.toNat), (128, i.poolDigest.toNat)])) ∧
    (coordinator s ≠ some (myNode s) ∨ i.poolEpoch ≠ s.fab.epoch + 1 → EndsWork .epochPrepareStart s s)) ∧
  (∀ (s : State) (f : FloodHdr) (epoch : BitVec 32) (digest : BitVec 128), News s f 7 1 →
    let u := spread s f 7 1 [(32, epoch.toNat), (128, digest.toNat)]
    let i := u.img.active
    let answer := fun (op : Nat) => sendCtrl u f.origin.toNat 7 op [(32, epoch.toNat), (128, i.poolDigest.toNat)] false
    u.fab.own = .inService →
      (i.poolEpoch = epoch → u.fab.epoch.toNat < epoch.toNat → EndsWork (.epochPrepare f epoch digest) s (answer 2)) ∧
      (i.poolEpoch ≠ epoch ∨ epoch.toNat ≤ u.fab.epoch.toNat → EndsWork (.epochPrepare f epoch digest) s (answer 3))) ∧
  (∀ (s : State) (src : Node) (e : BitVec 32) (d : BitVec 128) (ready bad : List Node),
    let u := consumeCtrl s 7 2 src.toNat
    let v := consumeCtrl s 7 3 src.toNat
    (u.fab.prepare = some (e, d, ready, bad) →
      EndsWork (.epochReady src e) s { u with fab := { u.fab with prepare := some (e, d, src :: ready, bad) } }) ∧
    (v.fab.prepare = some (e, d, ready, bad) →
      EndsWork (.epochNotReady src e) s { v with fab := { v.fab with prepare := some (e, d, ready, src :: bad) } })) ∧
  (∀ (s : State) (e : BitVec 32) (d : BitVec 128) (ready bad : List Node), s.fab.prepare = some (e, d, ready, bad) →
    let u := { s with fab := { s.fab with prepare := none } }
    (bad = [] → EndsWork .epochPrepareTimeout s (epochApply (flood u 7 4 [(32, e.toNat), (128, d.toNat)]) e d)) ∧
    (bad ≠ [] → EndsWork .epochPrepareTimeout s u)) ∧
  (∀ (s : State) (f : FloodHdr) (e : BitVec 32) (d : BitVec 128), News s f 7 4 →
    let u := spread s f 7 4 [(32, e.toNat), (128, d.toNat)]
    let v := { u with fab := { u.fab with epoch := e, digest := some d } }
    (e.toNat < u.fab.epoch.toNat → EndsWork (.epochCommit f e d) s u) ∧
    (u.fab.epoch.toNat < e.toNat → u.img.active.poolEpoch = e → u.img.active.poolDigest = d →
      EndsWork (.epochCommit f e d) s (raise (applyPool v) 0x22D 0)) ∧
    (u.fab.epoch.toNat < e.toNat → u.img.active.poolEpoch ≠ e ∨ u.img.active.poolDigest ≠ d →
      EndsWork (.epochCommit f e d) s (raise v 0x22E 0)) ∧
    (e = u.fab.epoch → u.img.pool.poolDigest = d →
      EndsWork (.epochCommit f e d) s { u with fab := { u.fab with digest := some d } }) ∧
    (e = u.fab.epoch → u.img.pool.poolDigest ≠ d →
      EndsWork (.epochCommit f e d) s (raise { u with fab := { u.fab with digest := some d, own := .absent } } 0x22E 0))) ∧
  (∀ s : State, EndsWork .linkstatePeriodic s (floodLinkstate s) ∧
    (reserveLow s ≤ framesF s →
      (s.fab.own = .inService → EndsWork .capacityPeriodic s (floodCapacity s)) ∧
      (s.fab.own ≠ .inService → EndsWork .capacityPeriodic s s)) ∧
    (∀ dst : Node, EndsWork (.ctrlResendTimer dst) s ((mgetD s.fab.ctrlPending dst.toNat []).foldl sendMsg s)))

/-- R400, R401, R403, R406, R407, R415, R416: every 10 ns each bucket gains its rate up to its burst; a write of QOS_SHAPE or
QOS_POLICE that is in range and not locked sets the rates, the bucket starting at its burst when it is enabled and keeping at most
its burst otherwise, and one that is out of range changes nothing; Qs follows Q by an eighth and gives the level; the level moves
each label's scale. The clocks of these three stand still in Rest and Deep (R33). The unit of Qs is the model's choice (log entry
47). -/
def Obligations.Regulation : Prop :=
  (∀ s : State, s.aon.st ≠ .rest → s.aon.st ≠ .deep → (∀ l, l < 14 → mgetD s.qos.holdQ l [] = []) →
    let filled := (List.range 14).foldl (fun (v : State) l =>
      let q := v.qos
      let full := fun (kib : Nat) => kib * 102400
      { v with qos := { q with
        shapeTokens := if mgetD q.shapeRate l 0 = 0 then q.shapeTokens
          else mset q.shapeTokens l ⟨min (full (mgetD q.shapeBurst l 0)) (bucket q.shapeTokens l + mgetD q.shapeRate l 0)⟩
        committedTokens :=
          mset q.committedTokens l ⟨min (full (cbsKib v l)) (bucket q.committedTokens l + mgetD q.cir l 0)⟩
        peakTokens := mset q.peakTokens l ⟨min (full (pbsKib v l)) (bucket q.peakTokens l + mgetD q.pir l 0)⟩ } }) s
    EndsWork .shaperRefill s (pump filled) ∧
    ∀ l, l < 14 → mgetD s.qos.shapeRate l 0 ≠ 0 →
      bucket filled.qos.shapeTokens l = min (mgetD s.qos.shapeBurst l 0 * 102400)
        (bucket s.qos.shapeTokens l + mgetD s.qos.shapeRate l 0)) ∧
  (∀ (s : State) (label : Lbl) (value : Word),
    let l := label.toNat
    let rate := value.toNat / 2 ^ 32
    let kib := value.toNat % 2 ^ 16
    let old := mgetD s.qos.shapeRate l 0
    let set := fun (b : Bucket) => pump { s with qos := { s.qos with
      shapeRate := mset s.qos.shapeRate l rate
      shapeBurst := mset s.qos.shapeBurst l kib
      shapeTokens := mset s.qos.shapeTokens l b } }
    (13 < l → EndsWork (.shapeWrite label value) s s) ∧
    (l ≤ 13 → 1 ≤ kib → kib ≤ 4096 → s.img.active.locks secLabels l 3 = false → s.img.active.locks secLabels l 6 = false →
      (rate = 0 → labelRt s l = false → EndsWork (.shapeWrite label value) s (set ⟨0⟩)) ∧
      (100 ≤ rate → rate ≤ 1000000 → old = 0 → EndsWork (.shapeWrite label value) s (set ⟨kib * 102400⟩)) ∧
      (100 ≤ rate → rate ≤ 1000000 → old ≠ 0 →
        EndsWork (.shapeWrite label value) s (set ⟨min (bucket s.qos.shapeTokens l) (kib * 102400)⟩)))) ∧
  (∀ (s : State) (label : Lbl) (value : Word),
    let l := label.toNat
    let cir := value.toNat % 2 ^ 32
    let pir := value.toNat / 2 ^ 32
    let ok := fun (r : Nat) => 100 ≤ r ∧ r ≤ 1000000
    (13 < l ∨ policeMode s l = 0 ∨ ¬ ok cir ∨ ¬ ok pir → Ends (.policeWrite label value) s s) ∧
    (l ≤ 13 → policeMode s l ≠ 0 → ok cir → ok pir → s.img.active.locks secLabels l 4 = false →
      s.img.active.locks secLabels l 5 = false →
      (pir < cir → Ends (.policeWrite label value) s s) ∧
      (cir ≤ pir → mgetD s.qos.cir l 0 = 0 → mgetD s.qos.pir l 0 = 0 → Ends (.policeWrite label value) s { s with
        qos := { s.qos with
          cir := mset s.qos.cir l cir
          pir := mset s.qos.pir l pir
          committedTokens := mset s.qos.committedTokens l ⟨cbsKib s l * 102400⟩
          peakTokens := mset s.qos.peakTokens l ⟨pbsKib s l * 102400⟩ } }))) ∧
  (∀ s : State, s.aon.st ≠ .rest → s.aon.st ≠ .deep →
    let qs := (7 * s.qos.qs + sampleQ s) / 8
    let level := if qs < 50 * 65536 then 0 else if qs < 75 * 65536 then 1 else if qs < 90 * 65536 then 2 else 3
    EndsWork .feedbackSample s (devloadSet (pauseCheck { s with qos := { s.qos with
      qs := qs
      level := level
      highNs := if 2 ≤ level then some (s.qos.highNs.getD s.clockNs) else none
      zeroNs := if level = 0 then some (s.qos.zeroNs.getD s.clockNs) else none } }))) ∧
  (∀ s : State, s.aon.st ≠ .rest → s.aon.st ≠ .deep →
    let next := fun (l : Nat) =>
      let c := mgetD s.qos.scale l 256
      let floor := max 1 (s.img.active.fld secLabels l 10 * 256 / 100)
      if s.qos.feedbackOff || labelGuaranteed s l then 256
      else if s.qos.level = 0 then min 256 (c + 16)
      else if s.qos.level = 1 then max floor c
      else if s.qos.level = 2 then max floor (c / 2)
      else floor
    EndsWork .scaleAdjust s (pump { s with qos := { s.qos with scale := (List.range 14).map (fun l => (l, next l)) } }))

/-- R535, R538, R539: what a raise outside a device reset registers. The effective severity is the mapped one, one level higher
where its class is unacknowledged, or was at the start of the cycle (R540), or, at S4, the reset class is; a raise of effective S2
or higher makes its class unacknowledged and its pending level the highest since; S4 and S5 make the reset class unacknowledged;
no other class changes; the window memory and the commands that wait do not change. -/
def Obligations.FaultEscalation : Prop :=
  ∀ (s : State) (ev cause : Nat) (part : Part) (info : Nat), s.flt.inReset = false →
    let t := raiseP s ev cause part info
    let m := mappedLevel s ev cause
    let c := (cls s ev).atCycle s.clockNs
    let d := cls t ev
    let claimed := c.unacked = true ∨ c.startUnacked = true
    let up := 2 ≤ m ∧ (claimed ∨ (m = 4 ∧ resetClaims s = true))
    let eff := if 2 ≤ m ∧ claimed then min 5 (m + 1) else if m = 4 ∧ resetClaims s = true then 5 else m
    d.count = c.count + 1 ∧
    d.unacked = (c.unacked || decide (2 ≤ eff)) ∧
    d.pending = (if eff < 2 then c.pending else BitVec.ofNat 3 (max c.pending.toNat eff)) ∧
    (∀ ev', ev' ≠ ev → cls t ev' = cls s ev') ∧
    (t.flt.resetUnacked = true ↔ s.flt.resetUnacked = true ∨ 4 ≤ eff) ∧
    (2 ≤ eff → ∃ r, t.flt.log = putRecord r (s.flt.log.take 511) ∧ r.event = BitVec.ofNat 10 ev ∧ r.effective = BitVec.ofNat 3 eff ∧
      r.mapped = BitVec.ofNat 3 m ∧ (r.escalated = true ↔ up)) ∧
    (∃ owed, t.flt.react = s.flt.react ++ owed ∧
      owed = (if eff = 3 ∧ part ≠ .none then [Reaction.fence (BitVec.ofNat 10 ev) part]
        else if eff = 4 then [.deviceReset (if ev = 0x2E1 then 3 else 2)]
        else if eff = 5 then [.latch] else [])) ∧
    t.mem = s.mem ∧ t.pending = s.pending ∧ t.img = s.img ∧ t.links = s.links ∧ t.chd = s.chd ∧ t.coh = s.coh ∧ t.sec = s.sec

/-- R532, R533, R538, R551, R554: an event that exists is raised, and one that does not changes nothing; a class's acknowledgement
clears its unacknowledged state and its pending level but for what was raised in the same cycle (R540), and drives ALERT_L where
it changes; the reset class is acknowledged; an injection raises its event with cause 0xFF, unless the event is one of the secure
world's or is not defined; a hang raises the engine's event. A report of event 0x164 with cause 1 is the model's own form of a
reload's beginning (log entry 24). -/
def Obligations.FaultCommands : Prop :=
  (∀ (s : State) (event : BitVec 10) (cause : BitVec 8) (part : Part) (info : BitVec 128),
    let ev := event.toNat
    (event = 0x164 → cause = 1 → EndsWork (.faultRaise event cause part info) s { s with cmp := { s.cmp with
      reloading := s.cmp.reloading ||| ((1 : BitVec 64) <<< (info.toNat % 64)) } }) ∧
    (eventDefault ev ≠ none → event ≠ 0x164 ∨ cause ≠ 1 →
      EndsWork (.faultRaise event cause part info) s (raiseP s ev cause.toNat part info.toNat)) ∧
    (eventDefault ev = none → EndsWork (.faultRaise event cause part info) s s)) ∧
  (∀ (s : State) (event : BitVec 10), event ≠ 0x169 →
    let c := (cls s event.toNat).atCycle s.clockNs
    let u := setCls s event.toNat { c with
      unacked := c.fresh != 0
      pending := c.fresh
      excluded := if c.fresh = 0 then [] else c.excluded }
    (alertL s = alertL u → EndsWork (.classAcknowledge event) s u) ∧
    (alertL s ≠ alertL u → EndsWork (.classAcknowledge event) s (emit u (.alert (alertL u))))) ∧
  (∀ s : State,
    (s.flt.resetNs ≠ s.clockNs → Ends .resetClassAcknowledge s { s with flt := { s.flt with
      resetStart := s.flt.resetUnacked
      resetFresh := false
      resetUnacked := false
      resetNs := s.clockNs } }) ∧
    (s.flt.resetNs = s.clockNs →
      Ends .resetClassAcknowledge s { s with flt := { s.flt with resetUnacked := s.flt.resetFresh } })) ∧
  (∀ (s : State) (event : BitVec 10),
    let u := { s with flt := { s.flt with injEvent := event } }
    (eventDefault event.toNat ≠ none → event.toNat < 0x2E0 ∨ 0x2FF < event.toNat →
      EndsWork (.faultInject event) s (raise u event.toNat 0xFF)) ∧
    ((0x2E0 ≤ event.toNat ∧ event.toNat ≤ 0x2FF) ∨ eventDefault event.toNat = none → EndsWork (.faultInject event) s u)) ∧
  (∀ (s : State) (e : Fin 60), EndsWork (.engineHang e) s (raiseP s (0x340 + e.val) 0x01 (.engine e) 0))

/-- R555 to R561, R568, R569: a feed that an image expects goes from the present threshold through qualification, its ramp and its
power-good interval to ON; one that is not expected raises cause 0x02; leaving the window returns it to step 1; a latched feed
that is released starts again with its trips at 0; the end of a retry restarts it, and 60 s ON clears its trips. The thresholds
within their ranges are free values (log entry 26). -/
def Obligations.FeedStart : Prop :=
  (∀ (s : State) (f : Feed) (mv : BitVec 16),
    let r := feed s f
    let v := mv.toNat
    (mvPresent f ≤ v → r.st = .absent → feedExpected s f = true →
      Ends (.feedPresent f mv) s (setFeed s f { r with mv := v, st := .outOfRange })) ∧
    (mvPresent f ≤ v → r.st = .absent → feedExpected s f = false →
      Ends (.feedPresent f mv) s (raiseFeed (setFeed s f { r with mv := v, st := .unexpected }) f 0x02 0 0)) ∧
    (mvLow f ≤ v → v ≤ mvHigh f → r.st = .outOfRange → feedExpected s f = true →
      Ends (.feedWindowEntry f mv) s (setFeed s f { r with mv := v, st := .qualify })) ∧
    (v < mvLow f ∨ mvHigh f < v → r.st = .qualify →
      Ends (.startWindowExit f mv) s (setFeed s f { r with mv := v, st := .outOfRange }))) ∧
  (∀ (s : State) (f : Feed),
    let r := feed s f
    let ramp := fun (u : State) => setFeed u f { feed u f with
      st := .ramp
      gateOn := true
      oringOn := !u.pwr.vbus9
      pg := false
      limiting := false
      rampIlim := startIlim u
      rampTimer := startTimerMs u }
    (r.st = .qualify → Ends (.feedQualified f) s (ramp s)) ∧
    (∀ limiting, r.st = .ramp →
      (r.oringOn = false → Ends (.feedGateFull f limiting) s (setFeed s f { r with st := .pgQual, limiting := limiting })) ∧
      (r.oringOn = true →
        let u := setFeed s f { r with st := .pgQual, limiting := limiting }
        Ends (.feedGateFull f limiting) s { u with pwr := { u.pwr with vbus9 := true } })) ∧
    (r.st = .pgQual → r.limiting = false → s.pwr.single = false → runOf s 0x03 = none →
      let u := setFeed s f { r with st := .on, pg := true, oringOn := true, curve := [], onNs := some s.clockNs }
      Ends (.feedPowerGood f) s (bootOn { u with pwr := { u.pwr with vbus9 := true, collapsed := false } })) ∧
    (r.st = .pgQual → r.limiting = true → Ends (.feedPowerGood f) s s) ∧
    (r.st = .retryWait → mvLow f ≤ r.mv → r.mv ≤ mvHigh f → Ends (.retryWaitExpiry f) s (ramp s)) ∧
    (r.st = .retryWait → r.mv < mvLow f ∨ mvHigh f < r.mv →
      Ends (.retryWaitExpiry f) s (setFeed s f { r with st := if r.mv < mvPresent f then .absent else .outOfRange })) ∧
    (r.st = .on → Ends (.tripCountReset f) s (setFeed s f { r with trips := 0 })) ∧
    (r.st ≠ .on → Ends (.tripCountReset f) s s) ∧
    (r.st = .latched →
      let st := if r.mv < mvPresent f then FeedSt.absent
        else if feedExpected s f = false then .unexpected
        else if mvLow f ≤ r.mv ∧ r.mv ≤ mvHigh f then .qualify else .outOfRange
      Ends (.feedRelease f) s (raiseFeed (setFeed s f { r with st := st, trips := 0, absentNs := none }) f 0x0A 0 0)) ∧
    (r.st ≠ .latched → Ends (.feedRelease f) s (setFeed s f { r with releaseNs := some s.clockNs })))

/-- R560, R563, R564, R567, R568, R571, R574, R575, R580, R472: a feed trips when the START timer runs out while it limits, when a
sample exceeds the fast-trip current, or when a point of its curve has been exceeded for its time; the fourth trip, or the first
under policy 2, latches it, unless its release stands in the same cycle; an undervoltage or overvoltage turns an ON feed off;
reverse current turns its ORing FET off; a test needs the other feed ON; feeds and VAUX all below their reset thresholds are the
state Off; the telemetry and the reads that clear act as written. -/
def Obligations.FeedProtection : Prop :=
  (∀ (s : State) (f : Feed),
    let r := feed s f
    let last := retryPolicy s = 2 ∨ r.trips = 3
    let trip := fun (u : State) (q : FeedRec) (kind cause point : Nat) =>
      let v := setFeed u f { q with
        st := if last then .latched else .retryWait
        pg := false
        gateOn := false
        oringOn := false
        limiting := false
        curve := []
        onNs := none
        trips := min 3 (r.trips + 1)
        lastTrip := BitVec.ofNat 4 kind
        tripPoint := if kind = 2 then BitVec.ofNat 8 point else r.tripPoint }
      feedLost (if last then raiseFeed v f 0x09 point cause else raiseFeed v f cause point 0) f (r.st == .on)
    let free := r.releaseNs ≠ some s.clockNs
    (free → r.st = .ramp ∨ r.st = .pgQual → r.limiting = true → Ends (.startTimerTrip f) s (trip s r 1 0x05 0)) ∧
    (r.limiting = false → Ends (.startTimerTrip f) s s) ∧
    ∀ ma : BitVec 17,
      let q := { r with ma := ma.toNat, peak := BitVec.ofNat 16 (max r.peak.toNat (min 65535 (ma.toNat / 10))) }
      let u := setFeed s f q
      let m := (curvePoints s).map (fun k => (k, if curveMa s k < ma.toNat then mgetD r.curve k 0 + 1 else mgetD r.curve k 0 - 1))
      let exceeds := fun (k : Nat) => curveUs s k ≤ mgetD m k 0 ∧ curveMa s k < ma.toNat
      (r.gateOn = false → r.st ≠ .on → Ends (.breakerSample f ma) s u) ∧
      (free → r.gateOn = true → maFast f < ma.toNat → Ends (.breakerSample f ma) s (trip u q 3 0x07 0)) ∧
      (r.gateOn = true → ma.toNat ≤ maFast f → r.st ≠ .on →
        Ends (.breakerSample f ma) s (setFeed u f { q with limiting := decide (r.rampIlim * 100 ≤ ma.toNat) })) ∧
      (r.st = .on → ma.toNat ≤ maFast f →
        ((∀ k ∈ curvePoints s, ¬ exceeds k) → Ends (.breakerSample f ma) s (setFeed u f { q with curve := m })) ∧
        (∀ k rest, free → curvePoints s = k :: rest → exceeds k →
          Ends (.breakerSample f ma) s (trip (setFeed u f { q with curve := m }) { q with curve := m } 2 0x06 k)))) ∧
  (∀ (s : State) (f : Feed) (mv : BitVec 16),
    let r := feed s f
    let off := fun (cause : Nat) => feedLost (raiseFeed (setFeed s f { r with
      mv := mv.toNat
      st := .outOfRange
      pg := false
      gateOn := false
      oringOn := false
      limiting := false
      curve := []
      onNs := none }) f cause 0 0) f true
    (r.st = .on → mv.toNat < mvUnder f → Ends (.feedUndervolt f mv) s (offCheck (off 0x03))) ∧
    (mvUnder f ≤ mv.toNat → Ends (.feedUndervolt f mv) s (offCheck s)) ∧
    (r.st = .on → mvOver f < mv.toNat → Ends (.feedOvervolt f mv) s (off 0x04)) ∧
    (mv.toNat ≤ mvOver f → Ends (.feedOvervolt f mv) s s)) ∧
  (∀ (s : State) (f : Feed),
    let r := feed s f
    (r.oringOn = true → Ends (.oringReverse f) s (raiseFeed (setFeed s f { r with oringOn := false }) f 0x08 0 0)) ∧
    (r.oringOn = false → Ends (.oringReverse f) s s) ∧
    (r.gateOn = true → (feed s (otherFeed f)).st = .on → Ends (.feedTest f) s
      (feedLost (setTest (setFeed s f { r with
        st := .testOff
        pg := false
        gateOn := false
        oringOn := false
        limiting := false
        curve := []
        onNs := none }) f true) f (r.st == .on))) ∧
    ((feed s (otherFeed f)).st ≠ .on ∨ r.gateOn = false → Ends (.feedTest f) s s) ∧
    (r.st = .testOff → Ends (.feedTestEnd f) s (startRamp (setTest s f false) f)) ∧
    (r.st ≠ .testOff → Ends (.feedTestEnd f) s s) ∧
    Ends (.peakRead f) s (setFeed s f { r with peak := 0 }) ∧
    ∀ (mv ma power : BitVec 16) (energy : BitVec 48), Ends (.telemetryWindow f mv ma power energy) s
      (setFeed s f { r with telMv := mv, telMa := ma, telPower := power, energy := r.energy + energy })) ∧
  (∀ s : State, Ends .eccLastRead s { s with ecc := { s.ecc with last := 0 } })

/-- R582 to R586, R598, R599: Radish samples its inputs at a tick and evaluates every rule; a rule whose condition is false, or
that does not name the present state, holds for no tick and does not fire; a rule that is due fires its event with its number as
cause; DIMM temperatures are read in Run and Doze; the end of VAUX, of the reference clock and of custody raise their events;
SMBus requests are answered, and an unknown code with the unsupported error. -/
def Obligations.RadishSensing : Prop :=
  (∀ (s : State) (samples : List Sample),
    let u := ownSamples (samples.foldl takeSample s)
    let rules : NMap RuleSt := (ruleKeys u).map (fun r => (r, ruleStep u r))
    EndsWork (.radishSample samples) s { u with aon := { u.aon with rules := rules, fired := firedMask rules } } ∧
    ∀ r, (ruleStep u r).cond = false ∨ ruleInState u r = false → (ruleStep u r).held = 0 ∧ (ruleStep u r).firing = false) ∧
  (∀ (s : State) (rule : BitVec 8),
    let r := rule.toNat
    let rules := mset s.aon.rules r { ruleSt s r with firing := true }
    let u := { s with aon := { s.aon with rules := rules, fired := firedMask rules } }
    let v := raise u (ruleFld s r 10) r
    (ruleDue s r = true → ruleFld s r 10 ≠ 0xFFFF → ruleFld s r 5 ≠ 1 → ruleFld s r 5 ≠ 5 → EndsWork (.ruleFire rule) s v) ∧
    (ruleDue s r = true → ruleFld s r 10 = 0xFFFF → ruleFld s r 5 = 1 ∨ ruleFld s r 5 = 5 →
      EndsWork (.ruleFire rule) s (startWake u (ruleWakeCause u r))) ∧
    (ruleDue s r = false → EndsWork (.ruleFire rule) s s)) ∧
  (∀ (s : State) (t : Int),
    (s.aon.st = .run ∨ s.aon.st = .doze → EndsWork (.dimmTempRead [t]) s
      { s with aon := { s.aon with samples := mset s.aon.samples 0x1300 t } }) ∧
    (s.aon.st = .rest ∨ s.aon.st = .deep → EndsWork (.dimmTempRead [t]) s s)) ∧
  (∀ (s : State) (mv : BitVec 16),
    let u := { s with aon := { s.aon with vauxMv := mv, vauxOut := true } }
    (1700 ≤ mv.toNat → mv.toNat ≤ 3600 → Ends (.vauxOutOfRange mv) s (offCheck s) ∧
      Ends (.vauxInRange mv) s (bootOn { s with aon := { s.aon with vauxMv := mv, vauxOut := false } })) ∧
    (mv.toNat < 1700 ∨ 3600 < mv.toNat → Ends (.vauxInRange mv) s s ∧
      (s.aon.vauxOut = false → Ends (.vauxOutOfRange mv) s (offCheck (raise u 0x2C3 0))) ∧
      (s.aon.vauxOut = true → Ends (.vauxOutOfRange mv) s (offCheck u)))) ∧
  (∀ s : State,
    (s.aon.refLost = false → Ends .refclkLost s (raise { s with aon := { s.aon with refLost := true } } 0x2C4 0)) ∧
    (s.aon.refLost = true → Ends .refclkLost s s) ∧
    (s.aon.custodyDdr ≠ 0 ∨ s.aon.custodyRld ≠ 0 → EndsWork .custodyLost s (raise { s with
      aon := { s.aon with custodyDdr := 0, custodyRld := 0, custodyLost := true }
      boot := { s.boot with custody := false } } 0x2C6 0)) ∧
    (s.aon.custodyDdr = 0 → s.aon.custodyRld = 0 → EndsWork .custodyLost s s) ∧
    Ends .getState s
      (emit s (.smbus (.bytes (natLe 8 (regAonState s) ++ natLe 8 (regAonCustody s) ++ natLe 8 (regFltStatus s))))) ∧
    (s.flt.latch = false → Ends .getRecords s (emit s (.smbus (.fltRecords s.flt.radish)))) ∧
    (∀ r, s.flt.latch = true → s.flt.latchRecord = some r → Ends .getRecords s
      (emit s (.smbus (.fltRecords (r :: s.flt.radish.filter (fun x => x != r)))))) ∧
    (∀ input index, Ends (.getSense input index) s
      (emit s (.smbus (.bytes (natLe 4 ((BitVec.ofInt 32 (inputValue s input.toNat index.toNat)).toNat)))))) ∧
    (∀ code, code ≠ 1 → code ≠ 2 → code ≠ 3 → Ends (.smbusUnsupported code) s (emit s (.smbus .mctpError))))

/-- R587 to R592, R595 to R597: the device enters Doze, Rest and Deep only where its rules call for it and nothing stands in the
way, and what entering changes; light on a used link in Rest starts a wake; the ends of Doze, Rest and Deep bring the device back
to Run, with its links, its memories, the messages held for it (R34) and, out of Rest and Deep, its heartbeats; a wake by light
that meets no peer raises 0x2C7. -/
def Obligations.PowerStates : Prop :=
  (∀ s : State,
    let u := dozeRanks (idleLinksDoze (applyNoted s 0 .gate))
    let due := actionFires s 2 = true ∧ s.aon.dozeOff = false ∧ mayDescend s = true
    (s.aon.st = .run → due → s.sec.held.getLsbD 0 = false → Ends .dozeEntry s { u with aon := { u.aon with st := .doze } }) ∧
    (s.aon.st = .run → due → s.sec.held.getLsbD 0 = true →
      Ends .dozeEntry s (pendPower { s with sec := { s.sec with dozeWait := true } } 0 .gate)) ∧
    (s.aon.st ≠ .run ∨ ¬due → Ends .dozeEntry s s)) ∧
  (∀ (s : State), ∀ c ∈ [DozeWake.request, .frame, .work],
    let u := applyPower { s with aon := { s.aon with wakeCause := 1 } } 0 .ungate
    let awake := (usedLinks u).foldl (fun v l => modLink v l (fun r => if r.st = .doze then { r with st := .up } else r)) u
    (s.aon.st = .doze → EndsWork (.dozeExit c) s (serveHeld (backToRun awake))) ∧
    (s.aon.st ≠ .doze → EndsWork (.dozeExit c) s (serveHeld s))) ∧
  (∀ s : State,
    let quiet := (List.range 16).foldl (fun u n => modCtl u n (fun c =>
      if ctlServes c then { c with
        st := .selfRefresh
        srEntries := if c.st = .selfRefresh then c.srEntries else c.srEntries + 1
        wq := []
        openRows := []
        ranksDown := 0
        draining := false }
      else c)) s
    let dark := (usedLinks quiet).foldl (fun u l => modLink u l (fun r =>
      if r.isUp || r.st == .retrain then { r with st := .asleep, laser := false, retrainNs := none } else r)) quiet
    let rest := { dark with aon := { dark.aon with st := .rest, light := [], lightWakeNs := none, wakeOwed := false } }
    s.aon.st = .run ∨ s.aon.st = .doze →
    (rowSlept s = true → actionFires s 3 = true → mayDescend s = true → hostLow s = true → nothingOpen s = true →
      (dark.aon.wakeOwed = false → Ends .restEntry s rest) ∧
      (dark.aon.wakeOwed = true → Ends .restEntry s (startWake rest 1))) ∧
    (rowSlept s = false ∨ actionFires s 3 = false ∨ mayDescend s = false ∨ hostLow s = false ∨ nothingOpen s = false →
      Ends .restEntry s s)) ∧
  (∀ (s : State) (l : LinkNo),
    let u := { s with aon := { s.aon with light := if s.aon.light.contains l then s.aon.light else l :: s.aon.light } }
    (s.aon.st = .rest → linkUsed s l.toNat = true → s.aon.exiting = false → EndsWork (.lightQualified l) s
      (relight { u with aon := { u.aon with wakeCause := 2, exiting := true, lightWakeNs := some s.clockNs } })) ∧
    (s.aon.st ≠ .rest ∨ linkUsed s l.toNat = false → EndsWork (.lightQualified l) s s)) ∧
  (∀ s : State,
    (s.aon.st = .rest → s.aon.exiting = true →
      EndsWork .restExitComplete s (serveHeld (sendHeartbeats (backToRun (memoryWakes s .selfRefresh)) false))) ∧
    (s.aon.st ≠ .rest ∨ s.aon.exiting = false → EndsWork .restExitComplete s (serveHeld s)) ∧
    (let u := (usedLinks s).foldl (fun v l => modLink v l (fun r =>
      if r.st = .retrain then { r with st := .asleep, laser := false, retrainNs := none } else r)) s
    s.aon.lightWakeNs ≠ none → s.aon.wakeCause = 2 → (∀ l ∈ usedLinks s, linkMet s l = false) →
      (s.aon.st = .rest → EndsWork .spuriousWakeTimeout s
        (raise { u with aon := { u.aon with exiting := false, light := [], lightWakeNs := none } } 0x2C7 0)) ∧
      (s.aon.st ≠ .rest → EndsWork .spuriousWakeTimeout s
        (raise { s with aon := { s.aon with lightWakeNs := none } } 0x2C7 0))) ∧
    (s.aon.lightWakeNs = none → EndsWork .spuriousWakeTimeout s s)) ∧
  (∀ s : State,
    let held := fun (n : Nat) => (ctl s n).st == .selfRefresh
    let written := { s with coh := { s.coh with dirCache := mmap s.coh.dirCache (fun _ _ => false) } }
    let u := (List.range 16).foldl (fun v n => modCtl v n (fun c => if c.st = .selfRefresh then { c with st := .custody } else c))
      written
    (s.aon.st = .rest → rowSlept s = true → actionFires s 3 = true → actionFires s 4 = true → mayDescend s = true →
      hostLow s = true → Ends .deepEntry s { u with aon := { u.aon with
        st := .deep
        custodyDdr := ((List.range 12).filter held).foldl (fun m c => m ||| ((1 : BitVec 12) <<< c)) 0
        custodyRld := ((List.range 4).filter (fun i => held (12 + i))).foldl (fun m c => m ||| ((1 : BitVec 4) <<< c)) 0
        light := []
        wakeRuns := [] } }) ∧
    (s.aon.st ≠ .rest ∨ actionFires s 4 = false → Ends .deepEntry s s)) ∧
  (∀ (s : State) (code : BitVec 4),
    (s.aon.st = .deep → deepCause s .hostWake = some code → EndsWork (.deepExit .hostWake) s
      (serveHeld (sendHeartbeats (backToRun (relight (memoryWakes { s with aon := { s.aon with
        wakeCause := code
        custodyDdr := 0
        custodyRld := 0 } } .custody))) false))) ∧
    (s.aon.st ≠ .deep → EndsWork (.deepExit .hostWake) s (serveHeld s)))

/-- R511 to R514, R519 to R523: a SEC command whose length differs from its layout completes LENGTH_RANGE with no other effect;
CHALLENGE issues a nonce (a free value, log entry 5), which its first use consumes; ENROL, RELEASE, KEY_SUPPLY and SVN_RAISE act
only on a signature that holds, and are DENIED otherwise; a floor only rises; BUDDY_PAIR sends its envelope to a buddy whose chain
holds; the others answer what they state. -/
def Obligations.SecureCommands : Prop :=
  (∀ (s : State) (input : List Byte),
    (input ≠ [] → Ends (.challenge input) s (secDone s 0x01 input stLength []) ∧
      Ends (.transportKey input) s (secDone s 0x05 input stLength []) ∧ Ends (.info input) s (secDone s 0x08 input stLength [])) ∧
    (input.length ≠ 1795 + field input 1793 2 → Ends (.enrol input) s (secDone s 0x02 input stLength [])) ∧
    (input.length ≠ 2 + field input 0 2 → Ends (.release input) s (secDone s 0x03 input stLength [])) ∧
    (input.length ≠ 0x692 + field input 0x690 2 → Ends (.keySupply input) s (secDone s 0x04 input stLength [])) ∧
    (input.length ≠ 6 + field input 4 2 → Ends (.svnRaise input) s (secDone s 0x06 input stLength [])) ∧
    (input.length < 1573 + field input 0 4 → Ends (.buddyPair input) s (secDone s 0x07 input stLength []))) ∧
  (∀ s : State,
    let v : BitVec 256 := BitVec.ofNat 256 (Config.freeNat s.freeIdx)
    let k := bytesAt (Config.transportKey s.sec.deviceSecret) 0 1568
    Ends (.challenge []) s (secDone { s with
      freeIdx := s.freeIdx + 1
      sec := { s.sec with nonce := some ⟨v, s.clockNs, false⟩ } } 0x01 [] stOk (natLe 32 v.toNat)) ∧
    Ends (.transportKey []) s (secDone s 0x05 [] stOk (k ++ aliasSignature s (ascii "LX9012-KEM" ++ k))) ∧
    Ends (.info []) s (secDone s 0x08 [] stOk
      (bytesAt ((ownerDigest s).getD []) 0 32 ++ [BitVec.ofNat 8 s.sec.slots.length, pairingCode s.sec.pairing])) ∧
    ∀ opcode, Ends (.secUnknownOpcode opcode) s (secDone s opcode.toNat [] stInvalid [])) ∧
  (∀ (s : State) (input : List Byte) (nonce : List Byte), input.length ≤ 16384 → nonceBytes s = some nonce →
    let used := useNonce s
    let lot := natLe 4 s.sec.lotId.toNat
    let n := field input 1793 2
    let key := bytesAt input 0 1793
    let m := field input 0 2
    let p := field input 4 2
    let which := field input 0 1
    let floor := field input 1 1
    (input.length = 1795 + n → n ≠ 0 → s.sec.secured = true → ownerDigest s = none → s.sec.slots.length < 4 →
      Ends (.enrol input) s
        (if Config.falconVerify key (ascii "LX9012-ENROL" ++ nonce ++ lot) (bytesAt input 1795 n) then
          secDone (raise { used with sec := { used.sec with
            slots := s.sec.slots ++ [⟨shake256 key 32, false⟩]
            ownerKey := some key
            ownerOk := true } } 0x2E5 0) 0x02 input stOk []
        else secDone used 0x02 input stDenied [])) ∧
    (input.length = 1795 + n → n ≠ 0 → s.sec.secured = false ∨ ownerDigest s ≠ none ∨ 4 ≤ s.sec.slots.length →
      Ends (.enrol input) s (secDone used 0x02 input stDenied [])) ∧
    (input.length = 2 + m → m ≠ 0 → extentCount s.chd.extents ≠ 0 → Ends (.release input) s (secDone used 0x03 input stBusyRetry [])) ∧
    (input.length = 2 + m → m ≠ 0 → extentCount s.chd.extents = 0 → (ownerDigest s).isSome = true →
      let gone := destroyOwnerKeys used
      Ends (.release input) s
        (if ownerSigned s (ascii "LX9012-RELEASE" ++ nonce ++ lot) (bytesAt input 2 m) then
          secDone (raise { gone with sec := { gone.sec with slots := revokeLast s.sec.slots, ownerKey := none } } 0x2E6 0)
            0x03 input stOk []
        else secDone used 0x03 input stDenied [])) ∧
    (input.length = 6 + p → p ≠ 0 → which ≤ 1 → allZero input 2 2 = true → (ownerDigest s).isSome = true →
      let now := if which = 0 then s.sec.imgFloor else s.sec.fwFloor
      let top := if which = 0 then s.img.active.svn else fwSvn s
      let raised := if which = 0 then { used with sec := { used.sec with imgFloor := floor } }
        else { used with sec := { used.sec with fwFloor := floor } }
      Ends (.svnRaise input) s
        (if ownerSigned s (ascii "LX9012-SVN" ++ bytesAt input 0 2 ++ nonce ++ lot) (bytesAt input 6 p) then
          (if now < floor ∧ floor ≤ top ∧ floor ≤ 64 then secDone (raise raised 0x2E7 0) 0x06 input stOk []
          else secDone used 0x06 input 0x0A [])
        else secDone used 0x06 input stDenied []))) ∧
  (∀ (s : State) (input : List Byte), input.length ≤ 16384 → input.length = 0x692 + field input 0x690 2 →
    let n := field input 0x690 2
    let d := field input 0 2
    let serial := field input 4 4
    let k := domKeys s d
    1 ≤ n → n ≤ 1462 → d ≤ 4095 → domainSource s d = 2 → field input 3 1 = 0 →
    let signed := ownerSigned s (ascii "LX9012-KEYS" ++ shake256 (bytesAt input 0 0x690) 64 ++ natLe 4 s.sec.lotId.toNat)
      (bytesAt input 0x692 n)
    let key := Config.unwrapKeys s.sec.deviceSecret (bytesAt input 8 1568) (bytesAt input 0x628 104)
    let kept := { k with supplySerial := BitVec.ofNat 32 serial }
    (k.supplySerial.toNat < serial → field input 2 1 = 0 → k.cur = none → Ends (.keySupply input) s
      (match signed, key with
        | true, some g =>
          secDone (raise (setDom s d { kept with cur := some g, current := false, supplied := none }) 0x2E8 0) 0x04 input stOk []
        | _, _ => secDone s 0x04 input stDenied [])) ∧
    (serial ≤ k.supplySerial.toNat → Ends (.keySupply input) s
      (if signed = true then secDone s 0x04 input 0x0A [] else secDone s 0x04 input stDenied []))) ∧
  (∀ (s : State) (input : List Byte),
    let n := field input 0 4
    let chain := bytesAt input 4 n
    1573 + n ≤ input.length → input.length ≤ n + 3034 → input.length ≤ 16384 → n ≠ 0 → s.chd.mirror ≠ .mirrored →
      Ends (.buddyPair input) s
        (if Config.chainVerifies chain = true ∧ Config.chainOwner chain = (ownerDigest s).getD (List.replicate 32 0) ∧
            myBuddy s = some (Config.chainNode chain) then
          secDone (raise (sendEnvelope { s with sec := { s.sec with pairing := .sending, envelopeOut := [] } }) 0x2E9 0)
            0x07 input stOk []
        else secDone s 0x07 input stDenied []))

/-- R505, R525 to R530: an access refused reads 0 and raises 0x2E4 at most once in a millisecond; the first vote opens a window
and freezes the counters; a vote wins over a change of its own cycle; a power change of a block with a vote waits and raises 0x2E2
once in the window, and one without is applied; the last vote that goes, or the cap of the window, closes it, the cap with 0x2E3;
the watchdog raises 0x2E1 unless its clock or engines are gated. -/
def Obligations.HoldVotesAndWatchdog : Prop :=
  (∀ (s : State) (read : Bool),
    let u := if read then emit s (.refusedRead 0) else s
    (elapsed s s.sec.refusedNs 1000000 = true →
      Ends (.accessRefused read) s (raise { u with sec := { u.sec with refusedNs := some s.clockNs } } 0x2E4 0)) ∧
    (elapsed s s.sec.refusedNs 1000000 = false → Ends (.accessRefused read) s u)) ∧
  (∀ (s : State) (blocks : BitVec 7),
    (s.clockNs < s.sec.lockoutNs → Ends (.holdVoteSet blocks) s s) ∧
    (s.sec.lockoutNs ≤ s.clockNs → blocks ≠ 0 →
      let new := (List.range 7).filter (fun b => (blocks &&& ~~~s.sec.held).getLsbD b)
      (s.sec.held = 0 → Ends (.holdVoteSet blocks) s (new.foldl voteWins (uncountCycle { s with
        sec := { s.sec with held := blocks, windows := s.sec.windows + 1, windowNs := some s.clockNs, pendingRaised := false }
        pmc := { s.pmc with frozen := true } }))) ∧
      (s.sec.held ≠ 0 → Ends (.holdVoteSet blocks) s
        (new.foldl voteWins { s with sec := { s.sec with held := s.sec.held ||| blocks } })))) ∧
  (∀ (s : State) (block : Fin 7) (change : PowerChange),
    let u := { s with sec := { s.sec with requests := mset s.sec.requests block.val change } }
    (s.sec.held.getLsbD block.val = true → s.sec.pendingRaised = true → Ends (.powerRequest block change) s u) ∧
    (s.sec.held.getLsbD block.val = true → s.sec.pendingRaised = false →
      Ends (.powerRequest block change) s (raise { u with sec := { u.sec with pendingRaised := true } } 0x2E2 0)) ∧
    (s.sec.held.getLsbD block.val = false →
      let m : BitVec 7 := (1 : BitVec 7) <<< block.val
      let noted := mset s.sec.applied block.val ⟨s.clockNs, change, s.sec.gated.getLsbD block.val, s.sec.off.getLsbD block.val⟩
      (change = .gate → Ends (.powerRequest block change) s
        { s with sec := { s.sec with applied := noted, gated := s.sec.gated ||| m } }) ∧
      (change = .ungate → Ends (.powerRequest block change) s
        { s with sec := { s.sec with applied := noted, gated := s.sec.gated &&& ~~~m } }) ∧
      (change = .powerOff → Ends (.powerRequest block change) s
        { s with sec := { s.sec with applied := noted, off := s.sec.off ||| m } }) ∧
      (change = .powerOn → Ends (.powerRequest block change) s
        { s with sec := { s.sec with applied := noted, off := s.sec.off &&& ~~~m } }))) ∧
  (∀ s : State,
    (s.sec.windowNs = none → Ends .holdWindowCap s s ∧ ∀ blocks, Ends (.holdVoteClear blocks) s s) ∧
    (s.sec.windowNs ≠ none → s.sec.requests = [] →
      (∀ blocks, s.sec.held &&& ~~~blocks = 0 → Ends (.holdVoteClear blocks) s (countLate { s with
        sec := { s.sec with held := 0, windowNs := none }
        pmc := { s.pmc with frozen := false } })) ∧
      (∀ blocks, s.sec.held &&& ~~~blocks ≠ 0 →
        Ends (.holdVoteClear blocks) s { s with sec := { s.sec with held := s.sec.held &&& ~~~blocks } }) ∧
      Ends .holdWindowCap s (raise (countLate { s with
        sec := { s.sec with held := 0, lockoutNs := s.clockNs + 1000000, windowNs := none }
        pmc := { s.pmc with frozen := false } }) 0x2E3 0)) ∧
    (s.sec.windowNs ≠ none →
      ∀ b change, s.sec.requests = [(b, change)] → Ends .holdWindowCap s (raise
        (let u := applyNoted { s with sec := { s.sec with held := 0, lockoutNs := s.clockNs + 1000000 } } b change
        countLate { u with
          sec := { u.sec with requests := [], windowNs := none }
          pmc := { u.pmc with frozen := false } }) 0x2E3 0))) ∧
  (∀ s : State,
    let u := { s with sec := { s.sec with wdSinceNs := s.clockNs } }
    Ends .watchdogRestart s u ∧
    (s.sec.gated.getLsbD 0 = false → s.sec.gated.getLsbD 6 = false → Ends .secureWatchdog s (raise u 0x2E1 0)) ∧
    (s.sec.gated.getLsbD 0 = true ∨ s.sec.gated.getLsbD 6 = true → Ends .secureWatchdog s s))

/-- R515 to R518: once the host interface is ready, the SPDM responder answers GET_VERSION and starts the connection again,
GET_CAPABILITIES after a version, NEGOTIATE_ALGORITHMS after capabilities, and the others after algorithms, with slot 0's chain,
its digest, a signature and the measurements; a chunk is kept until the last one, and a large response is given chunk by chunk.
SPDM's own layouts and codes are the model's (log entry 7). -/
def Obligations.SpdmResponder : Prop :=
  (∀ (s : State) (c : Instr), s.host.infoValid = false →
    c ∈ [Instr.getVersion, .getCapabilities, .getDigests] → Ends c s s) ∧
  ∀ s : State, s.host.infoValid = true →
    let err := fun (code : BitVec 8) => emit s (.spdm (.spdmError code))
    Ends .getVersion s (emit { s with sec := { s.sec with
      spdmVersion := true
      spdmCaps := false
      spdmAlg := false
      chunkIn := none
      chunkOut := none } } (.spdm (.spdm 0x04 [0, 2, 0x00, 0x12, 0x00, 0x13]))) ∧
    (s.sec.spdmVersion = true → Ends .getCapabilities s (emit { s with sec := { s.sec with spdmCaps := true } }
      (.spdm (.spdm 0x61 ([0, Config.ctExponent, 0, 0] ++ natLe 4 0x20036 ++ natLe 4 4096 ++ natLe 4 65536))))) ∧
    (s.sec.spdmVersion = false → Ends .getCapabilities s (err 0x04)) ∧
    (s.sec.spdmCaps = true →
      Ends (.negotiateAlgorithms true true) s (emit { s with sec := { s.sec with spdmAlg := true } }
        (.spdm (.spdm 0x63 (natLe 8 0 ++ [3, 0, 1, 0] ++ [3, 0, 2, 0])))) ∧
      Ends (.negotiateAlgorithms false false) s (err Config.negotiationFail)) ∧
    (s.sec.spdmCaps = false → ∀ a h, Ends (.negotiateAlgorithms a h) s (err 0x04)) ∧
    (s.sec.spdmAlg = false → Ends .getDigests s (err 0x04) ∧
      (∀ slot o n, Ends (.getCertificate slot o n) s (err 0x04)) ∧ (∀ slot nonce, Ends (.spdmChallenge slot nonce) s (err 0x04)) ∧
      (∀ op signed nonce, Ends (.getMeasurements op signed nonce) s (err 0x04))) ∧
    (s.sec.spdmAlg = true → s.sec.secured = true →
      let chain := certChain s
      let v := { s with freeIdx := s.freeIdx + 1 }
      let random := natLe 32 (Config.freeNat s.freeIdx)
      Ends .getDigests s (spdmOut s 0x01 ([1] ++ shake256 chain 64)) ∧
      (∀ offset length, Ends (.getCertificate 0 offset length) s
        (if offset.toNat < chain.length then
          let part := (chain.drop offset.toNat).take length.toNat
          spdmOut s 0x02 (natLe 2 part.length ++ natLe 2 (chain.length - offset.toNat - part.length) ++ part)
        else err 0x01)) ∧
      (∀ nonce : BitVec 256,
        let body := shake256 chain 64 ++ random ++ natLe 2 0
        Ends (.spdmChallenge 0 nonce) s (spdmOut v 0x03 (body ++ aliasSignature v (natLe 32 nonce.toNat ++ body)))) ∧
      (∀ slot nonce, slot ≠ 0 → Ends (.spdmChallenge slot nonce) s (err 0x01)) ∧
      (∀ nonce : BitVec 256,
        let body := [(6 : Byte)] ++ [1, 2, 3, 4, 5, 6].flatMap (measBlock s)
        Ends (.getMeasurements 0xFF false nonce) s (spdmOut s 0x60 body) ∧
        Ends (.getMeasurements 0xFF true nonce) s (spdmOut v 0x60
          (body ++ random ++ aliasSignature v (natLe 32 nonce.toNat ++ (body ++ random)))))) ∧
    (∀ (handle : BitVec 8) (b : List Byte), b.length ≤ 65536 → Ends (.chunkSend handle 0 false b) s
      (emit { s with sec := { s.sec with chunkIn := some (handle, 1, b) } } (.spdm (.spdm 0x05 ([handle] ++ natLe 2 0))))) ∧
    (∀ (handle : BitVec 8) (b : List Byte), s.sec.chunkOut = some (handle, 0, b) →
      let rest := b.drop 4080
      let part := b.take 4080
      let u := emit s (.spdm (.spdm 0x06
        ([handle, BitVec.ofNat 8 (b2n rest.isEmpty)] ++ natLe 2 0 ++ natLe 4 part.length ++ part)))
      Ends (.chunkGet handle 0) s { u with sec := { u.sec with
        chunkOut := if rest.isEmpty then none else some (handle, 1, rest) } })

/-- R605, R607, R610 to R613, R622, R625: a step that is not in progress ends nothing; one that ends records its entry and the
boot goes on, one that fails with event 0x300 and no further step; a channel whose SPDs differ from the records fails its step
(R66), one without DIMMs is skipped; without custody step 0x20 starts with empty tables (R609); step 0x38 makes the memory active
and the device serve; ACTIVE_LATE raises 0x305 once; BOOT_CTRL starts a device reset with cause 5, leaves a halt with cause 6, and
asks for the primaries again. -/
def Obligations.StartUp : Prop :=
  (∀ (s : State) (step : BitVec 8) (r : StepReport) (buddy : Option BuddyReport),
    let k := step.toNat
    (runOf s k = none → EndsWork (.bootStepEnd step r buddy) s s) ∧
    (runOf s k ≠ none → k = 0x01 ∨ k = 0x02 → EndsWork (.bootStepEnd step r buddy) s (bootOn (passStep s k 0))) ∧
    (runOf s k ≠ none → k = 0x04 → r.hot = true → EndsWork (.bootStepEnd step r buddy) s s) ∧
    (runOf s k ≠ none → k = 0x04 → r.hot = false →
      (r.ok = true → EndsWork (.bootStepEnd step r buddy) s (bootOn (passStep s 0x04 0))) ∧
      (r.ok = false → EndsWork (.bootStepEnd step r buddy) s (bootOn (failStep s 0x04 0)))) ∧
    (runOf s k ≠ none → 0x10 ≤ k → k ≤ 0x1B →
      (channelAgrees s (k - 0x10) r = false →
        EndsWork (.bootStepEnd step r buddy) s (bootOn (failStep (raiseCtl s (k - 0x10) 0x01) k 0x01))) ∧
      (channelAgrees s (k - 0x10) r = true → channelGib s (k - 0x10) = 0 →
        EndsWork (.bootStepEnd step r buddy) s (bootOn (endEntry s k outSkipped 0 0 0)))) ∧
    (runOf s k ≠ none → k = 0x20 → s.boot.custody = false →
      EndsWork (.bootStepEnd step r buddy) s (bootOn (tablesReady (startEmpty s)))) ∧
    (runOf s k ≠ none → k = 0x30 → s.fab.own = .inService →
      EndsWork (.bootStepEnd step r buddy) s (bootOn (passStep s 0x30 0))) ∧
    (runOf s k ≠ none → k = 0x38 →
      let u := passStep s 0x38 0
      let v := modRecord { u with
        boot := { u.boot with st := .serving, attempt := 0, activeMs := BitVec.ofNat 32 (bootMs s) }
        host := { u.host with memActive := !u.host.perst, creditsWithheld := u.host.perst }
        coh := { u.coh with serving := !u.fab.selfFenced } } (fun x => { x with final := 0x01 })
      v.coh.sliceUnknown = 0 → EndsWork (.bootStepEnd step r buddy) s (bootOn (pump v)))) ∧
  (∀ (s : State) (k cause : Nat),
    let u := endEntry s k 2 (((runOf s k).map (·.method.toNat)).getD 0) cause 0
    failStep s k cause = raise { u with boot := { u.boot with failing := some k, failedStep := BitVec.ofNat 8 k } } 0x300 k ∧
    nextStep (failStep s k cause) = none) ∧
  (∀ s : State,
    (s.host.memActive = false → s.boot.st ≠ .serving → s.boot.lateRaised = false → s.boot.activeMs = 0 →
      Ends .activeLate s (raise { s with boot := { s.boot with lateRaised := true } } 0x305 0)) ∧
    (s.boot.lateRaised = true ∨ s.boot.st = .serving → Ends .activeLate s s) ∧
    Ends .bootReset s { s with flt := { s.flt with react := s.flt.react ++ [.deviceReset 5] } } ∧
    (s.boot.st = .halted ∨ s.boot.st = .romRecovery → Ends .bootRetry s { s with
      boot := { s.boot with attempt := 0 }
      flt := { s.flt with react := s.flt.react ++ [.deviceReset 6] } }) ∧
    (s.boot.st ≠ .halted → s.boot.st ≠ .romRecovery → Ends .bootRetry s s) ∧
    Ends .clearAlt s { s with boot := { s.boot with clearAlt := true } })

/-- R11, R12, R498, R499, R547, R650, R651: a power-on reset leaves the state after reset but for what flash, fuses and the memory
controllers' saved training hold, and for the model's own queues and counters (log entry 5); a device reset is absorbed in one in
progress and under the S5 latch, and otherwise ends what was open, keeps the fuses' floors and the firmware slots, and starts the
device again; a CXL reset is absorbed in a host conventional one; both clear the host-facing state, with events 0x266 and 0x267; a
registered PERST# level sets the termination. -/
def Obligations.Resets : Prop :=
  (∀ s : State,
    let n := { State.reset with
      freeIdx := s.freeIdx
      out := s.out
      pending := s.pending
      nextReq := s.nextReq
      img := { ImgState.init with slots := s.img.slots, primerRecord := s.img.primerRecord }
      ctls := mmap s.ctls (fun n c => { MemCtl.init Img.default n with saved := c.saved, serials := c.serials })
      ecc := { EccState.init with marks := s.ecc.marks }
      xts := { XtsState.init with
        domains := mmap s.xts.domains (fun _ d => { d with rotating := none })
        nextKey := s.xts.nextKey }
      host := { HostState.init with fwSlots := s.host.fwSlots, fwPending := s.host.fwPending, perst := s.host.perst }
      sec := { SecState.init with
        secured := s.sec.secured
        lotId := s.sec.lotId
        slots := s.sec.slots
        imgFloor := s.sec.imgFloor
        fwFloor := s.sec.fwFloor
        ownerKey := s.sec.ownerKey
        deviceSecret := s.sec.deviceSecret
        pairing := s.sec.pairing
        nextEnvelope := s.sec.nextEnvelope
        envelopes := s.sec.envelopes.filter (·.2.stored) }
      boot := { BootState.init with ring := s.boot.ring, declaredFailed := s.boot.declaredFailed } }
    Ends .powerOnReset s (driveAlert s n) ∧ n.flt = FltState.init ∧ n.mem = [] ∧ n.chd.extents = []) ∧
  (∀ (s : State) (cause : BitVec 4),
    (s.flt.inReset = true ∨ s.flt.latch = true → Ends (.deviceReset cause) s s) ∧
    (s.flt.inReset = false → s.flt.latch = false → 0x04 ∈ s.boot.ended →
      let u := resettingBeats s
      let v := resetUnits u true
      Ends (.deviceReset cause) s
        (bootOn (driveAlert u (newStart v cause (ddrHeld u != 0) [0x01, 0x02, 0x03, 0x04]))) ∧
      v.links = [] ∧ v.trns = [] ∧ v.coh.txs = [] ∧ v.coh.sink = [] ∧ v.e2e.txs = [] ∧ v.flt.inReset = true ∧
      v.host.memActive = false ∧ v.host.queues = [] ∧
      v.sec.imgFloor = u.sec.imgFloor ∧ v.sec.fwFloor = u.sec.fwFloor ∧ v.sec.lotId = u.sec.lotId)) ∧
  (∀ (s : State) (kind : HostResetKind),
    (s.flt.inReset = true ∨ s.flt.latch = true → EndsWork (.hostConventionalReset kind) s s ∧ EndsWork .cxlReset s s) ∧
    (s.host.perst = true ∨ s.host.crs = true → EndsWork .cxlReset s s) ∧
    (s.flt.inReset = false → s.flt.latch = false →
      (s.host.perst = false → s.host.crs = false → EndsWork .cxlReset s (raise (cxlStateReset s) 0x267 0)) ∧
      (s.host.background = none →
        let u := quietHost s
        let v := cxlStateReset { u with host := { u.host with
          creditsWithheld := true
          crs := true
          infoValid := false
          memActive := false
          width := 0
          speed := 0
          linkLow := some .down
          termination := u.host.termination && kind != HostResetKind.perst
          perst := u.host.perst || kind == HostResetKind.perst
          wake := u.host.wake && kind != HostResetKind.perst
          queueSel := 0
          queues := []
          readNs := []
          bgDiscard := false
          bgOutput := none
          msix := [] } }
        (s.boot.st = .serving → EndsWork (.hostConventionalReset kind) s (raise v 0x266 0)) ∧
        (s.boot.st ≠ .serving → EndsWork (.hostConventionalReset kind) s v)))) ∧
  (∀ s : State,
    Ends (.perstFiltered true) s { s with host := { s.host with perst := true, termination := false, wake := false } } ∧
    Ends (.perstFiltered false) s { s with host := { s.host with
      perst := false
      termination := s.boot.ended.contains 0x05 && !s.flt.latch } })

/-- R17, R21, R34, R73, R400, R407, R478, R500: a host request to an address that no committed decoder and no accepted extent
holds is answered at once, a read with poisoned zeros and a write with its completion, with event 0x261; one that reaches an
extent takes its label and its turn behind the others of its label; it is injected while the device is open to its host, the
label's window and shaper allow it and its line is free, and then runs as an owner's transaction; until then it waits. -/
def Obligations.HostMemoryRequests : Prop :=
  (∀ (s : State) (hpa : BitVec 64) (mv : MetaVal) (req : BitVec 16) (data : Line) (mask : BitVec 64) (poison : Bool),
    let there := (hdmDecode s hpa.toNat).bind (fun dpa => extentOf s dpa)
    let label := there.map (fun e => e.2.attrs.label)
    let asked := { s with host := { s.host with readNs := mset s.host.readNs req.toNat s.clockNs } }
    let u := active (countN asked 0x000 label 1)
    let v := active (countN s 0x001 label 1)
    s.host.memFenced = false → s.fab.selfFenced = false →
    (there = none →
      EndsWork (.memRd hpa mv req) s (raise (emit { u with host := { u.host with
        readNs := mdel u.host.readNs req.toNat } } (.hostData req 0 true u.qos.devload)) 0x261 0) ∧
      EndsWork (.memWr hpa mv req data mask poison) s (raise (emit v (.hostCmp req v.qos.devload)) 0x261 0)) ∧
    (∀ dpa i e, hdmDecode s hpa.toNat = some dpa → extentOf s dpa = some (i, e) →
      let at_ := BitVec.ofNat 64 (dpa / 64 * 64)
      let l := e.attrs.label
      EndsWork (.memRd hpa mv req) s (hostPass { u with coh := { u.coh with
        waitHost := u.coh.waitHost ++ [(at_, .read mv (some req) l)] } }) ∧
      EndsWork (.memWr hpa mv req data mask poison) s (hostPass { v with coh := { v.coh with
        waitHost := v.coh.waitHost ++ [(at_, .write mv (some req) l data mask poison)] } }))) ∧
  (∀ (s : State) (dpa i : Nat) (e : Extent) (mv : MetaVal) (req : Option (BitVec 16)) (l : Nat),
    let w := ReqWork.read mv req l
    let key := lineKey (myNode s) (dpa / 64)
    let began := { s with qos := { s.qos with inProgress := mset s.qos.inProgress l (mgetD s.qos.inProgress l 0 + 1) } }
    let t := makeWay began key (.hostRd mv req)
    (s.aon.st ≠ .run ∨ s.host.memActive = false → hostTry s dpa w = (s, false)) ∧
    (l ≤ 13 → injWindow s l ≤ mgetD s.qos.inProgress l 0 → hostTry s dpa w = (s, false)) ∧
    (s.aon.st = .run → s.host.memActive = true → mgetD s.qos.inProgress l 0 < injWindow s l → shaped s l = false →
      extentTaken s (dpa / 2097152) = some (i, e) → sharedKey e (dpa / 64) = none → (s.chd.ownedAway.isSome && e.attrs.mirrored) = false →
      pendBefore t key = false → mayTake t key (.hostRd mv req) = true →
        hostTry s dpa w = (goOn (openOwn (heatTaken t (dpa / 64 / 64) (.hostRd mv req)) key (.hostRd mv req)
          (.host l (queueLabel l false s.qos.nonConf)) false false) key, true)))

/-- R630 to R634, R636, R640: a write sets a counter and adds the occurrences of its cycle while the counter counts; clear_prog
clears every counter and every overflow, with no counting event of the same cycle before it (R634 adds those again); a write of
PMC_UPAGE sets the page, and one that R640 names is ignored. R7, R9, R479: an access that is not naturally aligned has no effect,
and neither has a write to an offset that holds no register; a written register whose fields are RW reads back what was written,
with its reserved bits 0, whole or by its low half. -/
def Obligations.CountersAndRegisters : Prop :=
  ((∀ (s : State) (n : BitVec 7) (value : Word) (occurrences : Nat),
    let u := { s with pmc := { s.pmc with ctr := mset s.pmc.ctr n.toNat (value.setWidth 48) } }
    let sel := mgetD s.pmc.sel n.toNat PmcSel.zero
    s.pmc.before = none → s.pmc.selOld = none →
    (s.pmc.counting = false ∨ s.pmc.frozen = true ∨ s.pmc.freezeProg = true ∨ sel.enable = false →
      Ends (.pmcCtrWrite n value occurrences) s u) ∧
    (s.pmc.counting = true → s.pmc.frozen = false → s.pmc.freezeProg = false → s.pmc.sel = [(n.toNat, sel)] → sel.enable = true →
      sel.ovfIe = false →
      let sum := value.toNat % 2 ^ 48 + occurrences
      let v := { u with pmc := { u.pmc with ctr := mset u.pmc.ctr n.toNat (BitVec.ofNat 48 sum) } }
      (sum < 2 ^ 48 → Ends (.pmcCtrWrite n value occurrences) s v) ∧
      (2 ^ 48 ≤ sum → Ends (.pmcCtrWrite n value occurrences) s
        { v with pmc := { v.pmc with ovf := s.pmc.ovf ||| ((1 : BitVec 128) <<< n.toNat) } }))) ∧
  (∀ s : State, s.pmc.before = none → Ends .pmcClear s { s with pmc := { s.pmc with ctr := [], ovf := 0 } }) ∧
  (∀ (s : State) (u : BitVec 8) (value : Word),
    let kind := value.toNat % 4
    let base := value.toNat / 2 ^ 8 % 2 ^ 7
    let count := value.toNat / 2 ^ 16 % 2 ^ 8
    (kind = 3 ∨ (kind = 2 ∧ (count = 0 ∨ 128 < base + count)) → Ends (.pmcUpageWrite u value) s s) ∧
    (kind ≤ 1 ∨ (kind = 2 ∧ 1 ≤ count ∧ base + count ≤ 128) → Ends (.pmcUpageWrite u value) s { s with pmc := { s.pmc with
      upage := mset s.pmc.upage u.toNat ⟨BitVec.ofNat 8 count, BitVec.ofNat 7 base, BitVec.ofNat 2 kind⟩ } }))) ∧
  ((∀ (s : State) (offset : BitVec 26) (value : Word),
    (offset.toNat % 8 ≠ 0 → EndsWork (.registerWrite offset true value) s s) ∧
    (offset.toNat % 4 ≠ 0 → EndsWork (.registerWrite offset false value) s s) ∧
    (0x1200000 ≤ offset.toNat → EndsWork (.registerWrite offset true value) s s)) ∧
  ∀ (s : State) (value : Word),
    ∀ r ∈ [(0x100208, 0x3FF), (0x200000, 0x7), (0x400008, 0xFFF), (0x600010, 0xFFF), (0x600040, 0xFFF), (0xC00008, 0x1FF),
      (0xE00018, 0xFFFF), (0xE00028, 0x3)],
      let t := registerWriteBody s r.1 true value
      let half := registerWriteBody s r.1 false value
      EndsWork (.registerWrite (BitVec.ofNat 26 r.1) true value) s t ∧
      EndsWork (.registerWrite (BitVec.ofNat 26 r.1) false value) s half ∧
      regRead t r.1 = value.toNat &&& r.2 ∧ regRead half r.1 = value.toNat &&& r.2 ∧
      t.mem = s.mem ∧ t.links = s.links ∧ t.coh = s.coh ∧ t.e2e = s.e2e ∧ t.out = s.out)

/-- The step takes the command at the front of the queue and runs it with the rest of the queue; on an empty queue one nanosecond
passes and nothing else, but that what is counted in microseconds is counted at each of them (the model's choice: log entry 2). -/
def Obligations.StepRunsTheFrontCommand : Prop :=
  (∀ (s : State) (c : Instr) (rest : List Instr), step { s with pending := c :: rest } = exec c { s with pending := rest }) ∧
  (∀ s : State, s.pending = [] → (s.clockNs + 1) % 1000 ≠ 0 → step s = .next { s with clockNs := s.clockNs + 1 })

/-- R3, R11: after reset nothing is in memory, in a queue or on a link; the controllers are off, no class is unacknowledged, no
counter counts, no extent exists, the host interface is not ready, and the invariant of the block holds. The part is SECURED, and
the image is the default one, by the model's choice (log entry 31). -/
def Obligations.ResetState : Prop :=
  let s := State.reset
  s.pending = [] ∧ s.mem = [] ∧ s.out = [] ∧ s.clockNs = 0 ∧ s.links = [] ∧ s.chd.extents = [] ∧ s.chd.pages = [] ∧ s.chd.migs = [] ∧
  s.coh.txs = [] ∧ s.coh.dir = [] ∧ s.coh.near = [] ∧ s.coh.serving = false ∧ s.e2e.txs = [] ∧ s.flt.classes = [] ∧
  s.flt.log = [] ∧ s.flt.latch = false ∧ s.pmc.counting = false ∧ s.host.memActive = false ∧ s.host.queues = [] ∧
  s.host.infoValid = false ∧ s.fab.own = .absent ∧ s.aon.st = .run ∧ s.aon.custodyDdr = 0 ∧
  (∀ n, n < 16 → (ctl s n).st = .off) ∧ Quiet s ∧ Inv s

/-- R3, R511: whatever command the block takes, the step answers a next state, and that state keeps the invariant of the block:
the window memory is in the model's canonical form and the part stays SECURED; the lot does not change, the anti-rollback floors
never fall, and the commands that wait are those behind it. Every command of the table completes so, in every state. -/
def Obligations.EveryStepKeepsTheInvariant : Prop :=
  (∀ s : State, goesOn (step s)) ∧
  (∀ s t : State, Inv s → step s = .next t → Inv t) ∧
  (∀ (c : Instr) (s : State), ∃ t, exec c s = .next t ∧ Kept s t)

/-- R353 to R360: a frame says what it was built from, and carries its messages: the header of a built frame reads back field by
field, and the messages read from its slots are those put in, CTRL messages first, each with its CONT and its colour. -/
def Obligations.FramesCarryTheirMessages : Prop :=
  ∀ (type seq ack craVc craCount crbVc crbCount : Nat) (ctrls others : List Msg) (bypass : Bool),
    let ms := ctrls ++ others
    let b := buildFrame type seq ack craVc craCount crbVc crbCount ms
    type < 4 → seq < 4096 → ack < 4096 → craVc < 16 → craCount < 32 → crbVc < 16 → crbCount < 32 →
    ((ms.map Msg.slotCount).foldl (· + ·) 0) ≤ 15 →
    (∀ m ∈ ms, m.slots.length ≤ 4 ∧ m.op ≠ 0 ∧ m.rx = none) →
    (∀ m ∈ ctrls, m.vc = 15 ∧ m.joined = false ∧ m.cont = none ∧ m.age = 0 ∧ m.isNew = false) →
    (∀ m ∈ others, m.vc ≠ 15 ∧ m.op.toNat ≤ topOp m.cls ∧ (m.joined = true ↔ m.cont ≠ none) ∧
      ∀ c, m.cont = some c → c.slots.length ≤ 4) →
    (bypass = true → others = []) →
      frameHead b = ⟨type, seq, ack, craVc, craCount, crbVc, crbCount, yellowBits ms, (ms.map Msg.slotCount).foldl (· + ·) 0⟩ ∧
      readSlots (frameHead b).yellow bypass 15 0 true none (frameSlots b) = some ms

/-- R188, R190 to R193, R199, R200: what a compressor makes of a block is what the decoder reads back: a stored form of 1 to 15
pods, with no decoder error, and the same 1,024 bytes; only a block of zeros is a ZERO block. -/
def Obligations.CompressionIsLossless : Prop :=
  ∀ (pr : Primer) (block : List Byte), block.length = 1024 → pr.phrases.length ≤ 2048 →
    match compressBlock pr block with
    | .zero => block = List.replicate 1024 0
    | .packed blen stored =>
      1 ≤ blen ∧ blen ≤ 15 ∧ stored.length = 64 * blen ∧ decodeBlock pr blen stored = .ok block
    | .nogain => ∃ b ∈ block, b ≠ 0
    | .verifyFail => False
end

