-- ==== Sys2Proof/Laws/Memory.lean ====
section
/-! SUPPORT. Sparse maps and window memory: what a read gives after a write, and that every memory operation keeps the canonical
form (R91). -/

namespace Sys2Proof.Machine

/-! ### Sparse maps -/

theorem mget_mset_self {α : Type} (m : NMap α) (i : Nat) (v : α) : mget (mset m i v) i = some v := by
  induction m with
  | nil => simp [mset, mget]
  | cons x m ih =>
    obtain ⟨k, w⟩ := x
    unfold mset
    split
    · simp [mget]
    · split
      · simp [mget]
      · simp [mget, *]

theorem mget_mset_of_ne {α : Type} (m : NMap α) {i j : Nat} (v : α) (h : j ≠ i) : mget (mset m i v) j = mget m j := by
  induction m with
  | nil => simp [mset, mget, h]
  | cons x m ih =>
    obtain ⟨k, w⟩ := x
    unfold mset
    split
    · simp only [mget, h, if_false]
      split
      · rename_i h1 h2
        have : ¬ j = k := by omega
        have : j < k := by omega
        simp [*]
      · rfl
    · split
      · subst_vars
        simp [mget, h]
      · simp [mget, ih]

@[simp] theorem mget_mset {α : Type} (m : NMap α) (i j : Nat) (v : α) :
    mget (mset m i v) j = if j = i then some v else mget m j := by
  split
  · subst_vars; exact mget_mset_self m _ v
  · exact mget_mset_of_ne m v ‹_›

@[simp] theorem mgetD_mset_self {α : Type} (m : NMap α) (i : Nat) (v d : α) : mgetD (mset m i v) i d = v := by
  simp [mgetD]

theorem mgetD_mset_of_ne {α : Type} (m : NMap α) {i j : Nat} (v d : α) (h : j ≠ i) : mgetD (mset m i v) j d = mgetD m j d := by
  simp [mgetD, h]

/-! ### The canonical form -/

theorem memSorted_cons {a : Nat} {b : Byte} {m : List Host.Cell} :
    memSorted ((a, b) :: m) = true ↔ b ≠ memDefault ∧ (∀ x ∈ m, a < x.1) ∧ memSorted m = true := by
  induction m generalizing a b with
  | nil => simp [memSorted]
  | cons y m ih =>
    obtain ⟨c, d⟩ := y
    constructor
    · intro h
      simp only [memSorted, Bool.and_eq_true, bne_iff_ne, ne_eq, decide_eq_true_eq] at h
      obtain ⟨⟨h1, h2⟩, h3⟩ := h
      refine ⟨h1, ?_, h3⟩
      intro x hx
      rcases List.mem_cons.mp hx with rfl | hx
      · exact h2
      · exact Nat.lt_trans h2 ((ih.mp h3).2.1 x hx)
    · rintro ⟨h1, h2, h3⟩
      have := h2 (c, d) (by simp)
      simp [memSorted, *]

theorem mem_mset {α : Type} {m : NMap α} {i : Nat} {v : α} {x : Nat × α} (h : x ∈ mset m i v) : x = (i, v) ∨ x ∈ m := by
  induction m with
  | nil => simpa [mset] using h
  | cons y m ih =>
    unfold mset at h
    split at h
    · simpa using h
    · split at h
      · rcases List.mem_cons.mp h with h | h
        · exact .inl h
        · exact .inr (List.mem_cons_of_mem _ h)
      · rcases List.mem_cons.mp h with h | h
        · exact .inr (by simp [h])
        · rcases ih h with h | h
          · exact .inl h
          · exact .inr (List.mem_cons_of_mem _ h)

theorem mem_mdel {α : Type} {m : NMap α} {i : Nat} {x : Nat × α} (h : x ∈ mdel m i) : x ∈ m := by
  induction m with
  | nil => simp [mdel] at h
  | cons y m ih =>
    unfold mdel at h
    split at h
    · exact List.mem_cons_of_mem _ h
    · split at h
      · exact h
      · rcases List.mem_cons.mp h with h | h
        · simp [h]
        · exact List.mem_cons_of_mem _ (ih h)

theorem wf_mset {m : List Host.Cell} {a : Nat} {b : Byte} (hb : b ≠ memDefault) (h : Memory.wf m) : Memory.wf (mset m a b) := by
  induction m with
  | nil => simp [Memory.wf, mset, memSorted, hb]
  | cons y m ih =>
    obtain ⟨c, d⟩ := y
    obtain ⟨h1, h2, h3⟩ := memSorted_cons.mp h
    unfold mset
    split
    · refine memSorted_cons.mpr ⟨hb, ?_, h⟩
      intro x hx
      rcases List.mem_cons.mp hx with rfl | hx
      · assumption
      · exact Nat.lt_trans ‹_› (h2 x hx)
    · split
      · subst_vars
        exact memSorted_cons.mpr ⟨hb, h2, h3⟩
      · refine memSorted_cons.mpr ⟨h1, ?_, ih h3⟩
        intro x hx
        rcases mem_mset hx with rfl | hx
        · simp only; omega
        · exact h2 x hx

theorem wf_mdel {m : List Host.Cell} {a : Nat} (h : Memory.wf m) : Memory.wf (mdel m a) := by
  induction m with
  | nil => exact h
  | cons y m ih =>
    obtain ⟨c, d⟩ := y
    obtain ⟨h1, h2, h3⟩ := memSorted_cons.mp h
    unfold mdel
    split
    · exact h3
    · split
      · exact h
      · exact memSorted_cons.mpr ⟨h1, fun x hx => h2 x (mem_mdel hx), ih h3⟩

theorem wf_filter {m : List Host.Cell} (p : Host.Cell → Bool) (h : Memory.wf m) : Memory.wf (m.filter p) := by
  induction m with
  | nil => exact h
  | cons y m ih =>
    obtain ⟨c, d⟩ := y
    obtain ⟨h1, h2, h3⟩ := memSorted_cons.mp h
    rw [List.filter_cons]
    split
    · exact memSorted_cons.mpr ⟨h1, fun x hx => h2 x (List.mem_filter.mp hx).1, ih h3⟩
    · exact ih h3

theorem wf_writeByte {m : List Host.Cell} (a : Nat) (b : Byte) (h : Memory.wf m) : Memory.wf (writeByte m a b) := by
  unfold writeByte
  split
  · exact wf_mdel h
  · exact wf_mset ‹_› h

theorem wf_writeBytes {m : List Host.Cell} (a : Nat) (bs : List Byte) (h : Memory.wf m) : Memory.wf (writeBytes m a bs) := by
  induction bs generalizing m a with
  | nil => exact h
  | cons b bs ih => exact ih (a + 1) (wf_writeByte a b h)

theorem wf_writeLine {s : State} (line : Nat) (d : Line) (h : Memory.wf s.mem) : Memory.wf (writeLine s line d).mem :=
  wf_writeBytes _ _ h

theorem wf_writeBlock {s : State} (block : Nat) (bs : List Byte) (h : Memory.wf s.mem) : Memory.wf (writeBlock s block bs).mem :=
  wf_writeBytes _ _ h

theorem wf_clearPage {s : State} (p : Nat) (h : Memory.wf s.mem) : Memory.wf (clearPage s p).mem :=
  wf_filter _ h

theorem wf_reset : Memory.wf State.reset.mem := rfl

/-! ### A read after a write -/

theorem mget_of_not_mem {m : List Host.Cell} {a : Nat} (h : ∀ x ∈ m, x.1 ≠ a) : mget m a = none := by
  induction m with
  | nil => rfl
  | cons y m ih =>
    obtain ⟨c, d⟩ := y
    have h1 : c ≠ a := h (c, d) (by simp)
    have h2 : ¬ a = c := fun e => h1 e.symm
    simp only [mget, h2, if_false]
    split
    · rfl
    · exact ih (fun x hx => h x (List.mem_cons_of_mem _ hx))

theorem mget_mdel {m : List Host.Cell} (i j : Nat) (h : Memory.wf m) : mget (mdel m i) j = if j = i then none else mget m j := by
  induction m with
  | nil => simp [mdel, mget]
  | cons y m ih =>
    obtain ⟨c, d⟩ := y
    obtain ⟨h1, h2, h3⟩ := memSorted_cons.mp h
    unfold mdel
    split
    · subst_vars
      split
      · subst_vars
        exact mget_of_not_mem (fun x hx => Nat.ne_of_gt (h2 x hx))
      · simp only [mget, *, if_false]
        split
        · exact mget_of_not_mem (fun x hx => by have := h2 x hx; omega)
        · rfl
    · split
      · split
        · subst_vars
          simp [mget, *]
        · rfl
      · simp only [mget, ih h3]
        repeat' split
        all_goals first | rfl | omega

/-- A byte reads as written, and every other byte as before. -/
theorem readByte_writeByte {m : List Host.Cell} (a a' : Nat) (b : Byte) (h : Memory.wf m) :
    readByte (writeByte m a b) a' = if a' = a then b else readByte m a' := by
  unfold readByte writeByte mgetD
  split
  · rw [mget_mdel a a' h]
    split <;> simp [*]
  · rw [mget_mset]
    split <;> simp

/-- Bytes written at rising addresses read as written, and every other byte as before. -/
theorem readByte_writeBytes {m : List Host.Cell} (a a' : Nat) (bs : List Byte) (h : Memory.wf m) :
    readByte (writeBytes m a bs) a' = if a ≤ a' ∧ a' < a + bs.length then bs.getD (a' - a) 0 else readByte m a' := by
  induction bs generalizing m a with
  | nil =>
    rw [if_neg (by simp only [List.length_nil]; omega)]
    rfl
  | cons b bs ih =>
    show readByte (writeBytes (writeByte m a b) (a + 1) bs) a' = _
    rw [ih (a + 1) (wf_writeByte a b h), readByte_writeByte a a' b h, List.length_cons]
    by_cases h1 : a' = a
    · subst h1
      rw [if_neg (by omega), if_pos rfl, if_pos (by omega)]
      simp
    · by_cases h2 : a + 1 ≤ a' ∧ a' < a + 1 + bs.length
      · rw [if_pos h2, if_pos (by omega)]
        obtain ⟨k, hk⟩ : ∃ k, a' - a = k + 1 := ⟨a' - a - 1, by omega⟩
        have : a' - (a + 1) = k := by omega
        rw [hk, this, List.getD_cons_succ]
      · rw [if_neg h2, if_neg h1, if_neg (by omega)]

theorem length_natLe (n v : Nat) : (natLe n v).length = n := by
  induction n generalizing v with
  | zero => rfl
  | succ n ih => simp [natLe, ih]

/-- The bytes of window memory outside a written line read as before. -/
theorem readByte_writeLine_of_ne {s : State} (line a : Nat) (d : Line) (h : Memory.wf s.mem) (ha : a / 64 ≠ line) :
    readByte (writeLine s line d).mem a = readByte s.mem a := by
  unfold writeLine
  rw [readByte_writeBytes _ _ _ h, if_neg]
  simp only [lineBytes, length_natLe]
  omega

end Sys2Proof.Machine
end

