-- ==== Sys2Proof/Laws/State.lean ====
section
/-! SUPPORT. What each named update of the state leaves in every field: one lemma per field per update. -/

namespace Sys2Proof.Machine

/-! ### emit -/

@[simp] theorem emit_clockNs (s : State) (o : Output) : (emit s o).clockNs = s.clockNs := rfl
@[simp] theorem emit_freeIdx (s : State) (o : Output) : (emit s o).freeIdx = s.freeIdx := rfl
@[simp] theorem emit_out (s : State) (o : Output) : (emit s o).out = o :: s.out := rfl
@[simp] theorem emit_pending (s : State) (o : Output) : (emit s o).pending = s.pending := rfl
@[simp] theorem emit_mem (s : State) (o : Output) : (emit s o).mem = s.mem := rfl
@[simp] theorem emit_nextReq (s : State) (o : Output) : (emit s o).nextReq = s.nextReq := rfl
@[simp] theorem emit_img (s : State) (o : Output) : (emit s o).img = s.img := rfl
@[simp] theorem emit_flt (s : State) (o : Output) : (emit s o).flt = s.flt := rfl
@[simp] theorem emit_pmc (s : State) (o : Output) : (emit s o).pmc = s.pmc := rfl
@[simp] theorem emit_chd (s : State) (o : Output) : (emit s o).chd = s.chd := rfl
@[simp] theorem emit_fab (s : State) (o : Output) : (emit s o).fab = s.fab := rfl
@[simp] theorem emit_e2e (s : State) (o : Output) : (emit s o).e2e = s.e2e := rfl
@[simp] theorem emit_links (s : State) (o : Output) : (emit s o).links = s.links := rfl
@[simp] theorem emit_ctls (s : State) (o : Output) : (emit s o).ctls = s.ctls := rfl
@[simp] theorem emit_trns (s : State) (o : Output) : (emit s o).trns = s.trns := rfl
@[simp] theorem emit_ecc (s : State) (o : Output) : (emit s o).ecc = s.ecc := rfl
@[simp] theorem emit_qos (s : State) (o : Output) : (emit s o).qos = s.qos := rfl
@[simp] theorem emit_xts (s : State) (o : Output) : (emit s o).xts = s.xts := rfl
@[simp] theorem emit_cmp (s : State) (o : Output) : (emit s o).cmp = s.cmp := rfl
@[simp] theorem emit_coh (s : State) (o : Output) : (emit s o).coh = s.coh := rfl
@[simp] theorem emit_host (s : State) (o : Output) : (emit s o).host = s.host := rfl
@[simp] theorem emit_sec (s : State) (o : Output) : (emit s o).sec = s.sec := rfl
@[simp] theorem emit_pwr (s : State) (o : Output) : (emit s o).pwr = s.pwr := rfl
@[simp] theorem emit_aon (s : State) (o : Output) : (emit s o).aon = s.aon := rfl
@[simp] theorem emit_boot (s : State) (o : Output) : (emit s o).boot = s.boot := rfl

/-! ### emitAll -/

@[simp] theorem emitAll_clockNs (s : State) (os : List Output) : (emitAll s os).clockNs = s.clockNs := rfl
@[simp] theorem emitAll_freeIdx (s : State) (os : List Output) : (emitAll s os).freeIdx = s.freeIdx := rfl
@[simp] theorem emitAll_out (s : State) (os : List Output) : (emitAll s os).out = os.reverse ++ s.out := rfl
@[simp] theorem emitAll_pending (s : State) (os : List Output) : (emitAll s os).pending = s.pending := rfl
@[simp] theorem emitAll_mem (s : State) (os : List Output) : (emitAll s os).mem = s.mem := rfl
@[simp] theorem emitAll_nextReq (s : State) (os : List Output) : (emitAll s os).nextReq = s.nextReq := rfl
@[simp] theorem emitAll_img (s : State) (os : List Output) : (emitAll s os).img = s.img := rfl
@[simp] theorem emitAll_flt (s : State) (os : List Output) : (emitAll s os).flt = s.flt := rfl
@[simp] theorem emitAll_pmc (s : State) (os : List Output) : (emitAll s os).pmc = s.pmc := rfl
@[simp] theorem emitAll_chd (s : State) (os : List Output) : (emitAll s os).chd = s.chd := rfl
@[simp] theorem emitAll_fab (s : State) (os : List Output) : (emitAll s os).fab = s.fab := rfl
@[simp] theorem emitAll_e2e (s : State) (os : List Output) : (emitAll s os).e2e = s.e2e := rfl
@[simp] theorem emitAll_links (s : State) (os : List Output) : (emitAll s os).links = s.links := rfl
@[simp] theorem emitAll_ctls (s : State) (os : List Output) : (emitAll s os).ctls = s.ctls := rfl
@[simp] theorem emitAll_trns (s : State) (os : List Output) : (emitAll s os).trns = s.trns := rfl
@[simp] theorem emitAll_ecc (s : State) (os : List Output) : (emitAll s os).ecc = s.ecc := rfl
@[simp] theorem emitAll_qos (s : State) (os : List Output) : (emitAll s os).qos = s.qos := rfl
@[simp] theorem emitAll_xts (s : State) (os : List Output) : (emitAll s os).xts = s.xts := rfl
@[simp] theorem emitAll_cmp (s : State) (os : List Output) : (emitAll s os).cmp = s.cmp := rfl
@[simp] theorem emitAll_coh (s : State) (os : List Output) : (emitAll s os).coh = s.coh := rfl
@[simp] theorem emitAll_host (s : State) (os : List Output) : (emitAll s os).host = s.host := rfl
@[simp] theorem emitAll_sec (s : State) (os : List Output) : (emitAll s os).sec = s.sec := rfl
@[simp] theorem emitAll_pwr (s : State) (os : List Output) : (emitAll s os).pwr = s.pwr := rfl
@[simp] theorem emitAll_aon (s : State) (os : List Output) : (emitAll s os).aon = s.aon := rfl
@[simp] theorem emitAll_boot (s : State) (os : List Output) : (emitAll s os).boot = s.boot := rfl

/-! ### chosen -/

@[simp] theorem chosen_clockNs (s : State) (k : Nat) : (chosen s k).clockNs = s.clockNs := rfl
@[simp] theorem chosen_freeIdx (s : State) (k : Nat) : (chosen s k).freeIdx = s.freeIdx + k := rfl
@[simp] theorem chosen_out (s : State) (k : Nat) : (chosen s k).out = s.out := rfl
@[simp] theorem chosen_pending (s : State) (k : Nat) : (chosen s k).pending = s.pending := rfl
@[simp] theorem chosen_mem (s : State) (k : Nat) : (chosen s k).mem = s.mem := rfl
@[simp] theorem chosen_nextReq (s : State) (k : Nat) : (chosen s k).nextReq = s.nextReq := rfl
@[simp] theorem chosen_img (s : State) (k : Nat) : (chosen s k).img = s.img := rfl
@[simp] theorem chosen_flt (s : State) (k : Nat) : (chosen s k).flt = s.flt := rfl
@[simp] theorem chosen_pmc (s : State) (k : Nat) : (chosen s k).pmc = s.pmc := rfl
@[simp] theorem chosen_chd (s : State) (k : Nat) : (chosen s k).chd = s.chd := rfl
@[simp] theorem chosen_fab (s : State) (k : Nat) : (chosen s k).fab = s.fab := rfl
@[simp] theorem chosen_e2e (s : State) (k : Nat) : (chosen s k).e2e = s.e2e := rfl
@[simp] theorem chosen_links (s : State) (k : Nat) : (chosen s k).links = s.links := rfl
@[simp] theorem chosen_ctls (s : State) (k : Nat) : (chosen s k).ctls = s.ctls := rfl
@[simp] theorem chosen_trns (s : State) (k : Nat) : (chosen s k).trns = s.trns := rfl
@[simp] theorem chosen_ecc (s : State) (k : Nat) : (chosen s k).ecc = s.ecc := rfl
@[simp] theorem chosen_qos (s : State) (k : Nat) : (chosen s k).qos = s.qos := rfl
@[simp] theorem chosen_xts (s : State) (k : Nat) : (chosen s k).xts = s.xts := rfl
@[simp] theorem chosen_cmp (s : State) (k : Nat) : (chosen s k).cmp = s.cmp := rfl
@[simp] theorem chosen_coh (s : State) (k : Nat) : (chosen s k).coh = s.coh := rfl
@[simp] theorem chosen_host (s : State) (k : Nat) : (chosen s k).host = s.host := rfl
@[simp] theorem chosen_sec (s : State) (k : Nat) : (chosen s k).sec = s.sec := rfl
@[simp] theorem chosen_pwr (s : State) (k : Nat) : (chosen s k).pwr = s.pwr := rfl
@[simp] theorem chosen_aon (s : State) (k : Nat) : (chosen s k).aon = s.aon := rfl
@[simp] theorem chosen_boot (s : State) (k : Nat) : (chosen s k).boot = s.boot := rfl

/-! ### setLink -/

@[simp] theorem setLink_clockNs (s : State) (l : Nat) (r : LinkRec) : (setLink s l r).clockNs = s.clockNs := rfl
@[simp] theorem setLink_freeIdx (s : State) (l : Nat) (r : LinkRec) : (setLink s l r).freeIdx = s.freeIdx := rfl
@[simp] theorem setLink_out (s : State) (l : Nat) (r : LinkRec) : (setLink s l r).out = s.out := rfl
@[simp] theorem setLink_pending (s : State) (l : Nat) (r : LinkRec) : (setLink s l r).pending = s.pending := rfl
@[simp] theorem setLink_mem (s : State) (l : Nat) (r : LinkRec) : (setLink s l r).mem = s.mem := rfl
@[simp] theorem setLink_nextReq (s : State) (l : Nat) (r : LinkRec) : (setLink s l r).nextReq = s.nextReq := rfl
@[simp] theorem setLink_img (s : State) (l : Nat) (r : LinkRec) : (setLink s l r).img = s.img := rfl
@[simp] theorem setLink_flt (s : State) (l : Nat) (r : LinkRec) : (setLink s l r).flt = s.flt := rfl
@[simp] theorem setLink_pmc (s : State) (l : Nat) (r : LinkRec) : (setLink s l r).pmc = s.pmc := rfl
@[simp] theorem setLink_chd (s : State) (l : Nat) (r : LinkRec) : (setLink s l r).chd = s.chd := rfl
@[simp] theorem setLink_fab (s : State) (l : Nat) (r : LinkRec) : (setLink s l r).fab = s.fab := rfl
@[simp] theorem setLink_e2e (s : State) (l : Nat) (r : LinkRec) : (setLink s l r).e2e = s.e2e := rfl
@[simp] theorem setLink_links (s : State) (l : Nat) (r : LinkRec) : (setLink s l r).links = mset s.links l r := rfl
@[simp] theorem setLink_ctls (s : State) (l : Nat) (r : LinkRec) : (setLink s l r).ctls = s.ctls := rfl
@[simp] theorem setLink_trns (s : State) (l : Nat) (r : LinkRec) : (setLink s l r).trns = s.trns := rfl
@[simp] theorem setLink_ecc (s : State) (l : Nat) (r : LinkRec) : (setLink s l r).ecc = s.ecc := rfl
@[simp] theorem setLink_qos (s : State) (l : Nat) (r : LinkRec) : (setLink s l r).qos = s.qos := rfl
@[simp] theorem setLink_xts (s : State) (l : Nat) (r : LinkRec) : (setLink s l r).xts = s.xts := rfl
@[simp] theorem setLink_cmp (s : State) (l : Nat) (r : LinkRec) : (setLink s l r).cmp = s.cmp := rfl
@[simp] theorem setLink_coh (s : State) (l : Nat) (r : LinkRec) : (setLink s l r).coh = s.coh := rfl
@[simp] theorem setLink_host (s : State) (l : Nat) (r : LinkRec) : (setLink s l r).host = s.host := rfl
@[simp] theorem setLink_sec (s : State) (l : Nat) (r : LinkRec) : (setLink s l r).sec = s.sec := rfl
@[simp] theorem setLink_pwr (s : State) (l : Nat) (r : LinkRec) : (setLink s l r).pwr = s.pwr := rfl
@[simp] theorem setLink_aon (s : State) (l : Nat) (r : LinkRec) : (setLink s l r).aon = s.aon := rfl
@[simp] theorem setLink_boot (s : State) (l : Nat) (r : LinkRec) : (setLink s l r).boot = s.boot := rfl

/-! ### modLink -/

@[simp] theorem modLink_clockNs (s : State) (l : Nat) (f : LinkRec → LinkRec) : (modLink s l f).clockNs = s.clockNs := rfl
@[simp] theorem modLink_freeIdx (s : State) (l : Nat) (f : LinkRec → LinkRec) : (modLink s l f).freeIdx = s.freeIdx := rfl
@[simp] theorem modLink_out (s : State) (l : Nat) (f : LinkRec → LinkRec) : (modLink s l f).out = s.out := rfl
@[simp] theorem modLink_pending (s : State) (l : Nat) (f : LinkRec → LinkRec) : (modLink s l f).pending = s.pending := rfl
@[simp] theorem modLink_mem (s : State) (l : Nat) (f : LinkRec → LinkRec) : (modLink s l f).mem = s.mem := rfl
@[simp] theorem modLink_nextReq (s : State) (l : Nat) (f : LinkRec → LinkRec) : (modLink s l f).nextReq = s.nextReq := rfl
@[simp] theorem modLink_img (s : State) (l : Nat) (f : LinkRec → LinkRec) : (modLink s l f).img = s.img := rfl
@[simp] theorem modLink_flt (s : State) (l : Nat) (f : LinkRec → LinkRec) : (modLink s l f).flt = s.flt := rfl
@[simp] theorem modLink_pmc (s : State) (l : Nat) (f : LinkRec → LinkRec) : (modLink s l f).pmc = s.pmc := rfl
@[simp] theorem modLink_chd (s : State) (l : Nat) (f : LinkRec → LinkRec) : (modLink s l f).chd = s.chd := rfl
@[simp] theorem modLink_fab (s : State) (l : Nat) (f : LinkRec → LinkRec) : (modLink s l f).fab = s.fab := rfl
@[simp] theorem modLink_e2e (s : State) (l : Nat) (f : LinkRec → LinkRec) : (modLink s l f).e2e = s.e2e := rfl
@[simp] theorem modLink_links (s : State) (l : Nat) (f : LinkRec → LinkRec) :
    (modLink s l f).links = mset s.links l (f (link s l)) := rfl
@[simp] theorem modLink_ctls (s : State) (l : Nat) (f : LinkRec → LinkRec) : (modLink s l f).ctls = s.ctls := rfl
@[simp] theorem modLink_trns (s : State) (l : Nat) (f : LinkRec → LinkRec) : (modLink s l f).trns = s.trns := rfl
@[simp] theorem modLink_ecc (s : State) (l : Nat) (f : LinkRec → LinkRec) : (modLink s l f).ecc = s.ecc := rfl
@[simp] theorem modLink_qos (s : State) (l : Nat) (f : LinkRec → LinkRec) : (modLink s l f).qos = s.qos := rfl
@[simp] theorem modLink_xts (s : State) (l : Nat) (f : LinkRec → LinkRec) : (modLink s l f).xts = s.xts := rfl
@[simp] theorem modLink_cmp (s : State) (l : Nat) (f : LinkRec → LinkRec) : (modLink s l f).cmp = s.cmp := rfl
@[simp] theorem modLink_coh (s : State) (l : Nat) (f : LinkRec → LinkRec) : (modLink s l f).coh = s.coh := rfl
@[simp] theorem modLink_host (s : State) (l : Nat) (f : LinkRec → LinkRec) : (modLink s l f).host = s.host := rfl
@[simp] theorem modLink_sec (s : State) (l : Nat) (f : LinkRec → LinkRec) : (modLink s l f).sec = s.sec := rfl
@[simp] theorem modLink_pwr (s : State) (l : Nat) (f : LinkRec → LinkRec) : (modLink s l f).pwr = s.pwr := rfl
@[simp] theorem modLink_aon (s : State) (l : Nat) (f : LinkRec → LinkRec) : (modLink s l f).aon = s.aon := rfl
@[simp] theorem modLink_boot (s : State) (l : Nat) (f : LinkRec → LinkRec) : (modLink s l f).boot = s.boot := rfl

/-! ### setCtl -/

@[simp] theorem setCtl_clockNs (s : State) (n : Nat) (c : MemCtl) : (setCtl s n c).clockNs = s.clockNs := rfl
@[simp] theorem setCtl_freeIdx (s : State) (n : Nat) (c : MemCtl) : (setCtl s n c).freeIdx = s.freeIdx := rfl
@[simp] theorem setCtl_out (s : State) (n : Nat) (c : MemCtl) : (setCtl s n c).out = s.out := rfl
@[simp] theorem setCtl_pending (s : State) (n : Nat) (c : MemCtl) : (setCtl s n c).pending = s.pending := rfl
@[simp] theorem setCtl_mem (s : State) (n : Nat) (c : MemCtl) : (setCtl s n c).mem = s.mem := rfl
@[simp] theorem setCtl_nextReq (s : State) (n : Nat) (c : MemCtl) : (setCtl s n c).nextReq = s.nextReq := rfl
@[simp] theorem setCtl_img (s : State) (n : Nat) (c : MemCtl) : (setCtl s n c).img = s.img := rfl
@[simp] theorem setCtl_flt (s : State) (n : Nat) (c : MemCtl) : (setCtl s n c).flt = s.flt := rfl
@[simp] theorem setCtl_pmc (s : State) (n : Nat) (c : MemCtl) : (setCtl s n c).pmc = s.pmc := rfl
@[simp] theorem setCtl_chd (s : State) (n : Nat) (c : MemCtl) : (setCtl s n c).chd = s.chd := rfl
@[simp] theorem setCtl_fab (s : State) (n : Nat) (c : MemCtl) : (setCtl s n c).fab = s.fab := rfl
@[simp] theorem setCtl_e2e (s : State) (n : Nat) (c : MemCtl) : (setCtl s n c).e2e = s.e2e := rfl
@[simp] theorem setCtl_links (s : State) (n : Nat) (c : MemCtl) : (setCtl s n c).links = s.links := rfl
@[simp] theorem setCtl_ctls (s : State) (n : Nat) (c : MemCtl) : (setCtl s n c).ctls = mset s.ctls n c := rfl
@[simp] theorem setCtl_trns (s : State) (n : Nat) (c : MemCtl) : (setCtl s n c).trns = s.trns := rfl
@[simp] theorem setCtl_ecc (s : State) (n : Nat) (c : MemCtl) : (setCtl s n c).ecc = s.ecc := rfl
@[simp] theorem setCtl_qos (s : State) (n : Nat) (c : MemCtl) : (setCtl s n c).qos = s.qos := rfl
@[simp] theorem setCtl_xts (s : State) (n : Nat) (c : MemCtl) : (setCtl s n c).xts = s.xts := rfl
@[simp] theorem setCtl_cmp (s : State) (n : Nat) (c : MemCtl) : (setCtl s n c).cmp = s.cmp := rfl
@[simp] theorem setCtl_coh (s : State) (n : Nat) (c : MemCtl) : (setCtl s n c).coh = s.coh := rfl
@[simp] theorem setCtl_host (s : State) (n : Nat) (c : MemCtl) : (setCtl s n c).host = s.host := rfl
@[simp] theorem setCtl_sec (s : State) (n : Nat) (c : MemCtl) : (setCtl s n c).sec = s.sec := rfl
@[simp] theorem setCtl_pwr (s : State) (n : Nat) (c : MemCtl) : (setCtl s n c).pwr = s.pwr := rfl
@[simp] theorem setCtl_aon (s : State) (n : Nat) (c : MemCtl) : (setCtl s n c).aon = s.aon := rfl
@[simp] theorem setCtl_boot (s : State) (n : Nat) (c : MemCtl) : (setCtl s n c).boot = s.boot := rfl

/-! ### modCtl -/

@[simp] theorem modCtl_clockNs (s : State) (n : Nat) (f : MemCtl → MemCtl) : (modCtl s n f).clockNs = s.clockNs := rfl
@[simp] theorem modCtl_freeIdx (s : State) (n : Nat) (f : MemCtl → MemCtl) : (modCtl s n f).freeIdx = s.freeIdx := rfl
@[simp] theorem modCtl_out (s : State) (n : Nat) (f : MemCtl → MemCtl) : (modCtl s n f).out = s.out := rfl
@[simp] theorem modCtl_pending (s : State) (n : Nat) (f : MemCtl → MemCtl) : (modCtl s n f).pending = s.pending := rfl
@[simp] theorem modCtl_mem (s : State) (n : Nat) (f : MemCtl → MemCtl) : (modCtl s n f).mem = s.mem := rfl
@[simp] theorem modCtl_nextReq (s : State) (n : Nat) (f : MemCtl → MemCtl) : (modCtl s n f).nextReq = s.nextReq := rfl
@[simp] theorem modCtl_img (s : State) (n : Nat) (f : MemCtl → MemCtl) : (modCtl s n f).img = s.img := rfl
@[simp] theorem modCtl_flt (s : State) (n : Nat) (f : MemCtl → MemCtl) : (modCtl s n f).flt = s.flt := rfl
@[simp] theorem modCtl_pmc (s : State) (n : Nat) (f : MemCtl → MemCtl) : (modCtl s n f).pmc = s.pmc := rfl
@[simp] theorem modCtl_chd (s : State) (n : Nat) (f : MemCtl → MemCtl) : (modCtl s n f).chd = s.chd := rfl
@[simp] theorem modCtl_fab (s : State) (n : Nat) (f : MemCtl → MemCtl) : (modCtl s n f).fab = s.fab := rfl
@[simp] theorem modCtl_e2e (s : State) (n : Nat) (f : MemCtl → MemCtl) : (modCtl s n f).e2e = s.e2e := rfl
@[simp] theorem modCtl_links (s : State) (n : Nat) (f : MemCtl → MemCtl) : (modCtl s n f).links = s.links := rfl
@[simp] theorem modCtl_ctls (s : State) (n : Nat) (f : MemCtl → MemCtl) : (modCtl s n f).ctls = mset s.ctls n (f (ctl s n)) := rfl
@[simp] theorem modCtl_trns (s : State) (n : Nat) (f : MemCtl → MemCtl) : (modCtl s n f).trns = s.trns := rfl
@[simp] theorem modCtl_ecc (s : State) (n : Nat) (f : MemCtl → MemCtl) : (modCtl s n f).ecc = s.ecc := rfl
@[simp] theorem modCtl_qos (s : State) (n : Nat) (f : MemCtl → MemCtl) : (modCtl s n f).qos = s.qos := rfl
@[simp] theorem modCtl_xts (s : State) (n : Nat) (f : MemCtl → MemCtl) : (modCtl s n f).xts = s.xts := rfl
@[simp] theorem modCtl_cmp (s : State) (n : Nat) (f : MemCtl → MemCtl) : (modCtl s n f).cmp = s.cmp := rfl
@[simp] theorem modCtl_coh (s : State) (n : Nat) (f : MemCtl → MemCtl) : (modCtl s n f).coh = s.coh := rfl
@[simp] theorem modCtl_host (s : State) (n : Nat) (f : MemCtl → MemCtl) : (modCtl s n f).host = s.host := rfl
@[simp] theorem modCtl_sec (s : State) (n : Nat) (f : MemCtl → MemCtl) : (modCtl s n f).sec = s.sec := rfl
@[simp] theorem modCtl_pwr (s : State) (n : Nat) (f : MemCtl → MemCtl) : (modCtl s n f).pwr = s.pwr := rfl
@[simp] theorem modCtl_aon (s : State) (n : Nat) (f : MemCtl → MemCtl) : (modCtl s n f).aon = s.aon := rfl
@[simp] theorem modCtl_boot (s : State) (n : Nat) (f : MemCtl → MemCtl) : (modCtl s n f).boot = s.boot := rfl

/-! ### setTrn -/

@[simp] theorem setTrn_clockNs (s : State) (c : Nat) (t : MemTrn) : (setTrn s c t).clockNs = s.clockNs := rfl
@[simp] theorem setTrn_freeIdx (s : State) (c : Nat) (t : MemTrn) : (setTrn s c t).freeIdx = s.freeIdx := rfl
@[simp] theorem setTrn_out (s : State) (c : Nat) (t : MemTrn) : (setTrn s c t).out = s.out := rfl
@[simp] theorem setTrn_pending (s : State) (c : Nat) (t : MemTrn) : (setTrn s c t).pending = s.pending := rfl
@[simp] theorem setTrn_mem (s : State) (c : Nat) (t : MemTrn) : (setTrn s c t).mem = s.mem := rfl
@[simp] theorem setTrn_nextReq (s : State) (c : Nat) (t : MemTrn) : (setTrn s c t).nextReq = s.nextReq := rfl
@[simp] theorem setTrn_img (s : State) (c : Nat) (t : MemTrn) : (setTrn s c t).img = s.img := rfl
@[simp] theorem setTrn_flt (s : State) (c : Nat) (t : MemTrn) : (setTrn s c t).flt = s.flt := rfl
@[simp] theorem setTrn_pmc (s : State) (c : Nat) (t : MemTrn) : (setTrn s c t).pmc = s.pmc := rfl
@[simp] theorem setTrn_chd (s : State) (c : Nat) (t : MemTrn) : (setTrn s c t).chd = s.chd := rfl
@[simp] theorem setTrn_fab (s : State) (c : Nat) (t : MemTrn) : (setTrn s c t).fab = s.fab := rfl
@[simp] theorem setTrn_e2e (s : State) (c : Nat) (t : MemTrn) : (setTrn s c t).e2e = s.e2e := rfl
@[simp] theorem setTrn_links (s : State) (c : Nat) (t : MemTrn) : (setTrn s c t).links = s.links := rfl
@[simp] theorem setTrn_ctls (s : State) (c : Nat) (t : MemTrn) : (setTrn s c t).ctls = s.ctls := rfl
@[simp] theorem setTrn_trns (s : State) (c : Nat) (t : MemTrn) : (setTrn s c t).trns = mset s.trns c t := rfl
@[simp] theorem setTrn_ecc (s : State) (c : Nat) (t : MemTrn) : (setTrn s c t).ecc = s.ecc := rfl
@[simp] theorem setTrn_qos (s : State) (c : Nat) (t : MemTrn) : (setTrn s c t).qos = s.qos := rfl
@[simp] theorem setTrn_xts (s : State) (c : Nat) (t : MemTrn) : (setTrn s c t).xts = s.xts := rfl
@[simp] theorem setTrn_cmp (s : State) (c : Nat) (t : MemTrn) : (setTrn s c t).cmp = s.cmp := rfl
@[simp] theorem setTrn_coh (s : State) (c : Nat) (t : MemTrn) : (setTrn s c t).coh = s.coh := rfl
@[simp] theorem setTrn_host (s : State) (c : Nat) (t : MemTrn) : (setTrn s c t).host = s.host := rfl
@[simp] theorem setTrn_sec (s : State) (c : Nat) (t : MemTrn) : (setTrn s c t).sec = s.sec := rfl
@[simp] theorem setTrn_pwr (s : State) (c : Nat) (t : MemTrn) : (setTrn s c t).pwr = s.pwr := rfl
@[simp] theorem setTrn_aon (s : State) (c : Nat) (t : MemTrn) : (setTrn s c t).aon = s.aon := rfl
@[simp] theorem setTrn_boot (s : State) (c : Nat) (t : MemTrn) : (setTrn s c t).boot = s.boot := rfl

/-! ### modMsix -/

@[simp] theorem modMsix_clockNs (s : State) (v : Nat) (f : MsixEnt → MsixEnt) : (modMsix s v f).clockNs = s.clockNs := rfl
@[simp] theorem modMsix_freeIdx (s : State) (v : Nat) (f : MsixEnt → MsixEnt) : (modMsix s v f).freeIdx = s.freeIdx := rfl
@[simp] theorem modMsix_out (s : State) (v : Nat) (f : MsixEnt → MsixEnt) : (modMsix s v f).out = s.out := rfl
@[simp] theorem modMsix_pending (s : State) (v : Nat) (f : MsixEnt → MsixEnt) : (modMsix s v f).pending = s.pending := rfl
@[simp] theorem modMsix_mem (s : State) (v : Nat) (f : MsixEnt → MsixEnt) : (modMsix s v f).mem = s.mem := rfl
@[simp] theorem modMsix_nextReq (s : State) (v : Nat) (f : MsixEnt → MsixEnt) : (modMsix s v f).nextReq = s.nextReq := rfl
@[simp] theorem modMsix_img (s : State) (v : Nat) (f : MsixEnt → MsixEnt) : (modMsix s v f).img = s.img := rfl
@[simp] theorem modMsix_flt (s : State) (v : Nat) (f : MsixEnt → MsixEnt) : (modMsix s v f).flt = s.flt := rfl
@[simp] theorem modMsix_pmc (s : State) (v : Nat) (f : MsixEnt → MsixEnt) : (modMsix s v f).pmc = s.pmc := rfl
@[simp] theorem modMsix_chd (s : State) (v : Nat) (f : MsixEnt → MsixEnt) : (modMsix s v f).chd = s.chd := rfl
@[simp] theorem modMsix_fab (s : State) (v : Nat) (f : MsixEnt → MsixEnt) : (modMsix s v f).fab = s.fab := rfl
@[simp] theorem modMsix_e2e (s : State) (v : Nat) (f : MsixEnt → MsixEnt) : (modMsix s v f).e2e = s.e2e := rfl
@[simp] theorem modMsix_links (s : State) (v : Nat) (f : MsixEnt → MsixEnt) : (modMsix s v f).links = s.links := rfl
@[simp] theorem modMsix_ctls (s : State) (v : Nat) (f : MsixEnt → MsixEnt) : (modMsix s v f).ctls = s.ctls := rfl
@[simp] theorem modMsix_trns (s : State) (v : Nat) (f : MsixEnt → MsixEnt) : (modMsix s v f).trns = s.trns := rfl
@[simp] theorem modMsix_ecc (s : State) (v : Nat) (f : MsixEnt → MsixEnt) : (modMsix s v f).ecc = s.ecc := rfl
@[simp] theorem modMsix_qos (s : State) (v : Nat) (f : MsixEnt → MsixEnt) : (modMsix s v f).qos = s.qos := rfl
@[simp] theorem modMsix_xts (s : State) (v : Nat) (f : MsixEnt → MsixEnt) : (modMsix s v f).xts = s.xts := rfl
@[simp] theorem modMsix_cmp (s : State) (v : Nat) (f : MsixEnt → MsixEnt) : (modMsix s v f).cmp = s.cmp := rfl
@[simp] theorem modMsix_coh (s : State) (v : Nat) (f : MsixEnt → MsixEnt) : (modMsix s v f).coh = s.coh := rfl
@[simp] theorem modMsix_msix (s : State) (v : Nat) (f : MsixEnt → MsixEnt) :
    (modMsix s v f).host.msix = mset s.host.msix v (f (msixEnt s v)) := rfl
@[simp] theorem modMsix_sec (s : State) (v : Nat) (f : MsixEnt → MsixEnt) : (modMsix s v f).sec = s.sec := rfl
@[simp] theorem modMsix_pwr (s : State) (v : Nat) (f : MsixEnt → MsixEnt) : (modMsix s v f).pwr = s.pwr := rfl
@[simp] theorem modMsix_aon (s : State) (v : Nat) (f : MsixEnt → MsixEnt) : (modMsix s v f).aon = s.aon := rfl
@[simp] theorem modMsix_boot (s : State) (v : Nat) (f : MsixEnt → MsixEnt) : (modMsix s v f).boot = s.boot := rfl

/-! ### setCls -/

@[simp] theorem setCls_clockNs (s : State) (ev : Nat) (c : FltClass) : (setCls s ev c).clockNs = s.clockNs := rfl
@[simp] theorem setCls_freeIdx (s : State) (ev : Nat) (c : FltClass) : (setCls s ev c).freeIdx = s.freeIdx := rfl
@[simp] theorem setCls_out (s : State) (ev : Nat) (c : FltClass) : (setCls s ev c).out = s.out := rfl
@[simp] theorem setCls_pending (s : State) (ev : Nat) (c : FltClass) : (setCls s ev c).pending = s.pending := rfl
@[simp] theorem setCls_mem (s : State) (ev : Nat) (c : FltClass) : (setCls s ev c).mem = s.mem := rfl
@[simp] theorem setCls_nextReq (s : State) (ev : Nat) (c : FltClass) : (setCls s ev c).nextReq = s.nextReq := rfl
@[simp] theorem setCls_img (s : State) (ev : Nat) (c : FltClass) : (setCls s ev c).img = s.img := rfl
@[simp] theorem setCls_classes (s : State) (ev : Nat) (c : FltClass) :
    (setCls s ev c).flt.classes = mset s.flt.classes ev c := rfl
@[simp] theorem setCls_pmc (s : State) (ev : Nat) (c : FltClass) : (setCls s ev c).pmc = s.pmc := rfl
@[simp] theorem setCls_chd (s : State) (ev : Nat) (c : FltClass) : (setCls s ev c).chd = s.chd := rfl
@[simp] theorem setCls_fab (s : State) (ev : Nat) (c : FltClass) : (setCls s ev c).fab = s.fab := rfl
@[simp] theorem setCls_e2e (s : State) (ev : Nat) (c : FltClass) : (setCls s ev c).e2e = s.e2e := rfl
@[simp] theorem setCls_links (s : State) (ev : Nat) (c : FltClass) : (setCls s ev c).links = s.links := rfl
@[simp] theorem setCls_ctls (s : State) (ev : Nat) (c : FltClass) : (setCls s ev c).ctls = s.ctls := rfl
@[simp] theorem setCls_trns (s : State) (ev : Nat) (c : FltClass) : (setCls s ev c).trns = s.trns := rfl
@[simp] theorem setCls_ecc (s : State) (ev : Nat) (c : FltClass) : (setCls s ev c).ecc = s.ecc := rfl
@[simp] theorem setCls_qos (s : State) (ev : Nat) (c : FltClass) : (setCls s ev c).qos = s.qos := rfl
@[simp] theorem setCls_xts (s : State) (ev : Nat) (c : FltClass) : (setCls s ev c).xts = s.xts := rfl
@[simp] theorem setCls_cmp (s : State) (ev : Nat) (c : FltClass) : (setCls s ev c).cmp = s.cmp := rfl
@[simp] theorem setCls_coh (s : State) (ev : Nat) (c : FltClass) : (setCls s ev c).coh = s.coh := rfl
@[simp] theorem setCls_host (s : State) (ev : Nat) (c : FltClass) : (setCls s ev c).host = s.host := rfl
@[simp] theorem setCls_sec (s : State) (ev : Nat) (c : FltClass) : (setCls s ev c).sec = s.sec := rfl
@[simp] theorem setCls_pwr (s : State) (ev : Nat) (c : FltClass) : (setCls s ev c).pwr = s.pwr := rfl
@[simp] theorem setCls_aon (s : State) (ev : Nat) (c : FltClass) : (setCls s ev c).aon = s.aon := rfl
@[simp] theorem setCls_boot (s : State) (ev : Nat) (c : FltClass) : (setCls s ev c).boot = s.boot := rfl

/-! ### active -/

@[simp] theorem active_clockNs (s : State) : (active s).clockNs = s.clockNs := rfl
@[simp] theorem active_freeIdx (s : State) : (active s).freeIdx = s.freeIdx := rfl
@[simp] theorem active_out (s : State) : (active s).out = s.out := rfl
@[simp] theorem active_pending (s : State) : (active s).pending = s.pending := rfl
@[simp] theorem active_mem (s : State) : (active s).mem = s.mem := rfl
@[simp] theorem active_nextReq (s : State) : (active s).nextReq = s.nextReq := rfl
@[simp] theorem active_img (s : State) : (active s).img = s.img := rfl
@[simp] theorem active_flt (s : State) : (active s).flt = s.flt := rfl
@[simp] theorem active_pmc (s : State) : (active s).pmc = s.pmc := rfl
@[simp] theorem active_chd (s : State) : (active s).chd = s.chd := rfl
@[simp] theorem active_fab (s : State) : (active s).fab = s.fab := rfl
@[simp] theorem active_e2e (s : State) : (active s).e2e = s.e2e := rfl
@[simp] theorem active_links (s : State) : (active s).links = s.links := rfl
@[simp] theorem active_ctls (s : State) : (active s).ctls = s.ctls := rfl
@[simp] theorem active_trns (s : State) : (active s).trns = s.trns := rfl
@[simp] theorem active_ecc (s : State) : (active s).ecc = s.ecc := rfl
@[simp] theorem active_qos (s : State) : (active s).qos = s.qos := rfl
@[simp] theorem active_xts (s : State) : (active s).xts = s.xts := rfl
@[simp] theorem active_cmp (s : State) : (active s).cmp = s.cmp := rfl
@[simp] theorem active_coh (s : State) : (active s).coh = s.coh := rfl
@[simp] theorem active_host (s : State) : (active s).host = s.host := rfl
@[simp] theorem active_sec (s : State) : (active s).sec = s.sec := rfl
@[simp] theorem active_pwr (s : State) : (active s).pwr = s.pwr := rfl
@[simp] theorem active_active (s : State) : (active s).aon.active = true := rfl
@[simp] theorem active_boot (s : State) : (active s).boot = s.boot := rfl

/-! ### setHeard -/

@[simp] theorem setHeard_clockNs (s : State) (n : Nat) (h : Heard) : (setHeard s n h).clockNs = s.clockNs := rfl
@[simp] theorem setHeard_freeIdx (s : State) (n : Nat) (h : Heard) : (setHeard s n h).freeIdx = s.freeIdx := rfl
@[simp] theorem setHeard_out (s : State) (n : Nat) (h : Heard) : (setHeard s n h).out = s.out := rfl
@[simp] theorem setHeard_pending (s : State) (n : Nat) (h : Heard) : (setHeard s n h).pending = s.pending := rfl
@[simp] theorem setHeard_mem (s : State) (n : Nat) (h : Heard) : (setHeard s n h).mem = s.mem := rfl
@[simp] theorem setHeard_nextReq (s : State) (n : Nat) (h : Heard) : (setHeard s n h).nextReq = s.nextReq := rfl
@[simp] theorem setHeard_img (s : State) (n : Nat) (h : Heard) : (setHeard s n h).img = s.img := rfl
@[simp] theorem setHeard_flt (s : State) (n : Nat) (h : Heard) : (setHeard s n h).flt = s.flt := rfl
@[simp] theorem setHeard_pmc (s : State) (n : Nat) (h : Heard) : (setHeard s n h).pmc = s.pmc := rfl
@[simp] theorem setHeard_chd (s : State) (n : Nat) (h : Heard) : (setHeard s n h).chd = s.chd := rfl
@[simp] theorem setHeard_heard (s : State) (n : Nat) (h : Heard) : (setHeard s n h).fab.heard = mset s.fab.heard n h := rfl
@[simp] theorem setHeard_e2e (s : State) (n : Nat) (h : Heard) : (setHeard s n h).e2e = s.e2e := rfl
@[simp] theorem setHeard_links (s : State) (n : Nat) (h : Heard) : (setHeard s n h).links = s.links := rfl
@[simp] theorem setHeard_ctls (s : State) (n : Nat) (h : Heard) : (setHeard s n h).ctls = s.ctls := rfl
@[simp] theorem setHeard_trns (s : State) (n : Nat) (h : Heard) : (setHeard s n h).trns = s.trns := rfl
@[simp] theorem setHeard_ecc (s : State) (n : Nat) (h : Heard) : (setHeard s n h).ecc = s.ecc := rfl
@[simp] theorem setHeard_qos (s : State) (n : Nat) (h : Heard) : (setHeard s n h).qos = s.qos := rfl
@[simp] theorem setHeard_xts (s : State) (n : Nat) (h : Heard) : (setHeard s n h).xts = s.xts := rfl
@[simp] theorem setHeard_cmp (s : State) (n : Nat) (h : Heard) : (setHeard s n h).cmp = s.cmp := rfl
@[simp] theorem setHeard_coh (s : State) (n : Nat) (h : Heard) : (setHeard s n h).coh = s.coh := rfl
@[simp] theorem setHeard_host (s : State) (n : Nat) (h : Heard) : (setHeard s n h).host = s.host := rfl
@[simp] theorem setHeard_sec (s : State) (n : Nat) (h : Heard) : (setHeard s n h).sec = s.sec := rfl
@[simp] theorem setHeard_pwr (s : State) (n : Nat) (h : Heard) : (setHeard s n h).pwr = s.pwr := rfl
@[simp] theorem setHeard_aon (s : State) (n : Nat) (h : Heard) : (setHeard s n h).aon = s.aon := rfl
@[simp] theorem setHeard_boot (s : State) (n : Nat) (h : Heard) : (setHeard s n h).boot = s.boot := rfl

/-! ### setBorrow -/

@[simp] theorem setBorrow_clockNs (s : State) (n : Nat) (b : Borrow) : (setBorrow s n b).clockNs = s.clockNs := rfl
@[simp] theorem setBorrow_freeIdx (s : State) (n : Nat) (b : Borrow) : (setBorrow s n b).freeIdx = s.freeIdx := rfl
@[simp] theorem setBorrow_out (s : State) (n : Nat) (b : Borrow) : (setBorrow s n b).out = s.out := rfl
@[simp] theorem setBorrow_pending (s : State) (n : Nat) (b : Borrow) : (setBorrow s n b).pending = s.pending := rfl
@[simp] theorem setBorrow_mem (s : State) (n : Nat) (b : Borrow) : (setBorrow s n b).mem = s.mem := rfl
@[simp] theorem setBorrow_nextReq (s : State) (n : Nat) (b : Borrow) : (setBorrow s n b).nextReq = s.nextReq := rfl
@[simp] theorem setBorrow_img (s : State) (n : Nat) (b : Borrow) : (setBorrow s n b).img = s.img := rfl
@[simp] theorem setBorrow_flt (s : State) (n : Nat) (b : Borrow) : (setBorrow s n b).flt = s.flt := rfl
@[simp] theorem setBorrow_pmc (s : State) (n : Nat) (b : Borrow) : (setBorrow s n b).pmc = s.pmc := rfl
@[simp] theorem setBorrow_borrows (s : State) (n : Nat) (b : Borrow) :
    (setBorrow s n b).chd.borrows = mset s.chd.borrows n b := rfl
@[simp] theorem setBorrow_fab (s : State) (n : Nat) (b : Borrow) : (setBorrow s n b).fab = s.fab := rfl
@[simp] theorem setBorrow_e2e (s : State) (n : Nat) (b : Borrow) : (setBorrow s n b).e2e = s.e2e := rfl
@[simp] theorem setBorrow_links (s : State) (n : Nat) (b : Borrow) : (setBorrow s n b).links = s.links := rfl
@[simp] theorem setBorrow_ctls (s : State) (n : Nat) (b : Borrow) : (setBorrow s n b).ctls = s.ctls := rfl
@[simp] theorem setBorrow_trns (s : State) (n : Nat) (b : Borrow) : (setBorrow s n b).trns = s.trns := rfl
@[simp] theorem setBorrow_ecc (s : State) (n : Nat) (b : Borrow) : (setBorrow s n b).ecc = s.ecc := rfl
@[simp] theorem setBorrow_qos (s : State) (n : Nat) (b : Borrow) : (setBorrow s n b).qos = s.qos := rfl
@[simp] theorem setBorrow_xts (s : State) (n : Nat) (b : Borrow) : (setBorrow s n b).xts = s.xts := rfl
@[simp] theorem setBorrow_cmp (s : State) (n : Nat) (b : Borrow) : (setBorrow s n b).cmp = s.cmp := rfl
@[simp] theorem setBorrow_coh (s : State) (n : Nat) (b : Borrow) : (setBorrow s n b).coh = s.coh := rfl
@[simp] theorem setBorrow_host (s : State) (n : Nat) (b : Borrow) : (setBorrow s n b).host = s.host := rfl
@[simp] theorem setBorrow_sec (s : State) (n : Nat) (b : Borrow) : (setBorrow s n b).sec = s.sec := rfl
@[simp] theorem setBorrow_pwr (s : State) (n : Nat) (b : Borrow) : (setBorrow s n b).pwr = s.pwr := rfl
@[simp] theorem setBorrow_aon (s : State) (n : Nat) (b : Borrow) : (setBorrow s n b).aon = s.aon := rfl
@[simp] theorem setBorrow_boot (s : State) (n : Nat) (b : Borrow) : (setBorrow s n b).boot = s.boot := rfl

/-! ### setPage -/

@[simp] theorem setPage_clockNs (s : State) (p : Nat) (x : Page) : (setPage s p x).clockNs = s.clockNs := rfl
@[simp] theorem setPage_freeIdx (s : State) (p : Nat) (x : Page) : (setPage s p x).freeIdx = s.freeIdx := rfl
@[simp] theorem setPage_out (s : State) (p : Nat) (x : Page) : (setPage s p x).out = s.out := rfl
@[simp] theorem setPage_pending (s : State) (p : Nat) (x : Page) : (setPage s p x).pending = s.pending := rfl
@[simp] theorem setPage_mem (s : State) (p : Nat) (x : Page) : (setPage s p x).mem = s.mem := rfl
@[simp] theorem setPage_nextReq (s : State) (p : Nat) (x : Page) : (setPage s p x).nextReq = s.nextReq := rfl
@[simp] theorem setPage_img (s : State) (p : Nat) (x : Page) : (setPage s p x).img = s.img := rfl
@[simp] theorem setPage_flt (s : State) (p : Nat) (x : Page) : (setPage s p x).flt = s.flt := rfl
@[simp] theorem setPage_pmc (s : State) (p : Nat) (x : Page) : (setPage s p x).pmc = s.pmc := rfl
@[simp] theorem setPage_pages (s : State) (p : Nat) (x : Page) :
    (setPage s p x).chd.pages = if x = Page.zero then mdel s.chd.pages p else mset s.chd.pages p x := rfl
@[simp] theorem setPage_fab (s : State) (p : Nat) (x : Page) : (setPage s p x).fab = s.fab := rfl
@[simp] theorem setPage_e2e (s : State) (p : Nat) (x : Page) : (setPage s p x).e2e = s.e2e := rfl
@[simp] theorem setPage_links (s : State) (p : Nat) (x : Page) : (setPage s p x).links = s.links := rfl
@[simp] theorem setPage_ctls (s : State) (p : Nat) (x : Page) : (setPage s p x).ctls = s.ctls := rfl
@[simp] theorem setPage_trns (s : State) (p : Nat) (x : Page) : (setPage s p x).trns = s.trns := rfl
@[simp] theorem setPage_ecc (s : State) (p : Nat) (x : Page) : (setPage s p x).ecc = s.ecc := rfl
@[simp] theorem setPage_qos (s : State) (p : Nat) (x : Page) : (setPage s p x).qos = s.qos := rfl
@[simp] theorem setPage_xts (s : State) (p : Nat) (x : Page) : (setPage s p x).xts = s.xts := rfl
@[simp] theorem setPage_cmp (s : State) (p : Nat) (x : Page) : (setPage s p x).cmp = s.cmp := rfl
@[simp] theorem setPage_coh (s : State) (p : Nat) (x : Page) : (setPage s p x).coh = s.coh := rfl
@[simp] theorem setPage_host (s : State) (p : Nat) (x : Page) : (setPage s p x).host = s.host := rfl
@[simp] theorem setPage_sec (s : State) (p : Nat) (x : Page) : (setPage s p x).sec = s.sec := rfl
@[simp] theorem setPage_pwr (s : State) (p : Nat) (x : Page) : (setPage s p x).pwr = s.pwr := rfl
@[simp] theorem setPage_aon (s : State) (p : Nat) (x : Page) : (setPage s p x).aon = s.aon := rfl
@[simp] theorem setPage_boot (s : State) (p : Nat) (x : Page) : (setPage s p x).boot = s.boot := rfl

/-! ### setDom -/

@[simp] theorem setDom_clockNs (s : State) (d : Nat) (k : DomKeys) : (setDom s d k).clockNs = s.clockNs := rfl
@[simp] theorem setDom_freeIdx (s : State) (d : Nat) (k : DomKeys) : (setDom s d k).freeIdx = s.freeIdx := rfl
@[simp] theorem setDom_out (s : State) (d : Nat) (k : DomKeys) : (setDom s d k).out = s.out := rfl
@[simp] theorem setDom_pending (s : State) (d : Nat) (k : DomKeys) : (setDom s d k).pending = s.pending := rfl
@[simp] theorem setDom_mem (s : State) (d : Nat) (k : DomKeys) : (setDom s d k).mem = s.mem := rfl
@[simp] theorem setDom_nextReq (s : State) (d : Nat) (k : DomKeys) : (setDom s d k).nextReq = s.nextReq := rfl
@[simp] theorem setDom_img (s : State) (d : Nat) (k : DomKeys) : (setDom s d k).img = s.img := rfl
@[simp] theorem setDom_flt (s : State) (d : Nat) (k : DomKeys) : (setDom s d k).flt = s.flt := rfl
@[simp] theorem setDom_pmc (s : State) (d : Nat) (k : DomKeys) : (setDom s d k).pmc = s.pmc := rfl
@[simp] theorem setDom_chd (s : State) (d : Nat) (k : DomKeys) : (setDom s d k).chd = s.chd := rfl
@[simp] theorem setDom_fab (s : State) (d : Nat) (k : DomKeys) : (setDom s d k).fab = s.fab := rfl
@[simp] theorem setDom_e2e (s : State) (d : Nat) (k : DomKeys) : (setDom s d k).e2e = s.e2e := rfl
@[simp] theorem setDom_links (s : State) (d : Nat) (k : DomKeys) : (setDom s d k).links = s.links := rfl
@[simp] theorem setDom_ctls (s : State) (d : Nat) (k : DomKeys) : (setDom s d k).ctls = s.ctls := rfl
@[simp] theorem setDom_trns (s : State) (d : Nat) (k : DomKeys) : (setDom s d k).trns = s.trns := rfl
@[simp] theorem setDom_ecc (s : State) (d : Nat) (k : DomKeys) : (setDom s d k).ecc = s.ecc := rfl
@[simp] theorem setDom_qos (s : State) (d : Nat) (k : DomKeys) : (setDom s d k).qos = s.qos := rfl
@[simp] theorem setDom_domains (s : State) (d : Nat) (k : DomKeys) : (setDom s d k).xts.domains = mset s.xts.domains d k := rfl
@[simp] theorem setDom_cmp (s : State) (d : Nat) (k : DomKeys) : (setDom s d k).cmp = s.cmp := rfl
@[simp] theorem setDom_coh (s : State) (d : Nat) (k : DomKeys) : (setDom s d k).coh = s.coh := rfl
@[simp] theorem setDom_host (s : State) (d : Nat) (k : DomKeys) : (setDom s d k).host = s.host := rfl
@[simp] theorem setDom_sec (s : State) (d : Nat) (k : DomKeys) : (setDom s d k).sec = s.sec := rfl
@[simp] theorem setDom_pwr (s : State) (d : Nat) (k : DomKeys) : (setDom s d k).pwr = s.pwr := rfl
@[simp] theorem setDom_aon (s : State) (d : Nat) (k : DomKeys) : (setDom s d k).aon = s.aon := rfl
@[simp] theorem setDom_boot (s : State) (d : Nat) (k : DomKeys) : (setDom s d k).boot = s.boot := rfl

/-! ### writeLine -/

@[simp] theorem writeLine_clockNs (s : State) (line : Nat) (d : Line) : (writeLine s line d).clockNs = s.clockNs := rfl
@[simp] theorem writeLine_freeIdx (s : State) (line : Nat) (d : Line) : (writeLine s line d).freeIdx = s.freeIdx := rfl
@[simp] theorem writeLine_out (s : State) (line : Nat) (d : Line) : (writeLine s line d).out = s.out := rfl
@[simp] theorem writeLine_pending (s : State) (line : Nat) (d : Line) : (writeLine s line d).pending = s.pending := rfl
@[simp] theorem writeLine_mem (s : State) (line : Nat) (d : Line) :
    (writeLine s line d).mem = writeBytes s.mem (64 * line) (lineBytes d) := rfl
@[simp] theorem writeLine_nextReq (s : State) (line : Nat) (d : Line) : (writeLine s line d).nextReq = s.nextReq := rfl
@[simp] theorem writeLine_img (s : State) (line : Nat) (d : Line) : (writeLine s line d).img = s.img := rfl
@[simp] theorem writeLine_flt (s : State) (line : Nat) (d : Line) : (writeLine s line d).flt = s.flt := rfl
@[simp] theorem writeLine_pmc (s : State) (line : Nat) (d : Line) : (writeLine s line d).pmc = s.pmc := rfl
@[simp] theorem writeLine_chd (s : State) (line : Nat) (d : Line) : (writeLine s line d).chd = s.chd := rfl
@[simp] theorem writeLine_fab (s : State) (line : Nat) (d : Line) : (writeLine s line d).fab = s.fab := rfl
@[simp] theorem writeLine_e2e (s : State) (line : Nat) (d : Line) : (writeLine s line d).e2e = s.e2e := rfl
@[simp] theorem writeLine_links (s : State) (line : Nat) (d : Line) : (writeLine s line d).links = s.links := rfl
@[simp] theorem writeLine_ctls (s : State) (line : Nat) (d : Line) : (writeLine s line d).ctls = s.ctls := rfl
@[simp] theorem writeLine_trns (s : State) (line : Nat) (d : Line) : (writeLine s line d).trns = s.trns := rfl
@[simp] theorem writeLine_ecc (s : State) (line : Nat) (d : Line) : (writeLine s line d).ecc = s.ecc := rfl
@[simp] theorem writeLine_qos (s : State) (line : Nat) (d : Line) : (writeLine s line d).qos = s.qos := rfl
@[simp] theorem writeLine_xts (s : State) (line : Nat) (d : Line) : (writeLine s line d).xts = s.xts := rfl
@[simp] theorem writeLine_cmp (s : State) (line : Nat) (d : Line) : (writeLine s line d).cmp = s.cmp := rfl
@[simp] theorem writeLine_coh (s : State) (line : Nat) (d : Line) : (writeLine s line d).coh = s.coh := rfl
@[simp] theorem writeLine_host (s : State) (line : Nat) (d : Line) : (writeLine s line d).host = s.host := rfl
@[simp] theorem writeLine_sec (s : State) (line : Nat) (d : Line) : (writeLine s line d).sec = s.sec := rfl
@[simp] theorem writeLine_pwr (s : State) (line : Nat) (d : Line) : (writeLine s line d).pwr = s.pwr := rfl
@[simp] theorem writeLine_aon (s : State) (line : Nat) (d : Line) : (writeLine s line d).aon = s.aon := rfl
@[simp] theorem writeLine_boot (s : State) (line : Nat) (d : Line) : (writeLine s line d).boot = s.boot := rfl

/-! ### writeBlock -/

@[simp] theorem writeBlock_clockNs (s : State) (block : Nat) (bs : List Byte) : (writeBlock s block bs).clockNs = s.clockNs := rfl
@[simp] theorem writeBlock_freeIdx (s : State) (block : Nat) (bs : List Byte) : (writeBlock s block bs).freeIdx = s.freeIdx := rfl
@[simp] theorem writeBlock_out (s : State) (block : Nat) (bs : List Byte) : (writeBlock s block bs).out = s.out := rfl
@[simp] theorem writeBlock_pending (s : State) (block : Nat) (bs : List Byte) : (writeBlock s block bs).pending = s.pending := rfl
@[simp] theorem writeBlock_mem (s : State) (block : Nat) (bs : List Byte) :
    (writeBlock s block bs).mem = writeBytes s.mem (1024 * block) bs := rfl
@[simp] theorem writeBlock_nextReq (s : State) (block : Nat) (bs : List Byte) : (writeBlock s block bs).nextReq = s.nextReq := rfl
@[simp] theorem writeBlock_img (s : State) (block : Nat) (bs : List Byte) : (writeBlock s block bs).img = s.img := rfl
@[simp] theorem writeBlock_flt (s : State) (block : Nat) (bs : List Byte) : (writeBlock s block bs).flt = s.flt := rfl
@[simp] theorem writeBlock_pmc (s : State) (block : Nat) (bs : List Byte) : (writeBlock s block bs).pmc = s.pmc := rfl
@[simp] theorem writeBlock_chd (s : State) (block : Nat) (bs : List Byte) : (writeBlock s block bs).chd = s.chd := rfl
@[simp] theorem writeBlock_fab (s : State) (block : Nat) (bs : List Byte) : (writeBlock s block bs).fab = s.fab := rfl
@[simp] theorem writeBlock_e2e (s : State) (block : Nat) (bs : List Byte) : (writeBlock s block bs).e2e = s.e2e := rfl
@[simp] theorem writeBlock_links (s : State) (block : Nat) (bs : List Byte) : (writeBlock s block bs).links = s.links := rfl
@[simp] theorem writeBlock_ctls (s : State) (block : Nat) (bs : List Byte) : (writeBlock s block bs).ctls = s.ctls := rfl
@[simp] theorem writeBlock_trns (s : State) (block : Nat) (bs : List Byte) : (writeBlock s block bs).trns = s.trns := rfl
@[simp] theorem writeBlock_ecc (s : State) (block : Nat) (bs : List Byte) : (writeBlock s block bs).ecc = s.ecc := rfl
@[simp] theorem writeBlock_qos (s : State) (block : Nat) (bs : List Byte) : (writeBlock s block bs).qos = s.qos := rfl
@[simp] theorem writeBlock_xts (s : State) (block : Nat) (bs : List Byte) : (writeBlock s block bs).xts = s.xts := rfl
@[simp] theorem writeBlock_cmp (s : State) (block : Nat) (bs : List Byte) : (writeBlock s block bs).cmp = s.cmp := rfl
@[simp] theorem writeBlock_coh (s : State) (block : Nat) (bs : List Byte) : (writeBlock s block bs).coh = s.coh := rfl
@[simp] theorem writeBlock_host (s : State) (block : Nat) (bs : List Byte) : (writeBlock s block bs).host = s.host := rfl
@[simp] theorem writeBlock_sec (s : State) (block : Nat) (bs : List Byte) : (writeBlock s block bs).sec = s.sec := rfl
@[simp] theorem writeBlock_pwr (s : State) (block : Nat) (bs : List Byte) : (writeBlock s block bs).pwr = s.pwr := rfl
@[simp] theorem writeBlock_aon (s : State) (block : Nat) (bs : List Byte) : (writeBlock s block bs).aon = s.aon := rfl
@[simp] theorem writeBlock_boot (s : State) (block : Nat) (bs : List Byte) : (writeBlock s block bs).boot = s.boot := rfl

/-! ### clearPage -/

@[simp] theorem clearPage_clockNs (s : State) (p : Nat) : (clearPage s p).clockNs = s.clockNs := rfl
@[simp] theorem clearPage_freeIdx (s : State) (p : Nat) : (clearPage s p).freeIdx = s.freeIdx := rfl
@[simp] theorem clearPage_out (s : State) (p : Nat) : (clearPage s p).out = s.out := rfl
@[simp] theorem clearPage_pending (s : State) (p : Nat) : (clearPage s p).pending = s.pending := rfl
@[simp] theorem clearPage_mem (s : State) (p : Nat) : (clearPage s p).mem = s.mem.filter (fun c => c.1 / 4096 != p) := rfl
@[simp] theorem clearPage_nextReq (s : State) (p : Nat) : (clearPage s p).nextReq = s.nextReq := rfl
@[simp] theorem clearPage_img (s : State) (p : Nat) : (clearPage s p).img = s.img := rfl
@[simp] theorem clearPage_flt (s : State) (p : Nat) : (clearPage s p).flt = s.flt := rfl
@[simp] theorem clearPage_pmc (s : State) (p : Nat) : (clearPage s p).pmc = s.pmc := rfl
@[simp] theorem clearPage_chd (s : State) (p : Nat) : (clearPage s p).chd = s.chd := rfl
@[simp] theorem clearPage_fab (s : State) (p : Nat) : (clearPage s p).fab = s.fab := rfl
@[simp] theorem clearPage_e2e (s : State) (p : Nat) : (clearPage s p).e2e = s.e2e := rfl
@[simp] theorem clearPage_links (s : State) (p : Nat) : (clearPage s p).links = s.links := rfl
@[simp] theorem clearPage_ctls (s : State) (p : Nat) : (clearPage s p).ctls = s.ctls := rfl
@[simp] theorem clearPage_trns (s : State) (p : Nat) : (clearPage s p).trns = s.trns := rfl
@[simp] theorem clearPage_ecc (s : State) (p : Nat) : (clearPage s p).ecc = s.ecc := rfl
@[simp] theorem clearPage_qos (s : State) (p : Nat) : (clearPage s p).qos = s.qos := rfl
@[simp] theorem clearPage_xts (s : State) (p : Nat) : (clearPage s p).xts = s.xts := rfl
@[simp] theorem clearPage_cmp (s : State) (p : Nat) : (clearPage s p).cmp = s.cmp := rfl
@[simp] theorem clearPage_coh (s : State) (p : Nat) : (clearPage s p).coh = s.coh := rfl
@[simp] theorem clearPage_host (s : State) (p : Nat) : (clearPage s p).host = s.host := rfl
@[simp] theorem clearPage_sec (s : State) (p : Nat) : (clearPage s p).sec = s.sec := rfl
@[simp] theorem clearPage_pwr (s : State) (p : Nat) : (clearPage s p).pwr = s.pwr := rfl
@[simp] theorem clearPage_aon (s : State) (p : Nat) : (clearPage s p).aon = s.aon := rfl
@[simp] theorem clearPage_boot (s : State) (p : Nat) : (clearPage s p).boot = s.boot := rfl

/-! ### setFeed -/

@[simp] theorem setFeed_clockNs (s : State) (f : Feed) (r : FeedRec) : (setFeed s f r).clockNs = s.clockNs := by cases f <;> rfl
@[simp] theorem setFeed_freeIdx (s : State) (f : Feed) (r : FeedRec) : (setFeed s f r).freeIdx = s.freeIdx := by cases f <;> rfl
@[simp] theorem setFeed_out (s : State) (f : Feed) (r : FeedRec) : (setFeed s f r).out = s.out := by cases f <;> rfl
@[simp] theorem setFeed_pending (s : State) (f : Feed) (r : FeedRec) : (setFeed s f r).pending = s.pending := by cases f <;> rfl
@[simp] theorem setFeed_mem (s : State) (f : Feed) (r : FeedRec) : (setFeed s f r).mem = s.mem := by cases f <;> rfl
@[simp] theorem setFeed_nextReq (s : State) (f : Feed) (r : FeedRec) : (setFeed s f r).nextReq = s.nextReq := by cases f <;> rfl
@[simp] theorem setFeed_img (s : State) (f : Feed) (r : FeedRec) : (setFeed s f r).img = s.img := by cases f <;> rfl
@[simp] theorem setFeed_flt (s : State) (f : Feed) (r : FeedRec) : (setFeed s f r).flt = s.flt := by cases f <;> rfl
@[simp] theorem setFeed_pmc (s : State) (f : Feed) (r : FeedRec) : (setFeed s f r).pmc = s.pmc := by cases f <;> rfl
@[simp] theorem setFeed_chd (s : State) (f : Feed) (r : FeedRec) : (setFeed s f r).chd = s.chd := by cases f <;> rfl
@[simp] theorem setFeed_fab (s : State) (f : Feed) (r : FeedRec) : (setFeed s f r).fab = s.fab := by cases f <;> rfl
@[simp] theorem setFeed_e2e (s : State) (f : Feed) (r : FeedRec) : (setFeed s f r).e2e = s.e2e := by cases f <;> rfl
@[simp] theorem setFeed_links (s : State) (f : Feed) (r : FeedRec) : (setFeed s f r).links = s.links := by cases f <;> rfl
@[simp] theorem setFeed_ctls (s : State) (f : Feed) (r : FeedRec) : (setFeed s f r).ctls = s.ctls := by cases f <;> rfl
@[simp] theorem setFeed_trns (s : State) (f : Feed) (r : FeedRec) : (setFeed s f r).trns = s.trns := by cases f <;> rfl
@[simp] theorem setFeed_ecc (s : State) (f : Feed) (r : FeedRec) : (setFeed s f r).ecc = s.ecc := by cases f <;> rfl
@[simp] theorem setFeed_qos (s : State) (f : Feed) (r : FeedRec) : (setFeed s f r).qos = s.qos := by cases f <;> rfl
@[simp] theorem setFeed_xts (s : State) (f : Feed) (r : FeedRec) : (setFeed s f r).xts = s.xts := by cases f <;> rfl
@[simp] theorem setFeed_cmp (s : State) (f : Feed) (r : FeedRec) : (setFeed s f r).cmp = s.cmp := by cases f <;> rfl
@[simp] theorem setFeed_coh (s : State) (f : Feed) (r : FeedRec) : (setFeed s f r).coh = s.coh := by cases f <;> rfl
@[simp] theorem setFeed_host (s : State) (f : Feed) (r : FeedRec) : (setFeed s f r).host = s.host := by cases f <;> rfl
@[simp] theorem setFeed_sec (s : State) (f : Feed) (r : FeedRec) : (setFeed s f r).sec = s.sec := by cases f <;> rfl
@[simp] theorem setFeed_a (s : State) (r : FeedRec) : (setFeed s .a r).pwr.feedA = r := rfl
@[simp] theorem setFeed_b (s : State) (r : FeedRec) : (setFeed s .b r).pwr.feedB = r := rfl
@[simp] theorem setFeed_aon (s : State) (f : Feed) (r : FeedRec) : (setFeed s f r).aon = s.aon := by cases f <;> rfl
@[simp] theorem setFeed_boot (s : State) (f : Feed) (r : FeedRec) : (setFeed s f r).boot = s.boot := by cases f <;> rfl

end Sys2Proof.Machine
end

