-- ==== Sys2Proof/Laws/Ops.lean ====
section
/-! SUPPORT. Reporting: outputs, interrupts, counting and the raising of an event change nothing but the outputs, the counters, the
host interface, the collector and Radish's record (R496, R549, R550, R629). -/

namespace Sys2Proof.Machine

/-- Two states that differ at most in what reporting changes. -/
structure Aside (s t : State) : Prop where
  clockNs : t.clockNs = s.clockNs
  freeIdx : t.freeIdx = s.freeIdx
  pending : t.pending = s.pending
  mem : t.mem = s.mem
  nextReq : t.nextReq = s.nextReq
  img : t.img = s.img
  chd : t.chd = s.chd
  fab : t.fab = s.fab
  e2e : t.e2e = s.e2e
  links : t.links = s.links
  ctls : t.ctls = s.ctls
  trns : t.trns = s.trns
  ecc : t.ecc = s.ecc
  qos : t.qos = s.qos
  xts : t.xts = s.xts
  cmp : t.cmp = s.cmp
  coh : t.coh = s.coh
  sec : t.sec = s.sec
  pwr : t.pwr = s.pwr
  boot : t.boot = s.boot

theorem Aside.refl (s : State) : Aside s s := by constructor <;> rfl

theorem Aside.trans {s t u : State} (h : Aside s t) (k : Aside t u) : Aside s u := by
  constructor
  · exact k.clockNs.trans h.clockNs
  · exact k.freeIdx.trans h.freeIdx
  · exact k.pending.trans h.pending
  · exact k.mem.trans h.mem
  · exact k.nextReq.trans h.nextReq
  · exact k.img.trans h.img
  · exact k.chd.trans h.chd
  · exact k.fab.trans h.fab
  · exact k.e2e.trans h.e2e
  · exact k.links.trans h.links
  · exact k.ctls.trans h.ctls
  · exact k.trns.trans h.trns
  · exact k.ecc.trans h.ecc
  · exact k.qos.trans h.qos
  · exact k.xts.trans h.xts
  · exact k.cmp.trans h.cmp
  · exact k.coh.trans h.coh
  · exact k.sec.trans h.sec
  · exact k.pwr.trans h.pwr
  · exact k.boot.trans h.boot

theorem Aside.ite {p : Prop} [Decidable p] {s t u : State} (h : Aside s t) (k : Aside t u) : Aside s (if p then u else t) := by
  split
  · exact h.trans k
  · exact h

theorem host_aside (s : State) (x : HostState) : Aside s { s with host := x } := by constructor <;> rfl

theorem flt_aside (s : State) (x : FltState) : Aside s { s with flt := x } := by constructor <;> rfl

theorem pmc_aside (s : State) (x : PmcState) : Aside s { s with pmc := x } := by constructor <;> rfl

theorem aon_aside (s : State) (x : AonState) : Aside s { s with aon := x } := by constructor <;> rfl

theorem emit_aside (s : State) (o : Output) : Aside s (emit s o) := by constructor <;> rfl

theorem emitAll_aside (s : State) (os : List Output) : Aside s (emitAll s os) := by constructor <;> rfl

theorem active_aside (s : State) : Aside s (active s) := by constructor <;> rfl

theorem modMsix_aside (s : State) (v : Nat) (f : MsixEnt → MsixEnt) : Aside s (modMsix s v f) := by constructor <;> rfl

theorem setCls_aside (s : State) (ev : Nat) (c : FltClass) : Aside s (setCls s ev c) := by constructor <;> rfl

theorem foldl_aside {α : Type} {f : State → α → State} (h : ∀ s x, Aside s (f s x)) (xs : List α) (s : State) :
    Aside s (xs.foldl f s) := by
  induction xs generalizing s with
  | nil => exact Aside.refl s
  | cons x xs ih => exact (h s x).trans (ih (f s x))

theorem signalMsix_aside (s : State) (v : Nat) : Aside s (signalMsix s v) := by
  unfold signalMsix
  split
  · dsimp only
    split <;> constructor <;> rfl
  · exact emit_aside s _

theorem mbReply_aside (s : State) (r : Reply) : Aside s (mbReply s r) := (emit_aside s _).trans (signalMsix_aside _ 0)

theorem flushMsix_aside (s : State) : Aside s (flushMsix s) := by
  unfold flushMsix
  split
  · exact foldl_aside (fun s _ => (modMsix_aside s _ _).trans (emit_aside _ _)) _ s
  · exact Aside.refl s

theorem addCtr_aside (s : State) (n : Nat) (sel : PmcSel) (k : Nat) : Aside s (addCtr s n sel k).1 := by
  unfold addCtr
  dsimp only
  split
  · constructor <;> rfl
  · split
    · refine Aside.trans ?_ (signalMsix_aside _ _)
      constructor <;> rfl
    · constructor <;> rfl

theorem addCtrs_aside (ev : Nat) (label : Option Nat) (k : Nat) (m : NMap PmcSel) (s : State) (prev : Nat × Nat) :
    Aside s (addCtrs ev label k m s prev) := by
  induction m generalizing s prev with
  | nil => exact Aside.refl s
  | cons x m ih =>
    unfold addCtrs
    dsimp only
    split
    · exact ih s _
    · exact (addCtr_aside s _ _ _).trans (ih _ _)

theorem countEvent_aside (s : State) (ev : Nat) (label : Option Nat) (k : Nat) : Aside s (countEvent s ev label k) := by
  unfold countEvent
  dsimp only
  split
  · constructor <;> rfl
  · refine Aside.trans ?_ (addCtrs_aside _ _ _ _ _ _)
    constructor <;> rfl

theorem countN_aside (s : State) (ev : Nat) (label : Option Nat) (k : Nat) : Aside s (countN s ev label k) := by
  unfold countN
  split
  · refine Aside.trans ?_ (countEvent_aside _ ev label k)
    constructor <;> rfl
  · split
    · constructor <;> rfl
    · exact Aside.refl s

theorem count_aside (s : State) (ev : Nat) : Aside s (count s ev) := countN_aside s ev none 1

theorem countL_aside (s : State) (ev label : Nat) : Aside s (countL s ev label) := countN_aside s ev (some label) 1

theorem driveAlert_aside (b s : State) : Aside s (driveAlert b s) := by
  unfold driveAlert
  split
  · exact Aside.refl s
  · exact emit_aside s _

theorem postEvent_aside (s : State) (log : Nat) (ev : CxlEvent) : Aside s (postEvent s log ev) := by
  unfold postEvent
  exact Aside.ite ((host_aside s _).trans (emit_aside _ _)) (signalMsix_aside _ _)

theorem logRecord_aside (s : State) (r : FltRecord) : Aside s (logRecord s r) := by
  unfold logRecord
  split <;> constructor <;> rfl

theorem register_aside (s : State) (ev cause : Nat) (part : Part) (info : Nat) (during : Bool) :
    Aside s (register s ev cause part info during) := by
  unfold register
  extract_lets
  refine Aside.trans ?_ (flt_aside _ _)
  refine Aside.trans ?_ (driveAlert_aside _ _)
  refine Aside.ite ?_ (signalMsix_aside _ _)
  refine Aside.ite ?_ (aon_aside _ _)
  refine Aside.ite ?_ (flt_aside _ _)
  refine Aside.ite ?_ (flt_aside _ _)
  refine Aside.ite ?_ (flt_aside _ _)
  exact Aside.ite (setCls_aside s _ _) (logRecord_aside _ _)

theorem raiseP_aside (s : State) (ev cause : Nat) (part : Part) (info : Nat) : Aside s (raiseP s ev cause part info) := by
  unfold raiseP
  split
  · constructor <;> rfl
  · exact register_aside s ev cause part info false

theorem raise_aside (s : State) (ev cause : Nat) : Aside s (raise s ev cause) := raiseP_aside s ev cause .none 0

theorem raiseLink_aside (s : State) (l cause : Nat) : Aside s (raiseLink s l cause) := raiseP_aside s l cause _ 0

theorem raiseCtl_aside (s : State) (n cause : Nat) : Aside s (raiseCtl s n cause) := by
  unfold raiseCtl
  split
  · exact raiseP_aside _ _ _ _ _
  · split
    · exact raiseP_aside _ _ _ _ _
    · exact Aside.refl s

/-! ### The fields `signalMsix` leaves -/

@[simp] theorem signalMsix_clockNs (s : State) (v : Nat) : (signalMsix s v).clockNs = s.clockNs := (signalMsix_aside s v).clockNs
@[simp] theorem signalMsix_freeIdx (s : State) (v : Nat) : (signalMsix s v).freeIdx = s.freeIdx := (signalMsix_aside s v).freeIdx
@[simp] theorem signalMsix_pending (s : State) (v : Nat) : (signalMsix s v).pending = s.pending := (signalMsix_aside s v).pending
@[simp] theorem signalMsix_mem (s : State) (v : Nat) : (signalMsix s v).mem = s.mem := (signalMsix_aside s v).mem
@[simp] theorem signalMsix_nextReq (s : State) (v : Nat) : (signalMsix s v).nextReq = s.nextReq := (signalMsix_aside s v).nextReq
@[simp] theorem signalMsix_img (s : State) (v : Nat) : (signalMsix s v).img = s.img := (signalMsix_aside s v).img
@[simp] theorem signalMsix_chd (s : State) (v : Nat) : (signalMsix s v).chd = s.chd := (signalMsix_aside s v).chd
@[simp] theorem signalMsix_fab (s : State) (v : Nat) : (signalMsix s v).fab = s.fab := (signalMsix_aside s v).fab
@[simp] theorem signalMsix_e2e (s : State) (v : Nat) : (signalMsix s v).e2e = s.e2e := (signalMsix_aside s v).e2e
@[simp] theorem signalMsix_links (s : State) (v : Nat) : (signalMsix s v).links = s.links := (signalMsix_aside s v).links
@[simp] theorem signalMsix_ctls (s : State) (v : Nat) : (signalMsix s v).ctls = s.ctls := (signalMsix_aside s v).ctls
@[simp] theorem signalMsix_trns (s : State) (v : Nat) : (signalMsix s v).trns = s.trns := (signalMsix_aside s v).trns
@[simp] theorem signalMsix_ecc (s : State) (v : Nat) : (signalMsix s v).ecc = s.ecc := (signalMsix_aside s v).ecc
@[simp] theorem signalMsix_qos (s : State) (v : Nat) : (signalMsix s v).qos = s.qos := (signalMsix_aside s v).qos
@[simp] theorem signalMsix_xts (s : State) (v : Nat) : (signalMsix s v).xts = s.xts := (signalMsix_aside s v).xts
@[simp] theorem signalMsix_cmp (s : State) (v : Nat) : (signalMsix s v).cmp = s.cmp := (signalMsix_aside s v).cmp
@[simp] theorem signalMsix_coh (s : State) (v : Nat) : (signalMsix s v).coh = s.coh := (signalMsix_aside s v).coh
@[simp] theorem signalMsix_sec (s : State) (v : Nat) : (signalMsix s v).sec = s.sec := (signalMsix_aside s v).sec
@[simp] theorem signalMsix_pwr (s : State) (v : Nat) : (signalMsix s v).pwr = s.pwr := (signalMsix_aside s v).pwr
@[simp] theorem signalMsix_boot (s : State) (v : Nat) : (signalMsix s v).boot = s.boot := (signalMsix_aside s v).boot

/-! ### The fields `mbReply` leaves -/

@[simp] theorem mbReply_clockNs (s : State) (r : Reply) : (mbReply s r).clockNs = s.clockNs := (mbReply_aside s r).clockNs
@[simp] theorem mbReply_freeIdx (s : State) (r : Reply) : (mbReply s r).freeIdx = s.freeIdx := (mbReply_aside s r).freeIdx
@[simp] theorem mbReply_pending (s : State) (r : Reply) : (mbReply s r).pending = s.pending := (mbReply_aside s r).pending
@[simp] theorem mbReply_mem (s : State) (r : Reply) : (mbReply s r).mem = s.mem := (mbReply_aside s r).mem
@[simp] theorem mbReply_nextReq (s : State) (r : Reply) : (mbReply s r).nextReq = s.nextReq := (mbReply_aside s r).nextReq
@[simp] theorem mbReply_img (s : State) (r : Reply) : (mbReply s r).img = s.img := (mbReply_aside s r).img
@[simp] theorem mbReply_chd (s : State) (r : Reply) : (mbReply s r).chd = s.chd := (mbReply_aside s r).chd
@[simp] theorem mbReply_fab (s : State) (r : Reply) : (mbReply s r).fab = s.fab := (mbReply_aside s r).fab
@[simp] theorem mbReply_e2e (s : State) (r : Reply) : (mbReply s r).e2e = s.e2e := (mbReply_aside s r).e2e
@[simp] theorem mbReply_links (s : State) (r : Reply) : (mbReply s r).links = s.links := (mbReply_aside s r).links
@[simp] theorem mbReply_ctls (s : State) (r : Reply) : (mbReply s r).ctls = s.ctls := (mbReply_aside s r).ctls
@[simp] theorem mbReply_trns (s : State) (r : Reply) : (mbReply s r).trns = s.trns := (mbReply_aside s r).trns
@[simp] theorem mbReply_ecc (s : State) (r : Reply) : (mbReply s r).ecc = s.ecc := (mbReply_aside s r).ecc
@[simp] theorem mbReply_qos (s : State) (r : Reply) : (mbReply s r).qos = s.qos := (mbReply_aside s r).qos
@[simp] theorem mbReply_xts (s : State) (r : Reply) : (mbReply s r).xts = s.xts := (mbReply_aside s r).xts
@[simp] theorem mbReply_cmp (s : State) (r : Reply) : (mbReply s r).cmp = s.cmp := (mbReply_aside s r).cmp
@[simp] theorem mbReply_coh (s : State) (r : Reply) : (mbReply s r).coh = s.coh := (mbReply_aside s r).coh
@[simp] theorem mbReply_sec (s : State) (r : Reply) : (mbReply s r).sec = s.sec := (mbReply_aside s r).sec
@[simp] theorem mbReply_pwr (s : State) (r : Reply) : (mbReply s r).pwr = s.pwr := (mbReply_aside s r).pwr
@[simp] theorem mbReply_boot (s : State) (r : Reply) : (mbReply s r).boot = s.boot := (mbReply_aside s r).boot

/-! ### The fields `flushMsix` leaves -/

@[simp] theorem flushMsix_clockNs (s : State) : (flushMsix s).clockNs = s.clockNs := (flushMsix_aside s).clockNs
@[simp] theorem flushMsix_freeIdx (s : State) : (flushMsix s).freeIdx = s.freeIdx := (flushMsix_aside s).freeIdx
@[simp] theorem flushMsix_pending (s : State) : (flushMsix s).pending = s.pending := (flushMsix_aside s).pending
@[simp] theorem flushMsix_mem (s : State) : (flushMsix s).mem = s.mem := (flushMsix_aside s).mem
@[simp] theorem flushMsix_nextReq (s : State) : (flushMsix s).nextReq = s.nextReq := (flushMsix_aside s).nextReq
@[simp] theorem flushMsix_img (s : State) : (flushMsix s).img = s.img := (flushMsix_aside s).img
@[simp] theorem flushMsix_chd (s : State) : (flushMsix s).chd = s.chd := (flushMsix_aside s).chd
@[simp] theorem flushMsix_fab (s : State) : (flushMsix s).fab = s.fab := (flushMsix_aside s).fab
@[simp] theorem flushMsix_e2e (s : State) : (flushMsix s).e2e = s.e2e := (flushMsix_aside s).e2e
@[simp] theorem flushMsix_links (s : State) : (flushMsix s).links = s.links := (flushMsix_aside s).links
@[simp] theorem flushMsix_ctls (s : State) : (flushMsix s).ctls = s.ctls := (flushMsix_aside s).ctls
@[simp] theorem flushMsix_trns (s : State) : (flushMsix s).trns = s.trns := (flushMsix_aside s).trns
@[simp] theorem flushMsix_ecc (s : State) : (flushMsix s).ecc = s.ecc := (flushMsix_aside s).ecc
@[simp] theorem flushMsix_qos (s : State) : (flushMsix s).qos = s.qos := (flushMsix_aside s).qos
@[simp] theorem flushMsix_xts (s : State) : (flushMsix s).xts = s.xts := (flushMsix_aside s).xts
@[simp] theorem flushMsix_cmp (s : State) : (flushMsix s).cmp = s.cmp := (flushMsix_aside s).cmp
@[simp] theorem flushMsix_coh (s : State) : (flushMsix s).coh = s.coh := (flushMsix_aside s).coh
@[simp] theorem flushMsix_sec (s : State) : (flushMsix s).sec = s.sec := (flushMsix_aside s).sec
@[simp] theorem flushMsix_pwr (s : State) : (flushMsix s).pwr = s.pwr := (flushMsix_aside s).pwr
@[simp] theorem flushMsix_boot (s : State) : (flushMsix s).boot = s.boot := (flushMsix_aside s).boot

/-! ### The fields `countN` leaves -/

@[simp] theorem countN_clockNs (s : State) (ev : Nat) (label : Option Nat) (k : Nat) : (countN s ev label k).clockNs = s.clockNs :=
  (countN_aside s ev label k).clockNs
@[simp] theorem countN_freeIdx (s : State) (ev : Nat) (label : Option Nat) (k : Nat) : (countN s ev label k).freeIdx = s.freeIdx :=
  (countN_aside s ev label k).freeIdx
@[simp] theorem countN_pending (s : State) (ev : Nat) (label : Option Nat) (k : Nat) : (countN s ev label k).pending = s.pending :=
  (countN_aside s ev label k).pending
@[simp] theorem countN_mem (s : State) (ev : Nat) (label : Option Nat) (k : Nat) : (countN s ev label k).mem = s.mem :=
  (countN_aside s ev label k).mem
@[simp] theorem countN_nextReq (s : State) (ev : Nat) (label : Option Nat) (k : Nat) : (countN s ev label k).nextReq = s.nextReq :=
  (countN_aside s ev label k).nextReq
@[simp] theorem countN_img (s : State) (ev : Nat) (label : Option Nat) (k : Nat) : (countN s ev label k).img = s.img :=
  (countN_aside s ev label k).img
@[simp] theorem countN_chd (s : State) (ev : Nat) (label : Option Nat) (k : Nat) : (countN s ev label k).chd = s.chd :=
  (countN_aside s ev label k).chd
@[simp] theorem countN_fab (s : State) (ev : Nat) (label : Option Nat) (k : Nat) : (countN s ev label k).fab = s.fab :=
  (countN_aside s ev label k).fab
@[simp] theorem countN_e2e (s : State) (ev : Nat) (label : Option Nat) (k : Nat) : (countN s ev label k).e2e = s.e2e :=
  (countN_aside s ev label k).e2e
@[simp] theorem countN_links (s : State) (ev : Nat) (label : Option Nat) (k : Nat) : (countN s ev label k).links = s.links :=
  (countN_aside s ev label k).links
@[simp] theorem countN_ctls (s : State) (ev : Nat) (label : Option Nat) (k : Nat) : (countN s ev label k).ctls = s.ctls :=
  (countN_aside s ev label k).ctls
@[simp] theorem countN_trns (s : State) (ev : Nat) (label : Option Nat) (k : Nat) : (countN s ev label k).trns = s.trns :=
  (countN_aside s ev label k).trns
@[simp] theorem countN_ecc (s : State) (ev : Nat) (label : Option Nat) (k : Nat) : (countN s ev label k).ecc = s.ecc :=
  (countN_aside s ev label k).ecc
@[simp] theorem countN_qos (s : State) (ev : Nat) (label : Option Nat) (k : Nat) : (countN s ev label k).qos = s.qos :=
  (countN_aside s ev label k).qos
@[simp] theorem countN_xts (s : State) (ev : Nat) (label : Option Nat) (k : Nat) : (countN s ev label k).xts = s.xts :=
  (countN_aside s ev label k).xts
@[simp] theorem countN_cmp (s : State) (ev : Nat) (label : Option Nat) (k : Nat) : (countN s ev label k).cmp = s.cmp :=
  (countN_aside s ev label k).cmp
@[simp] theorem countN_coh (s : State) (ev : Nat) (label : Option Nat) (k : Nat) : (countN s ev label k).coh = s.coh :=
  (countN_aside s ev label k).coh
@[simp] theorem countN_sec (s : State) (ev : Nat) (label : Option Nat) (k : Nat) : (countN s ev label k).sec = s.sec :=
  (countN_aside s ev label k).sec
@[simp] theorem countN_pwr (s : State) (ev : Nat) (label : Option Nat) (k : Nat) : (countN s ev label k).pwr = s.pwr :=
  (countN_aside s ev label k).pwr
@[simp] theorem countN_boot (s : State) (ev : Nat) (label : Option Nat) (k : Nat) : (countN s ev label k).boot = s.boot :=
  (countN_aside s ev label k).boot

/-! ### The fields `count` leaves -/

@[simp] theorem count_clockNs (s : State) (ev : Nat) : (count s ev).clockNs = s.clockNs := (count_aside s ev).clockNs
@[simp] theorem count_freeIdx (s : State) (ev : Nat) : (count s ev).freeIdx = s.freeIdx := (count_aside s ev).freeIdx
@[simp] theorem count_pending (s : State) (ev : Nat) : (count s ev).pending = s.pending := (count_aside s ev).pending
@[simp] theorem count_mem (s : State) (ev : Nat) : (count s ev).mem = s.mem := (count_aside s ev).mem
@[simp] theorem count_nextReq (s : State) (ev : Nat) : (count s ev).nextReq = s.nextReq := (count_aside s ev).nextReq
@[simp] theorem count_img (s : State) (ev : Nat) : (count s ev).img = s.img := (count_aside s ev).img
@[simp] theorem count_chd (s : State) (ev : Nat) : (count s ev).chd = s.chd := (count_aside s ev).chd
@[simp] theorem count_fab (s : State) (ev : Nat) : (count s ev).fab = s.fab := (count_aside s ev).fab
@[simp] theorem count_e2e (s : State) (ev : Nat) : (count s ev).e2e = s.e2e := (count_aside s ev).e2e
@[simp] theorem count_links (s : State) (ev : Nat) : (count s ev).links = s.links := (count_aside s ev).links
@[simp] theorem count_ctls (s : State) (ev : Nat) : (count s ev).ctls = s.ctls := (count_aside s ev).ctls
@[simp] theorem count_trns (s : State) (ev : Nat) : (count s ev).trns = s.trns := (count_aside s ev).trns
@[simp] theorem count_ecc (s : State) (ev : Nat) : (count s ev).ecc = s.ecc := (count_aside s ev).ecc
@[simp] theorem count_qos (s : State) (ev : Nat) : (count s ev).qos = s.qos := (count_aside s ev).qos
@[simp] theorem count_xts (s : State) (ev : Nat) : (count s ev).xts = s.xts := (count_aside s ev).xts
@[simp] theorem count_cmp (s : State) (ev : Nat) : (count s ev).cmp = s.cmp := (count_aside s ev).cmp
@[simp] theorem count_coh (s : State) (ev : Nat) : (count s ev).coh = s.coh := (count_aside s ev).coh
@[simp] theorem count_sec (s : State) (ev : Nat) : (count s ev).sec = s.sec := (count_aside s ev).sec
@[simp] theorem count_pwr (s : State) (ev : Nat) : (count s ev).pwr = s.pwr := (count_aside s ev).pwr
@[simp] theorem count_boot (s : State) (ev : Nat) : (count s ev).boot = s.boot := (count_aside s ev).boot

/-! ### The fields `countL` leaves -/

@[simp] theorem countL_clockNs (s : State) (ev label : Nat) : (countL s ev label).clockNs = s.clockNs :=
  (countL_aside s ev label).clockNs
@[simp] theorem countL_freeIdx (s : State) (ev label : Nat) : (countL s ev label).freeIdx = s.freeIdx :=
  (countL_aside s ev label).freeIdx
@[simp] theorem countL_pending (s : State) (ev label : Nat) : (countL s ev label).pending = s.pending :=
  (countL_aside s ev label).pending
@[simp] theorem countL_mem (s : State) (ev label : Nat) : (countL s ev label).mem = s.mem := (countL_aside s ev label).mem
@[simp] theorem countL_nextReq (s : State) (ev label : Nat) : (countL s ev label).nextReq = s.nextReq :=
  (countL_aside s ev label).nextReq
@[simp] theorem countL_img (s : State) (ev label : Nat) : (countL s ev label).img = s.img := (countL_aside s ev label).img
@[simp] theorem countL_chd (s : State) (ev label : Nat) : (countL s ev label).chd = s.chd := (countL_aside s ev label).chd
@[simp] theorem countL_fab (s : State) (ev label : Nat) : (countL s ev label).fab = s.fab := (countL_aside s ev label).fab
@[simp] theorem countL_e2e (s : State) (ev label : Nat) : (countL s ev label).e2e = s.e2e := (countL_aside s ev label).e2e
@[simp] theorem countL_links (s : State) (ev label : Nat) : (countL s ev label).links = s.links :=
  (countL_aside s ev label).links
@[simp] theorem countL_ctls (s : State) (ev label : Nat) : (countL s ev label).ctls = s.ctls := (countL_aside s ev label).ctls
@[simp] theorem countL_trns (s : State) (ev label : Nat) : (countL s ev label).trns = s.trns := (countL_aside s ev label).trns
@[simp] theorem countL_ecc (s : State) (ev label : Nat) : (countL s ev label).ecc = s.ecc := (countL_aside s ev label).ecc
@[simp] theorem countL_qos (s : State) (ev label : Nat) : (countL s ev label).qos = s.qos := (countL_aside s ev label).qos
@[simp] theorem countL_xts (s : State) (ev label : Nat) : (countL s ev label).xts = s.xts := (countL_aside s ev label).xts
@[simp] theorem countL_cmp (s : State) (ev label : Nat) : (countL s ev label).cmp = s.cmp := (countL_aside s ev label).cmp
@[simp] theorem countL_coh (s : State) (ev label : Nat) : (countL s ev label).coh = s.coh := (countL_aside s ev label).coh
@[simp] theorem countL_sec (s : State) (ev label : Nat) : (countL s ev label).sec = s.sec := (countL_aside s ev label).sec
@[simp] theorem countL_pwr (s : State) (ev label : Nat) : (countL s ev label).pwr = s.pwr := (countL_aside s ev label).pwr
@[simp] theorem countL_boot (s : State) (ev label : Nat) : (countL s ev label).boot = s.boot := (countL_aside s ev label).boot

/-! ### The fields `postEvent` leaves -/

@[simp] theorem postEvent_clockNs (s : State) (log : Nat) (ev : CxlEvent) : (postEvent s log ev).clockNs = s.clockNs :=
  (postEvent_aside s log ev).clockNs
@[simp] theorem postEvent_freeIdx (s : State) (log : Nat) (ev : CxlEvent) : (postEvent s log ev).freeIdx = s.freeIdx :=
  (postEvent_aside s log ev).freeIdx
@[simp] theorem postEvent_pending (s : State) (log : Nat) (ev : CxlEvent) : (postEvent s log ev).pending = s.pending :=
  (postEvent_aside s log ev).pending
@[simp] theorem postEvent_mem (s : State) (log : Nat) (ev : CxlEvent) : (postEvent s log ev).mem = s.mem :=
  (postEvent_aside s log ev).mem
@[simp] theorem postEvent_nextReq (s : State) (log : Nat) (ev : CxlEvent) : (postEvent s log ev).nextReq = s.nextReq :=
  (postEvent_aside s log ev).nextReq
@[simp] theorem postEvent_img (s : State) (log : Nat) (ev : CxlEvent) : (postEvent s log ev).img = s.img :=
  (postEvent_aside s log ev).img
@[simp] theorem postEvent_chd (s : State) (log : Nat) (ev : CxlEvent) : (postEvent s log ev).chd = s.chd :=
  (postEvent_aside s log ev).chd
@[simp] theorem postEvent_fab (s : State) (log : Nat) (ev : CxlEvent) : (postEvent s log ev).fab = s.fab :=
  (postEvent_aside s log ev).fab
@[simp] theorem postEvent_e2e (s : State) (log : Nat) (ev : CxlEvent) : (postEvent s log ev).e2e = s.e2e :=
  (postEvent_aside s log ev).e2e
@[simp] theorem postEvent_links (s : State) (log : Nat) (ev : CxlEvent) : (postEvent s log ev).links = s.links :=
  (postEvent_aside s log ev).links
@[simp] theorem postEvent_ctls (s : State) (log : Nat) (ev : CxlEvent) : (postEvent s log ev).ctls = s.ctls :=
  (postEvent_aside s log ev).ctls
@[simp] theorem postEvent_trns (s : State) (log : Nat) (ev : CxlEvent) : (postEvent s log ev).trns = s.trns :=
  (postEvent_aside s log ev).trns
@[simp] theorem postEvent_ecc (s : State) (log : Nat) (ev : CxlEvent) : (postEvent s log ev).ecc = s.ecc :=
  (postEvent_aside s log ev).ecc
@[simp] theorem postEvent_qos (s : State) (log : Nat) (ev : CxlEvent) : (postEvent s log ev).qos = s.qos :=
  (postEvent_aside s log ev).qos
@[simp] theorem postEvent_xts (s : State) (log : Nat) (ev : CxlEvent) : (postEvent s log ev).xts = s.xts :=
  (postEvent_aside s log ev).xts
@[simp] theorem postEvent_cmp (s : State) (log : Nat) (ev : CxlEvent) : (postEvent s log ev).cmp = s.cmp :=
  (postEvent_aside s log ev).cmp
@[simp] theorem postEvent_coh (s : State) (log : Nat) (ev : CxlEvent) : (postEvent s log ev).coh = s.coh :=
  (postEvent_aside s log ev).coh
@[simp] theorem postEvent_sec (s : State) (log : Nat) (ev : CxlEvent) : (postEvent s log ev).sec = s.sec :=
  (postEvent_aside s log ev).sec
@[simp] theorem postEvent_pwr (s : State) (log : Nat) (ev : CxlEvent) : (postEvent s log ev).pwr = s.pwr :=
  (postEvent_aside s log ev).pwr
@[simp] theorem postEvent_boot (s : State) (log : Nat) (ev : CxlEvent) : (postEvent s log ev).boot = s.boot :=
  (postEvent_aside s log ev).boot

/-! ### The fields `raiseP` leaves -/

@[simp] theorem raiseP_clockNs (s : State) (ev cause : Nat) (part : Part) (info : Nat) : (raiseP s ev cause part info).clockNs = s.clockNs :=
  (raiseP_aside s ev cause part info).clockNs
@[simp] theorem raiseP_freeIdx (s : State) (ev cause : Nat) (part : Part) (info : Nat) : (raiseP s ev cause part info).freeIdx = s.freeIdx :=
  (raiseP_aside s ev cause part info).freeIdx
@[simp] theorem raiseP_pending (s : State) (ev cause : Nat) (part : Part) (info : Nat) : (raiseP s ev cause part info).pending = s.pending :=
  (raiseP_aside s ev cause part info).pending
@[simp] theorem raiseP_mem (s : State) (ev cause : Nat) (part : Part) (info : Nat) : (raiseP s ev cause part info).mem = s.mem :=
  (raiseP_aside s ev cause part info).mem
@[simp] theorem raiseP_nextReq (s : State) (ev cause : Nat) (part : Part) (info : Nat) : (raiseP s ev cause part info).nextReq = s.nextReq :=
  (raiseP_aside s ev cause part info).nextReq
@[simp] theorem raiseP_img (s : State) (ev cause : Nat) (part : Part) (info : Nat) : (raiseP s ev cause part info).img = s.img :=
  (raiseP_aside s ev cause part info).img
@[simp] theorem raiseP_chd (s : State) (ev cause : Nat) (part : Part) (info : Nat) : (raiseP s ev cause part info).chd = s.chd :=
  (raiseP_aside s ev cause part info).chd
@[simp] theorem raiseP_fab (s : State) (ev cause : Nat) (part : Part) (info : Nat) : (raiseP s ev cause part info).fab = s.fab :=
  (raiseP_aside s ev cause part info).fab
@[simp] theorem raiseP_e2e (s : State) (ev cause : Nat) (part : Part) (info : Nat) : (raiseP s ev cause part info).e2e = s.e2e :=
  (raiseP_aside s ev cause part info).e2e
@[simp] theorem raiseP_links (s : State) (ev cause : Nat) (part : Part) (info : Nat) : (raiseP s ev cause part info).links = s.links :=
  (raiseP_aside s ev cause part info).links
@[simp] theorem raiseP_ctls (s : State) (ev cause : Nat) (part : Part) (info : Nat) : (raiseP s ev cause part info).ctls = s.ctls :=
  (raiseP_aside s ev cause part info).ctls
@[simp] theorem raiseP_trns (s : State) (ev cause : Nat) (part : Part) (info : Nat) : (raiseP s ev cause part info).trns = s.trns :=
  (raiseP_aside s ev cause part info).trns
@[simp] theorem raiseP_ecc (s : State) (ev cause : Nat) (part : Part) (info : Nat) : (raiseP s ev cause part info).ecc = s.ecc :=
  (raiseP_aside s ev cause part info).ecc
@[simp] theorem raiseP_qos (s : State) (ev cause : Nat) (part : Part) (info : Nat) : (raiseP s ev cause part info).qos = s.qos :=
  (raiseP_aside s ev cause part info).qos
@[simp] theorem raiseP_xts (s : State) (ev cause : Nat) (part : Part) (info : Nat) : (raiseP s ev cause part info).xts = s.xts :=
  (raiseP_aside s ev cause part info).xts
@[simp] theorem raiseP_cmp (s : State) (ev cause : Nat) (part : Part) (info : Nat) : (raiseP s ev cause part info).cmp = s.cmp :=
  (raiseP_aside s ev cause part info).cmp
@[simp] theorem raiseP_coh (s : State) (ev cause : Nat) (part : Part) (info : Nat) : (raiseP s ev cause part info).coh = s.coh :=
  (raiseP_aside s ev cause part info).coh
@[simp] theorem raiseP_sec (s : State) (ev cause : Nat) (part : Part) (info : Nat) : (raiseP s ev cause part info).sec = s.sec :=
  (raiseP_aside s ev cause part info).sec
@[simp] theorem raiseP_pwr (s : State) (ev cause : Nat) (part : Part) (info : Nat) : (raiseP s ev cause part info).pwr = s.pwr :=
  (raiseP_aside s ev cause part info).pwr
@[simp] theorem raiseP_boot (s : State) (ev cause : Nat) (part : Part) (info : Nat) : (raiseP s ev cause part info).boot = s.boot :=
  (raiseP_aside s ev cause part info).boot

/-! ### The fields `raise` leaves -/

@[simp] theorem raise_clockNs (s : State) (ev cause : Nat) : (raise s ev cause).clockNs = s.clockNs :=
  (raise_aside s ev cause).clockNs
@[simp] theorem raise_freeIdx (s : State) (ev cause : Nat) : (raise s ev cause).freeIdx = s.freeIdx :=
  (raise_aside s ev cause).freeIdx
@[simp] theorem raise_pending (s : State) (ev cause : Nat) : (raise s ev cause).pending = s.pending :=
  (raise_aside s ev cause).pending
@[simp] theorem raise_mem (s : State) (ev cause : Nat) : (raise s ev cause).mem = s.mem := (raise_aside s ev cause).mem
@[simp] theorem raise_nextReq (s : State) (ev cause : Nat) : (raise s ev cause).nextReq = s.nextReq :=
  (raise_aside s ev cause).nextReq
@[simp] theorem raise_img (s : State) (ev cause : Nat) : (raise s ev cause).img = s.img := (raise_aside s ev cause).img
@[simp] theorem raise_chd (s : State) (ev cause : Nat) : (raise s ev cause).chd = s.chd := (raise_aside s ev cause).chd
@[simp] theorem raise_fab (s : State) (ev cause : Nat) : (raise s ev cause).fab = s.fab := (raise_aside s ev cause).fab
@[simp] theorem raise_e2e (s : State) (ev cause : Nat) : (raise s ev cause).e2e = s.e2e := (raise_aside s ev cause).e2e
@[simp] theorem raise_links (s : State) (ev cause : Nat) : (raise s ev cause).links = s.links := (raise_aside s ev cause).links
@[simp] theorem raise_ctls (s : State) (ev cause : Nat) : (raise s ev cause).ctls = s.ctls := (raise_aside s ev cause).ctls
@[simp] theorem raise_trns (s : State) (ev cause : Nat) : (raise s ev cause).trns = s.trns := (raise_aside s ev cause).trns
@[simp] theorem raise_ecc (s : State) (ev cause : Nat) : (raise s ev cause).ecc = s.ecc := (raise_aside s ev cause).ecc
@[simp] theorem raise_qos (s : State) (ev cause : Nat) : (raise s ev cause).qos = s.qos := (raise_aside s ev cause).qos
@[simp] theorem raise_xts (s : State) (ev cause : Nat) : (raise s ev cause).xts = s.xts := (raise_aside s ev cause).xts
@[simp] theorem raise_cmp (s : State) (ev cause : Nat) : (raise s ev cause).cmp = s.cmp := (raise_aside s ev cause).cmp
@[simp] theorem raise_coh (s : State) (ev cause : Nat) : (raise s ev cause).coh = s.coh := (raise_aside s ev cause).coh
@[simp] theorem raise_sec (s : State) (ev cause : Nat) : (raise s ev cause).sec = s.sec := (raise_aside s ev cause).sec
@[simp] theorem raise_pwr (s : State) (ev cause : Nat) : (raise s ev cause).pwr = s.pwr := (raise_aside s ev cause).pwr
@[simp] theorem raise_boot (s : State) (ev cause : Nat) : (raise s ev cause).boot = s.boot := (raise_aside s ev cause).boot

/-! ### The fields `raiseLink` leaves -/

@[simp] theorem raiseLink_clockNs (s : State) (l cause : Nat) : (raiseLink s l cause).clockNs = s.clockNs :=
  (raiseLink_aside s l cause).clockNs
@[simp] theorem raiseLink_freeIdx (s : State) (l cause : Nat) : (raiseLink s l cause).freeIdx = s.freeIdx :=
  (raiseLink_aside s l cause).freeIdx
@[simp] theorem raiseLink_pending (s : State) (l cause : Nat) : (raiseLink s l cause).pending = s.pending :=
  (raiseLink_aside s l cause).pending
@[simp] theorem raiseLink_mem (s : State) (l cause : Nat) : (raiseLink s l cause).mem = s.mem := (raiseLink_aside s l cause).mem
@[simp] theorem raiseLink_nextReq (s : State) (l cause : Nat) : (raiseLink s l cause).nextReq = s.nextReq :=
  (raiseLink_aside s l cause).nextReq
@[simp] theorem raiseLink_img (s : State) (l cause : Nat) : (raiseLink s l cause).img = s.img := (raiseLink_aside s l cause).img
@[simp] theorem raiseLink_chd (s : State) (l cause : Nat) : (raiseLink s l cause).chd = s.chd := (raiseLink_aside s l cause).chd
@[simp] theorem raiseLink_fab (s : State) (l cause : Nat) : (raiseLink s l cause).fab = s.fab := (raiseLink_aside s l cause).fab
@[simp] theorem raiseLink_e2e (s : State) (l cause : Nat) : (raiseLink s l cause).e2e = s.e2e := (raiseLink_aside s l cause).e2e
@[simp] theorem raiseLink_links (s : State) (l cause : Nat) : (raiseLink s l cause).links = s.links :=
  (raiseLink_aside s l cause).links
@[simp] theorem raiseLink_ctls (s : State) (l cause : Nat) : (raiseLink s l cause).ctls = s.ctls :=
  (raiseLink_aside s l cause).ctls
@[simp] theorem raiseLink_trns (s : State) (l cause : Nat) : (raiseLink s l cause).trns = s.trns :=
  (raiseLink_aside s l cause).trns
@[simp] theorem raiseLink_ecc (s : State) (l cause : Nat) : (raiseLink s l cause).ecc = s.ecc := (raiseLink_aside s l cause).ecc
@[simp] theorem raiseLink_qos (s : State) (l cause : Nat) : (raiseLink s l cause).qos = s.qos := (raiseLink_aside s l cause).qos
@[simp] theorem raiseLink_xts (s : State) (l cause : Nat) : (raiseLink s l cause).xts = s.xts := (raiseLink_aside s l cause).xts
@[simp] theorem raiseLink_cmp (s : State) (l cause : Nat) : (raiseLink s l cause).cmp = s.cmp := (raiseLink_aside s l cause).cmp
@[simp] theorem raiseLink_coh (s : State) (l cause : Nat) : (raiseLink s l cause).coh = s.coh := (raiseLink_aside s l cause).coh
@[simp] theorem raiseLink_sec (s : State) (l cause : Nat) : (raiseLink s l cause).sec = s.sec := (raiseLink_aside s l cause).sec
@[simp] theorem raiseLink_pwr (s : State) (l cause : Nat) : (raiseLink s l cause).pwr = s.pwr := (raiseLink_aside s l cause).pwr
@[simp] theorem raiseLink_boot (s : State) (l cause : Nat) : (raiseLink s l cause).boot = s.boot :=
  (raiseLink_aside s l cause).boot

/-! ### The fields `raiseCtl` leaves -/

@[simp] theorem raiseCtl_clockNs (s : State) (n cause : Nat) : (raiseCtl s n cause).clockNs = s.clockNs :=
  (raiseCtl_aside s n cause).clockNs
@[simp] theorem raiseCtl_freeIdx (s : State) (n cause : Nat) : (raiseCtl s n cause).freeIdx = s.freeIdx :=
  (raiseCtl_aside s n cause).freeIdx
@[simp] theorem raiseCtl_pending (s : State) (n cause : Nat) : (raiseCtl s n cause).pending = s.pending :=
  (raiseCtl_aside s n cause).pending
@[simp] theorem raiseCtl_mem (s : State) (n cause : Nat) : (raiseCtl s n cause).mem = s.mem := (raiseCtl_aside s n cause).mem
@[simp] theorem raiseCtl_nextReq (s : State) (n cause : Nat) : (raiseCtl s n cause).nextReq = s.nextReq :=
  (raiseCtl_aside s n cause).nextReq
@[simp] theorem raiseCtl_img (s : State) (n cause : Nat) : (raiseCtl s n cause).img = s.img := (raiseCtl_aside s n cause).img
@[simp] theorem raiseCtl_chd (s : State) (n cause : Nat) : (raiseCtl s n cause).chd = s.chd := (raiseCtl_aside s n cause).chd
@[simp] theorem raiseCtl_fab (s : State) (n cause : Nat) : (raiseCtl s n cause).fab = s.fab := (raiseCtl_aside s n cause).fab
@[simp] theorem raiseCtl_e2e (s : State) (n cause : Nat) : (raiseCtl s n cause).e2e = s.e2e := (raiseCtl_aside s n cause).e2e
@[simp] theorem raiseCtl_links (s : State) (n cause : Nat) : (raiseCtl s n cause).links = s.links :=
  (raiseCtl_aside s n cause).links
@[simp] theorem raiseCtl_ctls (s : State) (n cause : Nat) : (raiseCtl s n cause).ctls = s.ctls := (raiseCtl_aside s n cause).ctls
@[simp] theorem raiseCtl_trns (s : State) (n cause : Nat) : (raiseCtl s n cause).trns = s.trns := (raiseCtl_aside s n cause).trns
@[simp] theorem raiseCtl_ecc (s : State) (n cause : Nat) : (raiseCtl s n cause).ecc = s.ecc := (raiseCtl_aside s n cause).ecc
@[simp] theorem raiseCtl_qos (s : State) (n cause : Nat) : (raiseCtl s n cause).qos = s.qos := (raiseCtl_aside s n cause).qos
@[simp] theorem raiseCtl_xts (s : State) (n cause : Nat) : (raiseCtl s n cause).xts = s.xts := (raiseCtl_aside s n cause).xts
@[simp] theorem raiseCtl_cmp (s : State) (n cause : Nat) : (raiseCtl s n cause).cmp = s.cmp := (raiseCtl_aside s n cause).cmp
@[simp] theorem raiseCtl_coh (s : State) (n cause : Nat) : (raiseCtl s n cause).coh = s.coh := (raiseCtl_aside s n cause).coh
@[simp] theorem raiseCtl_sec (s : State) (n cause : Nat) : (raiseCtl s n cause).sec = s.sec := (raiseCtl_aside s n cause).sec
@[simp] theorem raiseCtl_pwr (s : State) (n cause : Nat) : (raiseCtl s n cause).pwr = s.pwr := (raiseCtl_aside s n cause).pwr
@[simp] theorem raiseCtl_boot (s : State) (n cause : Nat) : (raiseCtl s n cause).boot = s.boot := (raiseCtl_aside s n cause).boot

end Sys2Proof.Machine
end

