-- ==== Sys2Proof/Laws/Kept.lean ====
section
/-! SUPPORT. What every command keeps (R3, R511), put together from what its parts keep. -/

namespace Sys2Proof.Safety

open Sys2Proof.Machine

theorem Kept.refl (s : State) : Kept s s :=
  ⟨rfl, id, id, rfl, Nat.le_refl _, Nat.le_refl _⟩

theorem Kept.trans {s t u : State} (h : Kept s t) (k : Kept t u) : Kept s u :=
  ⟨k.pending.trans h.pending, k.mem ∘ h.mem, k.secured ∘ h.secured, k.lot.trans h.lot,
    Nat.le_trans h.imgFloor k.imgFloor, Nat.le_trans h.fwFloor k.fwFloor⟩

/-- A state that differs in none of the three fields concerned. -/
theorem Kept.of_eq {s t : State} (hp : t.pending = s.pending) (hm : t.mem = s.mem) (hs : t.sec = s.sec) : Kept s t := by
  refine ⟨hp, ?_, ?_, ?_, ?_, ?_⟩
  · rw [hm]
    exact id
  · rw [hs]
    exact id
  · rw [hs]
  · rw [hs]
  · rw [hs]

/-- A state whose memory is another one in canonical form. -/
theorem Kept.of_mem {s t : State} (hp : t.pending = s.pending) (hm : Memory.wf s.mem → Memory.wf t.mem) (hs : t.sec = s.sec) :
    Kept s t := by
  refine ⟨hp, hm, ?_, ?_, ?_, ?_⟩
  · rw [hs]
    exact id
  · rw [hs]
  · rw [hs]
  · rw [hs]

theorem Kept.of_aside {s t : State} (h : Aside s t) : Kept s t := Kept.of_eq h.pending h.mem h.sec

theorem Kept.ite {p : Prop} [Decidable p] {s t u : State} (h : p → Kept s t) (k : ¬ p → Kept s u) : Kept s (if p then t else u) := by
  split
  · exact h ‹_›
  · exact k ‹_›

/-- A fold whose every step keeps. -/
theorem Kept.foldl {α : Type} (f : State → α → State) (h : ∀ s a, Kept s (f s a)) (l : List α) (s : State) : Kept s (l.foldl f s) := by
  induction l generalizing s with
  | nil => exact Kept.refl s
  | cons a l ih => exact (h s a).trans (ih (f s a))

theorem Kept.raiseP (s : State) (ev cause : Nat) (part : Part) (info : Nat) : Kept s (raiseP s ev cause part info) :=
  Kept.of_aside (raiseP_aside s ev cause part info)

theorem Kept.raise (s : State) (ev cause : Nat) : Kept s (raise s ev cause) := Kept.of_aside (raise_aside s ev cause)

theorem Kept.emit (s : State) (o : Output) : Kept s (emit s o) := Kept.of_eq rfl rfl rfl

theorem Kept.writeLine (s : State) (line : Nat) (d : Line) : Kept s (writeLine s line d) := Kept.of_mem rfl (wf_writeLine line d) rfl

theorem Kept.writeBlock (s : State) (block : Nat) (bs : List Byte) : Kept s (writeBlock s block bs) :=
  Kept.of_mem rfl (wf_writeBlock block bs) rfl

theorem Kept.clearPage (s : State) (p : Nat) : Kept s (clearPage s p) := Kept.of_mem rfl (wf_clearPage p) rfl

/-- An exec arm that answers a state which keeps. -/
theorem Kept.of_next {s t u : State} (h : (Host.Outcome.next t : Host.Outcome State Fault Refusal) = .next u) (k : Kept s t) : Kept s u := by
  cases h
  exact k

end Sys2Proof.Safety
end

