-- ==== Sys2Proof/Laws/PerInstr.lean ====
section
/-! SUPPORT. Per-command statements about commands as syntax: the table of operations gives no row any bits, so no word spells a
command. -/

namespace Sys2Proof.Laws.NoWord

/-- No word of any length spells the command. -/
def Statement (i : Instr) : Prop := ∀ nbits w, decodeTableWord nbits w ≠ some i

theorem powerOnReset : Statement .powerOnReset := fun _ _ h => nomatch h
theorem deviceReset (cause : BitVec 4) : Statement (.deviceReset cause) := fun _ _ h => nomatch h
theorem hostConventionalReset (kind : HostResetKind) : Statement (.hostConventionalReset kind) := fun _ _ h => nomatch h
theorem cxlReset : Statement .cxlReset := fun _ _ h => nomatch h
theorem linkReset (l : LinkNo) : Statement (.linkReset l) := fun _ _ h => nomatch h
theorem perstFiltered (asserted : Bool) : Statement (.perstFiltered asserted) := fun _ _ h => nomatch h
theorem memRd (hpa : BitVec 64) (mv : MetaVal) (req : BitVec 16) : Statement (.memRd hpa mv req) := fun _ _ h => nomatch h
theorem memWr (hpa : BitVec 64) (mv : MetaVal) (req : BitVec 16) (data : Line) (mask : BitVec 64) (poison : Bool) :
    Statement (.memWr hpa mv req data mask poison) := fun _ _ h => nomatch h
theorem memDataReturn (ctrl : Fin 16) (res : ReturnResult) : Statement (.memDataReturn ctrl res) := fun _ _ h => nomatch h
theorem bucketLeak : Statement .bucketLeak := fun _ _ h => nomatch h
theorem memAdmit (ctrl : Fin 16) (write : Bool) : Statement (.memAdmit ctrl write) := fun _ _ h => nomatch h
theorem memIssue (ctrl : Fin 16) (blocked : List Nat) : Statement (.memIssue ctrl blocked) := fun _ _ h => nomatch h
theorem refreshDue (ctrl : Fin 16) (rank : Fin 4) : Statement (.refreshDue ctrl rank) := fun _ _ h => nomatch h
theorem mr4Poll (chan : Fin 12) (report : Mr4) : Statement (.mr4Poll chan report) := fun _ _ h => nomatch h
theorem powerDownEntry (ctrl : Fin 16) (rank : Fin 4) : Statement (.powerDownEntry ctrl rank) := fun _ _ h => nomatch h
theorem selfRefreshEntry (ctrl : Fin 16) : Statement (.selfRefreshEntry ctrl) := fun _ _ h => nomatch h
theorem scrubLine (ctrl : Fin 16) (line : BitVec 42) (error : BurstError) : Statement (.scrubLine ctrl line error) :=
  fun _ _ h => nomatch h
theorem epochStart : Statement .epochStart := fun _ _ h => nomatch h
theorem walkerPage (p : PageNo) : Statement (.walkerPage p) := fun _ _ h => nomatch h
theorem bucketRefill : Statement .bucketRefill := fun _ _ h => nomatch h
theorem migrationStart (kind : MigKind) (p : PageNo) : Statement (.migrationStart kind p) := fun _ _ h => nomatch h
theorem migrationPassEnd (p : PageNo) (bad : PassErrors) :
    Statement (.migrationPassEnd p bad) := fun _ _ h => nomatch h
theorem freezeTimeout (p : PageNo) : Statement (.freezeTimeout p) := fun _ _ h => nomatch h
theorem migrationCommit (p : PageNo) : Statement (.migrationCommit p) := fun _ _ h => nomatch h
theorem reserveWaitTimeout : Statement .reserveWaitTimeout := fun _ _ h => nomatch h
theorem waitingWriteResume : Statement .waitingWriteResume := fun _ _ h => nomatch h
theorem leaseWaitTimeout : Statement .leaseWaitTimeout := fun _ _ h => nomatch h
theorem checkpoint (ring : Fin 2) : Statement (.checkpoint ring) := fun _ _ h => nomatch h
theorem translationWriteback (quad : BitVec 34) : Statement (.translationWriteback quad) := fun _ _ h => nomatch h
theorem nearCacheEviction (owner : Node) (block : BitVec 38) : Statement (.nearCacheEviction owner block) :=
  fun _ _ h => nomatch h
theorem compressionResult (lane : Fin 16) (shadowOk : Bool) : Statement (.compressionResult lane shadowOk) :=
  fun _ _ h => nomatch h
theorem laneTimeout (decompressor : Bool) (lane : Fin 32) : Statement (.laneTimeout decompressor lane) := fun _ _ h => nomatch h
theorem primerRetire (slot : BitVec 6) : Statement (.primerRetire slot) := fun _ _ h => nomatch h
theorem imageStageBegin (payload : List Byte) : Statement (.imageStageBegin payload) := fun _ _ h => nomatch h
theorem imageStageData (payload : List Byte) : Statement (.imageStageData payload) := fun _ _ h => nomatch h
theorem imageStageCommit (payload : List Byte) : Statement (.imageStageCommit payload) := fun _ _ h => nomatch h
theorem imageStageAbort (payload : List Byte) : Statement (.imageStageAbort payload) := fun _ _ h => nomatch h
theorem imageVerifyDone : Statement .imageVerifyDone := fun _ _ h => nomatch h
theorem commitPoint : Statement .commitPoint := fun _ _ h => nomatch h
theorem extentAdd (src : CmdSrc) (entry : Line) : Statement (.extentAdd src entry) := fun _ _ h => nomatch h
theorem extentAddBuddyTimeout (dpa : Dpa) : Statement (.extentAddBuddyTimeout dpa) := fun _ _ h => nomatch h
theorem addDynamicCapacityResponse (accepted : List (BitVec 64 × BitVec 64)) : Statement (.addDynamicCapacityResponse accepted) :=
  fun _ _ h => nomatch h
theorem releaseDynamicCapacity (ranges : List (BitVec 64 × BitVec 64)) : Statement (.releaseDynamicCapacity ranges) :=
  fun _ _ h => nomatch h
theorem releaseResponse (dpa : Dpa) : Statement (.releaseResponse dpa) := fun _ _ h => nomatch h
theorem shareGrant (src : CmdSrc) (entry : Line) : Statement (.shareGrant src entry) := fun _ _ h => nomatch h
theorem shareRevoke (src : CmdSrc) (entry : Line) : Statement (.shareRevoke src entry) := fun _ _ h => nomatch h
theorem placeHint (src : CmdSrc) (entry : Line) : Statement (.placeHint src entry) := fun _ _ h => nomatch h
theorem atomic (src : CmdSrc) (entry : Line) : Statement (.atomic src entry) := fun _ _ h => nomatch h
theorem keyRotate (src : CmdSrc) (entry : Line) : Statement (.keyRotate src entry) := fun _ _ h => nomatch h
theorem keyRotateSwitch (domain : BitVec 12) : Statement (.keyRotateSwitch domain) := fun _ _ h => nomatch h
theorem primerEval (src : CmdSrc) (entry : Line) (blocks : List (List Byte)) (dmaOk : Bool) :
    Statement (.primerEval src entry blocks dmaOk) := fun _ _ h => nomatch h
theorem queueCreate (payload : List Byte) : Statement (.queueCreate payload) := fun _ _ h => nomatch h
theorem queueDelete (payload : List Byte) : Statement (.queueDelete payload) := fun _ _ h => nomatch h
theorem execEntry (payload : List Byte) (blocks : List (List Byte)) (dmaOk : Bool) :
    Statement (.execEntry payload blocks dmaOk) := fun _ _ h => nomatch h
theorem sqTail (qid : BitVec 10) (value : BitVec 32) (entries : List Line) : Statement (.sqTail qid value entries) :=
  fun _ _ h => nomatch h
theorem cqHead (qid : BitVec 10) (value : BitVec 32) : Statement (.cqHead qid value) := fun _ _ h => nomatch h
theorem commandComplete (qid : BitVec 10) : Statement (.commandComplete qid) := fun _ _ h => nomatch h
theorem dmaError (qid : BitVec 10) : Statement (.dmaError qid) := fun _ _ h => nomatch h
theorem hdmDecoderCommit (index : Fin 8) (setting : HdmSetting) : Statement (.hdmDecoderCommit index setting) :=
  fun _ _ h => nomatch h
theorem hostLinkUp (speed : BitVec 4) (width : BitVec 6) : Statement (.hostLinkUp speed width) := fun _ _ h => nomatch h
theorem getEventRecords (log : BitVec 8) : Statement (.getEventRecords log) := fun _ _ h => nomatch h
theorem clearEventRecords (log : BitVec 8) (all : Bool) (handles : List (BitVec 16)) :
    Statement (.clearEventRecords log all handles) := fun _ _ h => nomatch h
theorem getEventInterruptPolicy : Statement .getEventInterruptPolicy := fun _ _ h => nomatch h
theorem setEventInterruptPolicy (policy : BitVec 40) : Statement (.setEventInterruptPolicy policy) := fun _ _ h => nomatch h
theorem getFwInfo : Statement .getFwInfo := fun _ _ h => nomatch h
theorem transferFw (action : BitVec 8) (slot : BitVec 8) (offset : BitVec 32) (data : List Byte) :
    Statement (.transferFw action slot offset data) := fun _ _ h => nomatch h
theorem activateFw (action : BitVec 8) (slot : BitVec 8) : Statement (.activateFw action slot) := fun _ _ h => nomatch h
theorem getTimestamp : Statement .getTimestamp := fun _ _ h => nomatch h
theorem setTimestamp (value : BitVec 64) : Statement (.setTimestamp value) := fun _ _ h => nomatch h
theorem getSupportedLogs : Statement .getSupportedLogs := fun _ _ h => nomatch h
theorem getLog (cel : Bool) (offset : BitVec 32) (length : BitVec 32) : Statement (.getLog cel offset length) :=
  fun _ _ h => nomatch h
theorem identifyMemoryDevice : Statement .identifyMemoryDevice := fun _ _ h => nomatch h
theorem getPoisonList (dpa : BitVec 64) (count : BitVec 64) : Statement (.getPoisonList dpa count) := fun _ _ h => nomatch h
theorem injectPoison (dpa : BitVec 64) : Statement (.injectPoison dpa) := fun _ _ h => nomatch h
theorem clearPoison (dpa : BitVec 64) (data : Line) : Statement (.clearPoison dpa data) := fun _ _ h => nomatch h
theorem getDynamicCapacityConfiguration (count : BitVec 8) (start : BitVec 8) :
    Statement (.getDynamicCapacityConfiguration count start) := fun _ _ h => nomatch h
theorem getDynamicCapacityExtentList (count : BitVec 32) (start : BitVec 32) :
    Statement (.getDynamicCapacityExtentList count start) := fun _ _ h => nomatch h
theorem mailboxUnsupported (opcode : BitVec 16) : Statement (.mailboxUnsupported opcode) := fun _ _ h => nomatch h
theorem biRsp (dpa : Dpa) (writeback : Option (Line × Bool)) : Statement (.biRsp dpa writeback) := fun _ _ h => nomatch h
theorem biConflict (dpa : Dpa) : Statement (.biConflict dpa) := fun _ _ h => nomatch h
theorem bisnpTimeout (dpa : Dpa) : Statement (.bisnpTimeout dpa) := fun _ _ h => nomatch h
theorem rdShared (h : ReqHdr) (line : LineNo) (reserved : Bool) : Statement (.rdShared h line reserved) := fun _ _ h => nomatch h
theorem rdOwn (h : ReqHdr) (line : LineNo) (reserved : Bool) : Statement (.rdOwn h line reserved) := fun _ _ h => nomatch h
theorem rdCur (h : ReqHdr) (line : LineNo) (reserved : Bool) : Statement (.rdCur h line reserved) := fun _ _ h => nomatch h
theorem wrLine (h : ReqHdr) (line : LineNo) (reserved : Bool) (keep : Keep) (poison : Bool) (mask : BitVec 64) (data : Line) :
    Statement (.wrLine h line reserved keep poison mask data) := fun _ _ h => nomatch h
theorem atomicFar (h : ReqHdr) (line : LineNo) (operation : BitVec 8) (size : BitVec 3) (seq floor : BitVec 32) (offset : BitVec 6) (operands : BitVec 256) :
    Statement (.atomicFar h line operation size seq floor offset operands) := fun _ _ h => nomatch h
theorem snpInv (tag : Tag) (line : LineNo) (scope : Scope) (grantTag : Tag) : Statement (.snpInv tag line scope grantTag) :=
  fun _ _ h => nomatch h
theorem snpData (tag : Tag) (line : LineNo) : Statement (.snpData tag line) := fun _ _ h => nomatch h
theorem snpCur (tag : Tag) (line : LineNo) : Statement (.snpCur tag line) := fun _ _ h => nomatch h
theorem data (tag : Tag) (src : Node) (poison contended dirty hostDirty : Bool) (bulk : Option DecOutcome) (vers : BitVec 16)
    (pod : BitVec 6) (value : Line) :
    Statement (.data tag src poison contended dirty hostDirty bulk vers pod value) := fun _ _ h => nomatch h
theorem dataOwned (tag : Tag) (src : Node) (poison contended : Bool) (value : Line) :
    Statement (.dataOwned tag src poison contended value) := fun _ _ h => nomatch h
theorem cmp (tag : Tag) (src : Node) (status : BitVec 3) (contended : Bool) (vers : BitVec 16) :
    Statement (.cmp tag src status contended vers) := fun _ _ h => nomatch h
theorem nackRetry (tag : Tag) (cause : BitVec 4) (hint : BitVec 8) : Statement (.nackRetry tag cause hint) :=
  fun _ _ h => nomatch h
theorem rspEvictInFlight (tag : Tag) (src : Node) (line : LineNo) : Statement (.rspEvictInFlight tag src line) :=
  fun _ _ h => nomatch h
theorem evictAck (tag : Tag) (line : LineNo) : Statement (.evictAck tag line) := fun _ _ h => nomatch h
theorem evict (h : ReqHdr) (line : LineNo) : Statement (.evict h line) := fun _ _ h => nomatch h
theorem wbDirty (h : ReqHdr) (line : LineNo) (poison hostDirty : Bool) (value : Line) :
    Statement (.wbDirty h line poison hostDirty value) := fun _ _ h => nomatch h
theorem blkRead (h : ReqHdr) (pod : BitVec 38) (count : BitVec 7) (vers : BitVec 16) : Statement (.blkRead h pod count vers) :=
  fun _ _ h => nomatch h
theorem blkWrite (h : ReqHdr) (pod : BitVec 38) (vers : BitVec 16) (value : Line) : Statement (.blkWrite h pod vers value) :=
  fun _ _ h => nomatch h
theorem blkFree (h : ReqHdr) (pod : BitVec 38) (count : BitVec 7) : Statement (.blkFree h pod count) := fun _ _ h => nomatch h
theorem mirrorWrite (h : ReqHdr) (body : MirrorBody) : Statement (.mirrorWrite h body) := fun _ _ h => nomatch h
theorem mirrorCtlReserve (h : ReqHdr) (extent : BitVec 16) (length2m : BitVec 32) :
    Statement (.mirrorCtlReserve h extent length2m) := fun _ _ h => nomatch h
theorem mirrorCtlUnreserve (h : ReqHdr) (extent : BitVec 16) (length2m : BitVec 32) :
    Statement (.mirrorCtlUnreserve h extent length2m) := fun _ _ h => nomatch h
theorem mirrorCtlFree (h : ReqHdr) (extent : BitVec 16) (page : BitVec 28) (count : BitVec 32) :
    Statement (.mirrorCtlFree h extent page count) := fun _ _ h => nomatch h
theorem mirrorCtlRead (h : ReqHdr) (extent : BitVec 16) (page : BitVec 28) (line : BitVec 6) (lines : BitVec 5) :
    Statement (.mirrorCtlRead h extent page line lines) := fun _ _ h => nomatch h
theorem mirrorCtlPage (h : ReqHdr) (extent : BitVec 16) (page : BitVec 28) (blen : BitVec 20) (kgen integ raw : Bool) (fingerprint : BitVec 64) :
    Statement (.mirrorCtlPage h extent page blen kgen integ raw fingerprint) := fun _ _ h => nomatch h
theorem mirrorPod (h : ReqHdr) (extent : BitVec 16) (page : BitVec 28) (index : BitVec 6) (raw : Bool) (value : Line) :
    Statement (.mirrorPod h extent page index raw value) := fun _ _ h => nomatch h
theorem resyncPage : Statement .resyncPage := fun _ _ h => nomatch h
theorem ackTimeout (line : LineNo) : Statement (.ackTimeout line) := fun _ _ h => nomatch h
theorem nackRetryWaitExpiry (queue : BitVec 4) (idx : BitVec 14) : Statement (.nackRetryWaitExpiry queue idx) :=
  fun _ _ h => nomatch h
theorem reservedHoldTimeout (node : Node) : Statement (.reservedHoldTimeout node) := fun _ _ h => nomatch h
theorem hostFlushed : Statement .hostFlushed := fun _ _ h => nomatch h
theorem predClear : Statement .predClear := fun _ _ h => nomatch h
theorem frameSend (l : LinkNo) : Statement (.frameSend l) := fun _ _ h => nomatch h
theorem dataFrame (l : LinkNo) (bits : BitVec 2016) : Statement (.dataFrame l bits) := fun _ _ h => nomatch h
theorem bypassFrame (l : LinkNo) (bits : BitVec 2016) : Statement (.bypassFrame l bits) := fun _ _ h => nomatch h
theorem ackFrame (l : LinkNo) (bits : BitVec 2016) : Statement (.ackFrame l bits) := fun _ _ h => nomatch h
theorem trainFrame (l : LinkNo) (body : TrainBody) : Statement (.trainFrame l body) := fun _ _ h => nomatch h
theorem replayTimerExpiry (l : LinkNo) : Statement (.replayTimerExpiry l) := fun _ _ h => nomatch h
theorem ackOnlyTimer (l : LinkNo) : Statement (.ackOnlyTimer l) := fun _ _ h => nomatch h
theorem creditReturnTimer (l : LinkNo) : Statement (.creditReturnTimer l) := fun _ _ h => nomatch h
theorem lossOfSignal (l : LinkNo) (kind : LossKind) : Statement (.lossOfSignal l kind) := fun _ _ h => nomatch h
theorem lightPresent (l : LinkNo) : Statement (.lightPresent l) := fun _ _ h => nomatch h
theorem linkTrainingDone (l : LinkNo) (ok : Bool) : Statement (.linkTrainingDone l ok) := fun _ _ h => nomatch h
theorem retrainComplete (l : LinkNo) (dropUnits : BitVec 4) : Statement (.retrainComplete l dropUnits) := fun _ _ h => nomatch h
theorem linkGiveUp (l : LinkNo) : Statement (.linkGiveUp l) := fun _ _ h => nomatch h
theorem givenUpRetry (l : LinkNo) : Statement (.givenUpRetry l) := fun _ _ h => nomatch h
theorem linkClear (l : LinkNo) : Statement (.linkClear l) := fun _ _ h => nomatch h
theorem linkHold (l : LinkNo) (hold : Bool) : Statement (.linkHold l hold) := fun _ _ h => nomatch h
theorem linkRetrain (l : LinkNo) : Statement (.linkRetrain l) := fun _ _ h => nomatch h
theorem e2eTimeout (queue : BitVec 4) (idx : BitVec 14) : Statement (.e2eTimeout queue idx) := fun _ _ h => nomatch h
theorem tagQuarantineEnd (queue : BitVec 4) (idx : BitVec 14) : Statement (.tagQuarantineEnd queue idx) := fun _ _ h => nomatch h
theorem crtEntryExpiry (key : BitVec 30) : Statement (.crtEntryExpiry key) := fun _ _ h => nomatch h
theorem heartbeatSend : Statement .heartbeatSend := fun _ _ h => nomatch h
theorem heartbeat (l : LinkNo) (node : Node) (incarnation : BitVec 16) (state : BitVec 4) (sleepReady resetting : Bool) :
    Statement (.heartbeat l node incarnation state sleepReady resetting) := fun _ _ h => nomatch h
theorem heartbeatSilence (node : Node) : Statement (.heartbeatSilence node) := fun _ _ h => nomatch h
theorem routeSuspect (src node : Node) : Statement (.routeSuspect src node) := fun _ _ h => nomatch h
theorem isolationTimeout : Statement .isolationTimeout := fun _ _ h => nomatch h
theorem restartGraceExpiry (node : Node) : Statement (.restartGraceExpiry node) := fun _ _ h => nomatch h
theorem routeLinkstate (f : FloodHdr) (version : BitVec 16) (vector : BitVec 126) :
    Statement (.routeLinkstate f version vector) := fun _ _ h => nomatch h
theorem linkstatePeriodic : Statement .linkstatePeriodic := fun _ _ h => nomatch h
theorem routeMember (f : FloodHdr) (rec : MemberWire) : Statement (.routeMember f rec) := fun _ _ h => nomatch h
theorem failoverServe : Statement .failoverServe := fun _ _ h => nomatch h
theorem routeCapacity (f : FloodHdr) (lendable : BitVec 16) : Statement (.routeCapacity f lendable) := fun _ _ h => nomatch h
theorem capacityPeriodic : Statement .capacityPeriodic := fun _ _ h => nomatch h
theorem routeAlias (f : FloodHdr) (failed owner : Node) (regions : BitVec 8) (serving : Bool) :
    Statement (.routeAlias f failed owner regions serving) := fun _ _ h => nomatch h
theorem leaseFreeTimeout (node : Node) : Statement (.leaseFreeTimeout node) := fun _ _ h => nomatch h
theorem joinRequest (l : LinkNo) (node : Node) (poolId : BitVec 64) (incarnation : BitVec 16) (epoch : BitVec 32) (digest : BitVec 128) (custody : Bool) :
    Statement (.joinRequest l node poolId incarnation epoch digest custody) := fun _ _ h => nomatch h
theorem joinAccept (l : LinkNo) (node : Node) (state : BitVec 4) (epoch : BitVec 32) (part parts : BitVec 7) (records : List MemberWire) :
    Statement (.joinAccept l node state epoch part parts records) := fun _ _ h => nomatch h
theorem joinRefuse (l : LinkNo) (cause : BitVec 4) : Statement (.joinRefuse l cause) := fun _ _ h => nomatch h
theorem joinWait (l : LinkNo) (delayMs : BitVec 7) : Statement (.joinWait l delayMs) := fun _ _ h => nomatch h
theorem joinWaitExpiry (l : LinkNo) : Statement (.joinWaitExpiry l) := fun _ _ h => nomatch h
theorem joinJudge : Statement .joinJudge := fun _ _ h => nomatch h
theorem joinRetry : Statement .joinRetry := fun _ _ h => nomatch h
theorem rejoin : Statement .rejoin := fun _ _ h => nomatch h
theorem leave : Statement .leave := fun _ _ h => nomatch h
theorem leaseRequest (src : Node) (size : BitVec 14) : Statement (.leaseRequest src size) := fun _ _ h => nomatch h
theorem leaseGrant (src : Node) (size : BitVec 14) : Statement (.leaseGrant src size) := fun _ _ h => nomatch h
theorem leaseDeny (src : Node) (cause : BitVec 2) : Statement (.leaseDeny src cause) := fun _ _ h => nomatch h
theorem leaseRecall (src : Node) (size : BitVec 14) (deadlineS : BitVec 12) : Statement (.leaseRecall src size deadlineS) :=
  fun _ _ h => nomatch h
theorem leaseReturn (src : Node) (size : BitVec 14) : Statement (.leaseReturn src size) := fun _ _ h => nomatch h
theorem leaseDeadline (node : Node) : Statement (.leaseDeadline node) := fun _ _ h => nomatch h
theorem sleepPropose : Statement .sleepPropose := fun _ _ h => nomatch h
theorem wakePropose (f : FloodHdr) (row : BitVec 6) : Statement (.wakePropose f row) := fun _ _ h => nomatch h
theorem wakeConsent (src : Node) (row : BitVec 6) : Statement (.wakeConsent src row) := fun _ _ h => nomatch h
theorem wakeRefuse (src : Node) (row : BitVec 6) : Statement (.wakeRefuse src row) := fun _ _ h => nomatch h
theorem sleepProposeTimeout : Statement .sleepProposeTimeout := fun _ _ h => nomatch h
theorem wakeCommit (f : FloodHdr) (row : BitVec 6) : Statement (.wakeCommit f row) := fun _ _ h => nomatch h
theorem wakeAbort (f : FloodHdr) (row : BitVec 6) : Statement (.wakeAbort f row) := fun _ _ h => nomatch h
theorem rowWake (f : FloodHdr) (row : BitVec 6) : Statement (.rowWake f row) := fun _ _ h => nomatch h
theorem epochPrepareStart : Statement .epochPrepareStart := fun _ _ h => nomatch h
theorem epochPrepare (f : FloodHdr) (epoch : BitVec 32) (digest : BitVec 128) : Statement (.epochPrepare f epoch digest) :=
  fun _ _ h => nomatch h
theorem epochReady (src : Node) (epoch : BitVec 32) : Statement (.epochReady src epoch) := fun _ _ h => nomatch h
theorem epochNotReady (src : Node) (epoch : BitVec 32) : Statement (.epochNotReady src epoch) := fun _ _ h => nomatch h
theorem epochPrepareTimeout : Statement .epochPrepareTimeout := fun _ _ h => nomatch h
theorem epochCommit (f : FloodHdr) (epoch : BitVec 32) (digest : BitVec 128) : Statement (.epochCommit f epoch digest) :=
  fun _ _ h => nomatch h
theorem shaperRefill : Statement .shaperRefill := fun _ _ h => nomatch h
theorem shapeWrite (label : Lbl) (value : Word) : Statement (.shapeWrite label value) := fun _ _ h => nomatch h
theorem policeWrite (label : Lbl) (value : Word) : Statement (.policeWrite label value) := fun _ _ h => nomatch h
theorem feedbackSample : Statement .feedbackSample := fun _ _ h => nomatch h
theorem scaleAdjust : Statement .scaleAdjust := fun _ _ h => nomatch h
theorem memSchedWrite (ctrl : Fin 16) (value : Word) : Statement (.memSchedWrite ctrl value) := fun _ _ h => nomatch h
theorem memTrnStart (chan : Fin 12) : Statement (.memTrnStart chan) := fun _ _ h => nomatch h
theorem memTrnRunEnd (chan : Fin 12) (failed : BitVec 16) (lanes0 lanes1 : BitVec 40) :
    Statement (.memTrnRunEnd chan failed lanes0 lanes1) := fun _ _ h => nomatch h
theorem pmicFault (chan : Fin 12) : Statement (.pmicFault chan) := fun _ _ h => nomatch h
theorem faultRaise (event : BitVec 10) (cause : BitVec 8) (part : Part) (info : BitVec 128) :
    Statement (.faultRaise event cause part info) := fun _ _ h => nomatch h
theorem classAcknowledge (event : BitVec 10) : Statement (.classAcknowledge event) := fun _ _ h => nomatch h
theorem resetClassAcknowledge : Statement .resetClassAcknowledge := fun _ _ h => nomatch h
theorem faultInject (event : BitVec 10) : Statement (.faultInject event) := fun _ _ h => nomatch h
theorem engineHang (engine : Fin 60) : Statement (.engineHang engine) := fun _ _ h => nomatch h
theorem feedPresent (f : Feed) (mv : BitVec 16) : Statement (.feedPresent f mv) := fun _ _ h => nomatch h
theorem feedWindowEntry (f : Feed) (mv : BitVec 16) : Statement (.feedWindowEntry f mv) := fun _ _ h => nomatch h
theorem feedQualified (f : Feed) : Statement (.feedQualified f) := fun _ _ h => nomatch h
theorem feedGateFull (f : Feed) (limiting : Bool) : Statement (.feedGateFull f limiting) := fun _ _ h => nomatch h
theorem feedPowerGood (f : Feed) : Statement (.feedPowerGood f) := fun _ _ h => nomatch h
theorem startTimerTrip (f : Feed) : Statement (.startTimerTrip f) := fun _ _ h => nomatch h
theorem breakerSample (f : Feed) (ma : BitVec 17) : Statement (.breakerSample f ma) := fun _ _ h => nomatch h
theorem feedUndervolt (f : Feed) (mv : BitVec 16) : Statement (.feedUndervolt f mv) := fun _ _ h => nomatch h
theorem feedOvervolt (f : Feed) (mv : BitVec 16) : Statement (.feedOvervolt f mv) := fun _ _ h => nomatch h
theorem retryWaitExpiry (f : Feed) : Statement (.retryWaitExpiry f) := fun _ _ h => nomatch h
theorem tripCountReset (f : Feed) : Statement (.tripCountReset f) := fun _ _ h => nomatch h
theorem feedRelease (f : Feed) : Statement (.feedRelease f) := fun _ _ h => nomatch h
theorem feedTest (f : Feed) : Statement (.feedTest f) := fun _ _ h => nomatch h
theorem feedTestEnd (f : Feed) : Statement (.feedTestEnd f) := fun _ _ h => nomatch h
theorem oringReverse (f : Feed) : Statement (.oringReverse f) := fun _ _ h => nomatch h
theorem telemetryWindow (f : Feed) (mv ma power10mw : BitVec 16) (energyMj : BitVec 48) :
    Statement (.telemetryWindow f mv ma power10mw energyMj) := fun _ _ h => nomatch h
theorem peakRead (f : Feed) : Statement (.peakRead f) := fun _ _ h => nomatch h
theorem eccLastRead : Statement .eccLastRead := fun _ _ h => nomatch h
theorem radishSample (samples : List Sample) : Statement (.radishSample samples) := fun _ _ h => nomatch h
theorem ruleFire (rule : BitVec 8) : Statement (.ruleFire rule) := fun _ _ h => nomatch h
theorem dimmTempRead (temps : List Int) : Statement (.dimmTempRead temps) := fun _ _ h => nomatch h
theorem dozeEntry : Statement .dozeEntry := fun _ _ h => nomatch h
theorem dozeExit (cause : DozeWake) : Statement (.dozeExit cause) := fun _ _ h => nomatch h
theorem restEntry : Statement .restEntry := fun _ _ h => nomatch h
theorem lightQualified (l : LinkNo) : Statement (.lightQualified l) := fun _ _ h => nomatch h
theorem restExitComplete : Statement .restExitComplete := fun _ _ h => nomatch h
theorem spuriousWakeTimeout : Statement .spuriousWakeTimeout := fun _ _ h => nomatch h
theorem deepEntry : Statement .deepEntry := fun _ _ h => nomatch h
theorem deepExit (cause : DeepWake) : Statement (.deepExit cause) := fun _ _ h => nomatch h
theorem custodyLost : Statement .custodyLost := fun _ _ h => nomatch h
theorem vauxOutOfRange (mv : BitVec 16) : Statement (.vauxOutOfRange mv) := fun _ _ h => nomatch h
theorem refclkLost : Statement .refclkLost := fun _ _ h => nomatch h
theorem getState : Statement .getState := fun _ _ h => nomatch h
theorem getRecords : Statement .getRecords := fun _ _ h => nomatch h
theorem getSense (input index : BitVec 8) : Statement (.getSense input index) := fun _ _ h => nomatch h
theorem smbusUnsupported (code : BitVec 8) : Statement (.smbusUnsupported code) := fun _ _ h => nomatch h
theorem challenge (input : List Byte) : Statement (.challenge input) := fun _ _ h => nomatch h
theorem enrol (input : List Byte) : Statement (.enrol input) := fun _ _ h => nomatch h
theorem release (input : List Byte) : Statement (.release input) := fun _ _ h => nomatch h
theorem keySupply (input : List Byte) : Statement (.keySupply input) := fun _ _ h => nomatch h
theorem transportKey (input : List Byte) : Statement (.transportKey input) := fun _ _ h => nomatch h
theorem svnRaise (input : List Byte) : Statement (.svnRaise input) := fun _ _ h => nomatch h
theorem buddyPair (input : List Byte) : Statement (.buddyPair input) := fun _ _ h => nomatch h
theorem info (input : List Byte) : Statement (.info input) := fun _ _ h => nomatch h
theorem secUnknownOpcode (opcode : BitVec 8) : Statement (.secUnknownOpcode opcode) := fun _ _ h => nomatch h
theorem accessRefused (read : Bool) : Statement (.accessRefused read) := fun _ _ h => nomatch h
theorem holdVoteSet (blocks : BitVec 7) : Statement (.holdVoteSet blocks) := fun _ _ h => nomatch h
theorem holdVoteClear (blocks : BitVec 7) : Statement (.holdVoteClear blocks) := fun _ _ h => nomatch h
theorem powerRequest (block : Fin 7) (change : PowerChange) : Statement (.powerRequest block change) := fun _ _ h => nomatch h
theorem holdWindowCap : Statement .holdWindowCap := fun _ _ h => nomatch h
theorem watchdogRestart : Statement .watchdogRestart := fun _ _ h => nomatch h
theorem secureWatchdog : Statement .secureWatchdog := fun _ _ h => nomatch h
theorem getVersion : Statement .getVersion := fun _ _ h => nomatch h
theorem getCapabilities : Statement .getCapabilities := fun _ _ h => nomatch h
theorem negotiateAlgorithms (extAsym extHash : Bool) : Statement (.negotiateAlgorithms extAsym extHash) := fun _ _ h => nomatch h
theorem getDigests : Statement .getDigests := fun _ _ h => nomatch h
theorem getCertificate (slot : BitVec 4) (offset length : BitVec 16) : Statement (.getCertificate slot offset length) :=
  fun _ _ h => nomatch h
theorem spdmChallenge (slot : BitVec 4) (nonce : BitVec 256) : Statement (.spdmChallenge slot nonce) := fun _ _ h => nomatch h
theorem getMeasurements (operation : BitVec 8) (signed : Bool) (nonce : BitVec 256) :
    Statement (.getMeasurements operation signed nonce) := fun _ _ h => nomatch h
theorem chunkSend (handle : BitVec 8) (seq : BitVec 16) (last : Bool) (bytes : List Byte) :
    Statement (.chunkSend handle seq last bytes) := fun _ _ h => nomatch h
theorem chunkGet (handle : BitVec 8) (seq : BitVec 16) : Statement (.chunkGet handle seq) := fun _ _ h => nomatch h
theorem bootStepEnd (step : BitVec 8) (report : StepReport) (buddy : Option BuddyReport) :
    Statement (.bootStepEnd step report buddy) := fun _ _ h => nomatch h
theorem activeLate : Statement .activeLate := fun _ _ h => nomatch h
theorem bootReset : Statement .bootReset := fun _ _ h => nomatch h
theorem bootRetry : Statement .bootRetry := fun _ _ h => nomatch h
theorem clearAlt : Statement .clearAlt := fun _ _ h => nomatch h
theorem pmcCtrWrite (n : BitVec 7) (value : Word) (occurrences : Nat) : Statement (.pmcCtrWrite n value occurrences) :=
  fun _ _ h => nomatch h
theorem pmcClear : Statement .pmcClear := fun _ _ h => nomatch h
theorem pmcUpageWrite (u : BitVec 8) (value : Word) : Statement (.pmcUpageWrite u value) := fun _ _ h => nomatch h
theorem registerWrite (offset : BitVec 26) (wide : Bool) (value : Word) : Statement (.registerWrite offset wide value) :=
  fun _ _ h => nomatch h
theorem startWindowExit (f : Feed) (mv : BitVec 16) : Statement (.startWindowExit f mv) := fun _ _ h => nomatch h
theorem vauxInRange (mv : BitVec 16) : Statement (.vauxInRange mv) := fun _ _ h => nomatch h
theorem hostLinkLeavesL0 (low : HostLinkLow) : Statement (.hostLinkLeavesL0 low) := fun _ _ h => nomatch h
theorem hostInterfaceReady : Statement .hostInterfaceReady := fun _ _ h => nomatch h
theorem ctrlResendTimer (dst : Node) : Statement (.ctrlResendTimer dst) := fun _ _ h => nomatch h
theorem wakePatternLimit (l : LinkNo) : Statement (.wakePatternLimit l) := fun _ _ h => nomatch h
theorem primerStoreReload (slot : BitVec 6) : Statement (.primerStoreReload slot) := fun _ _ h => nomatch h
theorem spillCopyBuilt (ring : Fin 2) : Statement (.spillCopyBuilt ring) := fun _ _ h => nomatch h
theorem frameBadCrc (l : LinkNo) (uncorrectable : Bool) : Statement (.frameBadCrc l uncorrectable) := fun _ _ h => nomatch h
theorem revocationAtGrantee (owner : Node) (grantId : BitVec 32) : Statement (.revocationAtGrantee owner grantId) :=
  fun _ _ h => nomatch h

end Sys2Proof.Laws.NoWord
end

