-- ==== Sys2Proof/Laws/Settle.lean ====
section
/-! SUPPORT. The end of a command's step: on a device where nothing is owed, it changes nothing. -/

namespace Sys2Proof.Machine

open Sys2Proof.Safety

theorem reactAll_nil (n : Nat) {s : State} (h : s.flt.react = []) : reactAll n s = s := by
  cases n with
  | zero => rfl
  | succ n => simp [reactAll, h]

/-- A DevLoad that is current stays (R408). -/
theorem devloadSet_current {s : State} (h : devloadNow s = s.qos.devload.toNat) : devloadSet s = s := by
  have e : BitVec.ofNat 2 (devloadNow s) = s.qos.devload := by rw [h]; simp
  unfold devloadSet
  dsimp only
  rw [e]
  refine if_neg (fun hd => ?_)
  apply hd.2.1
  apply BitVec.eq_of_toNat_eq
  rw [← h, hd.1]
  rfl

/-- On a calm device the end of a step changes nothing. -/
theorem settle_calm {s : State} (h : Calm s) : settle s = s := by
  unfold settle
  rw [devloadSet_current h.load, reactAll_nil 1024 h.react]
  simp [settleNow, h.settled]

theorem afterMig_quiet {s : State} (h : Quiet s) : afterMig s = s := by
  simp [afterMig, leaveGo, leaseReturns, consentCheck, mkeys, h.leave, h.borrows, h.consents]

theorem mget_mem {α : Type} {m : NMap α} {i : Nat} {v : α} (h : mget m i = some v) : (i, v) ∈ m := by
  induction m with
  | nil => cases h
  | cons x m ih =>
    obtain ⟨k, w⟩ := x
    unfold mget at h
    split at h
    · next e => cases h; cases e; exact List.mem_cons_self
    · split at h
      · cases h
      · exact List.mem_cons_of_mem _ (ih h)

theorem retireKey_none {s : State} (h : ∀ x ∈ s.xts.domains, x.2.old = none) (d : Nat) : retireKey s d = s := by
  have e : (domKeys s d).old = none := by
    unfold domKeys mgetD
    cases hm : mget s.xts.domains d with
    | none => rfl
    | some k => exact h _ (mget_mem hm)
  simp [retireKey, e]

theorem retireKeys_none {s : State} (h : ∀ x ∈ s.xts.domains, x.2.old = none) : retireKeys s = s := by
  unfold retireKeys
  generalize mkeys s.xts.domains = l
  induction l with
  | nil => rfl
  | cons d l ih => rw [List.foldl_cons, retireKey_none h d]; exact ih

theorem tagTablesGo_none {s : State} (h : s.chd.extents.all (fun e => !e.2.tagWait) = true) : tagTablesGo s = s := by
  unfold tagTablesGo
  rw [List.find?_eq_none.mpr]
  intro x hx
  have := List.all_eq_true.mp h x hx
  simp_all

theorem reqPass_nil {s : State} (h1 : s.coh.reqs = []) (h2 : s.coh.scopeOwed = []) : reqPass s = s := by
  have e : ({ s with coh := { s.coh with scopeOwed := [] } } : State) = s := by rw [← h2]
  unfold reqPass
  rw [h1]
  show scopeCheck s = s
  unfold scopeCheck
  rw [h2]
  exact e

theorem ownPass_quiet {s : State} (h1 : s.coh.txs = []) (h2 : s.coh.sink = []) (h3 : s.coh.pend = []) : ownPass s = s := by
  simp [ownPass, mkeys, h1, h2, h3]

theorem chd_waitNs_none {c : ChdState} (h : c.reserveWaitNs = none) : { c with reserveWaitNs := none } = c := by
  cases c
  cases h
  rfl

theorem spaceSettled_none {s : State} (h1 : s.chd.reserveWaitNs = none) (h2 : s.chd.reserveState ≠ 3) : spaceSettled none s = s := by
  unfold spaceSettled
  rw [h1]
  exact if_neg h2

theorem hostPass_nil {s : State} (h : s.coh.waitHost = []) : hostPass s = s := by
  unfold hostPass
  rw [h]
  rfl

theorem pump_quiet {s : State} (h : Quiet s) : pump s = s := by
  unfold pump
  have e : reqPass (dLanesGo s) = s := by
    rw [show dLanesGo s = s by simp [dLanesGo, h.decoding]]
    exact reqPass_nil h.reqs h.scope
  rw [e]
  dsimp only
  rw [chd_waitNs_none h.waitNs, h.waitNs]
  show hostPass (spaceSettled none (ownPass s)) = s
  rw [ownPass_quiet h.txs h.sink h.pend, spaceSettled_none h.waitNs h.reserve, hostPass_nil h.waitHost]

/-- On a quiet device the work at the end of a step changes nothing. -/
theorem work_quiet {s : State} (h : Quiet s) : work s = s := by
  rw [work, reactAll_nil 1024 h.calm.react, afterMig_quiet h, retireKeys_none h.oldKeys, tagTablesGo_none h.tables, pump_quiet h,
    settle_calm h.calm]

/-- A step that ends in `settle t` ends as `Ends` says. -/
theorem ends_of {c : Instr} {s t : State} (h : exec c s = .next (settle t)) : Ends c s t :=
  ⟨h, fun ht => by rw [h, settle_calm ht]⟩

/-- A step that ends in `work t` ends as `EndsWork` says. -/
theorem endsWork_of {c : Instr} {s t : State} (h : exec c s = .next (work t)) : EndsWork c s t :=
  ⟨h, fun ht => by rw [h, work_quiet ht]⟩

end Sys2Proof.Machine
end

