-- ==== Sys2Proof/Machine/Package.lean ====
section
/-! DEFINITION. The package (21): land names, the land map, fibre connectors, and what the device drives on its lands. -/

namespace Sys2Proof.Machine

/-! ### Names and regions -/

/-- The letters that name rows, in order (R10). -/
def landLetters : List Char :=
  ['A', 'B', 'C', 'D', 'E', 'F', 'G', 'H', 'J', 'K', 'L', 'M', 'N', 'P', 'T', 'U', 'V', 'W', 'Y']

/-- The letters of a row, 1 to 72 (R10). -/
def rowName (row : Nat) : List Char :=
  let nth := fun (i : Nat) => landLetters.getD i 'A'
  if row ≤ 19 then [nth (row - 1)]
  else if row ≤ 38 then ['A', nth (row - 20)]
  else if row ≤ 57 then ['B', nth (row - 39)]
  else ['C', nth (row - 58)]

/-- The name of a land (R10). -/
def landName (row col : Nat) : String := String.ofList (rowName row) ++ toString col

/-- The regions of the land map (R645). -/
inductive LandRegion where
  | ddrNorth
  | ddrSouth
  | vinA
  | vinAReturn
  | vinB
  | vinBReturn
  | pcie
  | management
  | coreReturn
deriving DecidableEq, Repr

/-- The region of a land (R645). -/
def landRegion (row col : Nat) : LandRegion :=
  if row ≤ 18 then .ddrNorth
  else if 55 ≤ row then .ddrSouth
  else if col ≤ 2 then .vinA
  else if col ≤ 4 then .vinAReturn
  else if 71 ≤ col then .vinB
  else if 69 ≤ col then .vinBReturn
  else if 21 ≤ col ∧ col ≤ 52 ∧ row ≤ 26 then .pcie
  else if 21 ≤ col ∧ col ≤ 52 ∧ row ≤ 30 then .management
  else .coreReturn

/-! ### Signals -/

/-- What a land carries (R645 to R648). A DDR-5 signal names its channel, and its subchannel where it has one: 0 is A, 1 is B. -/
inductive LandSignal where
  | vinA
  | vinB
  | gnd
  | vaux
  | rsvd
  | dq (c sub n : Nat)
  | cb (c sub n : Nat)
  | dqsT (c sub d : Nat)
  | dqsC (c sub d : Nat)
  | ca (c sub n : Nat)
  | csN (c sub n : Nat)
  | ckT (c sub n : Nat)
  | ckC (c sub n : Nat)
  | resetN (c : Nat)
  | alertN (c : Nat)
  | pwrEn (c pos : Nat)
  | hsa (c pos : Nat)
  | i3cScl (bus : Nat)
  | i3cSda (bus : Nat)
  | petP (n : Nat)
  | petN (n : Nat)
  | perP (n : Nat)
  | perN (n : Nat)
  | refclkP
  | refclkN
  | perst
  | wake
  | smbClk
  | smbDat
  | alertL
  | smbAddr (n : Nat)
  | dbgTck
  | dbgTms
  | dbgTdi
  | dbgTdo
deriving DecidableEq, Repr

/-- A land of a channel's block, by local row and column (R452, R646). -/
def ddrLand (c i j : Nat) : LandSignal :=
  let s := j / 6
  let t := j % 6
  if i ≤ 9 then
    (if t = 4 then .dqsT c s i else if t = 5 then .dqsC c s i else if i ≤ 7 then .dq c s (4 * i + t) else .cb c s (4 * (i - 8) + t))
  else if i = 11 then .ca c s t
  else if i = 12 then (if t ≤ 4 then .ca c s (6 + t) else .ca c s 11)
  else if i = 13 then (if t = 0 then .ca c s 12 else if t = 1 then .ca c s 13 else .csN c s (t - 2))
  else if i = 14 then
    (if t = 0 then .ckT c s 0 else if t = 1 then .ckC c s 0 else if t = 2 then .ckT c s 1 else if t = 3 then .ckC c s 1 else .gnd)
  else if i = 16 then
    if s = 0 then
      (if t = 0 then .resetN c else if t = 1 then .alertN c else if t ≤ 3 then .pwrEn c (t - 2) else .hsa c (t - 4))
    else if c % 2 = 0 then (if t = 0 then .i3cScl (c / 2) else if t = 1 then .i3cSda (c / 2) else .gnd)
    else .gnd
  else .gnd

/-- A land of the PCIe region (R647). -/
def pcieLand (row col : Nat) : LandSignal :=
  let n := (col - 21) / 2
  let second := (col - 21) % 2 == 1
  if row = 20 then (if second then .petN n else .petP n)
  else if row = 24 then (if second then .perN n else .perP n)
  else .gnd

/-- A land of the management region (R648). -/
def managementLand (row col : Nat) : LandSignal :=
  if row = 27 then
    if col = 21 then .refclkP
    else if col = 22 then .refclkN
    else if col = 24 then .perst
    else if col = 26 then .wake
    else if col = 28 then .smbClk
    else if col = 29 then .smbDat
    else if col = 30 then .alertL
    else if col = 32 then .smbAddr 0
    else if col = 33 then .smbAddr 1
    else if 35 ≤ col ∧ col ≤ 38 then .vaux
    else .gnd
  else if row = 28 then
    if col = 21 then .dbgTck
    else if col = 22 then .dbgTms
    else if col = 23 then .dbgTdi
    else if col = 24 then .dbgTdo
    else .gnd
  else if 41 ≤ col then .rsvd
  else .gnd

/-- What the land at a row and a column carries (R645 to R648). -/
def landSignal (row col : Nat) : LandSignal :=
  match landRegion row col with
  | .ddrNorth => ddrLand ((col - 1) / 12) (row - 1) ((col - 1) % 12)
  | .ddrSouth => ddrLand (6 + (col - 1) / 12) (72 - row) ((col - 1) % 12)
  | .vinA => .vinA
  | .vinB => .vinB
  | .pcie => pcieLand row col
  | .management => managementLand row col
  | .vinAReturn | .vinBReturn | .coreReturn => .gnd

/-! ### Fibres -/

/-- Where a link leaves the lid: its connector, the edge of that, its place there, and the fibre positions it transmits and receives
on (R301, R642, R643). -/
structure FibrePlace where
  engine : Nat
  connector : Nat
  edge : Nat
  position : Nat
  transmit : Nat
  receive : Nat
deriving DecidableEq, Repr

/-- The fibres of a link (R301, R642, R643). -/
def fibreOf (link : Nat) : FibrePlace where
  engine := link / 8
  connector := link / 16
  edge := link / 16 / 4
  position := link / 16 % 4
  transmit := link % 16 + 1
  receive := link % 16 + 17

/-! ### What the device drives (R649) -/

/-- The state of an output land. -/
inductive Drive where
  | released
  | low
  | high
  | held
  | hid (n : Nat)
deriving DecidableEq, Repr

/-- What the device drives on the lands whose state R649 gives: DDR-5 control lands outside the channel's training and service are
high impedance, or held at self-refresh levels by its keeper (R435, R597), PWR_EN follows the PMICs, HSA is R655's, WAKE# and ALERT_L are open drain. -/
def drives (s : State) : LandSignal → Option Drive
  | .resetN c | .csN c _ _ | .ca c _ _ =>
    if s.aon.custodyDdr.getLsbD c then some .held else if (ctl s c).pmic then none else some .released
  | .pwrEn c _ => some (if (ctl s c).pmic || s.aon.custodyDdr.getLsbD c then .high else .low)
  | .hsa c pos => some (match hsaHid s c pos with
    | some n => .hid n
    | none => .released)
  | .wake => some (if s.host.wake then .low else .released)
  | .alertL => some (if alertL s then .low else .released)
  | .petP _ | .petN _ => if s.host.termination then none else some .released
  | _ => none

/-- Are the lasers of a link lit (R349, R649)? -/
def lit (s : State) (link' : Nat) : Bool := (link s link').laser

end Sys2Proof.Machine
end

