-- ==== Sys2Proof/WellFormed.lean ====
section
/-! DEFINITION. Which terms of the syntax are commands that can reach the block: bounds the carriers of the fields keep. The
meanings are total and hold for every term; this file says which terms the outside can produce. -/

namespace Sys2Proof

/-- The steps of the boot sequence (R605). -/
def bootStepIds : List Nat :=
  [0x01, 0x02, 0x03, 0x04, 0x05, 0x06, 0x07, 0x08] ++ (List.range 12).map (0x10 + ·) ++ [0x20] ++
    (List.range 8).map (0x28 + ·) ++ [0x30, 0x31, 0x38]

/-- A mailbox payload fits the 65,536 B of the payload registers (R481). -/
def payloadFits (p : List Byte) : Bool := decide (p.length ≤ 65536)

/-- A SEC input fits the 16,384 B of its payload window (R522). -/
def secFits (p : List Byte) : Bool := decide (p.length ≤ 16384)

/-- The blocks a command's DMA reads are 1 KiB each (R6). -/
def blocksFit (bs : List (List Byte)) : Bool := bs.all (fun b => b.length == 1024)

/-- A member state code is defined (R317, R339). -/
def memberCodeOk (c : BitVec 4) : Bool := decide (c.toNat ≤ 7)

/-- Is a term a command the outside can send? -/
def Instr.wf : Instr → Bool
  | .imageStageBegin p => payloadFits p
  | .imageStageData p => payloadFits p
  | .imageStageCommit p => payloadFits p
  | .imageStageAbort p => payloadFits p
  | .queueCreate p => payloadFits p
  | .queueDelete p => payloadFits p
  | .execEntry p bs _ => payloadFits p && blocksFit bs
  | .transferFw _ _ _ d => payloadFits d
  | .primerEval _ _ bs _ => blocksFit bs
  | .sqTail _ _ es => decide (es.length ≤ 65536)
  | .challenge p => secFits p
  | .enrol p => secFits p
  | .release p => secFits p
  | .keySupply p => secFits p
  | .transportKey p => secFits p
  | .svnRaise p => secFits p
  | .buddyPair p => secFits p
  | .info p => secFits p
  | .dimmTempRead ts => ts.length == 24
  | .bootStepEnd st _ _ => bootStepIds.contains st.toNat
  | .heartbeat _ _ _ st _ _ => memberCodeOk st
  | .routeMember _ r => memberCodeOk r.state
  | .joinAccept _ _ st _ part parts rs => memberCodeOk st && decide (part < parts) && rs.all (fun r => memberCodeOk r.state)
  | .registerWrite off wide _ => if wide then off.toNat % 8 == 0 else off.toNat % 4 == 0
  | _ => true

end Sys2Proof
end

