-- ==== Sys2Proof/Tests/Slice0.lean ====
section
/-! SUPPORT. The model's own tests: a witness for every case of every statement that has hypotheses (`wit_…`), the worked examples
of the manual (`test_…`), and an ill-formed term for each check of WellFormed, which the check refuses. -/

namespace Sys2Proof.Tests

open Sys2Proof.Machine
open Sys2Proof.Safety

set_option Elab.async false

/-- The state after reset, the one the small states of these tests start from. -/
abbrev base : State := State.reset

/-- A controller put into a state after reset. -/
abbrev withCtl (n : Nat) (f : MemCtl → MemCtl) : State := modCtl base n f

/-- A read of a label at a controller. -/
def aRead (label : Nat) : MemReq := ⟨0, .fabric, label, label, false, .podRead 5 0 0 0 label, 0, 0, 1000, false, 64, none⟩

/-- A write of a label at a controller. -/
def aWrite (label : Nat) : MemReq := ⟨1, .fabric, label, label, true, .podWrite, 64, 0, 1000, false, 64, some 1⟩

/-- A scheduler that holds one request. -/
def oneOf {α : Type} (x : α) (label : Nat) : Wfq α := ⟨0, [], [⟨x, label, 1, true⟩]⟩

/-- Nothing waits on a device, as one decision. -/
def quietB (s : State) : Bool :=
  (s.flt.react.isEmpty && !s.boot.settleLater && devloadNow s == s.qos.devload.toNat) &&
    (s.coh.txs.isEmpty && s.coh.sink.isEmpty && s.coh.pend.isEmpty && s.coh.reqs.isEmpty && s.coh.scopeOwed.isEmpty &&
      s.coh.waitHost.isEmpty && s.cmp.dWait.isEmpty) &&
    (s.xts.domains.all (fun x => x.2.old.isNone) && s.chd.extents.all (fun e => !e.2.tagWait) && !s.fab.leave &&
      s.chd.borrows.isEmpty && s.fab.consentOwed.isEmpty && s.chd.reserveWaitNs.isNone && s.chd.reserveState != 3)

theorem quiet_of {s : State} (h : quietB s = true) : Quiet s := by
  simp only [quietB, Bool.and_eq_true, List.isEmpty_iff, Option.isNone_iff_eq_none, bne_iff_ne, ne_eq, Bool.not_eq_true',
    beq_iff_eq] at h
  obtain ⟨⟨⟨⟨h1, h2⟩, h3⟩, ⟨⟨⟨⟨⟨⟨h4, h5⟩, h6⟩, h7⟩, h8⟩, h9⟩, h10⟩⟩, ⟨⟨⟨⟨⟨⟨h11, h12⟩, h13⟩, h14⟩, h15⟩, h16⟩, h17⟩⟩ := h
  refine ⟨⟨h1, h2, h3⟩, h4, h5, h6, h7, h8, h9, h10, ?_, h12, h13, h14, h15, h16, h17⟩
  intro x hx
  exact Option.isNone_iff_eq_none.mp (List.all_eq_true.mp h11 x hx)

/-- An accepted extent of the first 2 MiB of the window. -/
def anExtent : Extent := ⟨0, 1, 0, 0, ⟨0, 0, false, 0, 0⟩, none, .accepted, false, false, 0, 0, 0⟩

/-- The state after reset with extents. -/
abbrev withExtents (es : NMap Extent) : State := { base with chd := { base.chd with extents := es } }

/-- A Plain page at frame 1. -/
def plainPage : Page := ⟨mkDesc tierPlain false 0 false false false false 0 1 0 0, 9, 0, 0, false⟩

/-- A migration of page 0 whose blocks are all copied. -/
def aMig (phase : MigPhase) : Mig where
  kind := .pack
  phase := phase
  pass := 1
  dirty := 0
  src := plainPage.desc
  dstTier := tierPacked
  dstLoc := 0
  dstNode := 0
  dstPods := 64
  blocks := List.replicate 4 (.done 16 0)
  waiting := 0
  sent := []
  resend := []
  images := []
  failedFreezes := 0
  abortPending := false
  openSeq := 1
  drawn := 0
  kgen := false
  domain := 0
  primer := 0
  sourcePrimer := 0
  slots := []
  hint := none

/-- The state after reset with a migration of page 0. -/
abbrev withMig (m : Mig) : State :=
  { base with chd := { base.chd with extents := [(0, anExtent)], pages := [(0, plainPage)], migs := [(0, m)] } }
/-- A command entry with values at byte offsets. -/
def anEntry (fs : List (Nat × Nat)) : Line := BitVec.ofNat 512 ((fs.map (fun f => f.2 * 2 ^ (8 * f.1))).sum)

/-- The state after reset with the host interface open. -/
abbrev opened : State := { base with host := { base.host with infoValid := true, memActive := true } }

/-- The same with extents. -/
abbrev openedWith (es : NMap Extent) : State := { opened with chd := { base.chd with extents := es } }

/-- A host queue. -/
def aQueue (admin : Bool) : Queue := ⟨0, admin, 4, 4, 0, 0, 0, 0, 0, 0, true, false, false, [], []⟩

/-! ### Witnesses: the memory controllers -/

theorem wit_MemoryRefresh_postponed : ∃ (s : State) (n : Fin 16) (r : Fin 4),
    ((ctl s n.val).st = .active ∨ (ctl s n.val).st = .powerDown) ∧
    (ctl s n.val).rq.any (fun q => rankOf s n.val q.addr == r.val && decide (2 ≤ urgency s.clockNs q)) = true ∧
    (ctl s n.val).postponed.getD r.val 0 < (ctl s n.val).postponeMax :=
  ⟨{ withCtl 15 (fun c => { c with st := .active, rq := [aRead 1] }) with clockNs := 1000000 }, 15, 0, by decide⟩

theorem wit_MemoryRefresh_done : ∃ (s : State) (n : Fin 16) (r : Fin 4),
    ((ctl s n.val).st = .active ∨ (ctl s n.val).st = .powerDown) ∧
    (ctl s n.val).postponeMax ≤ (ctl s n.val).postponed.getD r.val 0 :=
  ⟨withCtl 11 (fun c => { c with st := .powerDown, postponed := [0, 0, 0, 5], postponeMax := 5 }), 11, 3, by decide⟩

theorem wit_MemoryRefresh_mr4 : ∃ (s : State) (c : Fin 12), ctlServes (ctl s c.val) = true ∧ (ctl s c.val).rate = 2 ∧
    channelOut s c.val = false :=
  ⟨withCtl 11 (fun c => { c with st := .active, rate := 2 }), 11, by decide⟩

theorem wit_MemoryRefresh_mr4_first : ∃ (s : State) (c : Fin 12), ctlServes (ctl s c.val) = true ∧ (ctl s c.val).rate ≠ 2 :=
  ⟨withCtl 0 (fun c => { c with st := .powerDown }), 0, by decide⟩

theorem wit_MemoryRefresh_powerDown : ∃ (s : State) (n : Fin 16) (r : Fin 4),
    (ctl s n.val).st = .active ∧ (ctl s n.val).pdIdleNs ≠ 0 ∧ r.val < (if n.val < 12 then 2 ^ chanRankBits s n.val else 1) ∧
    (ctl s n.val).ranksDown.getLsbD r.val = false ∧
    ((ctl s n.val).rq ++ (ctl s n.val).wq).any (fun q => rankOf s n.val q.addr == r.val) = false :=
  ⟨withCtl 12 (fun c => { c with st := .active }), 12, 0, by decide⟩

theorem wit_MemoryRefresh_selfRefresh : ∃ (s : State) (n : Fin 16), ((ctl s n.val).st = .active ∨ (ctl s n.val).st = .powerDown) ∧
    (ctl s n.val).srIdleUs ≠ 0 ∧ (ctl s n.val).rq = [] ∧ (ctl s n.val).wq = [] ∧ (ctl s n.val).flight = [] ∧
    (ctl s n.val).sched.items = [] :=
  ⟨withCtl 3 (fun c => { c with st := .active, srIdleUs := 1 }), 3, by decide⟩

theorem wit_MemoryQueues_admitRead : ∃ (s : State) (n : Fin 16) (x : Queued MemReq) (q : Wfq MemReq), NoneDue s n.val ∧
    (ctl s n.val).st = .active ∧ (ctl s n.val).upstream = [] ∧
    (ctl s n.val).ranksDown.getLsbD (rankOf s n.val x.item.addr) = false ∧ (ctl s n.val).rq.length < 64 ∧
    wfqPick (ctl s n.val).sched (labelRt s) (fun _ => false) (fun r => r.write == false) (fun _ => 0) = some (x, q) ∧
    x.item.write = false ∧ (∀ key, x.item.use ≠ .homeWrite key) ∧ (ctl s n.val).wq.any (sameLine x.item) = false :=
  ⟨withCtl 0 (fun c => { c with st := .active, sched := oneOf (aRead 1) 1 }), 0, ⟨aRead 1, 1, 1, true⟩, _,
    by unfold NoneDue; decide, by decide, by decide, by decide, by decide, rfl, by decide, (fun _ h => by cases h), by decide⟩

theorem wit_MemoryQueues_admitWrite : ∃ (s : State) (n : Fin 16) (x : Queued MemReq) (q : Wfq MemReq), NoneDue s n.val ∧
    (ctl s n.val).st = .active ∧ (ctl s n.val).upstream = [] ∧
    (ctl s n.val).ranksDown.getLsbD (rankOf s n.val x.item.addr) = false ∧ (ctl s n.val).wq.length < 64 ∧
    wfqPick (ctl s n.val).sched (labelRt s) (fun _ => false) (fun r => r.write == true) (fun _ => 0) = some (x, q) ∧
    x.item.use = .podWrite ∧ (ctl s n.val).wq.any (sameLine x.item) = false :=
  ⟨withCtl 15 (fun c => { c with st := .active, sched := oneOf (aWrite 13) 13 }), 15, ⟨aWrite 13, 13, 1, true⟩, _,
    by unfold NoneDue; decide, by decide, by decide, by decide, by decide, rfl, by decide, by decide⟩

theorem wit_MemoryQueues_issueRead : ∃ (s : State) (n : Fin 16) (r : MemReq), NoneDue s n.val ∧ ctlServes (ctl s n.val) = true ∧
    (ctl s n.val).draining = false ∧ nextRead s n.val (ctl s n.val) [] = some r ∧ r.write = false ∧ (ctl s n.val).rq ≠ [] :=
  ⟨withCtl 0 (fun c => { c with st := .active, rq := [aRead 1] }), 0, aRead 1, by unfold NoneDue; decide, by decide⟩

theorem wit_MemoryQueues_issueWrite : ∃ (s : State) (n : Fin 16) (r : MemReq), NoneDue s n.val ∧ ctlServes (ctl s n.val) = true ∧
    (ctl s n.val).draining = true ∧ (ctl s n.val).drained < (ctl s n.val).drainBurst ∧
    nextWrite s n.val (ctl s n.val) [] = some r ∧ r.write = true :=
  ⟨withCtl 15 (fun c => { c with st := .active, wq := [aWrite 1], draining := true, drained := 7 }), 15, aWrite 1,
    by unfold NoneDue; decide, by decide, by decide, by decide, rfl, rfl⟩

theorem wit_MemoryQueues_return : ∃ (s : State) (n : Fin 16) (r : MemReq) (rest : List MemReq) (res : ReturnResult) (tag : Tag)
    (pod off : Nat) (vers : BitVec 16) (label : Nat), (ctl s n.val).flight = r :: rest ∧ r.use = .podRead tag pod off vers label ∧
    res.errors.getD 0 0 = 0 ∧ markedMedia s n.val r.addr = false ∧
    Quiet (respondData (setCtl s n.val { ctl s n.val with flight := rest }) 1 tag label false false false false true vers.toNat off
      (mgetD s.fab.lentPods (podKey (tagSource tag) pod) 0)) :=
  ⟨withCtl 0 (fun c => { c with st := .active, flight := [aRead 1] }), 0, aRead 1, [], ⟨[], true, true, .ok⟩, 5, 0, 0, 0, 1,
    by decide, rfl, rfl, by decide, quiet_of (by decide)⟩

theorem wit_ErrorBuckets_scrub : ∃ (s : State) (n : Fin 16) (line : BitVec 42), scrubRuns s n.val = true ∧
    s.clockNs ≤ mgetD s.ecc.passStartNs n.val 0 + 2 * scrubPeriod s n.val ∧
    mgetD s.ecc.scrubbed n.val 0 + 1 < scrubTotal s n.val ∧ (∀ dev : Fin 10,
    (mgetD s.ecc.buckets (bucketNo s n.val (64 * line.toNat) dev.val) 0).toNat + 1 < s.ecc.threshold.toNat) ∧
    scrubOutcome s n.val line.toNat 0 = .clean ∧ scrubOutcome s n.val line.toNat 0x80 = .corrected 0 :=
  ⟨withCtl 15 (fun c => { c with st := .active }), 15, 0, by decide +kernel, by decide +kernel, by decide +kernel, by decide +kernel,
    by decide +kernel, by decide +kernel⟩

/-- A DDR-5 burst with one bit of device 7 wrong is corrected, and blamed on that device (R452). -/
theorem wit_ErrorBuckets_ddr : scrubOutcome (withCtl 0 (fun c => { c with st := .active })) 0 5 ((1 : BitVec 640) <<< 639) = .corrected 7 := by
  decide +kernel

theorem wit_MemSched_takes : ∃ (s : State) (n : Fin 16) (v : Word), bits v.toNat 7 0 ≤ 63 ∧ bits v.toNat 7 0 + 1 ≤ bits v.toNat 15 8 ∧
    bits v.toNat 15 8 ≤ 64 ∧ 1 ≤ bits v.toNat 23 16 ∧ bits v.toNat 23 16 ≤ 64 ∧
    memLocked s n.val 6 = false ∧ memLocked s n.val 7 = false ∧ memLocked s n.val 8 = false :=
  ⟨base, 0, 0x40403F, by decide⟩

theorem wit_MemSched_ignored : 63 < bits (0x404040 : Word).toNat 7 0 ∧ bits (0x400000 : Word).toNat 15 8 < 0 + 1 ∧
    64 < bits (0x404100 : Word).toNat 15 8 ∧ bits (0x004000 : Word).toNat 23 16 = 0 ∧ 64 < bits (0x414000 : Word).toNat 23 16 := by
  decide

/-- A channel in training whose helpers were set up. -/
abbrev trained (t : MemTrn) : State := setTrn (withCtl 11 (fun c => { c with st := .training })) 11 t

theorem wit_MemTrn_starts : (ctl (trained MemTrn.init) 11).st = .training ∧
    (trn (trained { MemTrn.init with destructive := true }) 11).busy = false ∧
    (trn (trained { MemTrn.init with destructive := true }) 11).destructive = true ∧
    (trn (trained { MemTrn.init with pattern := 6 }) 11).target ≠ 2 ∧ (trn (trained { MemTrn.init with pattern := 6 }) 11).pattern = 6 ∧
    (trn (trained MemTrn.init) 11).destructive = false ∧ (trn (trained MemTrn.init) 11).pattern ≠ 6 ∧
    (trn (trained { MemTrn.init with target := 2, pattern := 6 }) 11).target = 2 ∧
    (trn (trained { MemTrn.init with busy := true }) 11).busy = true := by decide

theorem wit_MemoryRefresh_pmic : ∃ (s : State) (c : Fin 12), channelOut s c.val = false := ⟨withCtl 11 (fun c => { c with st := .active }), 11, by decide⟩

/-! ### Witnesses: placement, migration, journal -/

theorem wit_EpochStart : ∃ s : State, s.aon.st = .run ∧ s.chd.passRunning = false ∧ s.host.memActive = true ∧
    (s.chd.epochStartNs + globalPolicy s 9 * 1000000 ≤ s.clockNs ∨ s.chd.epochStartNs = 0) ∧ (s.chd.epoch + 1).toNat % 64 ≠ 0 ∧
    walkOrder s ≠ [] :=
  ⟨{ setPage (withExtents [(0, anExtent)]) 511 plainPage with host := { base.host with memActive := true } }, by decide +kernel⟩

theorem wit_WalkerPage : ∃ (s : State) (p : PageNo) (x : Nat × Nat), s.aon.st = .run ∧ s.chd.passRunning = true ∧
    walkNext s = some x ∧ x.2 = p.toNat ∧ dTier (page s p.toNat).desc ≠ tierNone :=
  ⟨setPage { withExtents [(0, anExtent)] with chd := { (withExtents [(0, anExtent)]).chd with passRunning := true } } 511 plainPage,
    511, (0, 511), by decide +kernel⟩

theorem wit_BucketRefill : base.aon.st = .run ∨ base.aon.st = .doze := by decide

theorem wit_MigrationStart : ∃ (s u : State) (k : MigKind) (p : PageNo) (r tier loc node pods : Nat),
    s.aon.st = .run ∧ workRank s k p.toNat = some r ∧ mayStart s k r = true ∧ budgetOk s k (page s p.toNat).desc r = true ∧ outranked s r = false ∧
    sleepingRow s k p.toNat = none ∧ reserveDst s p.toNat k = some (tier, loc, node, pods, u) := by
  let s : State := setPage { base with chd := { base.chd with
    extents := [(0, { anExtent with attrs := ⟨0, 0, true, 0, 0⟩ })], refold := [0], mirror := .mirrored } } 0 plainPage
  refine ⟨s, s, .mirrorAdd, 0, 100, tierPlain, 1, 0, 0, by decide +kernel, by decide +kernel, by decide +kernel, by decide +kernel, by decide +kernel,
    by decide +kernel, by decide +kernel⟩

theorem wit_MigrationPassEnd_freezes : ∃ (s : State) (p : PageNo) (m : Mig), s.aon.st = .run ∧ mget s.chd.migs p.toNat = some m ∧
    passReady s p.toNat m = true ∧ pageMedia s p.toNat = 0 ∧ m.dirty = 0 ∧ dirtyCount m.dirty ≤ 1 :=
  ⟨withMig (aMig .passing), 0, aMig .passing, rfl, rfl, by decide +kernel, by decide +kernel, rfl, by decide⟩

theorem wit_MigrationPassEnd_again : ∃ (s : State) (p : PageNo) (m : Mig), s.aon.st = .run ∧ mget s.chd.migs p.toNat = some m ∧
    passReady s p.toNat m = true ∧ pageMedia s p.toNat = 0 ∧ 2 ≤ dirtyCount m.dirty ∧ m.pass < 8 ∧
    spaceState (returnBudget (clearPageMedia s p.toNat) p.toNat m) ≠ 2 ∧ m.dirty ≠ 0 :=
  ⟨withMig { aMig .passing with dirty := 3, pass := 7 }, 0, { aMig .passing with dirty := 3, pass := 7 }, rfl, rfl,
    by decide +kernel, by decide +kernel, by decide +kernel, by decide +kernel, by decide +kernel, by decide +kernel⟩

theorem wit_FreezeTimeout_back : ∃ (s : State) (p : PageNo) (m : Mig), s.aon.st = .run ∧ mget s.chd.migs p.toNat = some m ∧
    m.phase = .frozen ∧ m.abortPending = false ∧ m.failedFreezes < 3 :=
  ⟨withMig { aMig .frozen with failedFreezes := 2 }, 0, { aMig .frozen with failedFreezes := 2 }, rfl, rfl, rfl, rfl, by decide⟩

theorem wit_FreezeTimeout_aborts : ∃ (s : State) (p : PageNo) (m : Mig), s.aon.st = .run ∧ mget s.chd.migs p.toNat = some m ∧
    m.phase = .frozen ∧ m.abortPending = false ∧ 3 ≤ m.failedFreezes :=
  ⟨withMig { aMig .frozen with failedFreezes := 3 }, 0, { aMig .frozen with failedFreezes := 3 }, rfl, rfl, rfl, rfl, by decide⟩

theorem wit_MigrationCommit : ∃ (s : State) (p : PageNo) (m : Mig), s.aon.st = .run ∧ mget s.chd.migs p.toNat = some m ∧
    m.phase = .frozen ∧ writesUnderWay s p.toNat = false ∧ mhas s.chd.evicts p.toNat = false ∧ pageFetching s p.toNat = false ∧
    m.waiting = 0 ∧ (migBlens m).isSome = true ∧ m.dirty = 0 :=
  ⟨withMig (aMig .frozen), 0, aMig .frozen, rfl, rfl, rfl, by decide +kernel, by decide +kernel, by decide +kernel, rfl,
    by decide +kernel, rfl⟩

/-- The state after reset with a changed journal ring 1. -/
abbrev withRing (f : Ring → Ring) : State := { base with chd := { base.chd with ring1 := f Ring.empty } }

theorem wit_Checkpoint : ∃ (s : State) (r : Fin 2) (t : Nat), (ring s r.val).firstAfterNs = some t ∧
    (ring s r.val).recs.filter (recNeeded s r.val) = [] ∧
    (ring s r.val).recs.filter (fun x => latestKept s (ring s r.val) x && !recNeeded s r.val x) = [] :=
  ⟨withRing (fun g => { g with firstAfterNs := some 0, recs := [{ plainRec 0x02 0 0 with seq := 1 }], nextSeq := 2 }), 1, 0,
    by decide +kernel⟩

theorem wit_Checkpoint_none : (ring base 0).firstAfterNs = none := rfl

theorem wit_TranslationWriteback : ∃ (s : State) (quad : BitVec 34) (l k : TcLine), mget s.chd.tc quad.toNat = some l ∧
    cleanerDue s l = true ∧ cleanerDue s k = false :=
  ⟨{ base with clockNs := 100000000, chd := { base.chd with tc := [(2, ⟨some 0, none, none, []⟩)] } }, 2, ⟨some 0, none, none, []⟩,
    ⟨some 1, none, none, []⟩, by decide +kernel⟩

theorem wit_SpillCopyBuilt : ∃ (s u : State) (r : Fin 2), (ring s r.val).spillBuilding = true ∧ s.coh.sliceUnknown ≠ 0 ∧
    (ring u r.val).spillBuilding = true ∧ u.coh.sliceUnknown = 0 ∧ (ring u (1 - r.val)).spillBuilding = false :=
  ⟨{ withRing (fun g => { g with spillBuilding := true }) with coh := { base.coh with sliceUnknown := 8 } },
    withRing (fun g => { g with spillBuilding := true }), 1, by decide +kernel⟩

/-- A block of the near cache with one line of its own owner. -/
def aBlock (dirty : Bool) : NcBlock := ⟨[(15, ⟨5, false, dirty, .m, .i, false, false, true⟩)], false, 0⟩

theorem wit_NearCacheEviction_own : ∃ (o : Node) (block : BitVec 38) (s u : State) (b c : NcBlock), o.toNat = myNode s ∧
    mget s.coh.near (blockKey o.toNat block.toNat) = some b ∧ (b.lines.any (fun l => l.2.dirty)) = false ∧ o.toNat = myNode u ∧
    mget u.coh.near (blockKey o.toNat block.toNat) = some c ∧ (c.lines.any (fun l => l.2.dirty)) = true ∧ c.evicting = false ∧
    pageFrozen u (block.toNat / 4) = false ∧ mhas u.chd.evicts (block.toNat / 4) = false ∧ (page u (block.toNat / 4)).fenced = false ∧
    thawDue u (block.toNat / 4) c.label = false :=
  ⟨0, 3, { base with coh := { base.coh with near := [(3, aBlock false)] } }, { base with coh := { base.coh with near := [(3, aBlock true)] } },
    aBlock false, aBlock true, by decide +kernel, by decide +kernel, by decide, by decide +kernel, by decide +kernel, by decide, by decide, by decide +kernel,
    by decide +kernel, by decide +kernel, by decide +kernel⟩

theorem wit_NearCacheEviction_other : ∃ (s : State) (o : Node) (block : BitVec 38) (b : NcBlock) (i : Nat) (l : NcLine),
    o.toNat ≠ myNode s ∧ mget s.coh.near (blockKey o.toNat block.toNat) = some b ∧ b.lines = [(i, l)] ∧
    mhas s.coh.reqs (lineKey o.toNat (16 * block.toNat + i)) = false ∧
    mhas s.coh.hostSnoops (lineKey o.toNat (16 * block.toNat + i)) = false :=
  ⟨{ base with coh := { base.coh with near := [(2 ^ 38, aBlock true)] } }, 1, 0, aBlock true, 15, ⟨5, false, true, .m, .i, false, false, true⟩,
    by decide +kernel, by decide +kernel, by decide +kernel, by decide +kernel, by decide +kernel⟩

theorem wit_Waits : ∃ (s : State) (t : Nat), s.chd.reserveWaitNs = some t ∧ s.chd.reserveState ≠ 3 ∧ s.chd.leaseWantedNs = some t :=
  ⟨{ base with chd := { base.chd with reserveWaitNs := some 7, leaseWantedNs := some 7 } }, 7, rfl, by decide, rfl⟩

/-! ### Witnesses: compression and images -/

/-- A block that starts with a byte 1 and is zero after it. -/
def oneBlock : List Byte := 1 :: List.replicate 1023 0

/-- A job of an evaluation. -/
def evalJob : Job := ⟨.eval .mailbox 0, [63], [], 14, oneBlock⟩

/-- The state after reset with a job in compressor lane 15. -/
abbrev withLane : State := { base with cmp := { base.cmp with lanes := [(15, evalJob)] } }

theorem wit_CompressionLanes_result : ∃ (s : State) (i : Fin 16) (slot : BitVec 6) (label : Nat) (data : List Byte) (src : CmdSrc)
    (k : Nat), mget s.cmp.lanes i.val = some ⟨.eval src k, [slot], [], label, data⟩ ∧
    ∃ a b, compressBlock (primerOf s slot.toNat) data = .packed a b := by
  refine ⟨withLane, 15, 63, 14, oneBlock, .mailbox, 0, rfl, ?_⟩
  have h : (match compressBlock (primerOf withLane 63) oneBlock with
    | .packed _ _ => true
    | _ => false) = true := by decide +kernel
  change ∃ a b, compressBlock (primerOf withLane 63) oneBlock = .packed a b
  generalize compressBlock (primerOf withLane 63) oneBlock = r at h ⊢
  cases r with
  | packed a b => exact ⟨a, b, rfl⟩
  | zero => cases h
  | nogain => cases h
  | verifyFail => cases h

/-- A block on its way to a decompressor lane, with its job in lane 31. -/
abbrev withDLane : State := { base with cmp := { base.cmp with dLanes := [(31, ⟨.fill 5 1, []⟩)] } }

theorem wit_LaneTimeout : ∃ (s u : State) (i : Fin 16) (k : Fin 32) (j : Job) (d : DJob), s.cmp.cFenced.getLsbD i.val = false ∧
    mget s.cmp.lanes i.val = some j ∧ u.cmp.dFenced.getLsbD k.val = false ∧ mget u.cmp.dLanes k.val = some d ∧
    mget s.cmp.dLanes k.val = none :=
  ⟨withLane, withDLane, 15, 31, evalJob, _, by decide, rfl, by decide, rfl, rfl⟩

/-- The image in force changed. -/
abbrev withImg (f : Img → Img) : State := { base with img := { base.img with active := f Img.default } }

theorem wit_PrimerRetire : ∃ (s u : State) (n : BitVec 6), (mget s.img.active.primers n.toNat).isSome = true ∧ slotUse s n.toNat ≠ 0 ∧
    (mget u.img.active.primers n.toNat).isSome = true ∧ slotUse u n.toNat = 0 ∧ u.cmp.retire.getLsbD n.toNat = false :=
  ⟨setPage (withImg (fun i => { i with primers := [(63, ⟨[], []⟩)] })) 0
      { plainPage with desc := mkDesc tierPacked false 63 false false false false 1 0 0 0 },
    withImg (fun i => { i with primers := [(63, ⟨[], []⟩)] }), 63, by decide +kernel⟩

/-- A device that serves its mailbox. -/
abbrev served : State := { base with host := { base.host with infoValid := true } }

theorem serves_served : Serves served := ⟨rfl, by decide⟩

theorem wit_StageBegin_busy : ∃ s u : State, s.host.infoValid = true ∧ s.img.stage = .receiving ∧ u.img.refoldActive = true ∧
    (natLe 4 16).length = 4 :=
  ⟨{ served with img := { base.img with stage := .receiving } }, { served with img := { base.img with refoldActive := true } }, by decide⟩

theorem wit_StageBegin_rest : served.img.stage ≠ .receiving ∧ served.img.stage ≠ .verifying ∧ served.img.refoldActive = false ∧
    field (natLe 4 0) 0 4 = 0 ∧ field (natLe 4 17) 0 4 % 16 ≠ 0 ∧ 16777216 < field (natLe 4 16777232) 0 4 ∧
    field (natLe 4 16777216) 0 4 = 16777216 ∧ 16777216 % 16 = 0 := by decide

/-- A device that receives an image of 16 bytes. -/
abbrev receiving : State := { served with img := { base.img with stage := .receiving, declared := 16 } }

theorem wit_StageData : ∃ p q : List Byte, 16 ≤ p.length ∧ p.length = 16 + field p 4 4 ∧ field p 4 4 ≠ 0 ∧ allZero p 8 8 = true ∧
    field p 0 4 + field p 4 4 ≤ receiving.img.declared ∧ 16 ≤ q.length ∧ q.length = 16 + field q 4 4 ∧ field q 4 4 ≠ 0 ∧
    allZero q 8 8 = true ∧ receiving.img.declared < field q 0 4 + field q 4 4 :=
  ⟨natLe 4 15 ++ natLe 4 1 ++ natLe 8 0 ++ [7], natLe 4 16 ++ natLe 4 1 ++ natLe 8 0 ++ [7], by decide⟩

theorem wit_StageCommitAbort : receiving.img.stage = .receiving ∧ receiving.host.background = none ∧
    ({ served with img := { base.img with stage := .verifying } } : State).img.stage = .verifying := by decide

theorem wit_ImageVerify : ∃ s : State, s.img.stage = .verifying ∧ s.img.verified = none :=
  ⟨{ served with img := { base.img with stage := .verifying } }, by decide⟩

theorem wit_CommitPoint : ∃ (s : State) (i : Img), s.img.verified = some i :=
  ⟨{ served with img := { base.img with verified := some Img.default } }, Img.default, rfl⟩

/-! ### Witnesses: host commands and extents -/

/-- A COLD hint for the first page of the window. -/
def hintEntry : Line := anEntry [(0, 4), (0x10, 1), (0x14, 2)]

theorem wit_CommandGate_invalid : fenceHolds base .mailbox 0 = false ∧ gate base .mailbox 0 = some stInvalid ∧ entryValid 0 = false := by
  decide +kernel

theorem wit_CommandGate_denied : ∃ (s : State) (src : CmdSrc) (e : Line), fenceHolds s src e = false ∧ gate s src e = some stDenied ∧
    entryValid e = true ∧ userQueue s src = true ∧ userMay e = false :=
  ⟨{ opened with host := { opened.host with queues := [(1023, aQueue false)] } }, .queue 1023 0, anEntry [(0, 4), (0x10, 1), (0x14, 3)],
    by decide +kernel⟩

theorem wit_CommandGate_busy : fenceHolds served .mailbox hintEntry = false ∧ gate served .mailbox hintEntry = some 0x03 ∧
    entryValid hintEntry = true ∧ userQueue served .mailbox = false ∧ served.host.memActive = false := by
  decide +kernel

theorem runs_of {s : State} {src : CmdSrc} {e : Line} (h : (fenceHolds s src e, gate s src e) = (false, none)) : Runs s src e :=
  ⟨congrArg Prod.fst h, congrArg Prod.snd h⟩

/-- An EXTENT_ADD of a length at the start of the window. -/
def addEntry (len : Nat) : Line := anEntry [(0, 1), (0x10, len)]

theorem wit_ExtentAdd_refused : ∃ (s : State) (src : CmdSrc) (e : Line) (st : Nat), Runs s src e ∧
    addCheck (active s) (addArgs e) = .error st :=
  ⟨opened, .mailbox, addEntry 0, stInvalid, runs_of (by decide +kernel), by decide +kernel⟩

theorem freeIndex_none {s : State} (h : s.chd.extents = []) (h0 : s.chd.ring0.recs = []) (h1 : s.chd.ring1.recs = []) :
    ∃ i, freeIndex s = some i := by
  refine ⟨choice s 1 65536, ?_⟩
  have : choice s 1 65536 < 65536 := Nat.mod_lt _ (by decide)
  obtain ⟨k, hk⟩ : ∃ k, min (65536 - choice s 1 65536) 1 = k + 1 := ⟨0, by omega⟩
  simp [freeIndex, firstRound, indexFree, indexNamed, h, h0, h1, hk, firstFrom, mhas, mget]

theorem wit_ExtentAdd_offers : ∃ (s : State) (src : CmdSrc) (e : Line) (start i : Nat) (t : Attrs), Runs s src e ∧
    addCheck (active s) (addArgs e) = .ok start ∧ (addArgs e).shared = false ∧ freeIndex (active s) = some i ∧
    resolveTag (active s) (addArgs e).tag = some t ∧ t.mirrored = false := by
  obtain ⟨i, hi⟩ := freeIndex_none (s := active opened) rfl rfl rfl
  exact ⟨opened, .mailbox, addEntry 1, 0, i, ⟨0, 0, false, 0, 0⟩, runs_of (by decide +kernel), by decide +kernel, by decide +kernel, hi,
    by decide +kernel, rfl⟩

/-- An open device of a pool of two whose default tag is Mirrored, with its buddy in service. -/
abbrev buddied : State :=
  let i := { Img.default with basic := { Basic.default with columns := 2, defaultDurability := 1, buddyNode := 1 } }
  { opened with
    img := { base.img with active := i, geom := i, pool := i, restart := i }
    fab := { base.fab with members := [(1, { Member.zero with state := .inService })] }
    sec := { base.sec with pairing := .confirmed } }

theorem wit_ExtentAdd_mirrored : ∃ (s : State) (src : CmdSrc) (e : Line) (start i : Nat) (t : Attrs) (b : Nat), Runs s src e ∧
    addCheck (active s) (addArgs e) = .ok start ∧ (addArgs e).shared = false ∧ freeIndex (active s) = some i ∧
    resolveTag (active s) (addArgs e).tag = some t ∧ t.mirrored = true ∧
    myBuddy s = some b := by
  obtain ⟨i, hi⟩ := freeIndex_none (s := active buddied) rfl rfl rfl
  exact ⟨buddied, .mailbox, addEntry 1, 0, i, ⟨0, 0, true, 0, 0⟩, 1, runs_of (by decide +kernel), by decide +kernel, by decide +kernel, hi,
    by decide +kernel, rfl, by decide +kernel⟩

theorem wit_ExtentAddBuddyTimeout : ∃ (s : State) (dpa : Dpa) (i : Nat) (x y : Extent) (src : CmdSrc), extentFrom s dpa.toNat = some (i, x) ∧
    extentEnt (((s.e2e.txs.filter (fun t => t.2.purpose == Purpose.reserve i)).map (·.1)).foldl closeTx s) i = some y ∧
    y.state = .reserving src :=
  ⟨openedWith [(7, { anExtent with state := .reserving .mailbox })], 0, 7, { anExtent with state := .reserving .mailbox },
    { anExtent with state := .reserving .mailbox }, .mailbox, by decide +kernel⟩

theorem serves_opened : Serves opened := ⟨rfl, by decide⟩

/-- What the tests of a host's answer to an offered extent ask. -/
abbrev answers (r : BitVec 64 × BitVec 64) (e : Extent) : Bool :=
  e.state == .pending && e.dpa2m * 2097152 == r.1.toNat && e.len2m * 2097152 == r.2.toNat

theorem wit_AddDynamicCapacity : ∃ (s : State) (ranges : List (BitVec 64 × BitVec 64)), Serves s ∧ s.host.memActive = true ∧ ranges ≠ [] ∧
    ranges.all (fun r => s.chd.extents.any (fun e => answers r e.2)) = true :=
  ⟨openedWith [(0, { anExtent with state := .pending })], [(0, 0x200000)], ⟨rfl, by decide⟩, by decide +kernel⟩

theorem wit_ReleaseDynamicCapacity : ∃ (s : State) (r : BitVec 64 × BitVec 64) (i : Nat) (e : Extent), Serves s ∧ s.host.memActive = true ∧
    releaseCheck s r.1.toNat r.2.toNat = stOk ∧ releaseOf s (r.1.toNat / 2097152) (r.2.toNat / 2097152) = some (i, e) ∧
    e.dpa2m = r.1.toNat / 2097152 ∧ e.len2m = r.2.toNat / 2097152 ∧ migsIn s e.dpa2m e.len2m = [] :=
  ⟨openedWith [(0, anExtent)], (0, 0x200000), 0, anExtent, ⟨rfl, by decide⟩, by decide +kernel⟩

theorem wit_ReleaseResponse : ∃ (s : State) (dpa : Dpa) (i : Nat) (e : Extent), releasing s = [(i, e)] ∧
    e.dpa2m * 2097152 = dpa.toNat ∧ rangeBusy s e = false ∧ e.shared = none ∧ e.attrs.mirrored = false ∧
    listedPages (releasePhase (mbReply s .ok) i 4 e) e = [] :=
  ⟨openedWith [(9, { anExtent with state := .releasing })], 0, 9, { anExtent with state := .releasing }, by decide +kernel⟩

theorem wit_ReleaseResponse_shared : ∃ (s : State) (dpa : Dpa) (i : Nat) (e : Extent), releasing s = [(i, e)] ∧
    e.dpa2m * 2097152 = dpa.toNat ∧ rangeBusy s e = false ∧ e.shared.isSome = true :=
  ⟨openedWith [(9, { anExtent with state := .releasing, shared := some ⟨1, 3, 0⟩ })], 0, 9,
    { anExtent with state := .releasing, shared := some ⟨1, 3, 0⟩ }, by decide +kernel⟩

theorem wit_ReleaseResponse_busy : ∃ s : State, ∃ e ∈ releasing s, rangeBusy s e.2 = true :=
  ⟨{ openedWith [(9, { anExtent with state := .releasing })] with coh := { base.coh with waitHost := [(0, .read .any (some 1) 0)] } },
    (9, { anExtent with state := .releasing }), by decide +kernel, by decide +kernel⟩

/-- An open device of a pool of two with an extent. -/
abbrev granting (e : Extent) : State := { buddied with chd := { base.chd with extents := [(0, e)] } }

/-- SHARE_GRANT of a length of the first extent to node 1. -/
def grantEntry (len : Nat) : Line := anEntry [(0, 2), (0x10, len), (0x14, 1)]

theorem wit_ShareGrant : ∃ (s : State) (src : CmdSrc) (i : Nat) (e : Extent), Runs s src (grantEntry 1) ∧ Runs s src (grantEntry 2) ∧
    extentOf s (entryNat (grantEntry 1) 8 8) = some (i, e) ∧ entryNat (grantEntry 1) 0x10 4 ≠ 0 ∧
    entryNat (grantEntry 1) 8 8 % (2097152 * ((regionOf s e.region).map (·.block)).getD 1) = 0 ∧
    entryNat (grantEntry 1) 0x14 2 ≠ myNode s ∧ entryNat (grantEntry 1) 0x14 2 < 4096 ∧
    populated s (entryNat (grantEntry 1) 0x14 2) = true ∧ e.shared = none ∧ s.host.grants = [] ∧
    e.dpa2m + e.len2m < 0 + entryNat (grantEntry 2) 0x10 4 ∧ 0 + entryNat (grantEntry 1) 0x10 4 ≤ e.dpa2m + e.len2m :=
  ⟨granting anExtent, .mailbox, 0, anExtent, runs_of (by decide +kernel), runs_of (by decide +kernel), by decide +kernel⟩

theorem wit_ShareGrant_full : ∃ s : State, Runs s .mailbox (grantEntry 1) ∧ 4096 ≤ s.host.grants.length ∧
    s.host.grants.any (fun g => g.2.grantee.toNat == 1 && decide (0 < g.2.dpa2m + g.2.len2m) && decide (g.2.dpa2m < 0 + 1)) = false :=
  ⟨{ granting anExtent with host := { opened.host with grants := (List.range 4096).map (fun i => (i, ⟨8, 1, 1, false⟩)) } },
    runs_of (by decide +kernel), by decide +kernel⟩

/-- SHARE_REVOKE of a grant. -/
def revokeEntry (id : Nat) : Line := anEntry [(0, 3), (8, id)]

theorem wit_ShareRevoke : ∃ (s : State) (g h : Grant), Runs s .mailbox (revokeEntry 1) ∧ Runs s .mailbox (revokeEntry 0xFFFFFFFF) ∧
    Runs s .mailbox (revokeEntry 3) ∧ mget s.host.grants (entryNat (revokeEntry 1) 8 4) = some g ∧ g.revoking = false ∧
    mget s.host.grants (entryNat (revokeEntry 0xFFFFFFFF) 8 4) = some h ∧ h.revoking = true ∧
    mget s.host.grants (entryNat (revokeEntry 3) 8 4) = none :=
  ⟨{ opened with host := { opened.host with grants := [(1, ⟨0, 1, 1, false⟩), (0xFFFFFFFF, ⟨0, 1, 1, true⟩)] } }, ⟨0, 1, 1, false⟩,
    ⟨0, 1, 1, true⟩, runs_of (by decide +kernel), runs_of (by decide +kernel), runs_of (by decide +kernel), by decide +kernel⟩

theorem wit_RevocationAtGrantee : ∃ (s : State) (e : Extent) (x : SharedRef), s.chd.extents = [(0, e)] ∧ e.shared = some x ∧
    x.owner = 1 ∧ x.grantId = 3 ∧ e.state = .accepted :=
  ⟨withExtents [(0, { anExtent with shared := some ⟨1, 3, 0⟩ })], { anExtent with shared := some ⟨1, 3, 0⟩ }, ⟨1, 3, 0⟩,
    rfl, rfl, rfl, rfl, rfl⟩

theorem wit_PlaceHint : ∃ (s : State) (src : CmdSrc) (e : Line) (i : Nat) (x : Extent), Runs s src e ∧
    extentOf (active s) (entryNat e 8 8) = some (i, x) ∧ entryNat e 8 8 % 4096 = 0 ∧ 1 ≤ entryNat e 0x14 1 ∧ entryNat e 0x14 1 ≤ 4 ∧
    entryNat e 0x14 1 ≠ 3 ∧ entryNat e 0x10 4 = 1 ∧ entryNat e 8 8 / 4096 + 1 ≤ (x.dpa2m + x.len2m) * 512 ∧ x.shared = none ∧
    (active s).chd.pages.any (fun y => y.2.fenced && decide (entryNat e 8 8 / 4096 ≤ y.1) &&
      decide (y.1 < entryNat e 8 8 / 4096 + 1)) = false :=
  ⟨openedWith [(0, anExtent)], .mailbox, anEntry [(0, 4), (8, 511 * 4096), (0x10, 1), (0x14, 4)], 0, anExtent, runs_of (by decide +kernel),
    by decide +kernel⟩

theorem wit_HintCold : dTier (page (setPage base 0 plainPage) 0).desc ≠ tierNone := by decide +kernel

theorem wit_Atomic : ∃ (s : State) (e : Line) (i : Nat) (x : Extent), Runs s .mailbox e ∧ extentOf (active s) (entryNat e 8 8) = some (i, x) ∧
    atomicValid (entryNat e 0x10 1) (entryNat e 0x11 1) = true ∧ entryNat e 8 8 % 2 ^ entryNat e 0x11 1 = 0 ∧
    (entryNat e 0x11 1 = 4 → entryNat e 0x18 8 ≠ 0 ∧ entryNat e 0x18 8 % 16 = 0) :=
  ⟨openedWith [(0, anExtent)], anEntry [(0, 5), (8, 16), (0x10, 6), (0x11, 4), (0x18, 16)], 0, anExtent, runs_of (by decide +kernel),
    by decide +kernel⟩

theorem wit_KeyRotate : ∃ (s : State) (e : Line), Runs s .mailbox e ∧ entryNat e 8 2 ≤ 4095 ∧
    ((active s).img.active.rcd secDomains (entryNat e 8 2)).isSome = true ∧ domainSource (active s) (entryNat e 8 2) ≠ 2 ∧
    (domKeys (active s) (entryNat e 8 2)).old = none ∧ (domKeys (active s) (entryNat e 8 2)).rotating = none ∧
    domainRefolding (active s) (entryNat e 8 2) = false ∧ domainMirrored (active s) (entryNat e 8 2) = false :=
  ⟨opened, anEntry [(0, 6)], runs_of (by decide +kernel), by decide +kernel⟩

theorem wit_KeyRotate_mirrored : ∃ (s : State) (e : Line), Runs s .mailbox e ∧ entryNat e 8 2 ≤ 4095 ∧
    ((active s).img.active.rcd secDomains (entryNat e 8 2)).isSome = true ∧ domainSource (active s) (entryNat e 8 2) ≠ 2 ∧
    (domKeys (active s) (entryNat e 8 2)).old = none ∧ (domKeys (active s) (entryNat e 8 2)).rotating = none ∧
    domainRefolding (active s) (entryNat e 8 2) = false ∧ domainMirrored (active s) (entryNat e 8 2) = true ∧
    (active s).chd.mirror = .mirrored ∧
    domainMirrored (setDom (active s) (entryNat e 8 2) { domKeys (active s) (entryNat e 8 2) with rotating := some .mailbox })
      (entryNat e 8 2) = true :=
  ⟨{ openedWith [(0, { anExtent with attrs := ⟨0, 0, true, 0, 0⟩ })] with
      chd := { (openedWith [(0, { anExtent with attrs := ⟨0, 0, true, 0, 0⟩ })]).chd with mirror := .mirrored } },
    anEntry [(0, 6)], runs_of (by decide +kernel), by decide +kernel⟩

theorem wit_KeyRotateSwitch : ∃ (s : State) (d : BitVec 12) (src : CmdSrc), (domKeys s d.toNat).rotating = some src ∧
    domainMirrored s d.toNat = false ∧ (domKeys s d.toNat).supplied = none :=
  ⟨setDom base 4095 { DomKeys.zero with rotating := some .mailbox }, 4095, .mailbox, by decide +kernel⟩

theorem wit_PrimerEval : ∃ (s : State) (e : Line), Runs s .mailbox e ∧ entryNat e 8 8 % 64 = 0 ∧ entryNat e 0x10 8 % 64 = 0 ∧
    entryNat e 0x18 2 = 1 ∧ slotInstalled (active s) (entryNat e 0x1A 1) = true :=
  ⟨{ opened with img := { base.img with active := { Img.default with primers := [(63, ⟨[], []⟩)] } } },
    anEntry [(0, 7), (8, 64), (0x10, 128), (0x18, 1), (0x1A, 63)], runs_of (by decide +kernel), by decide +kernel⟩

/-! ### Witnesses: queues and the host port -/

/-- The payload of a QUEUE_CREATE. -/
def queuePayload (qid vector sq cq cls sqBase cqBase : Nat) : List Byte :=
  natLe 2 qid ++ natLe 2 vector ++ natLe 4 sq ++ natLe 8 sqBase ++ natLe 4 cq ++ natLe 1 cls ++ natLe 3 0 ++ natLe 8 cqBase

theorem wit_QueueCreate_invalid : ∃ p q r t : List Byte, p.length = 32 ∧ 1024 ≤ field p 0 2 ∧ 2048 ≤ field q 2 2 ∧ field r 4 4 < 2 ∧
    1 < field t 0x14 1 :=
  ⟨queuePayload 1024 0 2 2 0 0 0, queuePayload 0 2048 2 2 0 0 0, queuePayload 0 0 1 2 0 0 0, queuePayload 0 0 2 2 2 0 0, by decide⟩

theorem wit_QueueCreate_long : ∃ p q : List Byte, p.length = 32 ∧ 65536 < field p 4 4 ∧ field p 0x10 4 = 65536 ∧
    2 ^ 64 < field q 8 8 + 64 * field q 4 4 ∧ field q 8 8 % 4096 = 0 :=
  ⟨queuePayload 1023 2047 65537 65536 1 0 0, queuePayload 0 0 65536 2 0 (2 ^ 64 - 4096) 0, by decide +kernel⟩

theorem wit_QueueCreate_made : ∃ (s u : State) (p : List Byte), Serves s ∧ Serves u ∧ p.length = 32 ∧ field p 0 2 = 1023 ∧
    field p 2 2 = 2047 ∧ field p 4 4 = 65536 ∧ field p 0x10 4 = 2 ∧ field p 0x14 1 = 1 ∧ allZero p 0x15 3 = true ∧
    field p 8 8 = 2 ^ 64 - 4194304 ∧ field p 0x18 8 = 4096 ∧
    (mget s.host.queues 1023).isSome = false ∧ (mget u.host.queues 1023).isSome = true :=
  ⟨served, { served with host := { served.host with queues := [(1023, aQueue true)] } },
    queuePayload 1023 2047 65536 2 1 (2 ^ 64 - 4194304) 4096, serves_served, ⟨rfl, by decide⟩, by decide +kernel⟩

/-- A device that serves with one host queue. -/
abbrev queued (q : Queue) : State := { served with host := { served.host with queues := [(1023, q)] } }

theorem wit_CommandQueues_tail : ∃ (s : State) (qid : BitVec 10) (q : Queue) (past inside : BitVec 32) (es : List Line),
    mget s.host.queues qid.toNat = some q ∧ q.sqEntries ≤ past.toNat ∧ q.cqEntries ≤ past.toNat ∧ inside.toNat < q.sqEntries ∧
    es.length = (inside.toNat + q.sqEntries - q.sqTail) % q.sqEntries ∧ inside.toNat < q.cqEntries :=
  ⟨queued (aQueue true), 1023, aQueue true, 4, 3, [0, 0, 0], by decide +kernel⟩

/-- A queue with a finished command and its CQ at the last slot. -/
def finished (head : Nat) : Queue := { aQueue true with cqTail := 3, cqHead := head, taken := [⟨0, 0, true, some ⟨0, 0, 0, 0⟩⟩] }

theorem wit_CommandQueues_complete : ∃ (s u : State) (q r : Queue) (t : Taken) (c : Completion), mget s.host.queues 1023 = some q ∧
    q.taken.find? (fun t => t.done.isSome) = some t ∧ t.done = some c ∧ (q.cqTail + 1) % q.cqEntries = q.cqHead ∧
    mget u.host.queues 1023 = some r ∧ r.taken.find? (fun t => t.done.isSome) = some t ∧ (r.cqTail + 1) % r.cqEntries ≠ r.cqHead :=
  ⟨queued (finished 0), queued (finished 1), finished 0, finished 1, ⟨0, 0, true, some ⟨0, 0, 0, 0⟩⟩, ⟨0, 0, 0, 0⟩, rfl, rfl, rfl, by decide, rfl,
    rfl, by decide⟩

theorem wit_QueueDelete : ∃ (s : State) (p : List Byte) (q : Queue), Serves s ∧ p.length = 2 ∧ s.host.background = none ∧
    mget s.host.queues (field p 0 2) = some q :=
  ⟨queued (aQueue false), natLe 2 1023, aQueue false, ⟨rfl, by decide⟩, by decide, rfl, rfl⟩

theorem wit_ExecEntry : ∃ (s : State) (p : List Byte), Serves s ∧ p.length = 64 ∧ s.host.background = none ∧
    let e := bytesLine p
    let u := runEntry { s with host := { s.host with background := some (.execEntry e), bgOutput := none } } .mailbox e [] true
    u.host.background = none ∧ ∃ c, u.host.bgOutput = some c :=
  ⟨served, List.replicate 64 0, serves_served, rfl, rfl, by decide +kernel, Option.isSome_iff_exists.mp (by decide +kernel)⟩

/-- A decoder that maps the first 256 MiB of the window. -/
def aDecoder (bi : Bool) : HdmSetting := ⟨0, 0x10000000, 1, 256, 0, 0, bi⟩

theorem wit_DecoderCommit : ∃ (s : State) (i : Fin 8),
    decoderOk { s with host := { s.host with decoders := mset s.host.decoders i.val ⟨aDecoder true, true, false⟩ } } i.val (aDecoder true) =
      true ∧
    decoderOk { s with host := { s.host with decoders := mset s.host.decoders i.val ⟨aDecoder false, true, false⟩ } } i.val (aDecoder false) =
      false ∧ (aDecoder false).bi = false :=
  ⟨base, 7, by decide +kernel⟩

theorem wit_HostLinkUp : ∃ s : State, s.host.termination = true ∧ s.host.linkLow = some .down ∧ s.host.msix = [] :=
  ⟨{ base with host := { base.host with termination := true } }, by decide⟩

theorem wit_HostLinkUp_widths : 6 ≤ (6 : BitVec 4).toNat ∧ 16 ≤ (16 : BitVec 6).toNat ∧ (5 : BitVec 4).toNat < 6 ∧
    (8 : BitVec 6).toNat < 16 := by decide

theorem wit_HostLinkLeavesL0 : ∃ s : State, s.host.linkLow = none ∧ s.host.speed ≠ 0 :=
  ⟨{ base with host := { base.host with linkLow := none, speed := 6 } }, rfl, by decide⟩

theorem wit_HostInterfaceReady : ∃ s u : State, s.host.perst = false ∧ s.boot.ended.contains 0x05 = true ∧ s.boot.st ≠ .serving ∧
    u.host.perst = false ∧ u.boot.ended.contains 0x05 = true ∧ u.boot.st = .serving :=
  ⟨{ base with host := { base.host with perst := false }, boot := { base.boot with ended := [0x05] } },
    { base with host := { base.host with perst := false }, boot := { base.boot with ended := [0x05], st := .serving } }, by decide⟩

/-! ### Witnesses: the mailbox -/

theorem wit_MailboxEvents : ∃ (s : State) (log far : BitVec 8), Serves s ∧ log.toNat ≤ 4 ∧ 4 < far.toNat ∧ s.host.timestamp = none ∧
    oldestHandles [] (mgetD s.host.logs log.toNat []) = true ∧ oldestHandles [1] (mgetD s.host.logs log.toNat []) = false :=
  ⟨served, 4, 5, serves_served, by decide +kernel⟩

theorem wit_MailboxTimestamp : ∃ (s : State) (v : BitVec 64) (t : Nat), Serves s ∧ s.host.timestamp = some (v, t) :=
  ⟨{ served with host := { served.host with timestamp := some (5, 0) } }, 5, 0, ⟨rfl, by decide⟩, rfl⟩

theorem wit_FirmwareStart : ∃ (s u : State) (slot : BitVec 8), Serves s ∧ s.host.fwTransfer = none ∧ 1 ≤ slot.toNat ∧ slot.toNat ≤ 2 ∧
    s.host.fwActive ≠ some (slot.toNat - 1) ∧ Serves u ∧ u.host.fwActive = some (slot.toNat - 1) ∧ u.host.fwTransfer = none :=
  ⟨{ served with host := { served.host with fwActive := some 0 } }, { served with host := { served.host with fwActive := some 1 } }, 2,
    ⟨rfl, by decide⟩, by decide, by decide, by decide, by decide, ⟨rfl, by decide⟩, by decide, by decide⟩

theorem wit_FirmwarePart : ∃ (s : State) (off : BitVec 32) (data : List Byte) (t : FwTransfer), Serves s ∧ s.host.fwTransfer = some t ∧
    128 * off.toNat = t.received ∧ t.received + data.length ≤ 16777216 :=
  ⟨{ served with host := { served.host with fwTransfer := some ⟨1, 128, List.replicate 128 0⟩ } }, 1, [0],
    ⟨1, 128, List.replicate 128 0⟩, ⟨rfl, by decide⟩, rfl, by decide, by decide⟩

theorem wit_ActivateFw : ∃ (s : State) (slot : BitVec 8) (f : FwImage), Serves s ∧ 1 ≤ slot.toNat ∧ slot.toNat ≤ 2 ∧
    mget s.host.fwSlots (slot.toNat - 1) = some f ∧ f.valid = true ∧ s.boot.st ≠ .halted :=
  ⟨served, 1, ⟨1, 0, true, [], true⟩, serves_served, by decide +kernel⟩

theorem wit_MailboxReports : ∃ (s : State) (off len : BitVec 32) (start : BitVec 8), Serves s ∧ off.toNat + len.toNat ≤ celBytes.length ∧
    s.host.memActive = true ∧ start.toNat < (s.img.active.recs secWindow).length :=
  ⟨opened, 0, BitVec.ofNat 32 celBytes.length, 0, serves_opened, by decide +kernel⟩

theorem wit_MailboxReports_early : Serves served ∧ served.host.memActive = false := ⟨serves_served, rfl⟩

theorem wit_ExtentList : ∃ (s : State) (start : BitVec 32), Serves s ∧ s.host.memActive = true ∧
    start.toNat ≤ (s.chd.extents.filter (fun e => e.2.state == .accepted)).length :=
  ⟨openedWith [(0, anExtent)], 1, ⟨rfl, by decide⟩, by decide +kernel⟩

theorem wit_MailboxPoison : ∃ (s : State) (dpa : BitVec 64) (i : Nat) (e : Extent), Serves s ∧ s.host.memActive = true ∧
    extentOf s dpa.toNat = some (i, e) ∧ e.shared = none ∧ dpa.toNat % 64 = 0 :=
  ⟨openedWith [(0, anExtent)], 0x1FFFC0, 0, anExtent, ⟨rfl, by decide⟩, by decide +kernel⟩

/-! ### Witnesses: coherence at the owner and the requester -/

/-- A serving device that has lent node 1 a grant on its first extent and a lease of 1 GiB. -/
abbrev serving : State :=
  { openedWith [(0, anExtent)] with
    coh := { base.coh with serving := true }
    host := { opened.host with grants := [(1, ⟨0, 1, 1, false⟩)] }
    fab := { base.fab with lent := [(1, ⟨1, none, 0, false⟩)] }
    boot := { base.boot with st := .serving, ended := [0x20] } }

/-- The same with transactions, pending requests and directory entries. -/
abbrev servingCoh (f : CohState → CohState) : State := { serving with coh := f serving.coh }

/-- The header of a request of node 1. -/
def aHdr : ReqHdr := ⟨0x00100000, true, 13, false⟩

/-- The tag of a transaction of this device, node 0. -/
def ownTag : Tag := 0x00000004

/-- Where a peer's request finds the device: the state it is served in, and the key of its line. -/
abbrev servedIn (s : State) (line : Nat) (kind : OwnKind) : State :=
  makeWay (active (consumeTag s 0 1 aHdr.tag).1) (lineKey 0 line) kind

theorem wit_PeerRequests_taken : ∀ kind ∈ [OwnKind.rdShared, .rdOwn, .rdCur, .wrLine .i false 0 0],
    serving.aon.st = .run ∧
    (consumeTag serving 0 1 aHdr.tag).2.old = false ∧ servingFor (active serving) 0 = true ∧ requestOwner (active serving) 32767 = 0 ∧
    grantCovers (active serving) 1 32767 = true ∧ tagOpen (active serving) aHdr.tag = false ∧
    crtDuplicate (active serving) aHdr.tag true = none ∧ crtFull (active serving) aHdr.tag = false ∧
    pendBefore (servedIn serving 32767 kind) 32767 = false ∧ mayTake (servedIn serving 32767 kind) 32767 kind = true := by
  decide +kernel

/-- An open transaction of a peer's read on line 32767. -/
def aTx : OwnTx where
  kind := .rdOwn
  who := .peer 2 0x00200000 1 1 true
  stage := .snooping
  snoops := []
  bisnp := some 0
  contended := false
  fwd := none
  commit := none
  startNs := 0
  ackNs := 0
  recovering := false
  home := none
  result := none
  xDirty := false
  owedCmp := []
  owedAck := []
  again := false

theorem wit_PeerRequests_waits : ∀ kind ∈ [OwnKind.rdShared, .rdOwn, .rdCur, .wrLine .i false 0 0],
    mayTake (servedIn (servingCoh (fun c => { c with txs := [(32767, aTx)] })) 32767 kind) 32767 kind = false ∧
    areaUsed (servedIn (servingCoh (fun c => { c with txs := [(32767, aTx)] })) 32767 kind) .general < 3584 := by decide +kernel

theorem wit_PeerRequests_refused : servingFor (active opened) (requestOwner (active opened) 0) = false ∧
    servingFor (active serving) (requestOwner (active serving) 32768) = true ∧ requestOwner (active serving) 32768 = 0 ∧
    grantCovers (active serving) 1 32768 = false := by decide +kernel

theorem wit_FarAtomics : ∃ s u : State, let kind : OwnKind := .atomicFar 2 3 5 5 0 0
    (∀ t ∈ [s, u], t.aon.st = .run ∧ (consumeTag t 0 5 aHdr.tag).2.old = false ∧ servingFor (active t) 0 = true ∧
      requestOwner (active t) 0 = 0 ∧ grantCovers (active t) 1 0 = true ∧ tagOpen (active t) aHdr.tag = false ∧
      crtDuplicate (active t) aHdr.tag true = none) ∧
    seqBefore 5 (floorOf s 1 0) = true ∧ seqBefore 5 (floorOf u 1 0) = false ∧ crtFull (active u) aHdr.tag = false ∧
    (let f := { active (consumeTag u 0 5 aHdr.tag).1 with chd := { u.chd with atomicFloor := mset u.chd.atomicFloor (floorKey 1 0) 5 } }
     pendBefore (makeWay f 0 kind) 0 = false ∧ mayTake (makeWay f 0 kind) 0 kind = true) :=
  ⟨{ serving with chd := { serving.chd with atomicFloor := [(1, 6)] } }, { serving with chd := { serving.chd with atomicFloor := [(1, 5)] } },
    by decide +kernel⟩

theorem wit_SingleOwner : aTx.who = .peer 2 0x00200000 1 1 true ∧ aTx.kind = .rdOwn ∧
    ({ aTx with kind := .wrLine .i false 0 0 } : OwnTx).kind = .wrLine .i false 0 0 ∧
    mget (mdel serving.coh.dir 0) 0 = none := by decide +kernel

theorem wit_BiRsp : ∃ (s : State) (dpa : Dpa) (tx : OwnTx) (t : Nat), ownKey s (biKey s dpa.toNat) = true ∧
    mget s.coh.txs (biKey s dpa.toNat) = some tx ∧ tx.bisnp = some t ∧ s.host.memFenced = false :=
  ⟨servingCoh (fun c => { c with txs := [(32767, aTx)] }), 0x1FFFC0, aTx, 0, by decide +kernel⟩

theorem wit_BiRsp_other : ∃ (s : State) (dpa : Dpa), ownKey s (biKey s dpa.toNat) = false :=
  ⟨openedWith [(0, { anExtent with shared := some ⟨1, 3, 0⟩ })], 0, by decide +kernel⟩

theorem wit_Snoops_none : ∃ (s : State) (tag : Tag), s.aon.st = .run ∧ (consumeTag s 1 1 tag).2.old = false ∧
    (consumeTag s 1 1 tag).1.boot.ended.contains 0x20 = true ∧
    s.coh.sentDirty.find? (fun x => x.tag.toNat / 4 == tag.toNat / 4) = none ∧
    mget s.coh.reqs (snoopKey (active s) (tagSource tag) 0) = none ∧ nearGet s (snoopKey (active s) (tagSource tag) 0) = none :=
  ⟨serving, aHdr.tag, by decide +kernel⟩

theorem wit_Snoops_early : base.aon.st = .run ∧ (consumeTag base 1 1 aHdr.tag).2.old = false ∧
    (active (consumeTag base 1 1 aHdr.tag).1).boot.ended.contains 0x20 = false := by decide +kernel

/-- A request of this device. -/
def aReq (stage : ReqStage) : ReqTx := ⟨stage, [], 0, false, false, 0, 0, false, none⟩

theorem wit_Snoops_evicting : ∃ (s : State) (t : ReqTx), s.aon.st = .run ∧ s.boot.ended.contains 0x20 = true ∧
    mget s.coh.reqs (snoopKey (active s) 1 7) = some t ∧ t.stage = .evicting :=
  ⟨servingCoh (fun c => { c with reqs := [(lineKey 1 7, aReq .evicting)] }), aReq .evicting, by decide +kernel⟩

/-- The state after reset with one end-to-end transaction, of tag 4. -/
abbrev asked (purpose : Purpose) : State :=
  { base with e2e := { base.e2e with txs := [(tagKey ownTag,
    ⟨0, true, mkCtrl 1 1 0 0 0 [], purpose, false, none, [], false, 0, [], 1, 0⟩)] } }

theorem wit_Responses : ∀ p ∈ [Purpose.line 5, .snoop 5 1, .writeback 5], ∀ op ∈ [1, 2, 3, 4, 5, 6],
    (consumeTag (asked p) 2 op ownTag).2.old = false ∧
    (txFor (consumeTag (asked p) 2 op ownTag).1 ownTag).map (fun x => (x.2.purpose, x.2.inc)) = some (p, tagInc ownTag) ∧
    tagSource ownTag = myNode (consumeTag (asked p) 2 op ownTag).1 := by decide +kernel

theorem wit_Responses_late : txFor (consumeTag base 2 1 ownTag).1 ownTag = none ∧
    tagSource aHdr.tag ≠ myNode (consumeTag base 2 3 aHdr.tag).1 ∧ base.coh.sentDirty = [] ∧ (0x41 : BitVec 8).toNat % 64 ≠ 0 := by
  decide +kernel

/-- A directory entry of node 1. -/
def entOf (st : DirSt) : DirEnt := { DirEnt.none with st := st, ptr0 := some 1 }

theorem wit_Evict : ∃ s : State, s.aon.st = .run ∧ s.coh.sink.length < 4096 ∧ servingFor (active s) 0 = true ∧ (consumeTag s 3 1 aHdr.tag).2.old = false ∧ crtDuplicate (active s) aHdr.tag true = none ∧
    crtFull (active s) aHdr.tag = false ∧ s.coh.sink = [] ∧ mget s.coh.txs 0 = none ∧ requestOwner (active s) 0 = 0 ∧
    (dirEnt (active s) 0).records 1 = true ∧ (dirEnt (active s) 0).st = .e :=
  ⟨servingCoh (fun c => { c with dir := [(0, entOf .e)] }), by decide +kernel⟩

theorem wit_WbDirty : ∃ s : State, s.aon.st = .run ∧ s.coh.sink.length < 4096 ∧ servingFor (active s) 0 = true ∧ (consumeTag s 3 2 aHdr.tag).2.old = false ∧
    crtDuplicate (active s) aHdr.tag true = none ∧ crtFull (active s) aHdr.tag = false ∧ s.coh.sink = [] ∧ mget s.coh.txs 0 = none ∧
    requestOwner (active s) 0 = 0 ∧ (dirEnt (active s) 0).owns 1 = true :=
  ⟨servingCoh (fun c => { c with dir := [(0, entOf .m)] }), by decide +kernel⟩

theorem wit_PodsAtHolder_outside : serving.aon.st = .run ∧ serves serving = true ∧ (consumeTag serving 4 1 aHdr.tag).2.old = false ∧
    inLease (active serving) 1 16777216 1 false = false ∧ inLease (active serving) 1 16777153 64 false = false ∧
    inLease (active serving) 1 16777216 1 true = false := by decide +kernel

theorem wit_PodsAtHolder_inside : (consumeTag serving 4 2 aHdr.tag).2.old = false ∧ (consumeTag serving 4 3 aHdr.tag).2.old = false ∧
    inLease (active serving) 1 16777215 1 false = true ∧ inLease (active serving) 1 16777215 1 true = true ∧
    inLease (active serving) 1 16777152 64 false = true ∧ crtDuplicate (active serving) aHdr.tag true = none ∧
    crtFull (active serving) aHdr.tag = false := by decide +kernel

theorem wit_PodsAtHolder_channel : channelOut (active serving) (paChannel (active serving) (podAddr (active serving) 1 16777215)) = false := rfl

/-! ### Witnesses: the mirror and its timers -/

/-- A mirror message. -/
def aBody (seq : Nat) : MirrorBody := ⟨false, 5, 0, 0, 0, BitVec.ofNat 48 seq, none, 0, 4, 0, false, 0, none⟩

/-- A serving device that is the buddy of node 1. -/
abbrev mirroring (b : BuddyOf) : State := { serving with chd := { serving.chd with buddyOf := [(1, b)] } }

theorem wit_MirrorWrite : ∃ s : State, s.aon.st = .run ∧ serves (active s) = true ∧ (consumeTag s 4 4 aHdr.tag).2.old = false ∧ (aBody 4).seq ≠ 0 ∧
    mhas (active s).chd.acting 1 = false ∧ (aBody 3).seq.toNat ≤ (buddyOf s 1).applied ∧
    (buddyOf s 1).ahead.contains (aBody 5).seq.toNat = true ∧ (buddyOf s 1).applied < (aBody 4).seq.toNat ∧
    (buddyOf s 1).ahead.contains (aBody 4).seq.toNat = false ∧ (aBody 4).origin = none ∧ crtFull (active s) 0x00200000 = false :=
  ⟨mirroring { BuddyOf.zero with applied := 3, ahead := [5] }, by decide +kernel⟩

theorem wit_MirrorReserve : ∃ s u : State, s.aon.st = .run ∧ serves (active s) = true ∧ serves (active u) = true ∧ (consumeTag s 4 5 aHdr.tag).2.old = false ∧ mhas (buddyOf s 1).reserved 65535 = false ∧
    copyRoom (active s) 1 = true ∧ copyRoom (active s) (2 ^ 32 - 1) = false ∧ mhas (buddyOf u 1).reserved 65535 = true :=
  ⟨serving, mirroring { BuddyOf.zero with reserved := [(65535, 1)] }, by decide +kernel⟩

theorem wit_MirrorCopies : ∃ s : State, s.aon.st = .run ∧ (consumeTag s 4 5 aHdr.tag).2.old = false ∧ serves (active s) = true ∧
    copyPast (active s) 1 7 511 1 = false ∧ copyPast (active s) 1 7 512 1 = true ∧ copyPast (active s) 1 7 511 2 = true ∧
    2 ^ 28 < (0xFFFFFFF : BitVec 28).toNat + (2 : BitVec 32).toNat ∧ ¬2 ^ 28 < (511 : BitVec 28).toNat + (1 : BitVec 32).toNat :=
  ⟨mirroring { BuddyOf.zero with reserved := [(7, 1)] }, by decide +kernel⟩

/-- A copy of which pods are coming. -/
abbrev coming (expect : Nat) : State := { serving with chd := { serving.chd with
  copies := [(copyKey 1 0 7, { Copy.zero with coming := some ⟨plainPage.desc, true, [], expect⟩ })] } }

theorem wit_MirrorPod : ∀ e ∈ [63, 64], (coming e).aon.st = .run ∧ (consumeTag (coming e) 4 6 aHdr.tag).2.old = false ∧
    serves (active (coming e)) = true ∧ (copyOf (active (coming e)) (copyKey 1 0 6)).coming = none ∧
    ((copyOf (active (coming e)) (copyKey 1 0 7)).coming).map (fun x => decide (x.expect ≤ 63)) = some (decide (e = 63)) ∧
    (mset ([] : NMap Line) 63 0).length < 64 := by decide +kernel

theorem wit_ResyncPage : ∃ (s : State) (p : PageNo) (rest : List PageNo), s.chd.resync = p :: rest ∧ s.chd.mirror = .resync ∧
    dTier (page s p.toNat).desc ≠ tierNone ∧ (page s p.toNat).fenced = false ∧ mhas s.chd.copyRuns p.toNat = false :=
  ⟨setPage { base with chd := { base.chd with resync := [0], mirror := .resync } } 0 plainPage, 0, [], by decide +kernel⟩

theorem wit_AckTimeout : ∃ (s : State) (tx : OwnTx),
    s.coh.txs.find? (fun x => keyLine x.1 == 32767 && x.2.stage == .acking && !x.2.recovering) = some (32767, tx) ∧
    tx.who = .peer 2 0x00200000 1 1 true :=
  ⟨servingCoh (fun c => { c with txs := [(32767, { aTx with stage := .acking })] }), { aTx with stage := .acking }, rfl, rfl⟩

/-- The transaction of tag 4 waiting to be sent again. -/
abbrev waiting (nacks : Nat) : E2E := ⟨0, true, { mkCtrl 1 1 0 0 0 [] with vc := 0 }, .line 5, false, none, [], true, nacks, [], 1, 0⟩

theorem wit_NackRetryWait : ∀ k ∈ [3, 4], ∃ (s : State) (tx : E2E), mget s.e2e.txs 1 = some tx ∧ tx.retryWait = true ∧ tx.nacks = k ∧
    tx.msg.cls = 0 := by
  intro k hk
  exact ⟨{ base with e2e := { base.e2e with txs := [(1, waiting k)] } }, waiting k, rfl, rfl, rfl, by decide +revert +kernel⟩

theorem wit_ReservedHold : ∃ (s u : State) (m : Node), s.coh.heldFor.contains 5 = true ∧ s.coh.standby = [] ∧
    u.coh.heldFor.contains 5 = true ∧ nextStandby { u with coh := { u.coh with heldFor := u.coh.heldFor.erase 5 } } = some m :=
  ⟨servingCoh (fun c => { c with heldFor := [5] }), servingCoh (fun c => { c with heldFor := [5], standby := [4095] }), 4095,
    by decide +kernel⟩

/-! ### Witnesses: links and end-to-end delivery -/

/-- A link after reset in a state. -/
abbrev linked (l : Nat) (f : LinkRec → LinkRec) : State := modLink base l f

/-- An UP link with a control message to send. -/
abbrev sending (n : Nat) : State := linked 255 (fun r => { r with
  st := .up
  credits := List.replicate 16 4
  egress := oneOf (mkCtrl 1 1 0 0 0 []) 15
  replay := List.replicate n ⟨0, 0, []⟩ })

theorem wit_FrameSend : (link (sending 119) 255).isUp = true ∧ (link (sending 119) 255).replay.length < 120 ∧
    (fillFrame 255 false 15 (sending 119) 15 []).2 ≠ [] ∧ (link (sending 127) 255).isUp = true ∧
    120 ≤ (link (sending 127) 255).replay.length ∧ (link (sending 127) 255).replay.length < 128 ∧
    (fillFrame 255 true 15 (sending 127) 15 []).2 ≠ [] := by decide +kernel

/-- A frame of a type and sequence that acknowledges all. -/
def aFrame (type seq : Nat) : FrameBits := buildFrame type seq 0xFFF 0 0 0 0 []

/-- An UP link that has received frames up to sequence 4. -/
abbrev receivingLink : State := linked 255 (fun r => { r with st := .up, rxNext := 5 })

theorem wit_Frames : ∀ x ∈ [(1, 0), (0, 5), (2, 6), (0, 4)],
    let bits := aFrame x.1 x.2
    let h := frameHead bits
    let r := { link receivingLink 255 with st := .up, frameNs := receivingLink.clockNs }
    (link receivingLink 255).isUp = true ∧ h.type = x.1 ∧ h.seq = x.2 ∧ h.type ≠ 3 ∧
    malformed (frameWakes (setLink receivingLink 255 r)) r h (readSlots h.yellow (h.type == 2) 15 0 true none (frameSlots bits)) = false := by
  decide +kernel

theorem wit_Frames_order : (applyAck (link receivingLink 255) 0xFFF).rxNext = 5 ∧ ((5 : BitVec 12) - 5).toNat = 0 ∧
    ((6 : BitVec 12) - 5).toNat < 2048 ∧ 2048 ≤ ((4 : BitVec 12) - 5).toNat := by decide +kernel

theorem wit_LinkTimers : ∃ s : State, let r := link s 255
    r.isUp = true ∧ r.ackOwed = true ∧ owing r ≠ [] ∧ r.replay.length < 120 ∧ r.replay ≠ [] ∧ r.expiries + 1 = 4 :=
  ⟨linked 255 (fun r => { r with st := .up, ackOwed := true, owed := List.replicate 16 1, replay := [⟨0, 0, []⟩], expiries := 3 }),
    by decide +kernel⟩

/-- A pool of two, with a link in a state. -/
abbrev paired (l : Nat) (f : LinkRec → LinkRec) : State := modLink buddied l f

theorem wit_LinkLoss : ∃ s u : State, (link s 0).isUp = true ∧ s.flt.inReset = false ∧
    (∀ n k, peerOf s 0 = some (n, k) → rowAsleep s (n / 64) = false) ∧ (link u 0).isUp = true ∧
    peerOf u 0 = some (1, 0) ∧ rowAsleep u (1 / 64) = true := by
  refine ⟨linked 0 (fun r => { r with st := .up }), { paired 0 (fun r => { r with st := .up }) with fab := { base.fab with rowsAsleep := 1 } },
    by decide +kernel, rfl, ?_, by decide +kernel, by decide +kernel, by decide +kernel⟩
  intro n k _
  show (0 : BitVec 64).getLsbD (n / 64) = false
  simp

theorem wit_LightPresent : (link base 255).st = .dark ∧ (link base 255).hold = false := by decide +kernel

theorem wit_TrainFrame : ∃ s u : State, (link s 0).st = .training ∧ (linkExpect s 0).1 ≠ 1 ∧ (link u 0).st = .training ∧
    linkExpect u 0 = (1, 1, 0) ∧ (link u 0).rate.toNat = 1 ∧ (link u 0).identSeen = true :=
  ⟨linked 0 (fun r => { r with st := .training }), paired 0 (fun r => { r with st := .training, identSeen := true }), by decide +kernel⟩

theorem wit_LinkStates_rest : ∀ st ∈ [LinkSt.training, .retrain, .givenUp, .held],
    (link (linked 255 (fun r => { r with st := st, identSeen := true })) 255).st = st ∧
    (link (linked 255 (fun r => { r with st := st, identSeen := true })) 255).hold = false ∧
    (link (linked 255 (fun r => { r with st := st, identSeen := true })) 255).identSeen = true := by decide +kernel

/-- What a peer's TRAIN frame says. -/
def aTrain (resume : Bool) : TrainBody := ⟨1, 0, 1, 7, 1, 0, false, resume, true⟩

theorem wit_LinkTrainingDone : ∃ s : State, (link s 255).st = .training ∧ (link s 255).peerTrain.isSome = true :=
  ⟨linked 255 (fun r => { r with st := .training, peerTrain := some (aTrain false) }), by decide +kernel⟩

theorem wit_RetrainComplete : ∀ resume ∈ [true, false], ∃ (s : State) (t : TrainBody), let r := link s 255
    r.st = .retrain ∧ r.peerTrain = some t ∧ t.resume = resume ∧ r.peerSession = some t.session ∧
    (t.rxNext - 1 - r.txAcked).toNat ≤ r.replay.length := by
  intro resume hr
  refine ⟨linked 255 (fun r => { r with st := .retrain, peerTrain := some (aTrain resume), peerSession := some 7, replay := [⟨0, 0, []⟩] }),
    aTrain resume, ?_⟩
  revert resume
  decide +kernel

theorem wit_LinkHold : ∃ s : State, let r := link s 255
    r.hold = true ∧ r.st = .held ∧ r.heldByCheck = false :=
  ⟨linked 255 (fun r => { r with hold := true, st := .held }), by decide +kernel⟩

theorem wit_E2ETimeout : ∃ (s : State) (tx : E2E), mget s.e2e.txs 1 = some tx ∧ (∀ q k, tx.purpose ≠ .mirror q k) ∧
    declaredFailed s tx.msg.dst.toNat = false ∧ timerStands s 1 tx = false := by
  refine ⟨asked (.line 5), ⟨0, true, mkCtrl 1 1 0 0 0 [], .line 5, false, none, [], false, 0, [], 1, 0⟩, by decide +kernel, ?_, by decide +kernel,
    by decide +kernel⟩
  intro q k h
  cases h

theorem wit_TagQuarantine : ∃ s : State, s.e2e.resetQuarantine.contains 262143 = false ∧ s.e2e.noTag = [] := ⟨base, by decide⟩

theorem wit_CrtExpiry : ∃ (s : State) (c : Crt), mget s.e2e.crt (2 ^ 30 - 1) = some c ∧ crtHeld s (2 ^ 30 - 1) c = false :=
  ⟨{ base with e2e := { base.e2e with servedUs := 2000, crt := [(2 ^ 30 - 1, ⟨0, 4, false, 0, 0, 0, 0, 0, none, 0, 0⟩)] } },
    ⟨0, 4, false, 0, 0, 0, 0, 0, none, 0, 0⟩, by decide +kernel⟩

/-! ### Witnesses: membership -/

/-- A flood of node 1, over link 0. -/
def aFlood : FloodHdr := ⟨0, 1, 7⟩

/-- A pool of two. -/
abbrev pool2 (f : FabState → FabState) : State := { buddied with fab := f buddied.fab }

theorem wit_PoolFloods_old : ∀ x ∈ [(6, 1), (6, 2), (6, 3), (6, 4), (4, 1), (4, 4), (4, 5), (4, 6), (7, 1), (7, 4)],
    ¬ News (pool2 id) { aFlood with origin := 0 } x.1 x.2 ∧ ¬ News (pool2 (fun f => { f with seen := [(1, [7])] })) aFlood x.1 x.2 := by
  unfold News
  decide +kernel

theorem wit_RouteLinkstate : News (pool2 id) aFlood 6 1 ∧
    let held := (mgetD (spread (pool2 id) aFlood 6 1 []).fab.linkMap 1 ⟨0, 0⟩).version
    (0x7FFF : BitVec 16) ≠ held ∧ ((0x7FFF : BitVec 16) - held).toNat < 2 ^ 15 ∧ 2 ^ 15 ≤ ((0x8000 : BitVec 16) - held).toNat := by
  unfold News
  decide +kernel

/-- A record of node 1. -/
def aRecord (state version : Nat) : MemberWire := ⟨1, BitVec.ofNat 4 state, 0, BitVec.ofNat 16 version⟩

theorem wit_RouteMember : ∃ s u : State, News s aFlood 6 2 ∧ codeMember 5 = some .failed ∧
    (aRecord 5 0).version = (memberOf (spread s aFlood 6 2 []) 1).version ∧
    (memberOf (spread s aFlood 6 2 []) 1).authority.toNat ≤ aFlood.origin.toNat ∧
    versionAfter (aRecord 5 1).version (memberOf (spread s aFlood 6 2 []) 1).version = true ∧ 1 ≠ myNode s ∧
    (memberOf (spread s aFlood 6 2 []) 1).state = .failed ∧ (memberOf (spread s aFlood 6 2 []) 1).incarnation = (aRecord 5 1).incarnation ∧
    News u aFlood 6 2 ∧ inService (spread u aFlood 6 2 []) 1 = true ∧
    (aRecord 5 0).version = (memberOf (spread u aFlood 6 2 []) 1).version ∧
    aFlood.origin.toNat < (memberOf (spread u aFlood 6 2 []) 1).authority.toNat ∧ inService (spread u aFlood 6 2 []) 0 = true ∧
    0 = myNode (spread u aFlood 6 2 []) :=
  ⟨pool2 (fun f => { f with members := [(1, { Member.zero with state := .failed })] }),
    pool2 (fun f => { f with own := .inService, members := [(1, { Member.zero with state := .inService, authority := 2 })] }),
    by unfold News; decide +kernel⟩

theorem wit_RouteCapacityAlias : News (pool2 id) aFlood 6 3 ∧ News (pool2 id) aFlood 6 4 ∧
    myNode (spread (pool2 id) aFlood 6 4 []) = 0 ∧
    mhas (aliasTaken (spread (pool2 (fun f => { f with leaseFree := [(5, 0)] })) aFlood 6 4 []) 5 6 true).fab.leaseFree 5 = true ∧
    News (pool2 (fun f => { f with leaseFree := [(5, 0)] })) aFlood 6 4 := by
  unfold News
  decide +kernel

theorem wit_Heartbeat_stranger : (peerOf (consumeCtrl (pool2 id) 3 1 5) 0).map (·.1) ≠ some 5 := by decide +kernel

/-- Node 0 as the authority of node 1, in a state. -/
abbrev judge (st : MemberSt) : State := pool2 (fun f => { f with own := .inService, members := [(1, { Member.zero with state := st })] })

theorem wit_Heartbeat : (peerOf (consumeCtrl (pool2 id) 3 1 1) 0).map (·.1) = some 1 ∧ (pool2 id).fab.proposal = none ∧
    isAuthority (pool2 id) 1 = false ∧ ∀ st ∈ [MemberSt.inService, .leaving, .asleep],
      isAuthority (judge st) 1 = true ∧ (memberOf (judge st) 1).state = st := by decide +kernel

/-- A pool of three in one row, in which this device is not in service. -/
abbrev pool3 (f : FabState → FabState) : State :=
  let i := { Img.default with basic := { Basic.default with columns := 3 } }
  { base with
    img := { base.img with active := i, geom := i, pool := i, restart := i }
    fab := f { base.fab with members := [(1, { Member.zero with state := .inService }), (2, { Member.zero with state := .inService })] } }

theorem wit_HeartbeatSilence : isNeighbour (myNode (pool3 id)) 1 = true ∧ watched (pool3 id) 1 = true ∧
    authorityOf (setHeard (pool3 id) 1 { (heardOf (pool3 id) 1).getD ⟨0, false, false, false⟩ with silent := true }) 1 = some 2 ∧
    2 ≠ myNode (pool3 id) ∧ (heardOf (pool3 id) 1).any (fun h => h.lastNs == (pool3 id).clockNs) = false ∧
    (heardOf (setHeard (pool3 id) 1 ⟨0, false, false, false⟩) 1).any (fun h => h.lastNs == (pool3 id).clockNs) = true := by
  decide +kernel

/-- This device in service in a pool of three, node 2 having reported node 1. -/
abbrev reported (own : Bool) : State := pool3 (fun f => { f with
  own := .inService
  suspects := [(1, 2, 0)]
  heard := if own then [(1, ⟨0, false, false, true⟩)] else [] })

theorem wit_RouteSuspect : isAuthority (pool3 id) 1 = false ∧ isAuthority (reported false) 1 = true ∧ watched (reported false) 1 = true ∧
    2 * (currentReports (reported false) 1).length ≤ (serviceNeighbours (reported false) 1).length ∧
    isAuthority (reported true) 1 = true ∧ watched (reported true) 1 = true ∧
    (serviceNeighbours (reported true) 1).length < 2 * (currentReports (reported true) 1).length ∧
    (memberOf (reported true) 1).state ≠ .asleep := by decide +kernel

theorem wit_Isolation : (neighbourList (pool3 id)).filter (inService (pool3 id)) ≠ [] ∧ (pool3 id).fab.heard = [] ∧
    (pool3 id).fab.selfFenced = false ∧ (neighbourList base).filter (inService base) = [] := by decide +kernel

theorem wit_RestartGrace : isAuthority (judge .restarting) 1 = true ∧ (memberOf (judge .restarting) 1).state = .restarting ∧
    mhas (pool2 (fun f => { f with leaseFree := [(4095, 0)] })).fab.leaseFree 4095 = true ∧
    mhas (pool2 id).fab.aliases 4095 = false := by decide +kernel

theorem wit_FailoverServe : ∃ s : State, s.chd.acting = [(1, 4)] ∧ 4 < 5 := ⟨{ base with chd := { base.chd with acting := [(1, 4)] } }, by decide⟩

theorem wit_JoinRequest : refuseCause (pool2 id) 1 5 0 0 0 = some 1 ∧ refuseCause (pool2 id) 1 0 0 0 0 = none ∧
    (pool2 (fun f => { f with joinsMs := (0, 8) })).fab.joinsMs.1 = nowMs (pool2 id) ∧ 8 ≤ 8 ∧ 7 < 8 ∧
    elapsed base base.fab.lastThrottleNs 1000000000 = true ∧ elapsed base (some 0) 1000000000 = false ∧
    (pool2 id).fab.own ≠ .inService ∧ (judge .absent).fab.own = .inService ∧ refuseCause (judge .absent) 1 0 0 0 0 = none := by
  decide +kernel

theorem wit_JoinAnswers : peerOf (pool2 id) 0 = some (1, 0) ∧
    (pool2 (fun f => { f with joinWaiting := [(255, 64)] })).fab.joinWaiting.any (fun w => w.1.toNat == 255) = true ∧
    (pool2 id).fab.joinWaiting.any (fun w => w.1.toNat == 255) = false := by decide +kernel

theorem wit_JoinJudge : ∃ s u : State, s.fab.own = .joining ∧ s.fab.selfFenced = false ∧ s.fab.answers.all (fun a => a.state == 1) = true ∧
    myNode s = 1 ∧ s.fab.joiningHeard = [0] ∧ u.fab.own = .joining ∧ u.fab.selfFenced = false ∧
    u.fab.answers.all (fun a => a.state == 1) = true ∧ myNode u = 0 ∧ u.fab.joiningHeard = [1] :=
  ⟨{ base with
      img := { base.img with restart := { Img.default with basic := { Basic.default with columns := 2, nodeId := 1 } } }
      fab := { base.fab with own := .joining, joiningHeard := [0], answers := [⟨0, 1⟩] } },
    { base with fab := { base.fab with own := .joining, joiningHeard := [1] } }, by decide +kernel⟩

theorem wit_JoinRetry : ∃ s u v : State, s.fab.alone = true ∧ s.fab.selfFenced = false ∧ u.fab.alone = false ∧
    (∃ l ∈ usedLinks v, (link v l).isUp = true) ∧ ∀ l ∈ usedLinks u, (link u l).isUp = false :=
  ⟨pool2 (fun f => { f with alone := true }), pool2 id, paired 0 (fun r => { r with st := .up }), by decide +kernel⟩

/-! ### Witnesses: leases, rows and epochs -/

/-- Leases of a device of a pool of two: what it lent node 1. -/
abbrev lending (own : MemberSt) (l : Lent) : State := pool2 (fun f => { f with own := own, lent := [(1, l)] })

theorem wit_LeaseRequest_denied : (lending .leaving ⟨1, none, 0, false⟩).fab.own = .leaving ∧
    poolFault { lending .inService ⟨1, none, 0, false⟩ with flt := { base.flt with classes := [(5, { FltClass.zero with unacked := true, lastPool := true })] } } =
      true ∧ poolFault (lending .inService ⟨1, none, 0, true⟩) = false ∧
    (mgetD (lending .inService ⟨1, none, 0, true⟩).fab.lent 1 ⟨0, none, 0, false⟩).overdue = true := by decide +kernel

theorem wit_LeaseRequest_granted : let s := lending .inService ⟨1, none, 0, false⟩
    s.fab.own ≠ .leaving ∧ s.fab.own ≠ .left ∧ poolFault s = false ∧ (mgetD s.fab.lent 1 ⟨0, none, 0, false⟩).overdue = false ∧
    (mgetD s.fab.lent 1 ⟨0, none, 0, false⟩).recallTo = none ∧ 1 < min 2 (1 + lendable s) ∧ min 2 (1 + lendable s) ≤ 12288 ∧
    min 1 (1 + lendable s) ≤ 1 := by decide +kernel

theorem wit_LeaseRecall : ∃ s u : State, (borrow (consumeCtrl s 5 4 1) 1).sizeGib = 0 ∧ (borrow (consumeCtrl u 5 4 1) 1).sizeGib ≠ 0 ∧
    u.chd.migs = [] :=
  ⟨base, { base with chd := { base.chd with borrows := [(1, ⟨2, [], none, []⟩)] } }, by decide +kernel⟩

theorem wit_LeaseReturn : ∃ t : Lent, mget (ctrlAnswered (consumeCtrl (lending .inService ⟨2, some 1, 0, true⟩) 5 5 1) 1 5 4).fab.lent 1 = some t ∧
    (1 : BitVec 14) ≠ 0 := ⟨⟨2, some 1, 0, true⟩, by decide +kernel⟩

theorem wit_LeaseDeadline : ∃ (s : State) (t : Lent), mget s.fab.lent 1 = some t ∧ t.recallTo ≠ none ∧ t.overdue = false ∧
    (borrow s 1).recallTo = none := ⟨lending .inService ⟨2, some 0, 0, false⟩, ⟨2, some 0, 0, false⟩, by decide +kernel⟩

theorem wit_Leave : ∃ s : State, s.fab.own = .inService ∧ s.fab.lent = [] ∧
    (authorityOf { s with fab := { s.fab with leave := true, own := .leaving } } (myNode s)).isSome = true :=
  ⟨judge .inService, by decide +kernel⟩

/-- A device in service whose row may sleep and whose rule for sleep fires. -/
abbrev sleepy (rule : Nat) (f : FabState → FabState) : State :=
  let i := { Img.default with basic := { Basic.default with columns := 2, sleepableRows := 1 } }
  { base with
    img := { base.img with active := i, geom := i, pool := i, restart := i }
    aon := { base.aon with rules := [(rule, { RuleSt.zero with firing := true })] }
    fab := f { base.fab with own := .inService } }

theorem wit_SleepPropose : ∃ s u : State, (∀ t ∈ [s, u], t.fab.proposal = none ∧ t.fab.nextProposalNs ≤ t.clockNs ∧
      lowestInService t (fun n => n / 64 == myNode t / 64) = some (myNode t) ∧ allInService t = [myNode t]) ∧
    sleepReady s = true ∧ sleepReady u = false := ⟨sleepy 6 id, sleepy 0 id, by decide +kernel⟩

theorem wit_WakePropose : News (sleepy 6 id) aFlood 4 1 ∧ (spread (pool2 id) aFlood 4 1 []).fab.own ≠ .inService ∧ News (pool2 id) aFlood 4 1 ∧
    (spread (sleepy 6 id) aFlood 4 1 []).fab.own = .inService ∧ myNode (spread (sleepy 6 id) aFlood 4 1 []) / 64 = 0 ∧
    sleepReady (spread (sleepy 6 id) aFlood 4 1 []) = true ∧ sleepReady (spread (sleepy 0 id) aFlood 4 1 []) = false ∧
    News (sleepy 0 id) aFlood 4 1 ∧ (spread (sleepy 0 id) aFlood 4 1 []).fab.own = .inService := by
  unfold News
  decide +kernel

theorem wit_WakeConsent : ∃ s : State, (consumeCtrl s 4 2 1).fab.proposal = some (0, [0]) ∧ allInService (consumeCtrl s 4 2 1) = [0, 1] ∧
    (consumeCtrl s 4 3 1).fab.proposal = some (0, [0]) ∧ 1 ∈ allInService (consumeCtrl s 4 2 5) ∧
    ([5, 0] : List Node).contains (BitVec.ofNat 12 1) = false ∧
    (allInService (consumeCtrl s 4 2 1)).all (fun n => ([1, 0] : List Node).contains (BitVec.ofNat 12 n)) = true :=
  ⟨pool2 (fun f => { f with
    own := .inService
    proposal := some (0, [0])
    members := [(1, { Member.zero with state := .inService })] }), by decide +kernel⟩

theorem wit_RowFloods : ∀ x ∈ [4, 5, 6], News (pool2 id) aFlood 4 x ∧ (spread (pool2 id) aFlood 4 x []).fab.waking = [] ∧
    myNode (spread (pool2 id) aFlood 4 x []) / 64 ≠ 63 ∧ rowAsleep (spread (pool2 id) aFlood 4 x []) 63 = false ∧
    News (pool2 (fun f => { f with rowsAsleep := 0x8000000000000000 })) aFlood 4 x ∧
    rowAsleep (spread (pool2 (fun f => { f with rowsAsleep := 0x8000000000000000 })) aFlood 4 x []) 63 = true := by
  unfold News
  decide +kernel

theorem wit_WakePattern : ∃ s : State, (link s 255).wakeSince = some 3 ∧ (link s 255).isUp = false :=
  ⟨linked 255 (fun r => { r with wakeSince := some 3 }), by decide +kernel⟩

/-- A device in service alone whose pool sections are of an epoch. -/
abbrev pending (epoch : Nat) (f : FabState → FabState) : State :=
  { base with
    img := { base.img with active := { Img.default with poolEpoch := BitVec.ofNat 32 epoch, poolDigest := 9 } }
    fab := f { base.fab with own := .inService } }

theorem wit_EpochPrepareStart : coordinator (pending 1 id) = some (myNode (pending 1 id)) ∧
    (pending 1 id).img.active.poolEpoch = (pending 1 id).fab.epoch + 1 ∧
    (pending 2 id).img.active.poolEpoch ≠ (pending 2 id).fab.epoch + 1 ∧ coordinator base ≠ some (myNode base) := by decide +kernel

theorem wit_EpochPrepare : News (pending 1 id) aFlood 7 1 ∧ (spread (pending 1 id) aFlood 7 1 []).fab.own = .inService ∧
    (spread (pending 1 id) aFlood 7 1 []).img.active.poolEpoch = 1 ∧
    (spread (pending 1 id) aFlood 7 1 []).fab.epoch.toNat < (1 : BitVec 32).toNat ∧
    (spread (pending 1 id) aFlood 7 1 []).img.active.poolEpoch ≠ 2 := by
  unfold News
  decide +kernel

theorem wit_EpochAnswers : ∃ (s u : State), (consumeCtrl s 7 2 1).fab.prepare = some (1, 9, [], []) ∧
    (consumeCtrl s 7 3 1).fab.prepare = some (1, 9, [], []) ∧ u.fab.prepare = some (1, 9, [], [5]) ∧ ([5] : List Node) ≠ [] :=
  ⟨pending 1 (fun f => { f with prepare := some (1, 9, [], []) }), pending 1 (fun f => { f with prepare := some (1, 9, [], [5]) }),
    rfl, rfl, rfl, by decide⟩

theorem wit_EpochCommit : News (pending 2 (fun f => { f with epoch := 1 })) aFlood 7 4 ∧
    (let u := spread (pending 2 (fun f => { f with epoch := 1 })) aFlood 7 4 []
     (0 : BitVec 32).toNat < u.fab.epoch.toNat ∧ u.fab.epoch.toNat < (2 : BitVec 32).toNat ∧ u.img.active.poolEpoch = 2 ∧
     u.img.active.poolDigest = 9 ∧ u.img.active.poolDigest ≠ 8 ∧ 1 = u.fab.epoch ∧ u.img.pool.poolDigest = Img.default.poolDigest) := by
  unfold News
  decide +kernel

theorem wit_CapacityPeriodic : reserveLow base ≤ framesF base ∧ base.fab.own ≠ .inService ∧
    reserveLow (pending 1 id) ≤ framesF (pending 1 id) ∧ (pending 1 id).fab.own = .inService := by decide +kernel

/-! ### Witnesses: regulation and faults -/

theorem wit_ShaperRefill : base.aon.st ≠ .rest ∧ base.aon.st ≠ .deep ∧ (∀ l, l < 14 → mgetD base.qos.holdQ l [] = []) ∧
    mgetD ({ base with qos := { base.qos with shapeRate := [(13, 100)] } } : State).qos.shapeRate 13 0 ≠ 0 :=
  ⟨by decide, by decide, fun _ _ => rfl, by decide⟩

/-- A write of QOS_SHAPE. -/
def shape (rate kib : Nat) : Word := BitVec.ofNat 64 (rate * 2 ^ 32 + kib)

theorem wit_ShapeWrite : 13 < (14 : Lbl).toNat ∧ (13 : Lbl).toNat ≤ 13 ∧ 1 ≤ (shape 0 1).toNat % 2 ^ 16 ∧
    (shape 0 4096).toNat % 2 ^ 16 ≤ 4096 ∧ base.img.active.locks secLabels 13 3 = false ∧ base.img.active.locks secLabels 13 6 = false ∧
    (shape 0 1).toNat / 2 ^ 32 = 0 ∧ labelRt base 13 = false ∧ 100 ≤ (shape 100 1).toNat / 2 ^ 32 ∧
    (shape 1000000 1).toNat / 2 ^ 32 ≤ 1000000 ∧ mgetD base.qos.shapeRate 13 0 = 0 ∧
    mgetD ({ base with qos := { base.qos with shapeRate := [(13, 100)] } } : State).qos.shapeRate 13 0 ≠ 0 := by decide +kernel

/-- A device whose label 13 is policed. -/
abbrev policed : State :=
  withImg (fun i => { i with overs := [(secLabels, [(13, ⟨false, 0x200, [0, 0, 0, 0, 0, 0, 0, 0, 0, 1, 0]⟩)])] })

/-- A write of QOS_POLICE. -/
def police (cir pir : Nat) : Word := BitVec.ofNat 64 (pir * 2 ^ 32 + cir)

theorem wit_PoliceWrite_ignored : 13 < (14 : Lbl).toNat ∧ policeMode base 13 = 0 ∧
    ¬ (100 ≤ (police 99 100).toNat % 2 ^ 32 ∧ (police 99 100).toNat % 2 ^ 32 ≤ 1000000) ∧
    ¬ (100 ≤ (police 100 1000001).toNat / 2 ^ 32 ∧ (police 100 1000001).toNat / 2 ^ 32 ≤ 1000000) := by decide +kernel

theorem wit_PoliceWrite : (13 : Lbl).toNat ≤ 13 ∧ policeMode policed 13 ≠ 0 ∧ policed.img.active.locks secLabels 13 4 = false ∧
    policed.img.active.locks secLabels 13 5 = false ∧ (police 101 100).toNat / 2 ^ 32 < (police 101 100).toNat % 2 ^ 32 ∧
    100 ≤ (police 100 1000000).toNat % 2 ^ 32 ∧ (police 100 1000000).toNat / 2 ^ 32 ≤ 1000000 ∧
    (police 100 1000000).toNat % 2 ^ 32 ≤ (police 100 1000000).toNat / 2 ^ 32 ∧ mgetD policed.qos.cir 13 0 = 0 ∧
    mgetD policed.qos.pir 13 0 = 0 := by decide +kernel

theorem wit_FaultEscalation : base.flt.inReset = false := rfl

theorem wit_FaultEscalation_levels : (∀ s ∈ [base, setCls { base with flt := { base.flt with resetUnacked := true } } 0x2C1
      { FltClass.zero with unacked := true }], s.flt.inReset = false) ∧ mappedLevel base 0x2C1 0 = 4 ∧
    (cls (setCls base 0x2C1 { FltClass.zero with unacked := true }) 0x2C1).unacked = true := by decide +kernel

theorem wit_FaultCommands : eventDefault 0 ≠ none ∧ (0 : BitVec 10) ≠ 0x164 ∧ eventDefault 0x3FF = none ∧
    (0x3FF : BitVec 10) ≠ 0x169 ∧ (0x2DF : BitVec 10).toNat < 0x2E0 ∧ eventDefault 0x2C7 ≠ none ∧ eventDefault 0x300 ≠ none ∧
    0x2FF < (0x300 : BitVec 10).toNat ∧ 0x2E0 ≤ (0x2E0 : BitVec 10).toNat ∧ (0x2FF : BitVec 10).toNat ≤ 0x2FF := by decide +kernel

/-- What acknowledging a class leaves of it. -/
abbrev acknowledged (s : State) (ev : Nat) : State :=
  let c := (cls s ev).atCycle s.clockNs
  setCls s ev { c with unacked := c.fresh != 0, pending := c.fresh, excluded := if c.fresh = 0 then [] else c.excluded }

theorem wit_ClassAcknowledge : ∃ s : State, alertL s = alertL (acknowledged s 0) ∧ alertL s ≠ alertL (acknowledged s 5) :=
  ⟨setCls { base with clockNs := 9 } 5 { FltClass.zero with unacked := true, lastAlert := true }, by decide +kernel⟩

theorem wit_ResetClassAcknowledge : base.flt.resetNs = base.clockNs ∧
    ({ base with clockNs := 1 } : State).flt.resetNs ≠ ({ base with clockNs := 1 } : State).clockNs := by decide

/-! ### Witnesses: power entry -/

theorem threshold_bounds (f : Feed) (k low high : Nat) (h : low ≤ high) : low ≤ threshold f k low high ∧ threshold f k low high ≤ high := by
  have : Config.comparator (2 * k + feedBit f) % (high - low + 1) < high - low + 1 := Nat.mod_lt _ (by omega)
  unfold threshold
  omega

theorem wit_FeedThresholds (f : Feed) : mvPresent f ≤ 5200 ∧ mvLow f ≤ 10250 ∧ 10250 ≤ mvHigh f ∧ mvLow f ≤ 13750 ∧ 13750 ≤ mvHigh f ∧
    10149 < mvLow f ∧ mvHigh f < 13851 ∧ 9499 < mvUnder f ∧ mvUnder f ≤ 9700 ∧ mvOver f < 14551 ∧ 14250 ≤ mvOver f ∧
    maFast f < 63001 ∧ 57000 ≤ maFast f := by
  have h1 := threshold_bounds f 1 4800 5200 (by omega)
  have h2 := threshold_bounds f 2 10150 10250 (by omega)
  have h3 := threshold_bounds f 3 13750 13850 (by omega)
  have h4 := threshold_bounds f 4 9500 9700 (by omega)
  have h5 := threshold_bounds f 5 14250 14550 (by omega)
  have h6 := threshold_bounds f 6 57000 63000 (by omega)
  unfold mvPresent mvLow mvHigh mvUnder mvOver maFast
  omega

/-- The state after reset with feed B changed. -/
abbrev fed (g : FeedRec → FeedRec) : State := setFeed base .b (g FeedRec.init)

theorem wit_FeedStart_states : ∀ st ∈ [FeedSt.absent, .outOfRange, .qualify, .ramp, .pgQual, .retryWait, .on, .latched, .testOff],
    (feed (fed (fun r => { r with st := st, limiting := true, mv := 10250 })) .b).st = st ∧
    (feed (fed (fun r => { r with st := st })) .b).limiting = false := by decide

theorem wit_FeedStart_rest : feedExpected base .b = true ∧
    feedExpected { base with pwr := { base.pwr with expected := 1 } } .b = false ∧ (feed base .b).oringOn = false ∧
    (feed (fed (fun r => { r with st := .ramp, oringOn := true })) .b).oringOn = true ∧
    base.pwr.single = false ∧ runOf base 0x03 = none ∧ (feed base .b).st ≠ .on ∧ (feed base .b).st ≠ .latched := by decide +kernel

theorem wit_FeedStart_retry (f : Feed) : mvLow f ≤ 10250 ∧ 10250 ≤ mvHigh f ∧ 0 < mvLow f :=
  ⟨(wit_FeedThresholds f).2.1, (wit_FeedThresholds f).2.2.1, Nat.lt_of_le_of_lt (Nat.zero_le _) (wit_FeedThresholds f).2.2.2.2.2.1⟩

/-- Feed B ON, each point of its curve having been exceeded for all but the last of its samples. -/
abbrev worn : State := fed (fun r => { r with st := .on, gateOn := true, curve := [(0, 60000000 - 1)] })

theorem wit_BreakerSample (ma : Nat) (h : ma = 27501 ∨ ma = 27500) : ma ≤ maFast .b ∧ (feed worn .b).st = .on ∧
    curvePoints worn = 0 :: [1, 2, 3] ∧
    ((curvePoints worn).map (fun k => (k, if curveMa worn k < ma then mgetD (feed worn .b).curve k 0 + 1 else mgetD (feed worn .b).curve k 0 - 1))) =
      (if ma = 27501 then [(0, 60000000), (1, 0), (2, 0), (3, 0)] else [(0, 59999998), (1, 0), (2, 0), (3, 0)]) ∧
    curveMa worn 0 = 27500 ∧ curveUs worn 0 = 60000000 := by
  refine ⟨by have := (wit_FeedThresholds .b).2.2.2.2.2.2.2.2.2.2.2.2; omega, by decide, by decide +kernel, ?_, by decide +kernel, by decide +kernel⟩
  rcases h with rfl | rfl <;> decide +kernel

theorem wit_BreakerSample_off : (feed base .b).gateOn = false ∧ (feed base .b).st ≠ .on ∧ (feed worn .b).gateOn = true ∧
    (feed (fed (fun r => { r with st := .ramp, gateOn := true })) .b).gateOn = true ∧ (131071 : BitVec 17).toNat = 131071 := by decide

theorem wit_FeedTest : ∃ s : State, (feed s .b).gateOn = true ∧ (feed s (otherFeed .b)).st = .on ∧ (feed base (otherFeed .b)).st ≠ .on ∧
    (feed base .b).gateOn = false ∧ (feed base .b).st ≠ .testOff :=
  ⟨setFeed (fed (fun r => { r with st := .on, gateOn := true })) .a { FeedRec.init with st := .on }, by decide⟩

theorem wit_FeedReleased : (feed base .b).releaseNs ≠ some base.clockNs ∧
    (feed (fed (fun r => { r with gateOn := true })) .b).gateOn = true := by decide

theorem wit_StartTimerTrip : ∃ s : State, (feed s .b).st = .ramp ∧ (feed s .b).limiting = true ∧ (feed base .b).limiting = false :=
  ⟨fed (fun r => { r with st := .ramp, limiting := true }), by decide⟩

/-! ### Witnesses: Radish and the power states -/

/-- The state after reset with a rule of Radish in a state. -/
abbrev ruled (r : Nat) (x : RuleSt) : State := { base with aon := { base.aon with rules := [(r, x)] } }

/-- A rule whose condition has held for `n` ticks. -/
def heldFor (n : Nat) : RuleSt := { RuleSt.zero with cond := true, held := n }

theorem wit_RuleFire : ruleDue (ruled 0 (heldFor 4)) 0 = true ∧ ruleFld (ruled 0 (heldFor 4)) 0 10 ≠ 0xFFFF ∧
    ruleFld (ruled 0 (heldFor 4)) 0 5 ≠ 1 ∧ ruleFld (ruled 0 (heldFor 4)) 0 5 ≠ 5 ∧ ruleDue (ruled 4 (heldFor 1)) 4 = true ∧
    ruleFld (ruled 4 (heldFor 1)) 4 10 = 0xFFFF ∧ ruleFld (ruled 4 (heldFor 1)) 4 5 = 5 ∧ ruleDue (ruled 0 (heldFor 3)) 0 = false := by
  decide +kernel

theorem wit_RadishStates : ∀ st ∈ [PowerSt.run, .doze, .rest, .deep],
    ({ base with aon := { base.aon with st := st, vauxOut := true, refLost := true } } : State).aon.st = st := by decide

theorem wit_Vaux : 1700 ≤ (1700 : BitVec 16).toNat ∧ (3600 : BitVec 16).toNat ≤ 3600 ∧ (1699 : BitVec 16).toNat < 1700 ∧
    3600 < (3601 : BitVec 16).toNat ∧ base.aon.vauxOut = false ∧ base.aon.refLost = false ∧ base.aon.custodyDdr = 0 ∧
    base.aon.custodyRld = 0 ∧ base.flt.latch = false := by decide

theorem wit_Custody : ∃ s u : State, s.aon.custodyDdr ≠ 0 ∧ u.aon.custodyRld ≠ 0 :=
  ⟨{ base with aon := { base.aon with custodyDdr := 0x800 } }, { base with aon := { base.aon with custodyRld := 8 } }, by decide⟩

/-- The state after reset with the rule fired that calls for Doze. -/
abbrev dozing : State := ruled 5 { RuleSt.zero with firing := true }

theorem wit_DozeEntry : dozing.aon.st = .run ∧ actionFires dozing 2 = true ∧ dozing.aon.dozeOff = false ∧ mayDescend dozing = true ∧
    dozing.sec.held.getLsbD 0 = false ∧ ({ dozing with sec := { base.sec with held := 1 } } : State).sec.held.getLsbD 0 = true ∧
    actionFires base 2 = false ∧
    mayDescend { dozing with aon := { dozing.aon with holdRun := true } } = false := by decide +kernel

/-- A device of a sleeping row in a state, the rules for Rest and for Deep having fired. -/
abbrev resting (st : PowerSt) (deep : Bool) : State :=
  { withImg (fun i => { i with overs := [(secRules, [(7, ⟨false, 0x7FF, [48, 0, 0, 0, 1, 4, 15, 0, 0, 0, 65535]⟩)])] }) with
    aon := { base.aon with st := st, rules := (6, { RuleSt.zero with firing := true }) ::
      (if deep then [(7, { RuleSt.zero with firing := true })] else []) }
    fab := { base.fab with own := .asleep, rowsAsleep := 1 } }

theorem wit_RestEntry : (resting .doze false).aon.st = .doze ∧ rowSlept (resting .doze false) = true ∧
    actionFires (resting .doze false) 3 = true ∧ mayDescend (resting .doze false) = true ∧ hostLow (resting .doze false) = true ∧
    nothingOpen (resting .doze false) = true ∧ (resting .doze false).aon.wakeOwed = false ∧ rowSlept base = false ∧ actionFires base 3 = false ∧
    hostLow { base with host := { base.host with linkLow := none, speed := 6 } } = false := by decide +kernel

theorem wit_DeepEntry : (resting .rest true).aon.st = .rest ∧ rowSlept (resting .rest true) = true ∧
    actionFires (resting .rest true) 3 = true ∧ actionFires (resting .rest true) 4 = true ∧ mayDescend (resting .rest true) = true ∧
    hostLow (resting .rest true) = true ∧ actionFires (resting .rest false) 4 = false := by decide +kernel

/-- The same in a pool of two, so that link 0 is used. -/
abbrev lightable (st : PowerSt) (exiting : Bool) : State :=
  { buddied with aon := { base.aon with st := st, exiting := exiting, wakeCause := 2, lightWakeNs := some 0 } }

theorem wit_Light : (lightable .rest false).aon.st = .rest ∧ linkUsed (lightable .rest false) 0 = true ∧
    (lightable .rest false).aon.exiting = false ∧ linkUsed base 0 = false ∧ (lightable .rest true).aon.exiting = true ∧
    (∀ l ∈ usedLinks (lightable .rest true), linkMet (lightable .rest true) l = false) ∧ base.aon.lightWakeNs = none := by decide +kernel

theorem wit_DeepExit : ∃ s : State, s.aon.st = .deep ∧ deepCause s .hostWake = some 4 ∧ base.aon.st ≠ .deep :=
  ⟨{ base with aon := { base.aon with st := .deep, hostWake := true } }, by decide +kernel⟩

/-! ### Witnesses: the secure world -/

theorem wit_SecLengths : ([0] : List Byte) ≠ [] ∧ ([] : List Byte).length ≠ 1795 + field ([] : List Byte) 1793 2 ∧
    ([] : List Byte).length ≠ 2 + field ([] : List Byte) 0 2 ∧ ([] : List Byte).length ≠ 0x692 + field ([] : List Byte) 0x690 2 ∧
    ([] : List Byte).length ≠ 6 + field ([] : List Byte) 4 2 ∧ ([] : List Byte).length < 1573 + field ([] : List Byte) 0 4 := by decide +kernel

/-- The state after reset with a nonce and owner slots. -/
abbrev nonced (slots : List OwnerSlot) : State := { base with sec := { base.sec with nonce := some ⟨5, 0, false⟩, slots := slots } }

/-- The input of an ENROL. -/
def enrolInput : List Byte := List.replicate 1793 7 ++ natLe 2 1 ++ [0]

theorem wit_Enrol : enrolInput.length ≤ 16384 ∧ nonceBytes (nonced []) = some (natLe 32 5) ∧ enrolInput.length = 1795 + field enrolInput 1793 2 ∧
    field enrolInput 1793 2 ≠ 0 ∧ (nonced []).sec.secured = true ∧ ownerDigest (nonced []) = none ∧ (nonced []).sec.slots.length < 4 ∧
    nonceBytes (nonced [⟨[1], false⟩]) = some (natLe 32 5) ∧ ownerDigest (nonced [⟨[1], false⟩]) ≠ none ∧
    nonceBytes (nonced (List.replicate 4 ⟨[1], true⟩)) = some (natLe 32 5) ∧ 4 ≤ (nonced (List.replicate 4 ⟨[1], true⟩)).sec.slots.length := by
  decide +kernel

theorem wit_Release : ∃ (s u : State) (input : List Byte), input.length ≤ 16384 ∧ nonceBytes s = some (natLe 32 5) ∧
    input.length = 2 + field input 0 2 ∧ field input 0 2 ≠ 0 ∧ extentCount s.chd.extents ≠ 0 ∧ nonceBytes u = some (natLe 32 5) ∧ extentCount u.chd.extents = 0 ∧
    (ownerDigest u).isSome = true :=
  ⟨{ nonced [] with chd := { base.chd with extents := [(0, anExtent)] } }, nonced [⟨[1], false⟩], natLe 2 1 ++ [0], by decide +kernel⟩

theorem wit_SvnRaise : ∃ (s : State) (input : List Byte), input.length ≤ 16384 ∧ nonceBytes s = some (natLe 32 5) ∧
    input.length = 6 + field input 4 2 ∧ field input 4 2 ≠ 0 ∧ field input 0 1 = 1 ∧ field input 1 1 = 64 ∧ allZero input 2 2 = true ∧
    (ownerDigest s).isSome = true :=
  ⟨nonced [⟨[1], false⟩], [1, 64, 0, 0] ++ natLe 2 1 ++ [0], by decide +kernel⟩

/-- The input of a KEY_SUPPLY of serial 1 for domain 4,095. -/
def keyInput (serial : Nat) : List Byte :=
  natLe 2 4095 ++ [0, 0] ++ natLe 4 serial ++ List.replicate 1672 0 ++ natLe 2 1 ++ [0]

/-- A device whose domain 4,095 takes supplied keys. -/
abbrev supplied : State :=
  withImg (fun i => { i with overs := [(secDomains, [(4095, ⟨false, 0x2, [0, 2]⟩)])] })

theorem wit_KeySupply : (keyInput 1).length ≤ 16384 ∧ (keyInput 1).length = 0x692 + field (keyInput 1) 0x690 2 ∧
    1 ≤ field (keyInput 1) 0x690 2 ∧ field (keyInput 1) 0x690 2 ≤ 1462 ∧ field (keyInput 1) 0 2 ≤ 4095 ∧
    domainSource supplied (field (keyInput 1) 0 2) = 2 ∧ field (keyInput 1) 3 1 = 0 ∧
    (domKeys supplied 4095).supplySerial.toNat < field (keyInput 1) 4 4 ∧ field (keyInput 1) 2 1 = 0 ∧ (domKeys supplied 4095).cur = none ∧
    (keyInput 0).length = 0x692 + field (keyInput 0) 0x690 2 ∧ field (keyInput 0) 4 4 ≤ (domKeys supplied 4095).supplySerial.toNat := by
  decide +kernel

theorem wit_BuddyPair : ∃ input : List Byte, 1573 + field input 0 4 ≤ input.length ∧ input.length ≤ field input 0 4 + 3034 ∧
    input.length ≤ 16384 ∧ field input 0 4 ≠ 0 ∧ base.chd.mirror ≠ .mirrored :=
  ⟨natLe 4 1 ++ List.replicate 1570 0, by decide +kernel⟩

theorem wit_AccessRefused : elapsed base base.sec.refusedNs 1000000 = true ∧
    elapsed { base with clockNs := 999999 } (some 0) 1000000 = false ∧ elapsed { base with clockNs := 1000000 } (some 0) 1000000 = true := by
  decide

/-- The state after reset with a hold window open. -/
abbrev held (requests : NMap PowerChange) : State :=
  { base with sec := { base.sec with held := 0x41, windowNs := some 0, requests := requests } }

theorem wit_HoldVotes : base.sec.lockoutNs ≤ base.clockNs ∧ (0x40 : BitVec 7) ≠ 0 ∧ base.sec.held = 0 ∧ (held []).sec.held ≠ 0 ∧
    ({ base with sec := { base.sec with lockoutNs := 1 } } : State).clockNs < 1 ∧ (held []).sec.lockoutNs ≤ (held []).clockNs ∧
    (held []).sec.held.getLsbD 6 = true ∧ (held []).sec.pendingRaised = false ∧ (held []).sec.held.getLsbD 5 = false ∧
    ({ held [] with sec := { (held []).sec with pendingRaised := true } } : State).sec.held.getLsbD 0 = true := by decide

theorem wit_HoldWindow : base.sec.windowNs = none ∧ (held []).sec.windowNs ≠ none ∧ (held []).sec.requests = [] ∧
    (held []).sec.held &&& ~~~(0x7F : BitVec 7) = 0 ∧ (held []).sec.held &&& ~~~(1 : BitVec 7) ≠ 0 ∧
    (held [(6, .gate)]).sec.requests = [(6, .gate)] ∧ (held [(6, .gate)]).sec.windowNs ≠ none := by decide

theorem wit_Watchdog : base.sec.gated.getLsbD 0 = false ∧ base.sec.gated.getLsbD 6 = false ∧
    ({ base with sec := { base.sec with gated := 0x40 } } : State).sec.gated.getLsbD 6 = true := by decide

theorem wit_Spdm_early : base.host.infoValid = false ∧ ∀ c ∈ [Instr.getVersion, .getCapabilities, .getDigests],
    c ∈ [Instr.getVersion, .getCapabilities, .getDigests] := by decide

/-- A ready SPDM responder. -/
abbrev spdm (a : Bool) (out : Option (BitVec 8 × Nat × List Byte)) : State :=
  { served with sec := { base.sec with spdmVersion := a, spdmCaps := a, spdmAlg := a, chunkOut := out } }

theorem wit_Spdm : ∀ a ∈ [true, false], (spdm a none).host.infoValid = true ∧ (spdm a none).sec.spdmVersion = a ∧
    (spdm a none).sec.spdmCaps = a ∧ (spdm a none).sec.spdmAlg = a ∧ (spdm a none).sec.secured = true := by decide

theorem wit_SpdmChunks : (List.replicate 65536 (0 : Byte)).length ≤ 65536 ∧ (spdm true (some (255, 0, [1]))).sec.chunkOut = some (255, 0, [1]) :=
  ⟨by rw [List.length_replicate], rfl⟩

/-! ### Witnesses: start-up and resets -/

/-- The state after reset with a boot step in progress. -/
abbrev booting (k : Nat) : State := { base with boot := { base.boot with running := [⟨k, 0, 0⟩] } }

theorem wit_BootStepEnd : runOf base 0x01 = none ∧ ∀ k ∈ [0x01, 0x02, 0x04, 0x10, 0x1B, 0x30, 0x38],
    (runOf (booting k) k ≠ none) = true ∧ (BitVec.ofNat 8 k).toNat = k := by decide +kernel

theorem wit_BootStepEnd_rest : ({ booting 0x30 with fab := { base.fab with own := .inService } } : State).fab.own = .inService ∧
    (booting 0x38).coh.sliceUnknown = 0 ∧
    (modRecord { passStep (booting 0x38) 0x38 0 with coh := { (passStep (booting 0x38) 0x38 0).coh with serving := true } }
      (fun x => { x with final := 0x01 })).coh.sliceUnknown = 0 := by decide +kernel

theorem wit_ActiveLate : base.host.memActive = false ∧ base.boot.st ≠ .serving ∧ base.boot.lateRaised = false ∧ base.boot.activeMs = 0 ∧
    ({ base with boot := { base.boot with lateRaised := true } } : State).boot.lateRaised = true ∧ base.boot.st ≠ .halted ∧
    base.boot.st ≠ .romRecovery ∧ ({ base with boot := { base.boot with st := .halted } } : State).boot.st = .halted := by decide

theorem wit_DeviceReset : ∃ s u v : State, s.flt.inReset = true ∧ u.flt.latch = true ∧ v.flt.inReset = false ∧ v.flt.latch = false ∧
    0x04 ∈ v.boot.ended ∧ v.host.background = none ∧ v.boot.st = .serving ∧ base.boot.st ≠ .serving :=
  ⟨{ base with flt := { base.flt with inReset := true } }, { base with flt := { base.flt with latch := true } },
    { base with boot := { base.boot with ended := [0x04], st := .serving } }, by decide +kernel⟩

/-- What a boot step reports that found nothing wrong, with a DIMM or none at position 0 of its channel. -/
def aReport (spd : Option Spd) (hot : Bool) : StepReport := ⟨true, 0, 0, 0, 0, false, false, hot, spd, none, []⟩

/-- A boot step in progress with an image that has no DIMM in channel 0. -/
abbrev bare : State :=
  { booting 0x10 with img := { base.img with restart := { Img.default with overs := [(secDimm, [(0, ⟨true, 0, []⟩)])] } } }

theorem wit_BootStepEnd_channel : (runOf bare 0x10 ≠ none) ∧ channelAgrees bare 0 (aReport (some ⟨2, 256, 6400, 0, 0, 0⟩) false) = false ∧
    channelAgrees bare 0 (aReport none false) = true ∧ channelGib bare 0 = 0 ∧ runOf (booting 0x1B) 0x1B ≠ none ∧
    channelAgrees (booting 0x1B) 11 (aReport (some ⟨2, 128, 6400, 0, 0, 0⟩) false) = false := by decide +kernel

theorem wit_BootStepEnd_tables : runOf (booting 0x20) 0x20 ≠ none ∧ (booting 0x20).boot.custody = false ∧
    (aReport none true).hot = true ∧ (aReport none false).hot = false ∧ (aReport none false).ok = true ∧
    ({ aReport none false with ok := false } : StepReport).ok = false := by decide +kernel

theorem wit_CxlReset : base.flt.inReset = false ∧ base.flt.latch = false ∧
    ({ base with host := { base.host with perst := false, crs := false } } : State).host.perst = false ∧
    ({ base with host := { base.host with crs := true } } : State).host.crs = true ∧ base.host.background = none := by decide

/-! ### Witnesses: host memory, counters, the step -/

theorem wit_HostRequest_none : served.host.memFenced = false ∧ served.fab.selfFenced = false ∧
    (hdmDecode served 0x10000000).bind (fun dpa => extentOf served dpa) = none := by decide +kernel

/-- An open device whose decoder maps the first 256 MiB of the window, with an extent of one 2 MiB unit. -/
abbrev mapped : State :=
  { openedWith [(0, anExtent)] with host := { opened.host with decoders := [(0, ⟨aDecoder true, true, false⟩)] } }

theorem wit_HostRequest_extent : mapped.host.memFenced = false ∧ mapped.fab.selfFenced = false ∧ hdmDecode mapped 0x1FFFFF = some 0x1FFFFF ∧
    extentOf mapped 0x1FFFFF = some (0, anExtent) := by decide +kernel

theorem wit_HostTry_waits : (resting .doze false).aon.st ≠ .run ∧ base.host.memActive = false ∧ 0 ≤ 13 ∧
    injWindow mapped 0 ≤ mgetD ({ mapped with qos := { mapped.qos with inProgress := [(0, 1000000)] } } : State).qos.inProgress 0 0 := by
  decide +kernel

theorem wit_HostTry_goes : ∃ s : State, s.aon.st = .run ∧ s.host.memActive = true ∧ mgetD s.qos.inProgress 0 0 < injWindow s 0 ∧
    shaped s 0 = false ∧ extentTaken s 0 = some (0, anExtent) ∧ sharedKey anExtent 0 = none ∧
    (s.chd.ownedAway.isSome && anExtent.attrs.mirrored) = false ∧
    (let t := makeWay { s with qos := { s.qos with inProgress := [(0, 1)] } } 0 (.hostRd .any none)
     pendBefore t 0 = false ∧ mayTake t 0 (.hostRd .any none) = true) :=
  ⟨mapped, by decide +kernel⟩

/-- A device whose counters count, with counter 127 selected. -/
abbrev counting (ctr : Nat) : State := { base with pmc := { base.pmc with
  counting := true
  sel := [(127, { PmcSel.zero with enable := true })]
  ctr := [(127, BitVec.ofNat 48 ctr)] } }

theorem wit_PmcCtrWrite : base.pmc.before = none ∧ base.pmc.selOld = none ∧ (counting 0).pmc.before = none ∧ (counting 0).pmc.selOld = none ∧
    base.pmc.counting = false ∧ (counting 0).pmc.counting = true ∧ (counting 0).pmc.frozen = false ∧
    (counting 0).pmc.freezeProg = false ∧ (counting 0).pmc.sel = [(127, mgetD (counting 0).pmc.sel 127 PmcSel.zero)] ∧
    (mgetD (counting 0).pmc.sel 127 PmcSel.zero).enable = true ∧ (mgetD (counting 0).pmc.sel 127 PmcSel.zero).ovfIe = false ∧
    (0xFFFFFFFFFFFF : Word).toNat % 2 ^ 48 + 0 < 2 ^ 48 ∧ 2 ^ 48 ≤ (0xFFFFFFFFFFFF : Word).toNat % 2 ^ 48 + 1 := by decide +kernel

theorem wit_PmcUpageWrite : (3 : Word).toNat % 4 = 3 ∧ (2 : Word).toNat % 4 = 2 ∧ (2 : Word).toNat / 2 ^ 16 % 2 ^ 8 = 0 ∧
    128 < (0x017F02 : Word).toNat / 2 ^ 8 % 2 ^ 7 + 2 ∧ (1 : Word).toNat % 4 ≤ 1 ∧ (0x017F02 : Word).toNat % 4 = 2 ∧
    1 ≤ (0x017F02 : Word).toNat / 2 ^ 16 % 2 ^ 8 ∧
    (0x017F02 : Word).toNat / 2 ^ 8 % 2 ^ 7 + (0x017F02 : Word).toNat / 2 ^ 16 % 2 ^ 8 ≤ 128 := by decide

theorem wit_RegisterWrite : (4 : BitVec 26).toNat % 8 ≠ 0 ∧ (2 : BitVec 26).toNat % 4 ≠ 0 ∧ 0x1200000 ≤ (0x1200000 : BitVec 26).toNat := by decide

theorem wit_Step : ∃ s : State, s.pending = [] ∧ (s.clockNs + 1) % 1000 ≠ 0 := ⟨base, by decide⟩

theorem inv_reset : Inv State.reset := ⟨rfl, rfl⟩

theorem wit_Invariant : ∃ s t : State, Inv s ∧ step s = .next t := ⟨base, tick base, inv_reset, rfl⟩

/-! ### Witnesses: the encodings -/

theorem wit_Frames_carry : ∃ (ctrls others : List Msg),
    (((ctrls ++ others).map Msg.slotCount).foldl (· + ·) 0) ≤ 15 ∧ (∀ m ∈ ctrls ++ others, m.slots.length ≤ 4 ∧ m.op ≠ 0 ∧ m.rx = none) ∧
    (∀ m ∈ ctrls, m.vc = 15 ∧ m.joined = false ∧ m.cont = none ∧ m.age = 0 ∧ m.isNew = false) ∧
    (∀ m ∈ others, m.vc ≠ 15 ∧ m.op.toNat ≤ topOp m.cls ∧ (m.joined = true ↔ m.cont ≠ none) ∧
      ∀ c, m.cont = some c → c.slots.length ≤ 4) ∧ ctrls ≠ [] ∧ others ≠ [] := by
  refine ⟨[mkCtrl 1 1 5 0 0 []], [{ mkCtrl 1 1 5 0 0 [] with vc := 0, slots := [7, 8] }], by decide +kernel, by decide +kernel,
    by decide +kernel, ?_, by decide, by decide⟩
  intro m hm
  rw [List.mem_singleton] at hm
  subst hm
  refine ⟨by decide +kernel, by decide +kernel, by decide +kernel, ?_⟩
  intro c hc
  cases hc

theorem wit_Compression : oneBlock.length = 1024 ∧ (Primer.mk [] []).phrases.length ≤ 2048 := by decide +kernel

/-! ### Worked examples of the manual -/

/-- The descriptor of the worked example after R86. -/
def exampleDesc : Desc := mkDesc tierPacked true 5 false true false false (packBlens [3, 0, 16, 7]) 0x123456 0x2A5 0x42

theorem test_descriptor_bits : exampleDesc = 0x5150003C003000048D158A9401080000 := by decide +kernel

theorem test_descriptor_reads : dTier exampleDesc = tierPacked ∧ dKgen exampleDesc = true ∧ dPrimer exampleDesc = 5 ∧ dPods exampleDesc = 26 ∧
    dBlockLoc exampleDesc 2 = 0x123459 ∧ dBlockLoc exampleDesc 3 = 0x123469 ∧ dNode exampleDesc = 0x2A5 ∧ dVers exampleDesc = 0x42 ∧
    dNamesPrimer exampleDesc = true := by decide +kernel

/-- The primer of the worked encoding of chapter 06. -/
def examplePrimer : Primer := ⟨[], [[0x69, 0x64, 0x3D], [0x6F, 0x6B]]⟩

/-- The block of the worked encoding. -/
def exampleBlock : List Byte := [0x69, 0x64, 0x3D, 0x61, 0x61, 0x61, 0x61, 0x61] ++ List.replicate 1016 0

/-- The stored form of the worked encoding. -/
def exampleStored : List Byte :=
  [0x02, 0xC3, 0x14, 0x2C, 0x18, 0xF0, 0x0F, 0xF8, 0x07, 0xFC, 0x03, 0xF6, 0x00, 0x01] ++ List.replicate 50 0

theorem test_compress : compressBlock examplePrimer exampleBlock = .packed 1 exampleStored := by decide +kernel

theorem test_decode_expansion : (match decodeBlock examplePrimer 1 (exampleStored.set 13 0) with
    | .error .expansion => true
    | _ => false) = true := by decide +kernel

theorem test_tweak : xtsTweak 0x01C 0x2A5 (unitOfBlock 0x001234567800) true = 0x1C2A5800091A2B3D := by decide +kernel

theorem test_directory_set : dirSetOf (0x001234567840 / 64) = 0xD14BA9 := by decide +kernel

theorem test_link_peers : neighbours 16 64 = 78 ∧ linkPeer 16 64 2 677 77 = some (703, 52) ∧ linkPeer 16 64 2 677 155 = some (703, 130) ∧
    linkPeer 16 64 2 677 1 = some (101, 9) ∧ linkPeer 16 64 2 677 79 = some (101, 87) ∧
    (([0, 8, 16, 24].map (linkPeer 16 64 2 677)).map (·.map (·.1))) = [some 37, some 549, some 641, some 649] := by decide +kernel

theorem test_dram_address : paChannel base 0x123456780 = 6 ∧ paChannelAddr base 0x123456780 = 0x1845C780 ∧
    rankOf base 6 0x1845C780 = 1 ∧ (bankOf base 6 0x1845C780) = ((((1 * 4 + 0) * 2 + 0) * 8 + 6) * 4 + 2, 194) := by decide +kernel

/-- The scheduler of the worked example after R395: two reads of label 2 left, and two of label 5 that arrive. -/
def exampleWfq : Wfq Nat :=
  let q : Wfq Nat := ⟨262144, [(2, 524288), (5, 40000)], [⟨3, 2, 393216, true⟩, ⟨4, 2, 524288, true⟩]⟩
  wfqPush (wfqPush q 5 16 64 true 1) 5 16 64 true 2

/-- Serve a number of items. -/
def serveAll : Nat → Wfq Nat → List (Nat × Nat × Nat)
  | 0, _ => []
  | n + 1, q => match wfqPick q (fun _ => false) (fun _ => false) (fun _ => true) (fun _ => 0) with
    | none => []
    | some (x, q) => (x.label, x.item, q.v.toNat) :: serveAll n q

theorem test_fair_queue : serveAll 5 exampleWfq = [(2, 3, 393216), (2, 4, 524288), (5, 1, 524288), (5, 2, 786432)] := by decide +kernel

/-- The state a command leaves, where it answers one. -/
def after (c : Instr) (s : State) : State :=
  match exec c s with
  | .next t => t
  | _ => s

theorem test_pmc_write : (mget (after (.pmcCtrWrite 6 0xFFFFFFFFFC18 2) { base with pmc := { base.pmc with
    counting := true
    sel := [(6, { PmcSel.zero with enable := true })] } }).pmc.ctr 6) = some 0xFFFFFFFFFC1A := by decide +kernel

theorem test_escalation : let s := raiseLink (raiseLink base 77 0x06) 77 0x06
    (s.flt.log.map (fun r => (r.mapped, r.effective, r.escalated))) = [(2, 3, true), (2, 2, false)] ∧
    s.flt.react = [.fence 77 (.link 77)] ∧ alertL s = false := by decide +kernel

theorem test_watchdog_level : mappedLevel base 0x2E1 0 = 4 ∧ mappedLevel base 0x1F7 0 = 4 := by decide +kernel

/-- The extent of the worked example of chapter 14. -/
abbrev hinted : State := openedWith [(0, { anExtent with dpa2m := 0x1234400000 / 2097152 })]

theorem test_hint_past_extent :
    (after (.placeHint .mailbox (anEntry [(0, 4), (8, 0x1234567000), (0x10, 512), (0x14, 2)])) hinted).host.bgOutput.map (·.status) =
      some 0x02 ∧
    (after (.placeHint .mailbox (anEntry [(0, 4), (8, 0x1234567000), (0x10, 153), (0x14, 2)])) hinted).host.bgOutput.map (·.status) =
      some 0x00 := by decide +kernel

/-- The first bytes of SHAKE256 of the empty message (FIPS 202's published vector). -/
theorem test_shake256 : shake256 [] 8 = [0x46, 0xB9, 0xDD, 0x2B, 0x0B, 0xA8, 0x8D, 0x13] := by decide +kernel

/-- The lands of the worked example after R646, and two links' fibres (R301, R642). -/
theorem test_lands : landSignal 69 20 = .dq 7 1 13 ∧ landSignal 69 24 = .dqsC 7 1 3 ∧ landSignal 56 7 = .i3cScl 3 ∧
    landSignal 56 8 = .i3cSda 3 := by decide +kernel

theorem test_land_names : landName 40 35 = "BB35" ∧ landName 69 20 = "CM20" ∧ landName 56 7 = "BW7" := by decide +kernel

/-- An RLD line with two bytes wrong is corrected, and one with three is found (R458). -/
theorem test_rld_code : (readRld false 0xABCD 0xFF00000000000000000001).1 = .corrected 0 ∧
    (readRld false 0xABCD 0xFF00000000000000000001).2 = 0xABCD ∧ (readRld false 0xABCD 0x0101000000000001).1 = .uncorrectable := by
  decide +kernel

/-- A DDR-5 burst with device 1 wrong in all its lanes reads as it was stored; a marker reads as poison (R452 to R454). -/
theorem test_ddr_code : (readDdr none false 0xABCD 0x1111222233334444000000000000000000000000000000000000000000000000).2 = 0xABCD ∧
    (ddrDecode none hostMarker).1 = .marker false ∧ (ddrDecode none mediaMarker).1 = .marker true := by decide +kernel

/-! ### Ill-formed commands -/

theorem test_wf_payload (p : List Byte) (h : p.length = 65537) : ∀ c ∈ [Instr.imageStageBegin p, .imageStageData p, .imageStageCommit p,
    .imageStageAbort p, .queueCreate p, .queueDelete p, .execEntry p [] true, .transferFw 0 1 0 p], c.wf = false := by
  simp [Instr.wf, payloadFits, h]

theorem test_wf_sec (p : List Byte) (h : p.length = 16385) : ∀ c ∈ [Instr.challenge p, .enrol p, .release p, .keySupply p, .transportKey p,
    .svnRaise p, .buddyPair p, .info p], c.wf = false := by
  simp [Instr.wf, secFits, h]

theorem test_wf_blocks : (Instr.execEntry [] [[1]] true).wf = false ∧ (Instr.primerEval .mailbox 0 [[1]] true).wf = false ∧
    (Instr.primerEval .mailbox 0 [oneBlock] true).wf = true := by decide +kernel

theorem test_wf_entries (es : List Line) (h : es.length = 65537) : (Instr.sqTail 0 0 es).wf = false := by
  simp [Instr.wf, h]

theorem test_wf_temps : (Instr.dimmTempRead (List.replicate 23 0)).wf = false ∧ (Instr.dimmTempRead (List.replicate 24 0)).wf = true := by
  decide +kernel

theorem test_wf_step : (Instr.bootStepEnd 0x39 (aReport none false) none).wf = false ∧ (Instr.bootStepEnd 0x1C (aReport none false) none).wf = false ∧
    (Instr.bootStepEnd 0x38 (aReport none false) none).wf = true := by decide +kernel

theorem test_wf_member : (Instr.heartbeat 0 1 0 8 false false).wf = false ∧ (Instr.routeMember aFlood (aRecord 8 0)).wf = false ∧
    (Instr.joinAccept 0 1 8 0 0 1 []).wf = false ∧ (Instr.joinAccept 0 1 1 0 0 1 [aRecord 9 0]).wf = false ∧
    (Instr.routeMember aFlood (aRecord 7 0)).wf = true := by decide +kernel

theorem test_wf_join_parts : (Instr.joinAccept 0 1 1 0 1 1 []).wf = false ∧ (Instr.joinAccept 0 1 1 0 0 1 [aRecord 7 0]).wf = true := by
  decide +kernel

theorem test_wf_register : (Instr.registerWrite 4 true 0).wf = false ∧ (Instr.registerWrite 2 false 0).wf = false ∧
    (Instr.registerWrite 4 false 0).wf = true ∧ (Instr.registerWrite 8 true 0).wf = true := by decide +kernel

end Sys2Proof.Tests
end

section
/-! SUPPORT. One pass through the device (01): heartbeats (R319 to R322, R332), regulation (R400 to R416), the power states (R587 to
R597) and host memory requests (R17, R21, R73, R407). Each part states what the operation of its unit does in each case, and ends
with the obligation that puts the cases together. -/

namespace Sys2Proof.Proofs.OnePass

open Sys2Proof Sys2Proof.Machine Sys2Proof.Safety

/-! ### Ends of steps -/

/-- A command whose own effect is `t'` ends where an equation for that effect says. -/
theorem ends_of_eq {c : Instr} {s t t' : State} (hexec : exec c s = .next (settle t')) (h : t' = t) : Ends c s t :=
  ends_of (h ▸ hexec)

theorem endsWork_of_eq {c : Instr} {s t t' : State} (hexec : exec c s = .next (work t')) (h : t' = t) : EndsWork c s t :=
  endsWork_of (h ▸ hexec)

/-! ### Heartbeats sent and heard (R319, R322, R333) -/

theorem heartbeatSend_keeps_proposal {s : State}
    (h : (sendHeartbeats s false).fab.proposal = none ∨ sleepReady (sendHeartbeats s false) = true) :
    heartbeatSend s = sendHeartbeats s false := by
  unfold heartbeatSend
  rcases h with h | h <;> simp [h]

theorem heartbeatSend_aborts_proposal {s : State} (hprop : (sendHeartbeats s false).fab.proposal.isSome = true)
    (hready : sleepReady (sendHeartbeats s false) = false) : heartbeatSend s = abortProposal (sendHeartbeats s false) := by
  simp [heartbeatSend, hprop, hready]

/-- What a heartbeat leaves before its authority acts on it: its sender is heard, a suspicion of it is withdrawn, and it is among
the joining neighbours or not (R319, R320). -/
def heardState (u : State) (n st : Nat) (ready resetting : Bool) : State :=
  { u with fab := { u.fab with
      heard := mset u.fab.heard n ⟨u.clockNs, ready, resetting, false⟩
      suspects := u.fab.suspects.filter (fun x => x.1.toNat != n)
      joiningHeard := if st = 1 then
          (if u.fab.joiningHeard.contains (BitVec.ofNat 12 n) then u.fab.joiningHeard
           else BitVec.ofNat 12 n :: u.fab.joiningHeard)
        else u.fab.joiningHeard.filter (fun m => m.toNat != n) } }

/-- A neighbour of this row that is not ready to sleep ends the row's proposal (R333). -/
def proposalKept (v : State) (n : Nat) (ready : Bool) : State :=
  if !ready && v.fab.proposal.isSome && n / 64 == myNode v / 64 then abortProposal v else v

/-- What the authority of the sender does with a heartbeat (R322, R336). -/
def heartbeatJudged (v : State) (n : Nat) (inc : BitVec 16) (st : Nat) (resetting : Bool) : State :=
  let held := memberOf v n
  if !isAuthority v n then v
  else if resetting then
    (if held.state == .inService || held.state == .leaving then declare v n .restarting held.incarnation else v)
  else if st = 6 && held.state == .inService then declare v n .leaving inc
  else if st = 7 && held.state == .leaving then declare v n .left inc
  else if held.state == .asleep then declare v n .inService held.incarnation
  else v

theorem heartbeat_of_stranger {s : State} {l n : Nat} (h : (peerOf (consumeCtrl s 3 1 n) l).map (·.1) ≠ some n)
    (inc : BitVec 16) (st : Nat) (ready resetting : Bool) :
    heartbeat s l n inc st ready resetting = consumeCtrl s 3 1 n :=
  if_pos (bne_iff_ne.mpr h)

/-- The heartbeat of the link's own neighbour is heard, and then judged. -/
theorem heartbeat_of_neighbour {s : State} {l n : Nat} (h : (peerOf (consumeCtrl s 3 1 n) l).map (·.1) = some n)
    (inc : BitVec 16) (st : Nat) (ready resetting : Bool) :
    heartbeat s l n inc st ready resetting =
      heartbeatJudged (proposalKept (heardState (consumeCtrl s 3 1 n) n st ready resetting) n ready) n inc st resetting :=
  if_neg (by simp [h])

theorem proposalKept_same {v : State} {ready : Bool} (h : ready = true ∨ v.fab.proposal = none) (n : Nat) :
    proposalKept v n ready = v := by
  unfold proposalKept
  rcases h with h | h <;> simp [h]

section
variable {v : State} {n st : Nat} {inc : BitVec 16} {resetting : Bool}

theorem heartbeatJudged_elsewhere (h : isAuthority v n = false) : heartbeatJudged v n inc st resetting = v := by
  simp [heartbeatJudged, h]

theorem heartbeatJudged_resetting (ha : isAuthority v n = true)
    (hs : (memberOf v n).state = .inService ∨ (memberOf v n).state = .leaving) :
    heartbeatJudged v n inc st true = declare v n .restarting (memberOf v n).incarnation := by
  rcases hs with hs | hs <;> simp [heartbeatJudged, ha, hs]

theorem heartbeatJudged_leaves (ha : isAuthority v n = true) (hs : (memberOf v n).state = .inService) :
    heartbeatJudged v n inc 6 false = declare v n .leaving inc := by
  simp [heartbeatJudged, ha, hs]

theorem heartbeatJudged_serves (ha : isAuthority v n = true) (hs : (memberOf v n).state = .inService) (hst : st ≠ 6) :
    heartbeatJudged v n inc st false = v := by
  simp [heartbeatJudged, ha, hs, hst]

theorem heartbeatJudged_left (ha : isAuthority v n = true) (hs : (memberOf v n).state = .leaving) :
    heartbeatJudged v n inc 7 false = declare v n .left inc := by
  simp [heartbeatJudged, ha, hs]

theorem heartbeatJudged_awake (ha : isAuthority v n = true) (hs : (memberOf v n).state = .asleep) :
    heartbeatJudged v n inc st false = declare v n .inService (memberOf v n).incarnation := by
  simp [heartbeatJudged, ha, hs]

end

/-- The state after a heartbeat, with the operands as the command carries them. -/
theorem heardState_operands (u : State) (node : Node) (state : BitVec 4) (ready resetting : Bool) :
    heardState u node.toNat state.toNat ready resetting = { u with fab := { u.fab with
      heard := mset u.fab.heard node.toNat ⟨u.clockNs, ready, resetting, false⟩
      suspects := u.fab.suspects.filter (fun x => x.1.toNat != node.toNat)
      joiningHeard := if state = 1 then
          (if u.fab.joiningHeard.contains node then u.fab.joiningHeard else node :: u.fab.joiningHeard)
        else u.fab.joiningHeard.filter (fun m => m.toNat != node.toNat) } } := by
  have h1 : state.toNat = 1 ↔ state = 1 := BitVec.toNat_inj (y := 1#4)
  simp only [heardState, BitVec.ofNat_toNat, BitVec.setWidth_eq, h1]

/-! ### Silence and isolation (R320, R321) -/

theorem heartbeatSilence_heard_now {s : State} {n : Nat} (h : (heardOf s n).any (fun x => x.lastNs == s.clockNs) = true) :
    heartbeatSilence s n = s := by
  simp [heartbeatSilence, h]

/-- The silence of a watched neighbour is reported to its authority. -/
theorem heartbeatSilence_reports {s : State} {n a : Nat}
    (hnow : (heardOf s n).any (fun x => x.lastNs == s.clockNs) = false)
    (hnear : isNeighbour (myNode s) n = true) (hwatched : watched s n = true)
    (hauth : authorityOf (setHeard s n { (heardOf s n).getD ⟨0, false, false, false⟩ with silent := true }) n = some a)
    (hother : a ≠ myNode (setHeard s n { (heardOf s n).getD ⟨0, false, false, false⟩ with silent := true })) :
    heartbeatSilence s n =
      sendCtrl (setHeard s n { (heardOf s n).getD ⟨0, false, false, false⟩ with silent := true }) a 6 5 [(12, n)] false := by
  simp [heartbeatSilence, hnow, hnear, hwatched, isAuthority, hauth, hother]

/-- What a report leaves at the authority: one report of this source on this node, with the present time (R320). -/
def suspected (r : State) (src node : Node) : State :=
  { r with fab := { r.fab with
      suspects := (node, src, r.clockNs) ::
        r.fab.suspects.filter (fun x => !(x.1.toNat == node.toNat && x.2.1.toNat == src.toNat)) } }

theorem routeSuspect_elsewhere {s : State} {src n : Nat} (h : isAuthority (consumeCtrl s 6 5 src) n = false) :
    routeSuspect s src n = consumeCtrl s 6 5 src := by
  simp [routeSuspect, h]

theorem routeSuspect_at_authority {s : State} {src node : Node}
    (h : isAuthority (consumeCtrl s 6 5 src.toNat) node.toNat = true) :
    routeSuspect s src.toNat node.toNat = judgeSuspect (suspected (consumeCtrl s 6 5 src.toNat) src node) node.toNat := by
  simp [routeSuspect, h, suspected]

/-- Reports of no more than half of the neighbours in service change nothing. -/
theorem judgeSuspect_stands {u : State} {n : Nat}
    (h : 2 * (currentReports u n).length ≤ (serviceNeighbours u n).length) : judgeSuspect u n = u := by
  simp [judgeSuspect, Nat.not_lt.mpr h]

/-- Reports of more than half of the neighbours in service make the authority declare the node FAILED. -/
theorem judgeSuspect_fails {u : State} {node : Node} (ha : isAuthority u node.toNat = true) (hw : watched u node.toNat = true)
    (h : (serviceNeighbours u node.toNat).length < 2 * (currentReports u node.toNat).length)
    (hs : (memberOf u node.toNat).state ≠ .asleep) :
    judgeSuspect u node.toNat =
      raiseP (declare u node.toNat .failed (memberOf u node.toNat).incarnation) 0x222 0 (.peer node) 0 := by
  simp [judgeSuspect, ha, hw, h, hs]

/-- The neighbours of this device that serve, and those of them that are heard (R321). -/
def nearServing (s : State) : List Nat := (neighbourList s).filter (inService s)
def nearHeard (s : State) : List Nat :=
  (nearServing s).filter (fun n => match heardOf s n with
    | some h => !h.silent
    | none => false)

theorem isolationTimeout_isolated {s : State} (hnear : nearServing s ≠ []) (hfew : 2 * (nearHeard s).length ≤ (nearServing s).length)
    (hopen : s.fab.selfFenced = false) : isolationTimeout s = raiseP (fenceSelf s) 0x223 0 .hostMem 0 := by
  have hcond : ((nearServing s).isEmpty || decide ((nearServing s).length < 2 * (nearHeard s).length) || s.fab.selfFenced) = false := by
    simp [hnear, Nat.not_lt.mpr hfew, hopen]
  exact if_neg (Bool.eq_false_iff.mp hcond)

theorem isolationTimeout_without_neighbours {s : State} (h : nearServing s = []) : isolationTimeout s = s := by
  have hcond : ((nearServing s).isEmpty || decide ((nearServing s).length < 2 * (nearHeard s).length) || s.fab.selfFenced) = true := by
    simp [h]
  exact if_pos hcond

/-! ### Grace, leases and the buddy's serving (R174, R322, R332) -/

theorem restartGraceExpiry_fails {s : State} {node : Node} (ha : isAuthority s node.toNat = true)
    (hs : (memberOf s node.toNat).state = .restarting) : restartGraceExpiry s node.toNat =
      raiseP (declare s node.toNat .failed (memberOf s node.toNat).incarnation) 0x222 0 (.peer node) 0 := by
  simp [restartGraceExpiry, ha, hs]

theorem leaseFreeTimeout_frees {s : State} {n : Nat} (hfree : mhas s.fab.leaseFree n = true) (hname : mhas s.fab.aliases n = false) :
    leaseFreeTimeout s n = freeLease (ownerLost s n) n := by
  simp [leaseFreeTimeout, hfree, hname]

/-- The buddy serves the regions of a failed owner: its mirrored requests stay for four timeouts, and the buddy takes the
owner's place. -/
def actsFor (s : State) (o : Nat) : State :=
  { s with
      chd := { s.chd with acting := mset s.chd.acting o 5 }
      e2e := { s.e2e with crt := mmap s.e2e.crt (fun _ c => if c.mirroredFor = some (BitVec.ofNat 12 o) then
        { c with mirroredFor := none, servedUs := s.e2e.servedUs } else c) }
      fab := { s.fab with aliases := mset s.fab.aliases o (BitVec.ofNat 12 (myNode s), true) } }

/-- With one failed owner still to be served, the failover is that owner's. -/
theorem failoverServe_one {s : State} {o k : Nat} (h : s.chd.acting = [(o, k)]) (hk : k < 5) :
    failoverServe s =
      raiseP (floodAlias (actsFor s o) o (myNode s) (regionMask (actsFor s o) o) true) 0x1F5 0 (.peer (BitVec.ofNat 12 o)) 0 := by
  have howners : (s.chd.acting.filter (fun x => decide (x.2 < 5))).map (·.1) = [o] := by simp [h, hk]
  unfold failoverServe
  dsimp only
  rw [howners, List.foldl_cons, List.foldl_nil]
  rfl

/-! ### The obligation on heartbeats -/

theorem heartbeatSend_ends (s : State) :
    ((sendHeartbeats s false).fab.proposal = none ∨ sleepReady (sendHeartbeats s false) = true →
      EndsWork .heartbeatSend s (sendHeartbeats s false)) ∧
    ((sendHeartbeats s false).fab.proposal.isSome = true → sleepReady (sendHeartbeats s false) = false →
      EndsWork .heartbeatSend s (abortProposal (sendHeartbeats s false))) :=
  ⟨fun h => endsWork_of_eq rfl (heartbeatSend_keeps_proposal h), fun h k => endsWork_of_eq rfl (heartbeatSend_aborts_proposal h k)⟩

/-- A heartbeat of the link's neighbour that ends no proposal ends in the state judged. -/
theorem heartbeat_ends {s : State} {l : LinkNo} {node : Node} {inc : BitVec 16} {state : BitVec 4} {ready resetting : Bool} {v t : State}
    (hv : heardState (consumeCtrl s 3 1 node.toNat) node.toNat state.toNat ready resetting = v)
    (hpeer : (peerOf (consumeCtrl s 3 1 node.toNat) l.toNat).map (·.1) = some node.toNat)
    (hprop : ready = true ∨ v.fab.proposal = none) (ht : heartbeatJudged v node.toNat inc state.toNat resetting = t) :
    EndsWork (.heartbeat l node inc state ready resetting) s t := by
  refine endsWork_of_eq rfl ?_
  rw [heartbeat_of_neighbour hpeer, hv, proposalKept_same hprop, ht]

/-- Settles O37, operation by operation: what each does in a case is the lemma of that case. -/
theorem heartbeats : Obligations.Heartbeats := by
  unfold Obligations.Heartbeats
  refine ⟨heartbeatSend_ends, ?_, ?_, ?_, ?_, ?_, ?_⟩
  · intro s l node inc state ready resetting
    extract_lets n u c v held
    have hv := heardState_operands u node state ready resetting
    refine ⟨fun h => endsWork_of_eq rfl (heartbeat_of_stranger h inc _ _ _), fun hpeer hprop => ⟨?_, ?_, ?_, ?_, ?_⟩⟩
    · exact fun ha => heartbeat_ends hv hpeer hprop (heartbeatJudged_elsewhere ha)
    · rintro ha rfl hs
      exact heartbeat_ends hv hpeer hprop (heartbeatJudged_resetting ha hs)
    · rintro ha rfl hs
      refine ⟨?_, fun h6 => heartbeat_ends hv hpeer hprop (heartbeatJudged_serves ha hs ?_)⟩
      · rintro rfl
        exact heartbeat_ends hv hpeer hprop (heartbeatJudged_leaves ha hs)
      · exact fun h => h6 (BitVec.eq_of_toNat_eq h)
    · rintro ha rfl hs rfl
      exact heartbeat_ends hv hpeer hprop (heartbeatJudged_left ha hs)
    · rintro ha rfl hs
      exact heartbeat_ends hv hpeer hprop (heartbeatJudged_awake ha hs)
  · exact fun s node a => ⟨fun h => endsWork_of_eq rfl (heartbeatSilence_heard_now h),
      fun hnow hnear hw ha ho => endsWork_of_eq rfl (heartbeatSilence_reports hnow hnear hw ha ho)⟩
  · intro s src node
    refine ⟨fun h => endsWork_of_eq rfl (routeSuspect_elsewhere h), fun hr hu hw => ⟨fun h => ?_, fun h hs => ?_⟩⟩
    · exact endsWork_of_eq rfl ((routeSuspect_at_authority hr).trans (judgeSuspect_stands h))
    · exact endsWork_of_eq rfl ((routeSuspect_at_authority hr).trans (judgeSuspect_fails hu hw h hs))
  · exact fun s => ⟨fun hnear hfew hopen => endsWork_of_eq rfl (isolationTimeout_isolated hnear hfew hopen),
      fun h => endsWork_of_eq rfl (isolationTimeout_without_neighbours h)⟩
  · exact fun s node => ⟨fun ha hs => endsWork_of_eq rfl (restartGraceExpiry_fails ha hs),
      fun hf ha => endsWork_of_eq rfl (leaseFreeTimeout_frees hf ha)⟩
  · exact fun s o k h hk => endsWork_of_eq rfl (failoverServe_one h hk)

/-! ### Buckets (R400, R401) -/

/-- The fast clocks run outside Rest and Deep (R33). -/
theorem clocked_awake {s : State} (hrest : s.aon.st ≠ .rest) (hdeep : s.aon.st ≠ .deep) (run : State → State) :
    clocked s run = run s := by
  simp [clocked, hrest, hdeep]

@[simp] theorem bucket_mset_self (m : NMap Bucket) (l n : Nat) : bucket (mset m l ⟨n⟩) l = n := by
  simp [bucket]

theorem bucket_mset_of_ne (m : NMap Bucket) {l k : Nat} (b : Bucket) (h : k ≠ l) : bucket (mset m l b) k = bucket m k := by
  rw [bucket, mgetD_mset_of_ne m b _ h]
  rfl

/-- One step of 10 ns of the three buckets of a label (R400, R403). -/
def bucketsGain (v : State) (l : Nat) : State :=
  { v with qos := { v.qos with
      shapeTokens := if mgetD v.qos.shapeRate l 0 = 0 then v.qos.shapeTokens
        else gain v.qos.shapeTokens l (mgetD v.qos.shapeRate l 0) (mgetD v.qos.shapeBurst l 0)
      committedTokens := gain v.qos.committedTokens l (mgetD v.qos.cir l 0) (cbsKib v l)
      peakTokens := gain v.qos.peakTokens l (mgetD v.qos.pir l 0) (pbsKib v l) } }

/-- The held messages of a label go on as far as they can (R404). -/
def heldGo (s : State) (l : Nat) : State := takeHeld (passHeld l (mgetD s.qos.holdQ l []).length s) l

theorem shaperRefill_eq (s : State) :
    shaperRefill s = pump ((List.range 14).foldl heldGo ((List.range 14).foldl bucketsGain s)) := rfl

theorem foldl_bucketsGain_settings (ls : List Nat) (s : State) :
    (ls.foldl bucketsGain s).qos.holdQ = s.qos.holdQ ∧ (ls.foldl bucketsGain s).qos.shapeRate = s.qos.shapeRate ∧
      (ls.foldl bucketsGain s).qos.shapeBurst = s.qos.shapeBurst := by
  induction ls generalizing s with
  | nil => exact ⟨rfl, rfl, rfl⟩
  | cons l ls ih => exact ih (bucketsGain s l)

theorem heldGo_empty {s : State} {l : Nat} (h : mgetD s.qos.holdQ l [] = []) : heldGo s l = s := by
  simp [heldGo, h, passHeld, takeHeld]

theorem foldl_heldGo_empty {ls : List Nat} {s : State} (h : ∀ l ∈ ls, mgetD s.qos.holdQ l [] = []) : ls.foldl heldGo s = s := by
  induction ls with
  | nil => rfl
  | cons l ls ih =>
    rw [List.foldl_cons, heldGo_empty (h l List.mem_cons_self)]
    exact ih fun k hk => h k (List.mem_cons_of_mem l hk)

theorem shaperRefill_nothing_held {s : State} (h : ∀ l, l < 14 → mgetD s.qos.holdQ l [] = []) :
    shaperRefill s = pump ((List.range 14).foldl bucketsGain s) := by
  rw [shaperRefill_eq, foldl_heldGo_empty]
  intro l hl
  rw [(foldl_bucketsGain_settings _ s).1]
  exact h l (List.mem_range.mp hl)

theorem bucketsGain_shape_self {s : State} {l : Nat} (h : mgetD s.qos.shapeRate l 0 ≠ 0) :
    bucket (bucketsGain s l).qos.shapeTokens l =
      min (burstCenti (mgetD s.qos.shapeBurst l 0)) (bucket s.qos.shapeTokens l + mgetD s.qos.shapeRate l 0) := by
  simp [bucketsGain, h, gain]

theorem bucketsGain_shape_other (s : State) {l k : Nat} (h : k ≠ l) :
    bucket (bucketsGain s l).qos.shapeTokens k = bucket s.qos.shapeTokens k := by
  unfold bucketsGain
  dsimp only
  split
  · rfl
  · exact bucket_mset_of_ne _ _ h

theorem foldl_bucketsGain_shape_absent {ls : List Nat} {l : Nat} (h : l ∉ ls) (s : State) :
    bucket (ls.foldl bucketsGain s).qos.shapeTokens l = bucket s.qos.shapeTokens l := by
  induction ls generalizing s with
  | nil => rfl
  | cons k ls ih =>
    obtain ⟨hk, hls⟩ := not_or.mp (List.mem_cons.not.mp h)
    rw [List.foldl_cons, ih hls, bucketsGain_shape_other s hk]

/-- A shaped label gains its rate once, up to its burst. -/
theorem foldl_bucketsGain_shape {ls : List Nat} {l : Nat} (hnodup : ls.Nodup) (hmem : l ∈ ls) (s : State)
    (h : mgetD s.qos.shapeRate l 0 ≠ 0) : bucket (ls.foldl bucketsGain s).qos.shapeTokens l =
      min (burstCenti (mgetD s.qos.shapeBurst l 0)) (bucket s.qos.shapeTokens l + mgetD s.qos.shapeRate l 0) := by
  induction ls generalizing s with
  | nil => cases hmem
  | cons k ls ih =>
    obtain ⟨hk, hls⟩ := List.nodup_cons.mp hnodup
    rw [List.foldl_cons]
    by_cases hkl : l = k
    · subst hkl
      rw [foldl_bucketsGain_shape_absent hk, bucketsGain_shape_self h]
    · rw [ih hls ((List.mem_cons.mp hmem).resolve_left hkl) (bucketsGain s k) h, bucketsGain_shape_other s hkl]
      rfl

/-! ### Writes of QOS_SHAPE and QOS_POLICE (R401, R415, R416) -/

theorem bits_upper (v : Word) : bits v.toNat 63 32 = v.toNat / 2 ^ 32 := by
  have h := v.isLt
  rw [bits, Nat.shiftRight_eq_div_pow]
  exact Nat.mod_eq_of_lt (by omega)

theorem bits_lowest (n hi : Nat) : bits n hi 0 = n % 2 ^ (hi + 1) := rfl

theorem rateOk_iff (r : Nat) : rateOk r = true ↔ 100 ≤ r ∧ r ≤ 1000000 := by
  simp [rateOk]

/-- A setting of a shaper with given tokens. -/
def shapedWith (s : State) (l rate kib : Nat) (b : Bucket) : State :=
  pump { s with qos := { s.qos with
    shapeRate := mset s.qos.shapeRate l rate
    shapeBurst := mset s.qos.shapeBurst l kib
    shapeTokens := mset s.qos.shapeTokens l b } }

theorem setShape_off (s : State) (l kib : Nat) : setShape s l 0 kib = shapedWith s l 0 kib ⟨0⟩ := rfl

theorem setShape_enabled {s : State} {l rate : Nat} (kib : Nat) (hrate : rate ≠ 0) (hold : mgetD s.qos.shapeRate l 0 = 0) :
    setShape s l rate kib = shapedWith s l rate kib ⟨burstCenti kib⟩ := by
  simp [setShape, shapedWith, hrate, hold]

theorem setShape_changed {s : State} {l rate : Nat} (kib : Nat) (hrate : rate ≠ 0) (hold : mgetD s.qos.shapeRate l 0 ≠ 0) :
    setShape s l rate kib = shapedWith s l rate kib ⟨min (bucket s.qos.shapeTokens l) (burstCenti kib)⟩ := by
  simp [setShape, shapedWith, hrate, hold]

theorem shapeWrite_no_label {s : State} {l : Nat} (h : 13 < l) (v : Word) : shapeWrite s l v = s := if_pos h

/-- A write in range of fields that are not locked sets the shaper. -/
theorem shapeWrite_taken {s : State} {l rate kib : Nat} {v : Word} (hr : bits v.toNat 63 32 = rate) (hk : bits v.toNat 15 0 = kib)
    (hl : l ≤ 13) (hmin : 1 ≤ kib) (hmax : kib ≤ 4096) (hlock3 : s.img.active.locks secLabels l 3 = false)
    (hlock6 : s.img.active.locks secLabels l 6 = false)
    (hrate : 100 ≤ rate ∧ rate ≤ 1000000 ∨ rate = 0 ∧ labelRt s l = false) :
    shapeWrite s l v = setShape s l rate kib := by
  have hrate' : (rateOk rate || (rate == 0 && !labelRt s l)) = true := by
    rcases hrate with h | ⟨rfl, hrt⟩
    · simp [(rateOk_iff rate).mpr h]
    · simp [hrt]
  unfold shapeWrite
  rw [if_neg (Nat.not_lt.mpr hl), hr, hk]
  simp only [hrate', hlock3, hlock6, hmin, hmax, decide_true, Bool.not_false, Bool.and_true, if_true]

theorem policeWrite_ignored {s : State} {l : Nat} {v : Word} (h : 13 < l ∨ policeMode s l = 0 ∨
    rateOk (bits v.toNat 31 0) = false ∨ rateOk (bits v.toNat 63 32) = false) : policeWrite s l v = s := by
  refine if_pos ?_
  rcases h with h | h | h | h <;> simp [h]

/-- A write in range of rates that are not locked is taken where the peak rate is not below the committed one. -/
theorem policeWrite_in_range {s : State} {l cir pir : Nat} {v : Word} (hc : bits v.toNat 31 0 = cir) (hp : bits v.toNat 63 32 = pir)
    (hl : l ≤ 13) (hmode : policeMode s l ≠ 0) (hcir : rateOk cir = true) (hpir : rateOk pir = true)
    (hlock4 : s.img.active.locks secLabels l 4 = false) (hlock5 : s.img.active.locks secLabels l 5 = false) :
    policeWrite s l v = if pir < cir then s else setPolice s l cir pir := by
  unfold policeWrite
  rw [hc, hp]
  simp [hmode, hcir, hpir, hlock4, hlock5, Nat.not_lt.mpr hl]

theorem repolice_enabled (m : NMap Bucket) (l : Nat) {rate : Nat} (h : rate ≠ 0) (kib : Nat) :
    repolice m l 0 rate kib = mset m l ⟨burstCenti kib⟩ := by
  simp [repolice, h]

/-- Policing that is enabled starts with full buckets. -/
theorem setPolice_enabled {s : State} {l cir pir : Nat} (hcir : cir ≠ 0) (hpir : pir ≠ 0) (hcir0 : mgetD s.qos.cir l 0 = 0)
    (hpir0 : mgetD s.qos.pir l 0 = 0) : setPolice s l cir pir = { s with qos := { s.qos with
      cir := mset s.qos.cir l cir
      pir := mset s.qos.pir l pir
      committedTokens := mset s.qos.committedTokens l ⟨cbsKib s l * 102400⟩
      peakTokens := mset s.qos.peakTokens l ⟨pbsKib s l * 102400⟩ } } := by
  unfold setPolice
  dsimp only
  rw [if_neg hpir, hcir0, hpir0, repolice_enabled _ _ hcir, repolice_enabled _ _ hpir]
  rfl

/-! ### Scales (R407) -/

theorem nextScale_eq (s : State) (l : Nat) : nextScale s l =
    if s.qos.feedbackOff || labelGuaranteed s l then 256
    else if s.qos.level = 0 then min 256 (mgetD s.qos.scale l 256 + 16)
    else if s.qos.level = 1 then max (scaleFloor s l) (mgetD s.qos.scale l 256)
    else if s.qos.level = 2 then max (scaleFloor s l) (mgetD s.qos.scale l 256 / 2)
    else scaleFloor s l := by
  unfold nextScale
  split
  · rfl
  · generalize s.qos.level = level
    rcases level with _ | _ | _ | level <;> simp

/-- Settles O42: the refill by induction on the labels, the writes and the scale by their cases. -/
theorem regulation : Obligations.Regulation := by
  unfold Obligations.Regulation
  refine ⟨?_, ?_, ?_, ?_, ?_⟩
  · intro s hrest hdeep hheld filled
    have hfilled : filled = (List.range 14).foldl bucketsGain s := rfl
    clear_value filled
    subst hfilled
    refine ⟨endsWork_of_eq rfl ((clocked_awake hrest hdeep shaperRefill).trans (shaperRefill_nothing_held hheld)), fun l hl h => ?_⟩
    exact foldl_bucketsGain_shape List.nodup_range (List.mem_range.mpr hl) s h
  · intro s label value
    extract_lets l rate kib old set
    have hr : bits value.toNat 63 32 = rate := bits_upper value
    have hk : bits value.toNat 15 0 = kib := bits_lowest value.toNat 15
    clear_value rate kib
    refine ⟨fun h => endsWork_of_eq rfl (shapeWrite_no_label h value), fun hl hmin hmax h3 h6 => ?_⟩
    have taken := shapeWrite_taken hr hk hl hmin hmax h3 h6
    refine ⟨?_, fun hlo hhi hold => ?_, fun hlo hhi hold => ?_⟩
    · rintro rfl hrt
      exact endsWork_of_eq rfl ((taken (.inr ⟨rfl, hrt⟩)).trans (setShape_off s l kib))
    · exact endsWork_of_eq rfl ((taken (.inl ⟨hlo, hhi⟩)).trans (setShape_enabled kib (by omega) hold))
    · exact endsWork_of_eq rfl ((taken (.inl ⟨hlo, hhi⟩)).trans (setShape_changed kib (by omega) hold))
  · intro s label value
    extract_lets l cir pir ok
    have hc : bits value.toNat 31 0 = cir := bits_lowest value.toNat 31
    have hp : bits value.toNat 63 32 = pir := bits_upper value
    clear_value cir pir
    refine ⟨fun h => ends_of_eq rfl (policeWrite_ignored ?_), fun hl hmode hcir hpir h4 h5 => ?_⟩
    · rw [hc, hp]
      simpa only [← Bool.not_eq_true, rateOk_iff] using h
    have inRange := policeWrite_in_range hc hp hl hmode ((rateOk_iff cir).mpr hcir) ((rateOk_iff pir).mpr hpir) h4 h5
    refine ⟨fun h => ends_of_eq rfl (inRange.trans (if_pos h)), fun h hcir0 hpir0 => ?_⟩
    obtain ⟨hcir, -⟩ := hcir
    obtain ⟨hpir, -⟩ := hpir
    exact ends_of_eq rfl ((inRange.trans (if_neg (Nat.not_lt.mpr h))).trans
      (setPolice_enabled (by omega) (by omega) hcir0 hpir0))
  · exact fun s hrest hdeep => endsWork_of_eq rfl (clocked_awake hrest hdeep feedbackSample)
  · intro s hrest hdeep
    refine endsWork_of_eq rfl ((clocked_awake hrest hdeep scaleAdjust).trans ?_)
    unfold scaleAdjust
    simp only [nextScale_eq]
    rfl

/-! ### Doze (R588, R590) -/

/-- The rules call for Doze, and nothing stands in its way. -/
def dozeDue (s : State) : Prop := actionFires s 2 = true ∧ s.aon.dozeOff = false ∧ mayDescend s = true

theorem dozeEntry_refused {s : State} (h : s.aon.st ≠ .run ∨ ¬ dozeDue s) : dozeEntry s = s := by
  simp only [dozeDue, not_and_or, Bool.not_eq_true, Bool.not_eq_false] at h
  refine if_pos ?_
  rcases h with h | h | h | h <;> simp [h]

theorem dozeEntry_due {s : State} (hst : s.aon.st = .run) (h : dozeDue s) :
    dozeEntry s = if s.sec.held.getLsbD 0 then pendPower { s with sec := { s.sec with dozeWait := true } } 0 .gate else enterDoze s := by
  obtain ⟨hfires, hoff, hmay⟩ := h
  exact if_neg (by simp [hst, hfires, hoff, hmay])

/-- A request, a frame or work ends Doze at once, with wake cause 1. -/
theorem dozeExit_at_once {s : State} {c : DozeWake} (hst : s.aon.st = .doze) (hc : c ∈ [DozeWake.request, .frame, .work]) :
    dozeExit s c = backToRun (wakeLinks (applyPower { s with aon := { s.aon with wakeCause := 1 } } 0 .ungate)) := by
  simp only [List.mem_cons, List.not_mem_nil, or_false] at hc
  rcases hc with rfl | rfl | rfl <;> exact if_neg (by simp [hst])

theorem dozeExit_elsewhere {s : State} (h : s.aon.st ≠ .doze) (c : DozeWake) : dozeExit s c = s :=
  if_pos (by simp [h])

/-! ### Rest (R588, R591, R592) -/

/-- The rules call for Rest, the row and the host link are low, and no request is open. -/
def restDue (s : State) : Prop :=
  rowSlept s = true ∧ actionFires s 3 = true ∧ mayDescend s = true ∧ hostLow s = true ∧ nothingOpen s = true

/-- The memories that serve are in self-refresh, with their queues empty. -/
def memoriesQuiet (s : State) : State :=
  (List.range 16).foldl (fun u n => modCtl u n (fun c =>
    if ctlServes c then { c with
      st := .selfRefresh
      srEntries := if c.st = .selfRefresh then c.srEntries else c.srEntries + 1
      wq := []
      openRows := []
      ranksDown := 0
      draining := false }
    else c)) s

/-- The links that were up are asleep, with their lasers off. -/
def linksDark (s : State) : State :=
  (usedLinks s).foldl (fun u l => modLink u l (fun r =>
    if r.isUp || r.st == .retrain then { r with st := .asleep, laser := false, retrainNs := none } else r)) s

/-- In Rest, with no light and no wake yet. -/
def atRest (s : State) : State :=
  { s with aon := { s.aon with st := .rest, light := [], lightWakeNs := none, wakeOwed := false } }

theorem restEntry_due {s : State} (hst : s.aon.st = .run ∨ s.aon.st = .doze) (h : restDue s) :
    restEntry s = if (linksDark (memoriesQuiet s)).aon.wakeOwed then startWake (atRest (linksDark (memoriesQuiet s))) 1
      else atRest (linksDark (memoriesQuiet s)) := by
  obtain ⟨hrow, hfires, hmay, hhost, hopen⟩ := h
  unfold restEntry
  rw [if_neg]
  · extract_lets quiet dark owed aon rest
    have hquiet : quiet = memoriesQuiet s := rfl
    have hdark : dark = linksDark quiet := rfl
    have howed : owed = dark.aon.wakeOwed := rfl
    have hrest : rest = atRest dark := rfl
    rw [howed, hrest, hdark, hquiet]
  · rcases hst with hst | hst <;> simp [hst, hrow, hfires, hmay, hhost, hopen]

theorem restEntry_refused {s : State} (h : rowSlept s = false ∨ actionFires s 3 = false ∨ mayDescend s = false ∨ hostLow s = false ∨
    nothingOpen s = false) : restEntry s = s := by
  refine if_pos ?_
  rcases h with h | h | h | h | h <;> simp [h]

/-- A wake out of Rest that is not under way yet: its cause is recorded, and the links are lit. -/
theorem startWake_from_rest {s : State} (hst : s.aon.st = .rest) (hexit : s.aon.exiting = false) (cause : BitVec 4) :
    startWake s cause = relight { s with aon := { s.aon with
      wakeCause := cause
      exiting := true
      lightWakeNs := if cause = 2 then some s.clockNs else none } } := by
  simp [startWake, hst, hexit]

/-- Light that is seen on a link. -/
def lit (s : State) (l : LinkNo) : State :=
  { s with aon := { s.aon with light := if s.aon.light.contains l then s.aon.light else l :: s.aon.light } }

theorem lightQualified_unused {s : State} {l : Nat} (h : s.aon.st ≠ .rest ∨ linkUsed s l = false) : lightQualified s l = s := by
  refine if_pos ?_
  rcases h with h | h <;> simp [h]

theorem lightQualified_wakes {s : State} {l : LinkNo} (hst : s.aon.st = .rest) (hused : linkUsed s l.toNat = true) :
    lightQualified s l.toNat = startWake (lit s l) 2 := by
  unfold lightQualified
  rw [if_neg (by simp [hst, hused]), BitVec.ofNat_toNat, BitVec.setWidth_eq]
  rfl

theorem restExitComplete_exits {s : State} (hst : s.aon.st = .rest) (hexit : s.aon.exiting = true) :
    restExitComplete s = sendHeartbeats (backToRun (memoryWakes s .selfRefresh)) false :=
  if_neg (by simp [hst, hexit])

theorem restExitComplete_refused {s : State} (h : s.aon.st ≠ .rest ∨ s.aon.exiting = false) : restExitComplete s = s := by
  refine if_pos ?_
  rcases h with h | h <;> simp [h]

/-- The links that retrain are dark again. -/
def retrainingDark (s : State) : State :=
  (usedLinks s).foldl (fun v l => modLink v l (fun r =>
    if r.st = .retrain then { r with st := .asleep, laser := false, retrainNs := none } else r)) s

/-- No link has met its peer since a wake by light. -/
def wokenInVain (s : State) : Prop :=
  s.aon.lightWakeNs ≠ none ∧ s.aon.wakeCause = 2 ∧ ∀ l ∈ usedLinks s, linkMet s l = false

theorem spuriousWake_continues {s : State} (h : wokenInVain s) :
    (s.aon.lightWakeNs.isNone || s.aon.wakeCause != 2 || (usedLinks s).any (linkMet s)) = false := by
  obtain ⟨hlight, hcause, hmet⟩ := h
  have hnone : s.aon.lightWakeNs.isNone = false := Option.isNone_eq_false_iff.mpr (Option.isSome_iff_ne_none.mpr hlight)
  have hany : (usedLinks s).any (linkMet s) = false := by simpa using hmet
  simp [hnone, hcause, hany]

theorem spuriousWakeTimeout_in_rest {s : State} (h : wokenInVain s) (hst : s.aon.st = .rest) : spuriousWakeTimeout s =
    raise { retrainingDark s with aon := { (retrainingDark s).aon with exiting := false, light := [], lightWakeNs := none } } 0x2C7 0 := by
  unfold spuriousWakeTimeout
  rw [if_neg (Bool.eq_false_iff.mp (spuriousWake_continues h)), if_pos (beq_iff_eq.mpr hst)]
  rfl

theorem spuriousWakeTimeout_elsewhere {s : State} (h : wokenInVain s) (hst : s.aon.st ≠ .rest) :
    spuriousWakeTimeout s = raise { s with aon := { s.aon with lightWakeNs := none } } 0x2C7 0 := by
  unfold spuriousWakeTimeout
  rw [if_neg (Bool.eq_false_iff.mp (spuriousWake_continues h)), if_neg (by simp [hst])]

theorem spuriousWakeTimeout_no_light {s : State} (h : s.aon.lightWakeNs = none) : spuriousWakeTimeout s = s :=
  if_pos (by simp [h])

/-! ### Deep (R588, R595 to R597) -/

/-- Both rules call for Deep, and the row and the host link are low. -/
def deepDue (s : State) : Prop :=
  rowSlept s = true ∧ actionFires s 3 = true ∧ actionFires s 4 = true ∧ mayDescend s = true ∧ hostLow s = true

/-- The channels and stacks in self-refresh pass into custody. -/
def inCustody (s : State) : State :=
  (List.range 16).foldl (fun v n => modCtl v n (fun c => if c.st = .selfRefresh then { c with st := .custody } else c)) s

/-- What deep sleep leaves: the channels and stacks that `held` names are in Radish's custody. -/
def atDeep (s : State) (held : Nat → Bool) : State :=
  { s with aon := { s.aon with
      st := .deep
      custodyDdr := ((List.range 12).filter held).foldl (fun m c => m ||| ((1 : BitVec 12) <<< c)) 0
      custodyRld := ((List.range 4).filter (fun i => held (12 + i))).foldl (fun m c => m ||| ((1 : BitVec 4) <<< c)) 0
      light := []
      wakeRuns := [] } }

theorem deepEntry_due {s : State} (hst : s.aon.st = .rest) (h : deepDue s) :
    deepEntry s = atDeep (inCustody (dirWritten s)) (fun n => (ctl s n).st == .selfRefresh) := by
  obtain ⟨hrow, hrest, hdeep, hmay, hhost⟩ := h
  exact if_neg (by simp [hst, hrow, hrest, hdeep, hmay, hhost])

theorem deepEntry_refused {s : State} (h : s.aon.st ≠ .rest ∨ actionFires s 4 = false) : deepEntry s = s := by
  refine if_pos ?_
  rcases h with h | h <;> simp [h]

/-- The host's wake ends Deep where its cause has come about. -/
theorem deepExit_hostWake {s : State} {code : BitVec 4} (hst : s.aon.st = .deep) (h : deepCause s .hostWake = some code) :
    deepExit s .hostWake = sendHeartbeats (backToRun (relight (memoryWakes { s with aon := { s.aon with
      wakeCause := code
      custodyDdr := 0
      custodyRld := 0 } } .custody))) false := by
  unfold deepExit
  rw [hst, h]
  rfl

theorem deepExit_elsewhere {s : State} (h : s.aon.st ≠ .deep) (c : DeepWake) : deepExit s c = s :=
  if_pos (by simp [h])

/-- Settles O48: each entry and exit is carried out or refused, by the lemma of that case. -/
theorem powerStates : Obligations.PowerStates := by
  unfold Obligations.PowerStates
  refine ⟨?_, ?_, ?_, ?_, ?_, ?_, ?_⟩
  · intro s
    refine ⟨fun hst hdue hheld => ?_, fun hst hdue hheld => ?_, fun h => ends_of_eq rfl (dozeEntry_refused h)⟩
    · exact ends_of_eq rfl ((dozeEntry_due hst hdue).trans (if_neg (Bool.eq_false_iff.mp hheld)))
    · exact ends_of_eq rfl ((dozeEntry_due hst hdue).trans (if_pos hheld))
  · exact fun s c hc => ⟨fun hst => endsWork_of_eq rfl (congrArg serveHeld (dozeExit_at_once hst hc)),
      fun hst => endsWork_of_eq rfl (congrArg serveHeld (dozeExit_elsewhere hst c))⟩
  · intro s quiet dark rest hst
    have hdark : dark = linksDark (memoriesQuiet s) := rfl
    have hrest : rest = atRest dark := rfl
    clear_value quiet rest dark
    subst hrest hdark
    refine ⟨fun hrow hfires hmay hhost hopen => ?_, fun h => ends_of_eq rfl (restEntry_refused h)⟩
    have due := restEntry_due hst ⟨hrow, hfires, hmay, hhost, hopen⟩
    exact ⟨fun h => ends_of_eq rfl (due.trans (if_neg (Bool.eq_false_iff.mp h))),
      fun h => ends_of_eq rfl (due.trans (if_pos h))⟩
  · intro s l u
    refine ⟨fun hst hused hexit => ?_, fun h => endsWork_of_eq rfl (lightQualified_unused h)⟩
    exact endsWork_of_eq rfl ((lightQualified_wakes hst hused).trans (startWake_from_rest (s := lit s l) hst hexit 2))
  · intro s
    refine ⟨fun hst hexit => endsWork_of_eq rfl (congrArg serveHeld (restExitComplete_exits hst hexit)),
      fun h => endsWork_of_eq rfl (congrArg serveHeld (restExitComplete_refused h)), fun hlight hcause hmet => ?_,
      fun h => endsWork_of_eq rfl (spuriousWakeTimeout_no_light h)⟩
    have vain : wokenInVain s := ⟨hlight, hcause, hmet⟩
    exact ⟨fun hst => endsWork_of_eq rfl (spuriousWakeTimeout_in_rest vain hst),
      fun hst => endsWork_of_eq rfl (spuriousWakeTimeout_elsewhere vain hst)⟩
  · exact fun s => ⟨fun hst hrow hrest hdeep hmay hhost => ends_of_eq rfl (deepEntry_due hst ⟨hrow, hrest, hdeep, hmay, hhost⟩),
      fun h => ends_of_eq rfl (deepEntry_refused h)⟩
  · exact fun s code => ⟨fun hst h => endsWork_of_eq rfl (congrArg serveHeld (deepExit_hostWake hst h)),
      fun hst => endsWork_of_eq rfl (congrArg serveHeld (deepExit_elsewhere hst _))⟩

/-! ### Host memory requests: where an address leads (R73, R477, R478) -/

/-- What of the host interface decides where a host's address leads: the decoders, and the fence of CXL.mem. -/
def hostMap (s : State) : NMap Decoder × Bool := (s.host.decoders, s.host.memFenced)

theorem signalMsix_hostMap (s : State) (v : Nat) : hostMap (signalMsix s v) = hostMap s := by
  unfold signalMsix
  split
  · dsimp only
    split <;> rfl
  · rfl

theorem addCtr_hostMap (s : State) (n : Nat) (sel : PmcSel) (k : Nat) : hostMap (addCtr s n sel k).1 = hostMap s := by
  unfold addCtr
  dsimp only
  split
  · rfl
  · split
    · exact signalMsix_hostMap _ _
    · rfl

theorem addCtrs_hostMap (ev : Nat) (label : Option Nat) (k : Nat) (m : NMap PmcSel) (s : State) (prev : Nat × Nat) :
    hostMap (addCtrs ev label k m s prev) = hostMap s := by
  induction m generalizing s prev with
  | nil => rfl
  | cons x m ih =>
    unfold addCtrs
    dsimp only
    split
    · exact ih s _
    · exact (ih _ _).trans (addCtr_hostMap s _ _ _)

/-- Counting an event moves no decoder and no fence, though an overflow may signal the host. -/
theorem countN_hostMap (s : State) (ev : Nat) (label : Option Nat) (k : Nat) : hostMap (countN s ev label k) = hostMap s := by
  unfold countN
  split
  · unfold countEvent
    dsimp only
    split
    · rfl
    · exact addCtrs_hostMap _ _ _ _ _ _
  · split <;> rfl

theorem countN_decoders (s : State) (ev : Nat) (label : Option Nat) (k : Nat) :
    (countN s ev label k).host.decoders = s.host.decoders := congrArg Prod.fst (countN_hostMap s ev label k)

theorem countN_memFenced (s : State) (ev : Nat) (label : Option Nat) (k : Nat) :
    (countN s ev label k).host.memFenced = s.host.memFenced := congrArg Prod.snd (countN_hostMap s ev label k)

theorem hdmDecode_of_decoders {s t : State} (h : t.host.decoders = s.host.decoders) (hpa : Nat) : hdmDecode t hpa = hdmDecode s hpa := by
  simp only [hdmDecode, decoderBase, h]

theorem extentOf_of_chd {s t : State} (h : t.chd = s.chd) (dpa : Nat) : extentOf t dpa = extentOf s dpa := by
  simp only [extentOf, extentAt, h]

/-- A host request is counted under the label of its extent, if it has one. -/
def hostCounted (s : State) (hpa ev : Nat) : State :=
  countN s ev (((hdmDecode s hpa).bind (fun dpa => extentOf s dpa)).map (fun e => e.2.attrs.label)) 1

theorem memRdBody_eq (s : State) (hpa : Nat) (mv : MetaVal) (req : BitVec 16) : memRdBody s hpa mv req =
    hostArrive (hostCounted { s with host := { s.host with readNs := mset s.host.readNs req.toNat s.clockNs } } hpa 0x000) hpa
      (fun l => .read mv (some req) l) := rfl

theorem memWrBody_eq (s : State) (hpa : Nat) (mv : MetaVal) (req : BitVec 16) (data : Line) (mask : BitVec 64) (poison : Bool) :
    memWrBody s hpa mv req data mask poison =
      hostArrive (hostCounted s hpa 0x001) hpa (fun l => .write mv (some req) l data mask poison) := rfl

section
variable {s : State} {hpa ev : Nat} (hfence : s.host.memFenced = false) (hself : s.fab.selfFenced = false)
include hfence hself

theorem hostCounted_open : ((active (hostCounted s hpa ev)).host.memFenced || (active (hostCounted s hpa ev)).fab.selfFenced) = false := by
  simp [hostCounted, countN_memFenced, hfence, hself]

/-- A request to an address that leads to no extent is answered at once, with event 0x261. -/
theorem hostArrive_nowhere (h : (hdmDecode s hpa).bind (fun dpa => extentOf s dpa) = none) (mk : Nat → ReqWork) :
    hostArrive (hostCounted s hpa ev) hpa mk = raise (hostRefuse (active (hostCounted s hpa ev)) (mk 0)) 0x261 0 := by
  have hd : hdmDecode (active (hostCounted s hpa ev)) hpa = hdmDecode s hpa := hdmDecode_of_decoders (countN_decoders _ _ _ _) hpa
  have he : ∀ dpa, extentOf (active (hostCounted s hpa ev)) dpa = extentOf s dpa := extentOf_of_chd (countN_chd _ _ _ _)
  have hnone : (hdmDecode s hpa).bind (fun dpa => (extentOf s dpa).map (fun e => (dpa, e.2.attrs.label))) = none := by
    rw [Option.bind_eq_none_iff] at h ⊢
    exact fun dpa hdpa => by rw [h dpa hdpa, Option.map_none]
  unfold hostArrive
  simp only [hostCounted_open hfence hself, hd, he, hnone, Bool.false_eq_true, if_false]

/-- A request to an extent takes its label and waits behind the others. -/
theorem hostArrive_extent {dpa i : Nat} {e : Extent} (hdpa : hdmDecode s hpa = some dpa) (hext : extentOf s dpa = some (i, e))
    (mk : Nat → ReqWork) : hostArrive (hostCounted s hpa ev) hpa mk =
      hostPass { active (hostCounted s hpa ev) with coh := { (active (hostCounted s hpa ev)).coh with
        waitHost := (active (hostCounted s hpa ev)).coh.waitHost ++ [(BitVec.ofNat 64 (dpa / 64 * 64), mk e.attrs.label)] } } := by
  have hd : hdmDecode (active (hostCounted s hpa ev)) hpa = some dpa := (hdmDecode_of_decoders (countN_decoders _ _ _ _) hpa).trans hdpa
  have he : extentOf (active (hostCounted s hpa ev)) dpa = some (i, e) := (extentOf_of_chd (countN_chd _ _ _ _) dpa).trans hext
  unfold hostArrive
  simp only [hostCounted_open hfence hself, hd, he, Option.bind_some, Option.map_some, Bool.false_eq_true, if_false]

end

/-! ### Host memory requests: injection (R34, R400, R407) -/

theorem hostTry_closed {s : State} (h : s.aon.st ≠ .run ∨ s.host.memActive = false) (dpa : Nat) (w : ReqWork) :
    hostTry s dpa w = (s, false) := by
  refine if_pos ?_
  rcases h with h | h <;> simp [hostOpen, h]

section
variable {s : State} {l : Nat}

theorem hostTry_window_full (hl : l ≤ 13) (h : injWindow s l ≤ mgetD s.qos.inProgress l 0) (dpa : Nat) (mv : MetaVal)
    (req : Option (BitVec 16)) : hostTry s dpa (.read mv req l) = (s, false) :=
  if_pos (by simp [workLabel, workCounted, hl, h])

/-- A label that no shaper holds back starts its request where its window has room. -/
theorem hostTry_unshaped (hst : s.aon.st = .run) (hact : s.host.memActive = true) (hwin : mgetD s.qos.inProgress l 0 < injWindow s l)
    (hshape : shaped s l = false) (dpa : Nat) (mv : MetaVal) (req : Option (BitVec 16)) :
    hostTry s dpa (.read mv req l) = hostStart s dpa (.read mv req l) := by
  unfold hostTry
  rw [if_neg (by simp [hostOpen, hst, hact, workLabel, Nat.not_le.mpr hwin]), if_pos (by simp [workLabel, hshape])]

/-- A request is in progress under its label (R407). -/
def inProgressOne (s : State) (l : Nat) : State :=
  { s with qos := { s.qos with inProgress := mset s.qos.inProgress l (mgetD s.qos.inProgress l 0 + 1) } }

/-- A read of a line of this device's own that is free runs as an owner's transaction. -/
theorem hostStart_own {dpa i : Nat} {e : Extent} {mv : MetaVal} {req : Option (BitVec 16)} {t : State}
    (ht : makeWay (inProgressOne s l) (lineKey (myNode s) (dpa / 64)) (.hostRd mv req) = t)
    (hext : extentTaken s (dpa / 2097152) = some (i, e)) (hshared : sharedKey e (dpa / 64) = none)
    (haway : (s.chd.ownedAway.isSome && e.attrs.mirrored) = false) (hpend : pendBefore t (lineKey (myNode s) (dpa / 64)) = false)
    (htake : mayTake t (lineKey (myNode s) (dpa / 64)) (.hostRd mv req) = true) :
    hostStart s dpa (.read mv req l) =
      (goOn (openOwn (heatTaken t (dpa / 64 / 64) (.hostRd mv req)) (lineKey (myNode s) (dpa / 64)) (.hostRd mv req)
        (.host l (queueLabel l false s.qos.nonConf)) false false) (lineKey (myNode s) (dpa / 64)), true) := by
  unfold inProgressOne at ht
  unfold hostStart
  simp only [hext, hshared, haway, workLabel, workKind, workCounted, ht, hpend, htake, Bool.false_eq_true, if_false, if_true,
    Bool.not_false, Bool.and_self]

end

/-- Settles O54: counting a request moves neither decoder nor fence, so its address leads where it led before. -/
theorem hostMemoryRequests : Obligations.HostMemoryRequests := by
  unfold Obligations.HostMemoryRequests
  refine ⟨?_, ?_⟩
  · intro s hpa mv req data mask poison there label asked u v hfence hself
    have hread := memRdBody_eq s hpa.toNat mv req
    have hwrite := memWrBody_eq s hpa.toNat mv req data mask poison
    refine ⟨fun h => ⟨?_, ?_⟩, fun dpa i e hdpa hext => ⟨?_, ?_⟩⟩
    · exact endsWork_of_eq rfl (hread.trans (hostArrive_nowhere (s := asked) hfence hself h _))
    · exact endsWork_of_eq rfl (hwrite.trans (hostArrive_nowhere hfence hself h _))
    · exact endsWork_of_eq rfl (hread.trans (hostArrive_extent (s := asked) hfence hself hdpa hext _))
    · exact endsWork_of_eq rfl (hwrite.trans (hostArrive_extent hfence hself hdpa hext _))
  · intro s dpa i e mv req l
    refine ⟨fun h => hostTry_closed h dpa _, fun hl h => hostTry_window_full hl h dpa mv req, ?_⟩
    intro hst hact hwin hshape hext hshared haway hpend htake
    exact (hostTry_unshaped hst hact hwin hshape dpa mv req).trans (hostStart_own rfl hext hshared haway hpend htake)

end Sys2Proof.Proofs.OnePass
end

section
/-! SUPPORT. The Clabex image (02: R57 to R61) and the start-up of a device (19). Each part states what the operation of its unit does
in each case, and ends with the obligation that puts the cases together. -/

namespace Sys2Proof.Proofs.ClabexImage

open Sys2Proof Sys2Proof.Machine Sys2Proof.Safety Sys2Proof.Proofs.OnePass

/-! ### Staging (R57 to R59, R61 step 1) -/

/-- A mailbox command that the secure ROM takes too runs as soon as the mailbox is ready (R497, R614). -/
theorem mailbox_rom {s : State} (h : s.host.infoValid = true) (run : State → State) : mailbox s true run = run s := by
  simp [mailbox, h]

/-- Is a staging session open: between IMAGE_STAGE_BEGIN and the end of its verification (R57)? -/
def sessionOpen (s : State) : Prop := s.img.stage = .receiving ∨ s.img.stage = .verifying

section
variable {s : State} {p : List Byte}

/-- With no session open and no refold running, IMAGE_STAGE_BEGIN answers by the length it names. -/
theorem imageStageBegin_free (hlen : p.length = 4) (hopen : ¬ sessionOpen s) (hrefold : s.img.refoldActive = false) :
    imageStageBegin s p =
      if field p 0 4 = 0 then entryReply s stInvalid 0
      else if field p 0 4 % 16 ≠ 0 ∨ 16777216 < field p 0 4 then entryReply s stLength 0
      else entryReply { s with img := { s.img with
        stage := .receiving
        cause := 0
        declared := field p 0 4
        ranges := []
        slots := mdel s.img.slots (1 - s.img.activeSlot.toNat) } } stOk 0 := by
  obtain ⟨hrec, hver⟩ := not_or.mp hopen
  simp [imageStageBegin, hlen, hrec, hver, hrefold]

theorem imageStageBegin_busy (hlen : p.length = 4) (h : sessionOpen s ∨ s.img.refoldActive = true) :
    imageStageBegin s p = entryReply s stBusyRetry 0 := by
  unfold imageStageBegin
  rw [if_neg (not_not.mpr hlen)]
  exact if_pos (or_assoc.mp h)

/-- In an open session IMAGE_STAGE_DATA answers by the range it names. -/
theorem imageStageData_receiving (hmin : 16 ≤ p.length) (hlen : p.length = 16 + field p 4 4) (hst : s.img.stage = .receiving)
    (hn : field p 4 4 ≠ 0) (hrsv : allZero p 8 8 = true) :
    imageStageData s p =
      if s.img.declared < field p 0 4 + field p 4 4 then entryReply s stLength 0
      else entryReply { s with img := { s.img with ranges := (field p 0 4, p.drop 16) :: s.img.ranges } } stOk 0 := by
  have hform : ¬ (p.length < 16 ∨ p.length ≠ 16 + field p 4 4) := by omega
  have hsession : ¬ (s.img.stage ≠ .receiving ∨ field p 4 4 = 0 ∨ (!allZero p 8 8) = true) := by simp [hst, hn, hrsv]
  unfold imageStageData
  dsimp only
  rw [if_neg hform, if_neg (by simp [hst]), if_neg hsession]

/-- A commit of an open session, with no background command running, starts one: the image is being verified, and the compressions
of the primer slots that it changes wait. -/
theorem imageStageCommit_receiving (hst : s.img.stage = .receiving) (hbg : s.host.background = none) :
    imageStageCommit s [] = mbReply (holdJobs { s with
      img := { s.img with
        stage := .verifying
        verified := none
        changing := slotMask (changedSlots s (parsePrimers ((sectionBody (stagedImage s) secPrimers).getD []))) }
      host := { s.host with background := some .stageCommit, bgOutput := none } }) .background := by
  simp [imageStageCommit, hst, hbg]

theorem imageStageAbort_ends (hst : s.img.stage ≠ .verifying) :
    imageStageAbort s [] = entryReply { s with img := { s.img with stage := .idle, ranges := [], declared := 0 } } stOk 0 := by
  simp [imageStageAbort, hst]

theorem imageStageAbort_verifying (hst : s.img.stage = .verifying) : imageStageAbort s [] = entryReply s stBusyRetry 0 := by
  simp [imageStageAbort, hst]

end

/-- Settles O8: the answer while the device is busy, and the three answers by the length. -/
theorem stageBegin : Obligations.StageBegin := by
  unfold Obligations.StageBegin
  intro s payload hready hlen n opened
  have hrun : mailbox s true (fun s => imageStageBegin s payload) = imageStageBegin s payload := mailbox_rom hready _
  refine ⟨fun h => ?_, fun hopen hrefold h => ?_, fun hopen hrefold h0 h => ?_, fun hopen hrefold h0 h16 hmax => ?_⟩
  · exact ends_of_eq rfl (hrun.trans (imageStageBegin_busy hlen h))
  · exact ends_of_eq rfl (hrun.trans ((imageStageBegin_free hlen hopen hrefold).trans (if_pos h)))
  · exact ends_of_eq rfl (hrun.trans ((imageStageBegin_free hlen hopen hrefold).trans ((if_neg h0).trans (if_pos h))))
  · have hfits : ¬ (n % 16 ≠ 0 ∨ 16777216 < n) := by omega
    exact ends_of_eq rfl (hrun.trans ((imageStageBegin_free hlen hopen hrefold).trans ((if_neg h0).trans (if_neg hfits))))

/-- Settles O9: a range by its end, a commit, and an abort by the stage of the session. -/
theorem stageDataCommitAbort : Obligations.StageDataCommitAbort := by
  unfold Obligations.StageDataCommitAbort
  intro s hready
  refine ⟨?_, fun hst hbg => ?_, fun hst => ?_, fun hst => ?_⟩
  · intro payload off n hmin hlen hst hn hrsv
    have hdata := (mailbox_rom hready fun s => imageStageData s payload).trans (imageStageData_receiving hmin hlen hst hn hrsv)
    exact ⟨fun h => ends_of_eq rfl (hdata.trans (if_neg (Nat.not_lt.mpr h))), fun h => ends_of_eq rfl (hdata.trans (if_pos h))⟩
  · exact ends_of_eq rfl ((mailbox_rom hready _).trans (imageStageCommit_receiving hst hbg))
  · exact ends_of_eq rfl ((mailbox_rom hready _).trans (imageStageAbort_ends hst))
  · exact ends_of_eq rfl ((mailbox_rom hready _).trans (imageStageAbort_verifying hst))

/-! ### Verification (R59, R61 steps 2 and 3, R70) -/

/-- The cause that refuses the staged image: the lowest of its faults in its bytes, in its length and against the device; 0 for an
image without a fault (R54, R58, R59, R70). -/
def refusalCause (s : State) : Nat :=
  lowestCause (verifyFaults s (stagedImage s) s.img.declared ++ faultIf (decide (stagedBytes s < s.img.declared)) icLength ++
    stagingFaults s (parseImage (stagedImage s)))

/-- A refusal ends the session with its cause (R59). -/
def sessionRefused (s : State) (c : Nat) : State :=
  { s with img := { s.img with stage := .rejected, cause := BitVec.ofNat 8 c, ranges := [] } }

/-- A waived signature is reported (R54). -/
def signatureWaived (s : State) : State :=
  if signatureOk (stagedImage s) (imageKey s) then s else raise s 0x301 icSignature

/-- The staged image `bs` is verified, and the inactive slot holds it COMMITTED (R61 step 3). -/
def slotCommitted (u : State) (bs : List Byte) (signed : Bool) : State :=
  { u with img := { u.img with
      verified := some (parseImage bs)
      slots := mset u.img.slots (1 - u.img.activeSlot.toNat)
        ⟨true, parseImage bs, signed, ownerNow u, shake256 (bytesAt bs 0 (bodyEnd bs)) 64⟩ } }

section
variable {s : State}

theorem imageVerifyDone_refuses (hst : s.img.stage = .verifying) (hv : s.img.verified = none) (hc : refusalCause s ≠ 0) :
    imageVerifyDone s =
      completeCmd (releaseJobs (sessionRefused s (refusalCause s))) .mailbox (causeStatus (refusalCause s)) 0 := by
  unfold imageVerifyDone
  rw [if_neg (by simp [hst, hv])]
  exact if_pos hc

theorem imageVerifyDone_commits (hst : s.img.stage = .verifying) (hv : s.img.verified = none) (hc : refusalCause s = 0) :
    imageVerifyDone s = slotCommitted (signatureWaived s) (stagedImage s) (signatureOk (stagedImage s) (imageKey s)) := by
  unfold imageVerifyDone
  rw [if_neg (by simp [hst, hv])]
  exact if_neg (not_not.mpr hc)

end

/-! ### The commit point (R60, R61 steps 4 and 5) -/

/-- The verified image is the active one, its slot the active slot, and the session is over. -/
def imageSwitched (s : State) (i : Img) : State :=
  { s with
    img := { s.img with
      activeSlot := BitVec.ofNat 1 (1 - s.img.activeSlot.toNat)
      active := i
      verified := none
      stage := .idle
      ranges := [] }
    pwr := { s.pwr with expected := BitVec.ofNat 2 i.basic.feedsExpected }
    boot := { s.boot with altDrop := true } }

/-- The live sections are in force, the pool's are applied or pending, and restart sections are marked (R60, R63 to R65). -/
def liveSwitched (s : State) (i : Img) : State :=
  markRestart (commitPool (taggedDomains (loadTimers (loadLabels (imageSwitched s i)) s.img.active.basic i.basic)))

/-- A ledger that the image in force makes larger grows at once (R141). -/
def ledgerRaised (s : State) : State :=
  { s with chd := { s.chd with ledgerMib := max s.chd.ledgerMib (globalPolicy s 20) } }

theorem commitPoint_verified {s : State} {i : Img} (h : s.img.verified = some i) :
    commitPoint s = restartHalted (completeCmd (releaseJobs
      (startRefold (reserveChanged (ledgerRaised (liveSwitched s i))) s.img.active)) .mailbox stOk 0) := by
  unfold commitPoint
  rw [h]
  rfl

/-- Settles O10: a staged image by whether a cause refuses it, and the commit point of a verified one. -/
theorem imageVerifyAndCommit : Obligations.ImageVerifyAndCommit := by
  unfold Obligations.ImageVerifyAndCommit
  refine ⟨?_, fun s i hv => endsWork_of_eq rfl (congrArg feedsAgree (commitPoint_verified hv))⟩
  intro s hst hv bs i c u
  refine endsWork_of_eq rfl ?_
  by_cases hc : c = 0
  · rw [if_neg (not_not.mpr hc)]
    exact imageVerifyDone_commits hst hv hc
  · rw [if_pos hc]
    exact imageVerifyDone_refuses hst hv hc

/-! ### Feeds at the end of a boot step (R556, R605) -/

theorem bootStepEnd_not_running {s : State} {k : Nat} (h : runOf s k = none) (r : StepReport) (buddy : Option BuddyReport) :
    bootStepEnd s k r buddy = s :=
  if_pos (by simp [h])

/-- An UNEXPECTED feed that the image expects starts again at step 1 of R559. -/
theorem feedAgrees_restarts {s : State} {f : Feed} (hexp : feedExpected s f = true) (hst : (feed s f).st = .unexpected) :
    feedAgrees s f = setFeed s f { feed s f with st := if inWindow f (feed s f).mv then .qualify else .outOfRange } := by
  simp [feedAgrees, hexp, hst]

theorem feedAgrees_absent {s : State} {f : Feed} (hst : (feed s f).st = .absent) : feedAgrees s f = s := by
  simp [feedAgrees, hst]

/-- The device after reset with feed A present at 12 V and UNEXPECTED, though its image expects both feeds. -/
def feedDisagrees : State :=
  { State.reset with pwr := { State.reset.pwr with feedA := { FeedRec.init with st := .unexpected, mv := 12000 } } }

/-- Nothing waits on a device after reset, whatever its feeds are. -/
theorem quiet_reset_feeds (p : PwrState) : Quiet { State.reset with pwr := p } :=
  ⟨⟨rfl, rfl, rfl⟩, rfl, rfl, rfl, rfl, rfl, rfl, rfl, nofun, rfl, rfl, rfl, rfl, rfl, nofun⟩

theorem feedsAgree_feedDisagrees : feedsAgree feedDisagrees =
    setFeed feedDisagrees .a { feedDisagrees.pwr.feedA with st := if inWindow .a 12000 then .qualify else .outOfRange } := by
  unfold feedsAgree
  rw [feedAgrees_restarts (s := feedDisagrees) (f := .a) rfl rfl, feedAgrees_absent rfl]
  rfl

/-- A step that is not in progress still ends with the feeds brought to what the image expects. -/
theorem exec_bootStepEnd_feedDisagrees (step : BitVec 8) (r : StepReport) (buddy : Option BuddyReport) :
    exec (.bootStepEnd step r buddy) feedDisagrees = .next (feedsAgree feedDisagrees) := by
  have hquiet : Quiet (feedsAgree feedDisagrees) := feedsAgree_feedDisagrees ▸ quiet_reset_feeds _
  calc exec (.bootStepEnd step r buddy) feedDisagrees
      = .next (work (feedsAgree (bootStepEnd feedDisagrees step.toNat r buddy))) := rfl
    _ = .next (feedsAgree feedDisagrees) := by rw [bootStepEnd_not_running rfl, work_quiet hquiet]

/-- Refutes O52: a step that is not in progress does not end in the same state, for BOOT_STEP_END also brings the feeds to what the
image expects (R556), and the statement, which assumes nothing of the feeds, leaves that out. In `feedDisagrees` feed A is UNEXPECTED
before the command and no longer so after it. -/
theorem not_startUp : ¬ Obligations.StartUp := by
  unfold Obligations.StartUp
  rintro ⟨hends, -, -⟩
  obtain ⟨hidle, -⟩ := hends feedDisagrees 0x38 ⟨true, 0, 0, 0, 0, false, false, false, none, none, []⟩ none
  obtain ⟨-, hsame⟩ := hidle rfl
  have hnext := (exec_bootStepEnd_feedDisagrees _ _ _).symm.trans (hsame (quiet_reset_feeds _))
  have hagree : feedsAgree feedDisagrees = feedDisagrees := Host.Outcome.next.inj hnext
  have hst : (if inWindow .a 12000 then FeedSt.qualify else .outOfRange) = .unexpected :=
    congrArg (fun s => s.pwr.feedA.st) (feedsAgree_feedDisagrees.symm.trans hagree)
  split at hst <;> cases hst

end Sys2Proof.Proofs.ClabexImage
end

section
/-! SUPPORT. The window and its descriptors (03), with what follows from them at the journal, the buddy and the mailbox: reports of
the mailbox (R72, R98, R481), extents (R96 to R99), sharing grants (R79, R494), the mirror at the buddy (R168 to R173, R664), and the
checkpoint, the near cache and the waits for space (R92, R127, R132, R163, R166, R663). Each part states what the operation of its
unit does in each case, and ends with the obligation that puts the cases together. -/

namespace Sys2Proof.Proofs.Window

open Sys2Proof Sys2Proof.Machine Sys2Proof.Safety Sys2Proof.Proofs.OnePass

/-! ### What lets a command through (R481, R488 to R491, R497) -/

theorem mailbox_serves {s : State} (h : Serves s) (rom : Bool) (run : State → State) : mailbox s rom run = run s := by
  obtain ⟨hinfo, hrom⟩ := h
  simp [mailbox, hinfo, hrom]

theorem whenActive_active {s : State} (h : s.host.memActive = true) (run : State → State) : whenActive s run = run s := if_pos h

theorem whenActive_inactive {s : State} (h : s.host.memActive = false) (run : State → State) :
    whenActive s run = mbReply s .retryRequired := if_neg (by simp [h])

theorem gated_runs {s : State} {src : CmdSrc} {e : Line} (h : Runs s src e) (run : State → State) :
    gated s src e run = run (active s) := by
  obtain ⟨hfence, hgate⟩ := h
  simp [gated, hfence, hgate]

/-! ### Bytes at an offset -/

theorem length_bytesAt (bs : List Byte) (off n : Nat) : (bytesAt bs off n).length = n := by
  simp only [bytesAt, List.length_append, List.length_replicate, List.length_take]
  omega

/-- A part of a byte string is read at the offset at which it stands. -/
theorem bytesAt_part {as bs cs : List Byte} {off n : Nat} (hoff : as.length = off) (hn : bs.length = n) :
    bytesAt (as ++ (bs ++ cs)) off n = bs := by
  subst hoff hn
  simp [bytesAt]

/-! ### Reports (R72, R98, R481) -/

/-- The revision that IDENTIFY_MEMORY_DEVICE reports: that of the active firmware slot. -/
def activeRevision (s : State) : List Byte := (s.host.fwActive.map (fwRevision s)).getD (List.replicate 16 0)

/-- The fields of IDENTIFY_MEMORY_DEVICE between its capacities and the size of the label storage area, and those behind the limit of
the poison list: the manual states neither. -/
def identifyLogs : List Byte :=
  natLe 8 (Config.identifyField 0) ++ natLe 2 (Config.identifyField 1) ++ natLe 2 (Config.identifyField 2) ++
    natLe 2 (Config.identifyField 3) ++ natLe 2 (Config.identifyField 4)
def identifyTail : List Byte :=
  natLe 2 (Config.identifyField 5) ++ natLe 1 (Config.identifyField 6) ++ natLe 1 (Config.identifyField 7) ++
    natLe 2 (Config.identifyField 8)

/-- The identity of the device: revision, capacities, label storage area and limit of the poison list. -/
def identity (s : State) : List Byte :=
  activeRevision s ++ (natLe 24 0 ++ (identifyLogs ++ (natLe 4 0 ++ (natLe 3 4096 ++ identifyTail))))

theorem identifyMemoryDevice_eq (s : State) : identifyMemoryDevice s = mbReply s (.bytes (identity s)) := by
  unfold identifyMemoryDevice identity activeRevision identifyLogs identifyTail
  cases s.host.fwActive <;> simp only [Option.map_some, Option.map_none, Option.getD_some, Option.getD_none, List.append_assoc]

theorem length_fwRevision (s : State) (n : Nat) : (fwRevision s n).length = 16 := by
  unfold fwRevision
  split
  · exact length_bytesAt _ _ _
  · exact List.length_replicate

theorem length_activeRevision (s : State) : (activeRevision s).length = 16 := by
  unfold activeRevision
  cases s.host.fwActive with
  | none => exact List.length_replicate
  | some n => exact length_fwRevision s n

theorem length_identifyLogs : identifyLogs.length = 16 := by simp [identifyLogs, length_natLe]

theorem length_identity (s : State) : (identity s).length = 69 := by
  simp [identity, identifyTail, length_activeRevision, length_identifyLogs, length_natLe]

theorem identity_capacities (s : State) : bytesAt (identity s) 16 24 = natLe 24 0 :=
  bytesAt_part (length_activeRevision s) (length_natLe 24 0)

theorem identity_labelArea (s : State) : bytesAt (identity s) 56 4 = natLe 4 0 := by
  have hparts : identity s = (activeRevision s ++ natLe 24 0 ++ identifyLogs) ++ (natLe 4 0 ++ (natLe 3 4096 ++ identifyTail)) := by
    simp only [identity, List.append_assoc]
  rw [hparts]
  exact bytesAt_part (by simp [length_activeRevision, length_identifyLogs, length_natLe]) (length_natLe 4 0)

theorem identity_poisonLimit (s : State) : bytesAt (identity s) 60 3 = natLe 3 4096 := by
  have hparts : identity s = (activeRevision s ++ natLe 24 0 ++ identifyLogs ++ natLe 4 0) ++ (natLe 3 4096 ++ identifyTail) := by
    simp only [identity, List.append_assoc]
  rw [hparts]
  exact bytesAt_part (by simp [length_activeRevision, length_identifyLogs, length_natLe]) (length_natLe 3 4096)

/-- The Command Effects Log is given out in any range inside it. -/
theorem getLog_cel {off len : Nat} (h : off + len ≤ celBytes.length) (s : State) :
    getLog s true off len = mbReply s (.bytes (bytesAt celBytes off len)) :=
  if_neg (by simp [Nat.not_lt.mpr h])

theorem getLog_other (s : State) (off len : Nat) : getLog s false off len = mbReply s .invalidInput := if_pos rfl

theorem getDcConfiguration_active {s : State} {start : Nat} (hact : s.host.memActive = true)
    (h : start < (s.img.active.recs secWindow).length) (count : Nat) :
    getDcConfiguration s count start = mbReply s (.regions ((((s.img.active.recs secWindow).drop start).take count).map (fun r =>
      (r.2.getD 0 0 * 2097152, r.2.getD 1 0 * 2097152, 2 ^ r.2.getD 3 0)))) :=
  (whenActive_active hact _).trans (if_neg (Nat.not_le.mpr h))

/-- The extents of this window that its host has accepted. -/
def acceptedExtents (s : State) : List (Nat × Extent) := s.chd.extents.filter (fun e => e.2.state == .accepted)

theorem getDcExtentList_active {s : State} {start : Nat} (hact : s.host.memActive = true)
    (h : start ≤ (acceptedExtents s).length) (count : Nat) :
    getDcExtentList s count start = mbReply { s with freeIdx := s.freeIdx + 1 }
      (.extents (acceptedExtents s).length (Config.freeNat s.freeIdx) ((((acceptedExtents s).drop start).take count).map (fun e =>
        (e.2.dpa2m * 2097152, e.2.len2m * 2097152, e.2.tag)))) :=
  (whenActive_active hact _).trans (if_neg (Nat.not_lt.mpr h))

/-- Settles O21: each report is what its command answers once the mailbox serves. -/
theorem mailboxReports : Obligations.MailboxReports := by
  unfold Obligations.MailboxReports
  intro s hserves
  have run (f : State → State) : mailbox s false f = f s := mailbox_serves hserves false f
  refine ⟨ends_of_eq rfl (run _), fun off len => ⟨fun h => ?_, ?_⟩, ?_, fun _ => ends_of_eq rfl (run _), ?_, ?_, ?_⟩
  · exact ends_of_eq rfl ((run _).trans (getLog_cel h s))
  · exact ends_of_eq rfl ((run _).trans (getLog_other s _ _))
  · exact ⟨identity s, length_identity s, identity_capacities s, identity_labelArea s, identity_poisonLimit s,
      ends_of_eq rfl ((run _).trans (identifyMemoryDevice_eq s))⟩
  · exact fun hact count start h => ends_of_eq rfl ((run _).trans (getDcConfiguration_active hact h count.toNat))
  · intro hact count start es h
    exact ends_of_eq rfl ((run fun s => getDcExtentList s _ _).trans (getDcExtentList_active hact h count.toNat))
  · exact fun hact a b c d => ⟨ends_of_eq rfl ((run _).trans (whenActive_inactive hact _)),
      ends_of_eq rfl ((run _).trans (whenActive_inactive hact _))⟩

/-! ### Sharing grants (R79, R494) -/

/-- What SHARE_GRANT asks of an entry for an extent `e` (R494): a length, a start on a block of the region, a populated node other than
this one, an extent of this device's own, and no grant of that node over the range. -/
structure GrantAllowed (s : State) (entry : Line) (e : Extent) : Prop where
  length : entryNat entry 0x10 4 ≠ 0
  aligned : entryNat entry 8 8 % (2097152 * ((regionOf s e.region).map (·.block)).getD 1) = 0
  other : entryNat entry 0x14 2 ≠ myNode s
  node : entryNat entry 0x14 2 < 4096
  populated : populated s (entryNat entry 0x14 2) = true
  own : e.shared = none
  fresh : s.host.grants.any (fun g => g.2.grantee.toNat == entryNat entry 0x14 2 &&
    decide (entryNat entry 8 8 / 2097152 < g.2.dpa2m + g.2.len2m) &&
    decide (g.2.dpa2m < entryNat entry 8 8 / 2097152 + entryNat entry 0x10 4)) = false

/-- The next free number depends on the grants alone. -/
theorem freeGrant_of_grants {s t : State} (h : t.host.grants = s.host.grants) (n : Nat) (id : BitVec 32) :
    freeGrant t n id = freeGrant s n id := by
  induction n generalizing id with
  | zero => rfl
  | succ n ih => simp only [freeGrant, h, ih]

/-- A grant recorded under a number; the next number to try is the one behind it. -/
def grantRecorded (s : State) (id : BitVec 32) (g : Grant) : State :=
  { s with host := { s.host with grants := mset s.host.grants id.toNat g, nextGrant := nextGrantId id } }

/-- An allowed grant fails where its range passes the end of the extent, or where there are 4,096 grants; else it is recorded under the
next free number. -/
theorem shareGrantBody_allowed {s : State} {entry : Line} {i : Nat} {e : Extent} (hext : extentOf s (entryNat entry 8 8) = some (i, e))
    (h : GrantAllowed s entry e) (src : CmdSrc) : shareGrantBody s src entry =
      if e.dpa2m + e.len2m < entryNat entry 8 8 / 2097152 + entryNat entry 0x10 4 then completeCmd s src stLength 0
      else if 4096 ≤ s.host.grants.length then completeCmd s src stNoSpace 0
      else completeCmd (grantRecorded s (freeGrant s 4096 s.host.nextGrant)
        ⟨entryNat entry 8 8 / 2097152, entryNat entry 0x10 4, BitVec.ofNat 12 (entryNat entry 0x14 2), false⟩) src stOk
        (freeGrant s 4096 s.host.nextGrant).toNat := by
  obtain ⟨hlen, halign, hother, hnode, hpop, hown, hfresh⟩ := h
  unfold shareGrantBody
  dsimp only
  rw [hext]
  refine if_neg ?_
  simp [hlen, halign, hother, Nat.not_le.mpr hnode, hpop, hown, hfresh]

theorem shareRevokeBody_unknown {s : State} {entry : Line} (h : mget s.host.grants (entryNat entry 8 4) = none) (src : CmdSrc) :
    shareRevokeBody s src entry = completeCmd s src stInvalid 0 := by
  unfold shareRevokeBody
  dsimp only
  rw [h]

theorem shareRevokeBody_known {s : State} {entry : Line} {g : Grant} (h : mget s.host.grants (entryNat entry 8 4) = some g)
    (src : CmdSrc) : shareRevokeBody s src entry =
      if g.revoking = true then completeCmd s src stInvalid 0
      else completeCmd (emit { s with host := { s.host with
        grants := mset s.host.grants (entryNat entry 8 4) { g with revoking := true } } }
        (.grantRevoked g.grantee (BitVec.ofNat 32 (entryNat entry 8 4)))) src stOk 0 := by
  unfold shareRevokeBody
  dsimp only
  rw [h]

/-- At the grantee the host is asked to release the one extent that the grant gave. -/
theorem revocationBody_grantee {s : State} {owner : Node} {grant : BitVec 32} {i : Nat} {e : Extent} {x : SharedRef}
    (hother : owner.toNat ≠ myNode s) (hext : s.chd.extents = [(i, e)]) (hshared : e.shared = some x) (howner : x.owner = owner)
    (hgrant : x.grantId = grant) (hst : e.state = .accepted) : revocationBody s owner.toNat grant.toNat =
      postEvent s 4 (.releaseCapacity (e.dpa2m * 2097152) (e.len2m * 2097152) e.tag e.region) := by
  unfold revocationBody
  rw [if_neg hother, hext, List.filter_cons_of_pos (by simp [hshared, howner, hgrant, hst])]
  rfl

/-- At the owner the grantee's answer ends the grant. -/
theorem revocationBody_owner {s : State} {owner grant : Nat} (howner : owner = myNode s) (hgrant : mhas s.host.grants grant = true) :
    revocationBody s owner grant = raise { s with host := { s.host with grants := mdel s.host.grants grant } } 0x264 0 :=
  (if_pos howner).trans (if_pos hgrant)

/-- Settles O14: a grant and a revocation by the state of the grants, and the grantee's part by who the owner is. -/
theorem sharingGrants : Obligations.SharingGrants := by
  unfold Obligations.SharingGrants
  refine ⟨?_, ?_, ?_, ?_⟩
  · intro s src entry i e hruns dpa len n a block id hext hlen halign hother hnode hpop hown hfresh
    have hbody := (gated_runs hruns fun s => shareGrantBody s src entry).trans
      (shareGrantBody_allowed (s := active s) hext ⟨hlen, halign, hother, hnode, hpop, hown, hfresh⟩ src)
    rw [freeGrant_of_grants (show (active s).host.grants = s.host.grants from rfl)] at hbody
    refine ⟨fun h => ?_, fun h hfull => ?_, fun h hroom => ?_⟩
    · exact endsWork_of_eq rfl (hbody.trans (if_pos h))
    · exact endsWork_of_eq rfl (hbody.trans ((if_neg (Nat.not_lt.mpr h)).trans (if_pos hfull)))
    · exact endsWork_of_eq rfl (hbody.trans ((if_neg (Nat.not_lt.mpr h)).trans (if_neg (Nat.not_le.mpr hroom))))
  · intro s src entry g hruns id
    have hbody := gated_runs hruns fun s => shareRevokeBody s src entry
    refine ⟨fun h hrev => ?_, fun h hrev => ?_, fun h => ?_⟩
    · exact endsWork_of_eq rfl (hbody.trans ((shareRevokeBody_known (s := active s) h src).trans (if_neg (by simp [hrev]))))
    · exact endsWork_of_eq rfl (hbody.trans ((shareRevokeBody_known (s := active s) h src).trans (if_pos hrev)))
    · exact endsWork_of_eq rfl (hbody.trans (shareRevokeBody_unknown (s := active s) h src))
  · exact fun s owner grant i e x hother hext hshared howner hgrant hst =>
      endsWork_of_eq rfl (revocationBody_grantee hother hext hshared howner hgrant hst)
  · exact fun s owner grant howner hgrant => endsWork_of_eq rfl (revocationBody_owner howner hgrant)

/-! ### Adding an extent (R96, R97) -/

/-- The entry of an extent that is being reserved (R97 step 3). -/
def reservedExtent (s : State) (src : CmdSrc) (a : AddArgs) (start i : Nat) (t : Attrs) : Extent where
  dpa2m := start
  len2m := a.len
  region := a.region
  tag := a.tag
  attrs := t
  shared := if a.shared then some ⟨BitVec.ofNat 12 a.owner, BitVec.ofNat 32 a.grant, (grantHeld a).getD 0⟩ else none
  state := .reserving src
  tagTables := !a.shared && domainInteg s t.domain
  tagWait := false
  home := BitVec.ofNat 12 (myNode s)
  mext := i
  mbase := start

/-- An extent that has passed the checks is reserved, and the domain of one of this owner's has its keys. -/
def extentReserved (s : State) (src : CmdSrc) (a : AddArgs) (start i : Nat) (t : Attrs) : State :=
  let v := reserveChanged { chosen s 2 with chd := { s.chd with
    extents := mset s.chd.extents i (reservedExtent s src a start i t) } }
  if a.shared then v else ensureDomain v t.domain

theorem extentAddBody_refused {s : State} {entry : Line} {st : Nat} (h : addCheck s (addArgs entry) = .error st) (src : CmdSrc) :
    extentAddBody s src entry = completeCmd s src st 0 := by
  unfold extentAddBody
  dsimp only
  rw [h]

section
variable {s : State} {src : CmdSrc} {entry : Line} {start i : Nat} {t : Attrs}
  (hcheck : addCheck s (addArgs entry) = .ok start) (hidx : freeIndex s = some i) (htag : resolveTag s (addArgs entry).tag = some t)
include hcheck hidx htag

/-- An extent with no copy to be kept at the buddy is offered to the host. -/
theorem extentAddBody_offers (h : (addArgs entry).shared = true ∨ t.mirrored = false) :
    extentAddBody s src entry = offerExtent (extentReserved s src (addArgs entry) start i t) i src := by
  have hown : ((addArgs entry).shared || !t.mirrored) = true := by simpa using h
  unfold extentAddBody
  simp only [hcheck, hidx, htag, hown]
  rfl

/-- A Mirrored extent of this owner's first asks the buddy for room. -/
theorem extentAddBody_asks {b : Nat} (hown : (addArgs entry).shared = false) (hmir : t.mirrored = true)
    (hbuddy : myBuddy (extentReserved s src (addArgs entry) start i t) = some b) :
    extentAddBody s src entry = openTx (extentReserved s src (addArgs entry) start i t) 5
      (mirrorCtl b 1 i 0 (addArgs entry).len 14) (.reserve i) := by
  have hcopy : ((addArgs entry).shared || !t.mirrored) = false := by simp [hown, hmir]
  unfold extentReserved reservedExtent at hbuddy
  unfold extentAddBody
  simp only [hcheck, hidx, htag, hcopy, hbuddy]
  rfl

end

/-- The buddy's silence gives up what is still being reserved. -/
theorem addFailed_reserving {s : State} {i : Nat} {e : Extent} {src : CmdSrc} (hext : extentEnt s i = some e)
    (hst : e.state = .reserving src) (status : Nat) :
    addFailed s i status = completeCmd (raise (unreserve (dropExtent s i) i e.len2m) 0x1FA 0) src status 0 := by
  unfold addFailed
  simp only [hext, hst]

/-- The transactions that reserve an extent at the buddy are closed. -/
def reservationsClosed (s : State) (i : Nat) : State :=
  ((s.e2e.txs.filter (fun t => t.2.purpose == Purpose.reserve i)).map (·.1)).foldl closeTx s

theorem extentAddBuddyTimeoutBody_found {s : State} {dpa i : Nat} {x : Extent} (h : extentFrom s dpa = some (i, x)) :
    extentAddBuddyTimeoutBody s dpa = addFailed (reservationsClosed s i) i stBusyRetry := by
  unfold extentAddBuddyTimeoutBody
  rw [h]
  rfl

/-- Is an extent the pending one that a range of the host's response names (R97 step 6)? -/
def acceptedBy (r : BitVec 64 × BitVec 64) (e : Extent) : Bool :=
  e.state == .pending && e.dpa2m * 2097152 == r.1.toNat && e.len2m * 2097152 == r.2.toNat

/-- The host accepts the extents it names, each of which was offered. -/
theorem addResponseBody_accepts {s : State} {ranges : List (BitVec 64 × BitVec 64)} (hsome : ranges ≠ [])
    (hall : ranges.all (fun r => s.chd.extents.any (fun e => acceptedBy r e.2)) = true) :
    addResponseBody s ranges = mbReply { s with chd := { s.chd with
      extents := mmap s.chd.extents (fun _ e => if ranges.any (fun r => acceptedBy r e) then { e with state := .accepted } else e) } }
      .ok :=
  (if_neg (by simpa using hsome)).trans (if_pos hall)

/-- Settles O12: an addition by the answer of its checks and by whether it has a copy at the buddy, the buddy's silence, and the
host's acceptance. -/
theorem extentAdd : Obligations.ExtentAdd := by
  unfold Obligations.ExtentAdd
  refine ⟨?_, ?_, ?_⟩
  · intro s src e hruns a
    have hbody := gated_runs hruns fun s => extentAddBody s src e
    refine ⟨fun st h => endsWork_of_eq rfl (hbody.trans (extentAddBody_refused h src)), ?_⟩
    intro start i t hcheck hidx htag x v u
    refine ⟨fun h => ?_, fun b hown hmir hbuddy => ?_⟩
    · exact endsWork_of_eq rfl (hbody.trans (extentAddBody_offers hcheck hidx htag h))
    · exact endsWork_of_eq rfl (hbody.trans (extentAddBody_asks hcheck hidx htag hown hmir hbuddy))
  · intro s dpa i x y src hfrom u hent hst
    exact endsWork_of_eq rfl ((extentAddBuddyTimeoutBody_found hfrom).trans (addFailed_reserving hent hst stBusyRetry))
  · intro s ranges hserves hact hsome hit hall
    exact endsWork_of_eq rfl ((mailbox_serves hserves false _).trans
      ((whenActive_active hact _).trans (addResponseBody_accepts hsome hall)))

/-! ### Releasing an extent (R98, R99) -/

/-- A release of one range that passes its check sets the release point of that range. -/
theorem releaseBody_one {s : State} {r : BitVec 64 × BitVec 64} (h : releaseCheck s r.1.toNat r.2.toNat = stOk) :
    releaseBody s [r] = releasePoint s r.1.toNat r.2.toNat := by
  simp [releaseBody, h]

/-- A whole extent none of whose pages migrates is released as it stands. -/
theorem releasePoint_whole {s : State} {dpa len i : Nat} {e : Extent}
    (hrel : releaseOf s (dpa / 2097152) (len / 2097152) = some (i, e)) (hstart : e.dpa2m = dpa / 2097152)
    (hlen : e.len2m = len / 2097152) (hmig : migsIn s e.dpa2m e.len2m = []) :
    releasePoint s dpa len = { s with chd := { s.chd with
      extents := mset s.chd.extents i { extentPart e e.dpa2m e.len2m with state := .releasing } } } := by
  rw [← hstart, ← hlen] at hrel
  unfold releasePoint
  rw [← hstart, ← hlen]
  simp only [hrel, hmig, List.foldl_nil, Nat.lt_irrefl, if_false]

/-- The release of an own extent without copies and without populated pages: its three phases are journalled, and the extent goes with
its part of the translation cache. -/
def ownReleased (v : State) (i : Nat) (e : Extent) : State :=
  retireKey (dropExtent (tcForget (releasePhase (releasePhase (releasePhase v i 4 e) i 5 e) i 6 e) e) i) e.attrs.domain

theorem finishRelease_own {v : State} {i : Nat} {e : Extent} (hown : e.shared = none) (hmir : e.attrs.mirrored = false)
    (hpages : listedPages (releasePhase v i 4 e) e = []) : finishRelease v i e = ownReleased v i e := by
  unfold finishRelease
  rw [if_neg (by simp [hown])]
  simp only [hpages, hmir, List.filter_nil, List.foldl_nil, Bool.false_and, Bool.false_eq_true, if_false]
  rfl

theorem finishRelease_shared {e : Extent} (h : e.shared.isSome = true) (v : State) (i : Nat) :
    finishRelease v i e = dropShared (releasePhase v i 6 e) i e := if_pos h

/-- The response goes out, and the release of the one extent that is being released is carried out. -/
theorem releaseResponseBody_one {s : State} {dpa i : Nat} {e : Extent} (hrel : releasing s = [(i, e)]) (hdpa : e.dpa2m * 2097152 = dpa)
    (hidle : rangeBusy s e = false) : releaseResponseBody s dpa = finishRelease (mbReply s .ok) i e := by
  simp [releaseResponseBody, hrel, hdpa, hidle]

theorem releaseResponseBody_busy {s : State} (h : ∃ e ∈ releasing s, rangeBusy s e.2 = true) (dpa : Nat) :
    releaseResponseBody s dpa = s :=
  if_pos (by simp only [Bool.or_eq_true, List.any_eq_true]; exact .inr h)

/-- Settles O13: the release point of a whole extent, and the response once nothing runs in what is released. -/
theorem extentRelease : Obligations.ExtentRelease := by
  unfold Obligations.ExtentRelease
  refine ⟨?_, ?_, ?_⟩
  · intro s r i e hserves hact hcheck hrel hstart hlen hmig
    exact endsWork_of_eq rfl ((mailbox_serves hserves false _).trans ((whenActive_active hact _).trans
      ((releaseBody_one hcheck).trans (releasePoint_whole hrel hstart hlen hmig))))
  · intro s dpa i e hrel hdpa hidle v
    have hbody := releaseResponseBody_one hrel hdpa hidle
    refine ⟨fun hown hmir hpages => ?_, fun hshared => ?_⟩
    · exact endsWork_of_eq rfl (hbody.trans (finishRelease_own hown hmir hpages))
    · exact endsWork_of_eq rfl (hbody.trans (finishRelease_shared hshared _ i))
  · exact fun s dpa h => endsWork_of_eq rfl (releaseResponseBody_busy h dpa.toNat)

/-! ### Mirror traffic at the buddy (R34, R357, R375, R616) -/

/-- Mirror traffic that has not grown old acts on a device that serves. -/
theorem mirrorArrives_serves {s : State} {op : Nat} {h : ReqHdr} (hold : (consumeTag s 4 op h.tag).2.old = false)
    (hserves : serves (active (consumeTag s 4 op h.tag).1) = true) (act : State → State) :
    mirrorArrives s op h act = act (active (consumeTag s 4 op h.tag).1) := by
  simp [mirrorArrives, arrive, hold, hserves]

/-- A command of mirror traffic, which reaches a device in Run that serves, ends where its own effect does. -/
theorem endsWork_mirror {c : Instr} {s t : State} {op : Nat} {h : ReqHdr} {act : State → State}
    (hexec : exec c s = .next (work (inRun s c))) (htake : takeIn s c = mirrorArrives s op h act) (hrun : s.aon.st = .run)
    (hold : (consumeTag s 4 op h.tag).2.old = false) (hserves : serves (active (consumeTag s 4 op h.tag).1) = true)
    (ht : act (active (consumeTag s 4 op h.tag).1) = t) : EndsWork c s t := by
  refine endsWork_of_eq hexec ?_
  calc inRun s c = takeIn s c := if_pos (beq_iff_eq.mpr hrun)
    _ = act (active (consumeTag s 4 op h.tag).1) := htake.trans (mirrorArrives_serves hold hserves act)
    _ = t := ht

/-! ### Mirror sequences (R168, R172, R173) -/

section
variable {u : State} {h : ReqHdr} {b : MirrorBody} (hseq : b.seq ≠ 0) (hact : mhas u.chd.acting (tagSource h.tag) = false)
include hseq hact

theorem mirrorWriteAt_repeat (hold : b.seq.toNat ≤ (buddyOf u (tagSource h.tag)).applied ∨
    (buddyOf u (tagSource h.tag)).ahead.contains b.seq.toNat = true) :
    mirrorWriteAt u h b = buddyCmp u h (storeStatus u (tagSource h.tag)) := by
  unfold mirrorWriteAt
  dsimp only
  rw [if_neg hseq, if_neg (by simp [hact])]
  exact if_pos (by simpa only [Bool.or_eq_true, decide_eq_true_eq] using hold)

variable (hnew : (buddyOf u (tagSource h.tag)).applied < b.seq.toNat)
  (hahead : (buddyOf u (tagSource h.tag)).ahead.contains b.seq.toNat = false)
include hnew hahead

/-- A new sequence that names no origin is applied. -/
theorem mirrorWriteAt_new (horigin : b.origin = none) : mirrorWriteAt u h b =
    buddyCmp (retireEntries (mirrorApply u (tagSource h.tag) b) (tagSource h.tag) b.floor) h (storeStatus u (tagSource h.tag)) := by
  unfold mirrorWriteAt
  dsimp only
  rw [if_neg hseq, if_neg (by simp [hact]), if_neg (by simp only [hahead, Bool.or_false, decide_eq_true_eq]; omega), horigin]

/-- A new sequence whose origin finds room is applied and noted. -/
theorem mirrorWriteAt_origin {t : Tag} (horigin : b.origin = some t) (hroom : crtFull u t = false) : mirrorWriteAt u h b =
    buddyCmp (retireEntries (mirrorEntry (mirrorApply u (tagSource h.tag) b) (tagSource h.tag) t b) (tagSource h.tag) b.floor) h
      (storeStatus u (tagSource h.tag)) := by
  unfold mirrorWriteAt
  dsimp only
  rw [if_neg hseq, if_neg (by simp [hact]), if_neg (by simp only [hahead, Bool.or_false, decide_eq_true_eq]; omega), horigin]
  exact if_neg (by simp [hroom])

end

/-! ### Reservations and copies (R97, R170, R357, R664) -/

section
variable {u : State} {h : ReqHdr} {ext : Nat}

theorem mirrorReserve_zero : mirrorReserve u h ext 0 = buddyCmp u h 4 := rfl

variable {len : Nat} (hlen : len ≠ 0)
include hlen

theorem mirrorReserve_held (hheld : mhas (buddyOf u (tagSource h.tag)).reserved ext = true) :
    mirrorReserve u h ext len = buddyCmp u h 0 := (if_neg hlen).trans (if_pos hheld)

/-- A reservation that is new is granted where there is room for its copies, and else denied. -/
theorem mirrorReserve_new (hnew : mhas (buddyOf u (tagSource h.tag)).reserved ext = false) :
    mirrorReserve u h ext len = if copyRoom u len then
        buddyCmp (reserveChanged (setBuddyOf u (tagSource h.tag) { buddyOf u (tagSource h.tag) with
          reserved := mset (buddyOf u (tagSource h.tag)).reserved ext len })) h 0
      else buddyCmp u h 2 := (if_neg hlen).trans (if_neg (by simp [hnew]))

end

section
variable {u : State} {h : ReqHdr} {ext pg : Nat}

theorem mirrorFreeAt_zero : mirrorFreeAt u h ext pg 0 = buddyCmp u h 4 := rfl

theorem mirrorFreeAt_past {cnt : Nat} (hcnt : cnt ≠ 0)
    (hpast : copyPast u (tagSource h.tag) ext pg cnt = true ∨ 2 ^ 28 < pg + cnt) : mirrorFreeAt u h ext pg cnt = buddyCmp u h 3 :=
  (if_neg hcnt).trans (if_pos (by simpa only [Bool.or_eq_true, decide_eq_true_eq] using hpast))

/-- A run of pages inside the extent loses its copies. -/
theorem mirrorFreeAt_frees {cnt : Nat} (hcnt : cnt ≠ 0)
    (hpast : ¬ (copyPast u (tagSource h.tag) ext pg cnt = true ∨ 2 ^ 28 < pg + cnt)) : mirrorFreeAt u h ext pg cnt =
      buddyCmp (reserveChanged (((mkeys u.chd.copies).filter (fun k => decide (copyKey (tagSource h.tag) ext pg ≤ k) &&
        decide (k < copyKey (tagSource h.tag) ext pg + cnt))).foldl dropCopy u)) h 0 :=
  (if_neg hcnt).trans (if_neg (by simpa only [Bool.or_eq_true, decide_eq_true_eq] using hpast))

theorem mirrorReadAt_zero (line : Nat) : mirrorReadAt u h ext pg line 0 = buddyCmp u h 4 := if_pos (.inl rfl)

/-- A read of one line answers the line of the copy, unless the page passes the end of its extent. -/
theorem mirrorReadAt_one (line : BitVec 6) : mirrorReadAt u h ext pg line.toNat 1 =
    if copyPast u (tagSource h.tag) ext pg 1 then buddyCmp u h 3
    else respondData u 1 h.tag h.label.toNat (readCopyLine u (copyKey (tagSource h.tag) ext pg) line.toNat).2 false false false true 0
      line.toNat (readCopyLine u (copyKey (tagSource h.tag) ext pg) line.toNat).1 := by
  have hline : ¬ 64 < line.toNat + 1 := by omega
  simp [mirrorReadAt, hline]

/-- A page that will come as raw lines is announced: no line of it is there yet, and the owner's store counts as whole. -/
def rawAnnounced (u : State) (o k : Nat) (kgen integ : Bool) : State :=
  let w := setBuddyOf u o { buddyOf u o with storeIntact := true }
  let x := if mhas w.chd.copies k then w else setCopy w k Copy.zero
  modCopy x k (fun c => { c with coming := some ⟨mkDesc tierNone kgen 0 true integ false false 0 0 (myNode u) 0, true, [], 64⟩ })

theorem mirrorPageAt_raw (blens : Nat) (kgen integ : Bool) (f : BitVec 64) : mirrorPageAt u h ext pg blens kgen integ true f =
    if copyPast u (tagSource h.tag) ext pg 1 then buddyCmp u h 3
    else buddyCmp (rawAnnounced u (tagSource h.tag) (copyKey (tagSource h.tag) ext pg) kgen integ) h 0 := by
  simp [mirrorPageAt, copyArrives, rawAnnounced]

theorem mirrorPodAt_unannounced (hnone : (copyOf u (copyKey (tagSource h.tag) ext pg)).coming = none) (index : Nat) (v : Line) :
    mirrorPodAt u h ext pg index v = buddyCmp u h 0 := by
  unfold mirrorPodAt
  dsimp only
  rw [hnone]

variable {x : CopyIn} (hcoming : (copyOf u (copyKey (tagSource h.tag) ext pg)).coming = some x) {index : Nat}
include hcoming

theorem mirrorPodAt_past (hpast : x.expect ≤ index) (v : Line) : mirrorPodAt u h ext pg index v = buddyCmp u h 3 := by
  unfold mirrorPodAt
  dsimp only
  rw [hcoming]
  exact if_pos hpast

/-- A pod of a page that is not whole with it is gathered. -/
theorem mirrorPodAt_gathers (hindex : index < x.expect) {v : Line} (hmore : (mset x.pods index v).length < x.expect) :
    mirrorPodAt u h ext pg index v = buddyCmp (modCopy u (copyKey (tagSource h.tag) ext pg) (fun c =>
      { c with coming := some { x with pods := mset x.pods index v } })) h 0 := by
  unfold mirrorPodAt
  dsimp only
  rw [hcoming]
  exact (if_neg (Nat.not_le.mpr hindex)).trans (if_pos hmore)

end

theorem toNat_ne_zero {n : Nat} {v : BitVec n} (h : v ≠ 0) : v.toNat ≠ 0 := fun e => h (BitVec.eq_of_toNat_eq e)

/-- Settles O31: each message of mirror traffic by the lemma of its case at the buddy. -/
theorem mirrorProtocol : Obligations.MirrorProtocol := by
  unfold Obligations.MirrorProtocol
  refine ⟨?_, ?_, ?_⟩
  · intro s h b hrun u o r hold hserves hseq hact
    refine ⟨fun hrep => ?_, fun hnew hahead => ⟨fun horigin => ?_, fun t horigin hroom => ?_⟩⟩
    · exact endsWork_mirror rfl rfl hrun hold hserves (mirrorWriteAt_repeat hseq hact hrep)
    · exact endsWork_mirror rfl rfl hrun hold hserves (mirrorWriteAt_new hseq hact hnew hahead horigin)
    · exact endsWork_mirror rfl rfl hrun hold hserves (mirrorWriteAt_origin hseq hact hnew hahead horigin hroom)
  · intro s h ext page hrun u o b hold hserves
    refine ⟨?_, fun len hlen hnew => ⟨fun hroom => ?_, fun hroom => ?_⟩, fun len hlen hheld => ?_, fun len => ?_, ?_, ?_, ?_, ?_⟩
    · exact endsWork_mirror rfl rfl hrun hold hserves mirrorReserve_zero
    · exact endsWork_mirror rfl rfl hrun hold hserves ((mirrorReserve_new (toNat_ne_zero hlen) hnew).trans (if_pos hroom))
    · exact endsWork_mirror rfl rfl hrun hold hserves
        ((mirrorReserve_new (toNat_ne_zero hlen) hnew).trans (if_neg (Bool.eq_false_iff.mp hroom)))
    · exact endsWork_mirror rfl rfl hrun hold hserves (mirrorReserve_held (toNat_ne_zero hlen) hheld)
    · exact endsWork_mirror rfl rfl hrun hold hserves rfl
    · exact endsWork_mirror rfl rfl hrun hold hserves mirrorFreeAt_zero
    · intro cnt hcnt past first
      exact ⟨fun h => endsWork_mirror rfl rfl hrun hold hserves (mirrorFreeAt_past (toNat_ne_zero hcnt) h),
        fun h => endsWork_mirror rfl rfl hrun hold hserves (mirrorFreeAt_frees (toNat_ne_zero hcnt) h)⟩
    · intro line v
      refine ⟨fun h => ?_, fun h => ?_, ?_⟩
      · exact endsWork_mirror rfl rfl hrun hold hserves ((mirrorReadAt_one line).trans (if_neg (Bool.eq_false_iff.mp h)))
      · exact endsWork_mirror rfl rfl hrun hold hserves ((mirrorReadAt_one line).trans (if_pos h))
      · exact endsWork_mirror rfl rfl hrun hold hserves (mirrorReadAt_zero line.toNat)
    · intro blen kgen integ f k w x
      refine ⟨fun h => ?_, fun h => ?_⟩
      · exact endsWork_mirror rfl rfl hrun hold hserves ((mirrorPageAt_raw blen.toNat kgen integ f).trans (if_pos h))
      · exact endsWork_mirror rfl rfl hrun hold hserves
          ((mirrorPageAt_raw blen.toNat kgen integ f).trans (if_neg (Bool.eq_false_iff.mp h)))
  · intro s h ext page index raw value hrun u k hold hserves
    refine ⟨fun hnone => endsWork_mirror rfl rfl hrun hold hserves (mirrorPodAt_unannounced hnone index.toNat value), ?_⟩
    intro x hcoming pods
    refine ⟨fun hpast => ?_, fun hindex hmore => ?_⟩
    · exact endsWork_mirror rfl rfl hrun hold hserves (mirrorPodAt_past hcoming hpast value)
    · exact endsWork_mirror rfl rfl hrun hold hserves (mirrorPodAt_gathers hcoming hindex hmore)

/-! ### Checkpoints and spill copies (R163, R166) -/

theorem ring_setRing_other (s : State) (g : Ring) {r k : Nat} (h : k = 0 ↔ r ≠ 0) : ring (setRing s r g) k = ring s k := by
  unfold ring setRing
  by_cases hr : r = 0 <;> simp [h, hr]

theorem setRing_coh (s : State) (r : Nat) (g : Ring) : (setRing s r g).coh = s.coh := by
  unfold setRing
  split <;> rfl

/-- A ring that holds its own new CHECKPOINT as the oldest record still needed. -/
def ringRestarted (s : State) (r : Nat) : State :=
  let g := ring s r
  let u := jwrite s r { plainRec recCheckpoint 0 0 with ref := g.nextSeq }
  setRing u r { ring u r with
    recs := (ring u r).recs.filter (fun x => decide (g.nextSeq ≤ x.seq))
    tail := g.nextSeq
    lastCheckpoint := g.nextSeq
    firstAfterNs := none }

/-- The CHECKPOINT of a ring that needs no record names itself. -/
theorem checkpointRing_nothing_needed {s : State} {r t : Nat} (hfirst : (ring s r).firstAfterNs = some t)
    (hneeded : (ring s r).recs.filter (recNeeded s r) = [])
    (hkept : (ring s r).recs.filter (fun x => latestKept s (ring s r) x && !recNeeded s r x) = []) :
    checkpointRing s r = if r = 0 then writeExtents (ringRestarted s r) else ringRestarted s r := by
  unfold checkpointRing
  simp only [hfirst, hneeded, hkept]
  rfl

theorem checkpointRing_no_record {s : State} {r : Nat} (h : (ring s r).firstAfterNs = none) : checkpointRing s r = s := by
  unfold checkpointRing
  simp only [h]

/-- The spill copy of a ring is built. -/
def spillStands (s : State) (r : Nat) : State := setRing s r { ring s r with spillBuilding := false, spill := true }

/-- With the spill copy that is built last, a directory with no slice unknown means that the stack is protected again. -/
theorem spillCopyBuilt_building {s : State} {r : Nat} (hr : r < 2) (h : (ring s r).spillBuilding = true) : spillCopyBuilt s r =
    if (s.coh.sliceUnknown == 0 && !(ring s (1 - r)).spillBuilding) = true then raiseP (spillStands s r) 0x1F4 0 .none 3
    else spillStands s r := by
  have hbuilt : spillBuilt s r = spillStands s r := if_pos h
  have hother : ring (spillStands s r) (1 - r) = ring s (1 - r) := ring_setRing_other s _ (by omega)
  have hcoh : (spillStands s r).coh = s.coh := setRing_coh s r _
  unfold spillCopyBuilt
  simp only [h, hbuilt, hother, hcoh, Bool.true_and]

/-! ### The cleaner of the translation cache (R92) -/

/-- A line that is due is dirty. -/
theorem cleanerDue_dirty {s : State} {l : TcLine} (h : cleanerDue s l = true) : l.dirtyNs.isNone = false := by
  unfold cleanerDue at h
  cases hd : l.dirtyNs with
  | none => simp [hd] at h
  | some t => rfl

/-- The write-back of a line of the descriptor table. -/
def lineWritten (s : State) (q : Nat) : State := metaPort s true (tableAddr s q) (some (descLine (tcDescs s q)))

theorem translationWriteback_due {s : State} {q : Nat} {l : TcLine} (hline : mget s.chd.tc q = some l) (hdue : cleanerDue s l = true) :
    translationWriteback s q = { lineWritten s q with chd := { (lineWritten s q).chd with
      tc := mset (lineWritten s q).chd.tc q TcLine.clean } } := by
  unfold translationWriteback tcClean
  simp only [hline, hdue, cleanerDue_dirty hdue, Bool.false_eq_true, if_false, if_true]
  rfl

theorem translationWriteback_early {s : State} {q : Nat} {l : TcLine} (hline : mget s.chd.tc q = some l)
    (hdue : cleanerDue s l = false) : translationWriteback s q = s := by
  unfold translationWriteback
  simp only [hline, hdue, Bool.false_eq_true, if_false]

/-! ### Evictions from the near cache (R253, R663) -/

section
variable {s : State} {block : Nat} {b : NcBlock} (hblock : mget s.coh.near (blockKey (myNode s) block) = some b)
include hblock

theorem evictOwn_clean (hclean : (b.lines.any (fun l => l.2.dirty)) = false) :
    evictOwn s block = { s with coh := { s.coh with near := mdel s.coh.near (blockKey (myNode s) block) } } := by
  unfold evictOwn
  dsimp only
  rw [hblock]
  exact if_pos (by rw [hclean]; rfl)

/-- A dirty block that nothing holds back, and whose page is not to be thawed, is stored as ZERO or goes to a compressor. -/
theorem evictOwn_dirty {job : Job}
    (hjob : job = jobOf (.evict (blockKey (myNode s) block)) [evictSlot s (block / 4)] b.label (nearBytes b))
    (hdirty : (b.lines.any (fun l => l.2.dirty)) = true) (hevicting : b.evicting = false) (hfrozen : pageFrozen s (block / 4) = false)
    (hrewrite : mhas s.chd.evicts (block / 4) = false) (hfenced : (page s (block / 4)).fenced = false)
    (hthaw : thawDue s (block / 4) b.label = false) : evictOwn s block =
      if job.data.all (· == 0) then
        evictDone (countL (setEvicting s (blockKey (myNode s) block) true) 0x022 b.label) (blockKey (myNode s) block) job 0
      else pushJob (setEvicting s (blockKey (myNode s) block) true) job := by
  subst hjob
  unfold evictOwn
  dsimp only
  rw [hblock]
  dsimp only
  rw [if_neg (by simp [hdirty]), if_neg (by simp [hevicting, hfrozen, hrewrite, hfenced]), if_neg (by simp [hthaw])]

end

/-- The one line of another owner's block, with nothing outstanding, is given up. -/
theorem evictOther_line {s : State} {owner block i : Nat} {b : NcBlock} {l : NcLine}
    (hblock : mget s.coh.near (blockKey owner block) = some b) (hlines : b.lines = [(i, l)])
    (hreq : mhas s.coh.reqs (lineKey owner (16 * block + i)) = false)
    (hsnoop : mhas s.coh.hostSnoops (lineKey owner (16 * block + i)) = false) :
    evictOther s owner block = evictFirst s (lineKey owner (16 * block + i)) [] := by
  simp [evictOther, hblock, hlines, mkeys, hreq, hsnoop]

/-! ### Waits for space (R127, R132) -/

theorem reserveWaitTimeout_waits {s : State} {t : Nat} (hwait : s.chd.reserveWaitNs = some t) (hst : s.chd.reserveState ≠ 3) :
    reserveWaitTimeout s = raise { s with chd := { s.chd with reserveState := 3 } } 0x1E6 0 :=
  if_pos (by simpa [hwait] using hst)

theorem leaseWaitTimeout_wanted {s : State} {t : Nat} (h : s.chd.leaseWantedNs = some t) :
    leaseWaitTimeout s = raise { s with chd := { s.chd with leaseWantedNs := none } } 0x1E8 0 :=
  if_pos (by simp [h])

/-- Settles O6: the journal, the cleaner, the near cache and the waits, each by the lemma of its case. -/
theorem journalNearCacheAndWaits : Obligations.JournalNearCacheAndWaits := by
  unfold Obligations.JournalNearCacheAndWaits
  refine ⟨⟨?_, ?_, ?_, ?_, ?_, ?_⟩, ?_, ?_, ?_⟩
  · intro s r t g u hfirst hneeded hkept
    exact ends_of_eq rfl (checkpointRing_nothing_needed hfirst hneeded hkept)
  · exact fun s r h => ends_of_eq rfl (checkpointRing_no_record h)
  · intro s quad l hline u
    exact ⟨fun hdue => ends_of_eq rfl (translationWriteback_due hline hdue),
      fun hdue => ends_of_eq rfl (translationWriteback_early hline hdue)⟩
  · intro s r hbuilding t
    have hbody := spillCopyBuilt_building r.isLt hbuilding
    refine ⟨fun hunknown => ?_, fun hknown hother => ?_⟩
    · have hslice : (s.coh.sliceUnknown == 0) = false := beq_eq_false_iff_ne.mpr hunknown
      exact endsWork_of_eq rfl (hbody.trans (if_neg (by rw [hslice, Bool.false_and]; exact Bool.false_ne_true)))
    · exact endsWork_of_eq rfl (hbody.trans (if_pos (by simp [hknown, hother])))
  · intro s o block b howner k hblock
    have hnode : blockKey (myNode s) block.toNat = k := congrArg (blockKey · block.toNat) howner.symm
    have hbody : nearEviction s o.toNat block.toNat = evictOwn s block.toNat := if_pos howner
    have hline : mget s.coh.near (blockKey (myNode s) block.toNat) = some b := hnode ▸ hblock
    refine ⟨fun hclean => endsWork_of_eq rfl (hbody.trans (hnode ▸ evictOwn_clean hline hclean)), ?_⟩
    intro hdirty hevicting hfrozen hrewrite hfenced hthaw job
    have hdone := evictOwn_dirty hline rfl hdirty hevicting hfrozen hrewrite hfenced hthaw
    rw [hnode] at hdone
    exact endsWork_of_eq rfl (hbody.trans hdone)
  · intro s o block b i l hother key hblock hlines hreq hsnoop
    have hbody : nearEviction s o.toNat block.toNat = evictOther s o.toNat block.toNat := if_neg hother
    exact endsWork_of_eq rfl (hbody.trans (evictOther_line hblock hlines hreq hsnoop))
  · exact fun s t hwait hst => ends_of_eq rfl (reserveWaitTimeout_waits hwait hst)
  · exact fun s t h => ends_of_eq rfl (leaseWaitTimeout_wanted h)
  · exact fun s => endsWork_of rfl

end Sys2Proof.Proofs.Window
end

section
/-! SUPPORT. Placement (04): heat epochs and token buckets (R109, R136), migrations (R152 to R154, R179), placement hints (R142 to
R144), and the commands answered beside them: atomics (R495), key rotation (R236, R237) and primer evaluation (R218). Each part states
what the operation of its unit does in each case, and ends with the obligation that puts the cases together. -/

namespace Sys2Proof.Proofs.Placement

open Sys2Proof Sys2Proof.Machine Sys2Proof.Safety Sys2Proof.Proofs.OnePass Sys2Proof.Proofs.Window

/-- In Run an engine works at once (R33). -/
theorem engineWork_run {s : State} (h : s.aon.st = .run) (run : State → State) : engineWork s run = run s := by
  simp only [engineWork, h]

/-! ### The tables of a page -/

theorem ne_zero_of_populated {x : Page} (h : dTier x.desc ≠ tierNone) : x ≠ Page.zero := by
  rintro rfl
  exact h (by decide)

theorem page_of_pages {s t : State} (h : t.chd.pages = s.chd.pages) (p : Nat) : page t p = page s p := by
  rw [page, page, h]

theorem page_setPage_self {x : Page} (h : x ≠ Page.zero) (s : State) (p : Nat) : page (setPage s p x) p = x := by
  simp [page, setPage, h]

/-- A change that leaves a populated page populated is what its tables then hold. -/
theorem page_modPage_self {s : State} {p : Nat} {f : Page → Page} (h : dTier (f (page s p)).desc ≠ tierNone) :
    page (modPage s p f) p = f (page s p) :=
  page_setPage_self (ne_zero_of_populated h) s p

/-- A step that may be taken leaves the pages' tables if it leaves them when taken. -/
theorem pages_ite {c : Prop} [Decidable c] {s t : State} (h : t.chd.pages = s.chd.pages) :
    (if c then t else s).chd.pages = s.chd.pages := by
  split
  · exact h
  · rfl

theorem postCand_pages (s : State) (k : CandKind) (p : Nat) : (postCand s k p).chd.pages = s.chd.pages := by
  unfold postCand
  dsimp only
  split <;> rfl

theorem ledgerPut_pages (s : State) (p : Nat) (st : BitVec 16) : (ledgerPut s p st).chd.pages = s.chd.pages := by
  unfold ledgerPut
  split
  · rfl
  · split
    · rfl
    · rw [raise_chd]

theorem heatReached_pages (s : State) (p : Nat) : (heatReached s p).chd.pages = s.chd.pages := by
  unfold heatReached
  dsimp only
  split
  · exact postCand_pages s _ p
  · exact pages_ite (postCand_pages s _ p)

/-! ### Heat epochs (R109) -/

/-- An epoch that has started: its record is written, and its pass runs from the first page. -/
def epochOpened (s : State) : State :=
  let u := jwrite s 0 (plainRec recEpoch ((s.chd.epoch + 1).setWidth 128) 0)
  { u with chd := { u.chd with
      epoch := s.chd.epoch + 1
      epochStartNs := u.clockNs
      passInsertFailed := false
      walkDone := none
      passRunning := true } }

/-- A pass goes on while there is a next page, and else ends. -/
def passContinued (t : State) : State := if (walkNext t).isNone then passEnd t else t

theorem passContinued_next {t : State} (h : (walkNext t).isSome = true) : passContinued t = t :=
  if_neg (by simpa [Option.ne_none_iff_isSome] using h)

theorem passContinued_last {t : State} (h : (walkNext t).isSome = false) : passContinued t = passEnd t :=
  if_pos (by simpa using h)

/-- An epoch whose number is not a multiple of 64 starts without a scan of the ledger. -/
theorem epochStart_due {s : State} (hpass : s.chd.passRunning = false) (hact : s.host.memActive = true)
    (hdue : s.chd.epochStartNs + globalPolicy s 9 * 1000000 ≤ s.clockNs ∨ s.chd.epochStartNs = 0)
    (hscan : (s.chd.epoch + 1).toNat % 64 ≠ 0) : epochStart s = passContinued (epochOpened s) := by
  have hearly : ¬ (s.clockNs < s.chd.epochStartNs + globalPolicy s 9 * 1000000 ∧ s.chd.epochStartNs ≠ 0) := by omega
  unfold epochStart
  simp only [hpass, Bool.false_and, Bool.false_eq_true, if_false]
  rw [if_neg (by simp only [hact, hearly]; decide), if_neg hscan]
  rfl

/-- The walker's next page is passed, and the pass goes on or ends behind it. -/
theorem walkerPage_next {s : State} {p : Nat} {x : Nat × Nat} (hpass : s.chd.passRunning = true) (hnext : walkNext s = some x)
    (hp : x.2 = p) : walkerPage s p = passContinued (walkPage { s with chd := { s.chd with walkDone := some x } } p) := by
  unfold walkerPage
  rw [hnext]
  exact if_neg (by simp [hpass, hp])

/-- The tables of a page with its heat halved. -/
def heatHalved (x : Page) : Page := { x with heat := BitVec.ofNat 8 (x.heat.toNat / 2) }

/-- Of the pages' tables, the walker changes only the heat of the page it passes. -/
theorem walkPage_pages {s : State} {p : Nat} (h : dTier (page s p).desc ≠ tierNone) :
    (walkPage s p).chd.pages = (modPage s p heatHalved).chd.pages := by
  unfold walkPage
  dsimp only
  rw [if_neg h]
  refine (pages_ite (postCand_pages _ _ p)).trans ((pages_ite (postCand_pages _ _ p)).trans ((heatReached_pages _ p).trans ?_))
  split
  · exact ledgerPut_pages _ p _
  · exact pages_ite (ledgerPut_pages _ p _)

theorem page_walkPage {s : State} {p : Nat} (h : dTier (page s p).desc ≠ tierNone) :
    page (walkPage s p) p = heatHalved (page s p) :=
  (page_of_pages (walkPage_pages h) p).trans (page_modPage_self h)

theorem heatHalved_heat (x : Page) : (heatHalved x).heat.toNat = x.heat.toNat / 2 := by
  have hlt := x.heat.isLt
  simp only [heatHalved, BitVec.toNat_ofNat]
  omega

/-- A bucket holds 1 ms of its rate, and four times that in band 2 (R127, R136). -/
theorem bucketRefill_eq (s : State) : bucketRefill s = { s with chd := { s.chd with
    localTokens := globalPolicy s 16 * (if framesF s < reserveLow s then 4000 else 1000)
    fabricTokens := globalPolicy s 17 * (if framesF s < reserveLow s then 4000 else 1000) } } := by
  simp [bucketRefill, bucketMax]

/-- Settles O4: a due epoch, the walker's next page, the heat of the page it passes, and the buckets at their refill. -/
theorem heatEpochAndBudgets : Obligations.HeatEpochAndBudgets := by
  unfold Obligations.HeatEpochAndBudgets
  refine ⟨?_, ?_, ?_, ?_⟩
  · intro s e u t hrun hpass hact hdue hscan
    have hbody := (engineWork_run hrun epochStart).trans (epochStart_due hpass hact hdue hscan)
    exact ⟨fun h => endsWork_of_eq rfl (hbody.trans (passContinued_next h)),
      fun h => endsWork_of_eq rfl (hbody.trans (passContinued_last h))⟩
  · intro s p x t hrun hpass hnext hp
    have hbody := (engineWork_run hrun (walkerPage · p.toNat)).trans (walkerPage_next hpass hnext hp)
    exact ⟨fun h => endsWork_of_eq rfl (hbody.trans (passContinued_next h)),
      fun h => endsWork_of_eq rfl (hbody.trans (passContinued_last h))⟩
  · intro s p h
    rw [page_walkPage h]
    exact ⟨heatHalved_heat _, rfl⟩
  · intro s k hst
    have hrest : s.aon.st ≠ .rest := by rcases hst with h | h <;> simp [h]
    have hdeep : s.aon.st ≠ .deep := by rcases hst with h | h <;> simp [h]
    exact ends_of_eq rfl ((clocked_awake hrest hdeep bucketRefill).trans (bucketRefill_eq s))

/-! ### The start of a migration (R136, R152) -/

/-- The bytes that a migration counts against a bucket, if its kind draws on one. -/
def drawnBytes (s : State) (k : MigKind) (p : Nat) : Nat := if drawsLocal k || drawsFabric k then migBytes (page s p).desc else 0

/-- Work that may start draws its tokens and opens at the destination that has been reserved. -/
theorem migrationStart_opens {s u : State} {k : MigKind} {p r tier loc node pods : Nat} (hrank : workRank s k p = some r)
    (hstart : mayStart s k r = true) (hbudget : budgetOk s k (page s p).desc r = true) (hfirst : outranked s r = false)
    (hrow : sleepingRow s k p = none) (hdst : reserveDst s p k = some (tier, loc, node, pods, u)) :
    migrationStart s k p =
      leaseHeadroom (openMig (drawBudget u k (drawnBytes s k p)) k p (tier, loc, node, pods) (drawnBytes s k p)) := by
  unfold migrationStart
  rw [hrank]
  dsimp only
  rw [if_neg (by simp [hstart, hbudget, hfirst]), hrow, hdst]
  rfl

/-! ### The end of a copy pass (R136, R152, R157, R179) -/

theorem foldl_clearMedia (pas : List Nat) (s : State) :
    ∃ x, pas.foldl (fun s pa => clearMedia s (paChannel s pa) (paChannelAddr s pa)) s = { s with ecc := x } := by
  induction pas generalizing s with
  | nil => exact ⟨s.ecc, rfl⟩
  | cons pa pas ih => exact ih (clearMedia s (paChannel s pa) (paChannelAddr s pa))

/-- Reading MEDIA markers changes the record of markers alone. -/
theorem clearPageMedia_eq (s : State) (p : Nat) : ∃ x, clearPageMedia s p = { s with ecc := x } := foldl_clearMedia _ s

theorem clearPageMedia_chd (s : State) (p : Nat) : (clearPageMedia s p).chd = s.chd := by
  obtain ⟨x, hx⟩ := clearPageMedia_eq s p
  rw [hx]

theorem clearPageMedia_e2e (s : State) (p : Nat) : (clearPageMedia s p).e2e = s.e2e := by
  obtain ⟨x, hx⟩ := clearPageMedia_eq s p
  rw [hx]

theorem passReady_of_e2e {s t : State} (h : t.e2e = s.e2e) (p : Nat) (m : Mig) : passReady t p m = passReady s p m := by
  simp only [passReady, pageFetching, h]

theorem pageFetching_of_passReady {s : State} {p : Nat} {m : Mig} (h : passReady s p m = true) : pageFetching s p = false := by
  simp only [passReady, Bool.and_eq_true, Bool.not_eq_true'] at h
  exact h.2

/-- Does the end of a pass begin the freeze: at most one dirty block, pass 8, or a journal that runs short (R152, R164)? -/
def freezeDue (u : State) (m : Mig) : Bool := decide (dirtyCount m.dirty ≤ 1) || decide (8 ≤ m.pass) || spaceState u == 2

theorem freezeDue_iff {u : State} {m : Mig} :
    freezeDue u m = true ↔ dirtyCount m.dirty ≤ 1 ∨ 8 ≤ m.pass ∨ spaceState u = 2 := by
  simp [freezeDue, or_assoc]

/-- The dirty mask of a migration has been read, and its freeze or its next pass begins. -/
def passedMig (freeze : Bool) (m : Mig) : Mig :=
  { m with
    dirty := 0
    pass := if freeze then m.pass else m.pass + 1
    phase := if freeze then .frozen else .passing }

/-- A pass has ended, and the blocks that were dirty are copied again. -/
def passEnded (u : State) (p : Nat) (m : Mig) (freeze : Bool) : State :=
  let v := modMig u p (passedMig freeze)
  if m.dirty = 0 then v else copyBlocks v p (dirtyBlocks m.dirty)

section
variable {s : State} {p : Nat} {m : Mig} (hmig : mget s.chd.migs p = some m) (hready : passReady s p m = true)
include hmig hready

/-- A pass that met no error ends with the return of the budget it did not use. -/
theorem passEndMig_clean : passEndMig s p 0 [] = passEnded (returnBudget s p m) p m (freezeDue (returnBudget s p m) m) := by
  have hfetch := pageFetching_of_passReady hready
  unfold passEndMig
  rw [hmig]
  dsimp only
  rw [if_neg (by simp [hready]), List.foldl_nil, show migBad s p 0 = s from if_pos rfl, if_neg (by simp [hfetch])]
  rfl

/-- With no unreadable line and no marker in the page's storage, only the pass itself ends. -/
theorem passEndBody_clean (hmedia : pageMedia s p = 0) : passEndBody s p 0 [] = passEndMig (clearPageMedia s p) p 0 [] := by
  unfold passEndBody
  rw [hmig]
  dsimp only
  rw [if_neg (by simp [hready]), hmedia]
  simp

theorem passEndBody_eq (hmedia : pageMedia s p = 0) : passEndBody s p 0 [] =
    passEnded (returnBudget (clearPageMedia s p) p m) p m (freezeDue (returnBudget (clearPageMedia s p) p m) m) :=
  (passEndBody_clean hmig hready hmedia).trans (passEndMig_clean ((clearPageMedia_chd s p).symm ▸ hmig)
    ((passReady_of_e2e (clearPageMedia_e2e s p) p m).trans hready))

end

/-! ### The freeze and the commit (R152, R154) -/

theorem mhas_modMig {s : State} {p : Nat} {m : Mig} (h : mget s.chd.migs p = some m) (f : Mig → Mig) :
    mhas (modMig s p f).chd.migs p = true := by
  simp [modMig, mmod, mhas, h]

/-- A page that still migrates owes nothing to the failure of its holder. -/
theorem afterFreeze_open {t : State} {p : Nat} (h : mhas t.chd.migs p = true) (s : State) : afterFreeze s t p = t :=
  if_neg (by simp [h])

section
variable {s : State} {p : PageNo} {m : Mig} (hmig : mget s.chd.migs p.toNat = some m) (hphase : m.phase = .frozen)
include hmig hphase

theorem freezeTimeout_resumes (hpending : m.abortPending = false) (hfew : m.failedFreezes < 3) : freezeTimeout s p.toNat =
    modMig s p.toNat (fun m => { m with phase := .passing, failedFreezes := m.failedFreezes + 1 }) := by
  unfold freezeTimeout
  rw [hmig]
  dsimp only
  rw [if_neg (by simp [hphase]), if_neg (by simp [hpending]), if_neg (Nat.not_le.mpr hfew)]

theorem freezeTimeout_aborts (hpending : m.abortPending = false) (hmany : 3 ≤ m.failedFreezes) : freezeTimeout s p.toNat =
    raiseP (abortMig s p.toNat) 0x1F1 0 (.page p) 0 := by
  unfold freezeTimeout
  rw [hmig]
  dsimp only
  rw [if_neg (by simp [hphase]), if_neg (by simp [hpending]), if_pos hmany, BitVec.ofNat_toNat, BitVec.setWidth_eq]

theorem migrationCommit_commits (hwrites : writesUnderWay s p.toNat = false) (hevicts : mhas s.chd.evicts p.toNat = false)
    (hfetch : pageFetching s p.toNat = false) (hwaiting : m.waiting = 0) (hblens : (migBlens m).isSome = true) (hdirty : m.dirty = 0) :
    migrationCommit s p.toNat = commitMig s p.toNat := by
  have hsome : (migBlens m).isNone = false := by simpa [Option.ne_none_iff_isSome] using hblens
  unfold migrationCommit
  rw [hmig]
  dsimp only
  rw [if_neg (by simp [hphase, hwrites, hevicts, hfetch]), if_neg (not_not.mpr hdirty), if_neg (by simp [hwaiting, hsome])]

end

/-- Settles O5: a migration's start, the end of a pass by whether the freeze begins, the freeze's timeout by its number, and the
commit. -/
theorem migrationSequence : Obligations.MigrationSequence := by
  unfold Obligations.MigrationSequence
  refine ⟨?_, ?_, ?_, ?_⟩
  · intro s u k p r tier loc node pods n hrun hrank hstart hbudget hfirst hrow hdst
    exact endsWork_of_eq rfl ((engineWork_run hrun (migrationStart · k p.toNat)).trans
      (migrationStart_opens hrank hstart hbudget hfirst hrow hdst))
  · intro s p m hrun hmig hready hmedia u
    have hbody := (engineWork_run hrun (passEndBody · p.toNat 0 [])).trans (passEndBody_eq hmig hready hmedia)
    refine ⟨fun h => ?_, fun hdirty hpass hspace hsome => ?_⟩
    · have hfreeze : freezeDue u m = true := freezeDue_iff.mpr h
      exact endsWork_of_eq rfl (hbody.trans (congrArg (passEnded u p.toNat m) hfreeze))
    · have hfreeze : freezeDue u m = false := Bool.eq_false_iff.mpr (freezeDue_iff.not.mpr (by omega))
      exact endsWork_of_eq rfl (hbody.trans ((congrArg (passEnded u p.toNat m) hfreeze).trans (if_neg hsome)))
  · intro s p m hrun hmig hphase hpending
    have hbody := engineWork_run hrun (fun s => afterFreeze s (freezeTimeout s p.toNat) p.toNat)
    refine ⟨fun hfew => ?_, fun hmany => ?_⟩
    · rw [freezeTimeout_resumes hmig hphase hpending hfew] at hbody
      exact endsWork_of_eq rfl (hbody.trans (afterFreeze_open (mhas_modMig hmig _) s))
    · rw [freezeTimeout_aborts hmig hphase hpending hmany] at hbody
      exact endsWork_of_eq rfl hbody
  · intro s p m hrun hmig hphase hwrites hevicts hfetch hwaiting hblens hdirty
    have hbody := engineWork_run hrun (fun s => afterFreeze s (migrationCommit s p.toNat) p.toNat)
    rw [migrationCommit_commits hmig hphase hwrites hevicts hfetch hwaiting hblens hdirty] at hbody
    exact endsWork_of_eq rfl hbody

/-! ### Placement hints (R142 to R144) -/

/-- What a hint other than PIN asks of an entry that names one page of an extent `x`: an aligned page inside an own extent that is not
fenced. -/
structure HintAllowed (u : State) (e : Line) (x : Extent) : Prop where
  aligned : entryNat e 8 8 % 4096 = 0
  low : 1 ≤ entryNat e 0x14 1
  high : entryNat e 0x14 1 ≤ 4
  notPin : entryNat e 0x14 1 ≠ 3
  one : entryNat e 0x10 4 = 1
  inside : entryNat e 8 8 / 4096 + 1 ≤ (x.dpa2m + x.len2m) * 512
  own : x.shared = none
  unfenced : u.chd.pages.any (fun y => y.2.fenced && decide (entryNat e 8 8 / 4096 ≤ y.1) &&
    decide (y.1 < entryNat e 8 8 / 4096 + 1)) = false

theorem placeHintBody_one {s : State} {src : CmdSrc} {e : Line} {i : Nat} {x : Extent} (hruns : Runs s src e)
    (hext : extentOf (active s) (entryNat e 8 8) = some (i, x)) (h : HintAllowed (active s) e x) :
    placeHintBody s src e = completeCmd (hintPage (active s) (entryNat e 0x14 1) (entryNat e 8 8 / 4096)) src stOk 0 := by
  obtain ⟨haligned, hlow, hhigh, hpin, hone, hinside, hown, hunfenced⟩ := h
  have hform : ¬ (entryNat e 8 8 % 4096 ≠ 0 ∨ entryNat e 0x14 1 = 0 ∨ 4 < entryNat e 0x14 1 ∨ 1 = 0) := by omega
  unfold placeHintBody
  rw [gated_runs hruns]
  dsimp only
  rw [hext, hone]
  dsimp only
  rw [if_neg hform, if_neg (Nat.not_lt.mpr hinside), if_neg (by simp only [hown, hunfenced]; decide), if_neg (fun h => hpin h.1),
    List.range_one, List.foldl_cons, List.foldl_nil, Nat.add_zero]

/-- COLD, on a populated page, changes its tables only by setting its heat to 0. -/
theorem page_hintPage_cold {s : State} {p : Nat} (h : dTier (page s p).desc ≠ tierNone) :
    page (hintPage s 2 p) p = { page s p with heat := 0 } := by
  have hmoving : page (hintMoving s 2 p) p = page s p := rfl
  have hcold : page (modPage (hintMoving s 2 p) p (fun x => { x with heat := 0 })) p = { page s p with heat := 0 } :=
    page_modPage_self h
  refine (page_of_pages ?_ p).trans hcold
  simp only [hintPage, ne_eq, h, not_false_eq_true, decide_true, Bool.true_or, if_true]
  exact (pages_ite (postCand_pages _ _ p)).trans (ledgerPut_pages _ p _)

/-! ### Atomics (R495) -/

/-- A well-formed atomic waits at its line. -/
theorem atomicBody_waits {s : State} {src : CmdSrc} {e : Line} {i : Nat} {x : Extent} (hruns : Runs s src e)
    (hext : extentOf (active s) (entryNat e 8 8) = some (i, x))
    (hvalid : atomicValid (entryNat e 0x10 1) (entryNat e 0x11 1) = true) (haligned : entryNat e 8 8 % 2 ^ entryNat e 0x11 1 = 0)
    (hresult : entryNat e 0x11 1 = 4 → entryNat e 0x18 8 ≠ 0 ∧ entryNat e 0x18 8 % 16 = 0) :
    atomicBody s src e = pump { active s with coh := { (active s).coh with waitHost := (active s).coh.waitHost ++
      [(BitVec.ofNat 64 (entryNat e 8 8 / 64 * 64), .atomic src x.attrs.label (BitVec.ofNat 8 (entryNat e 0x10 1))
        (BitVec.ofNat 3 (entryNat e 0x11 1)) (BitVec.ofNat 6 (entryNat e 8 8 % 64)) (BitVec.ofNat 256 (entryNat e 0x20 32))
        (BitVec.ofNat 64 (entryNat e 0x18 8)))] } } := by
  have hresult' : (entryNat e 0x11 1 == 4 && (entryNat e 0x18 8 == 0 || entryNat e 0x18 8 % 16 != 0)) = false := by
    by_cases hsize : entryNat e 0x11 1 = 4
    · simp [hresult hsize]
    · simp [hsize]
  unfold atomicBody
  rw [gated_runs hruns]
  dsimp only
  rw [hext]
  exact if_neg (by rw [hvalid, haligned, hresult']; decide)

/-! ### Key rotation (R236, R237) -/

/-- What KEY_ROTATE asks of a domain (R236): a record in the image, keys of the device's own, no rotation or refold that still runs,
and a buddy that is in step where the domain has a Mirrored extent. -/
structure RotationAllowed (u : State) (d : Nat) : Prop where
  last : d ≤ 4095
  record : (u.img.active.rcd secDomains d).isSome = true
  source : domainSource u d ≠ 2
  retired : (domKeys u d).old = none
  idle : (domKeys u d).rotating = none
  folded : domainRefolding u d = false
  mirror : domainMirrored u d = true → u.chd.mirror = .mirrored

/-- A rotation waits for the switch point of its domain. -/
def rotationPending (u : State) (d : Nat) (src : CmdSrc) : State := setDom u d { domKeys u d with rotating := some src }

/-- An accepted rotation waits for its switch point, and an envelope goes to the buddy where the domain has a Mirrored extent. -/
theorem keyRotateBody_accepted {s : State} {src : CmdSrc} {e : Line} (hruns : Runs s src e)
    (h : RotationAllowed (active s) (entryNat e 8 2)) : keyRotateBody s src e =
      let v := rotationPending (active s) (entryNat e 8 2) src
      if domainMirrored v (entryNat e 8 2) then sendEnvelope v else v := by
  obtain ⟨hlast, hrecord, hsource, hretired, hidle, hfolded, hmirror⟩ := h
  have hnone : ¬ ((active s).img.active.rcd secDomains (entryNat e 8 2)).isNone = true := by
    rwa [Option.isNone_iff_eq_none, ← ne_eq, Option.ne_none_iff_isSome]
  have hstep : (domainMirrored (active s) (entryNat e 8 2) && (active s).chd.mirror != .mirrored) = false := by
    cases hm : domainMirrored (active s) (entryNat e 8 2) with
    | false => rfl
    | true => rw [hmirror hm]; rfl
  unfold keyRotateBody
  rw [gated_runs hruns]
  dsimp only
  rw [if_neg (not_or.mpr ⟨Nat.not_lt.mpr hlast, hnone⟩), if_neg (fun h => hsource h.1),
    if_neg (by rw [hretired, hidle, hfolded, hstep]; decide)]
  rfl

/-- The rotating domain has a new generation, whose keys are made at the switch point. -/
def rotated (s : State) (d : Nat) : State :=
  setDom { s with xts := { s.xts with nextKey := s.xts.nextKey + 1 } } d { domKeys s d with
    current := !(domKeys s d).current
    cur := some (Config.keyValues s.xts.nextKey)
    old := (domKeys s d).cur
    rotating := none
    supplied := none }

/-- The populated pages of a domain that name one of its generations, but for fenced ones. -/
def pagesOfKgen (s : State) (d : Nat) (kgen : Bool) : List Nat :=
  (s.chd.pages.filter (fun x => dTier x.2.desc != tierNone && !x.2.fenced && pageDomain s x.1 == d && dKgen x.2.desc == kgen)).map (·.1)

/-- The switch point of a domain without copies at the buddy and without supplied keys. -/
theorem keyRotateSwitchBody_switches {s : State} {d : Nat} {src : CmdSrc} (hrotating : (domKeys s d).rotating = some src)
    (hmirror : domainMirrored s d = false) (hsupplied : (domKeys s d).supplied = none) :
    keyRotateSwitchBody s d =
      let u := completeCmd (rotated s d) src stOk (b2n (!(domKeys s d).current))
      retireKey (postRefold u (pagesOfKgen u d (domKeys s d).current)) d := by
  unfold keyRotateSwitchBody
  simp only [hrotating, hmirror, hsupplied, Bool.false_and, Bool.false_eq_true, if_false, Option.isSome_none, Option.getD_none]
  rfl

/-! ### Primer evaluation (R218) -/

/-- An evaluation of one block under a slot: it has no result yet. -/
def evalOpened (u : State) (src : CmdSrc) (slot dst : Nat) : State :=
  { u with cmp := { u.cmp with evals := ⟨src, BitVec.ofNat 6 slot, 1, [], BitVec.ofNat 64 dst⟩ :: u.cmp.evals } }

/-- One block is a job for a lane, or has the result of a block of zeros at once. -/
theorem primerEvalBody_one {s : State} {src : CmdSrc} {e : Line} (hruns : Runs s src e) (haligned : entryNat e 8 8 % 64 = 0)
    (hdst : entryNat e 0x10 8 % 64 = 0) (hone : entryNat e 0x18 2 = 1) (hslot : slotInstalled (active s) (entryNat e 0x1A 1) = true)
    (block : List Byte) : primerEvalBody s src e [block] true =
      if (bytesAt block 0 1024).all (· == 0) then
        evalResult (countL (evalOpened (active s) src (entryNat e 0x1A 1) (entryNat e 0x10 8)) 0x022 14) src 0 0
      else pushJob (evalOpened (active s) src (entryNat e 0x1A 1) (entryNat e 0x10 8))
        (jobOf (.eval src 0) [entryNat e 0x1A 1] 14 (bytesAt block 0 1024)) := by
  unfold primerEvalBody
  rw [gated_runs hruns]
  dsimp only
  rw [hone, if_neg (by simp [haligned, hdst, hslot]), if_neg (by decide), if_neg (by decide), List.range_one, List.foldl_cons,
    List.foldl_nil]
  rfl

/-- Settles O15: each command by the lemma of its case. -/
theorem hintAtomicKeyPrimer : Obligations.HintAtomicKeyPrimer := by
  unfold Obligations.HintAtomicKeyPrimer
  refine ⟨?_, ?_, ?_, ?_, ?_, ?_⟩
  · intro s src e i x hruns u dpa kind p hext haligned hlow hhigh hpin hone hinside hown hopen
    exact endsWork_of_eq rfl (placeHintBody_one hruns hext ⟨haligned, hlow, hhigh, hpin, hone, hinside, hown, hopen⟩)
  · intro s p h
    rw [page_hintPage_cold h]
    exact ⟨rfl, rfl⟩
  · intro s src e i x hruns u dpa op size raddr hext hvalid haligned hresult
    exact endsWork_of_eq rfl (atomicBody_waits hruns hext hvalid haligned hresult)
  · intro s src e hruns u d hlast hrcd hsource hold hrotating hrefold v
    have hbody (h : domainMirrored u d = true → u.chd.mirror = .mirrored) :=
      keyRotateBody_accepted hruns ⟨hlast, hrcd, hsource, hold, hrotating, hrefold, h⟩
    refine ⟨fun hsingle => ?_, fun hmir hmirror hmir' => ?_⟩
    · have hsingle' : ¬ domainMirrored v d = true := Bool.eq_false_iff.mp hsingle
      exact endsWork_of_eq rfl ((hbody fun hm => absurd hm hsingle').trans (if_neg hsingle'))
    · exact endsWork_of_eq rfl ((hbody fun _ => hmirror).trans (if_pos hmir'))
  · intro s d src k hrotating hmirror hsupplied u ps
    exact endsWork_of_eq rfl (keyRotateSwitchBody_switches hrotating hmirror hsupplied)
  · intro s src e block hruns u a dst slot haligned hdst hone hslot v bytes
    exact endsWork_of_eq rfl (primerEvalBody_one hruns haligned hdst hone hslot block)

end Sys2Proof.Proofs.Placement
end

section
/-! SUPPORT. Migration and the guarantee (05), with the coherence it rests on (08): the timers of mirroring and of coherence. For each
timer, what its operation does in the case where the timer is due; then the obligation that puts them together. -/

namespace Sys2Proof.Proofs.Migration

open Sys2Proof Sys2Proof.Machine Sys2Proof.Safety Sys2Proof.Proofs.OnePass Sys2Proof.Proofs.Placement

/-! ### Resynchronisation (R172) -/

/-- The resynchronisation has `rest` left to send. -/
def resyncLeft (s : State) (rest : List PageNo) : State := { s with chd := { s.chd with resync := rest } }

/-- The next page is populated, not fenced and not being sent already: it is sent, raw where the near cache holds it dirty. -/
theorem resyncPage_sends {s : State} {p : PageNo} {rest : List PageNo} (hnext : s.chd.resync = p :: rest)
    (hresync : s.chd.mirror = .resync) (hpopulated : dTier (page s p.toNat).desc ≠ tierNone)
    (hunfenced : (page s p.toNat).fenced = false) (hidle : mhas s.chd.copyRuns p.toNat = false) :
    resyncPage s = mirrorPage (resyncLeft s rest) p.toNat (sendRaw (resyncLeft s rest) p.toNat) := by
  have hpage : page (resyncLeft s rest) p.toNat = page s p.toNat := page_of_pages rfl _
  have hcopies : ¬ (decide (dTier (page (resyncLeft s rest) p.toNat).desc = tierNone) ||
      (page (resyncLeft s rest) p.toNat).fenced) = true := by simp [hpage, hpopulated, hunfenced]
  unfold resyncPage
  rw [hnext]
  exact (if_pos (beq_iff_eq.mpr hresync)).trans ((if_neg hcopies).trans (if_neg (Bool.eq_false_iff.mp hidle)))

/-! ### Recovery of a grant (R264) -/

/-- The owner asks the requester of a grant that was not acknowledged, with the grant's tag. -/
theorem ackTimeout_recovers {s : State} {line key : Nat} {tx : OwnTx} {n : Node} {tag : Tag} {label queue : Nat} {w : Bool}
    (hgrant : s.coh.txs.find? (fun x => keyLine x.1 == line && x.2.stage == .acking && !x.2.recovering) = some (key, tx))
    (hpeer : tx.who = .peer n tag label queue w) :
    ackTimeout s line = sendSnoop (modTx s key (fun t => { t with recovering := true })) key n.toNat snpInvOp tag.toNat := by
  simp only [ackTimeout, hgrant, hpeer]

/-! ### Retries after NackRetry (R281) -/

/-- The request of a transaction as its retry carries it: marked reserved once four answers have said PENDING_FULL. -/
def retryMsg (tx : E2E) : Msg :=
  if 4 ≤ tx.nacks ∧ tx.msg.cls = 0 then { tx.msg with bodyHi := tx.msg.bodyHi ||| reservedFlag tx.msg.op.toNat } else tx.msg

/-- A transaction that waits after NackRetry sends its request again. -/
theorem nackExpiryBody_resends {s : State} {key : Nat} {tx : E2E} (hopen : mget s.e2e.txs key = some tx) (hwait : tx.retryWait = true) :
    nackExpiryBody s key =
      resend { s with e2e := { s.e2e with txs := mset s.e2e.txs key { tx with msg := retryMsg tx } } } key := by
  unfold nackExpiryBody
  rw [hopen]
  dsimp only
  rw [if_neg (by simp [hwait])]
  rfl

theorem retryMsg_few {tx : E2E} (h : tx.nacks < 4) : retryMsg tx = tx.msg := if_neg fun hmany => Nat.not_le.mpr h hmany.1

theorem retryMsg_reserved {tx : E2E} (hmany : 4 ≤ tx.nacks) (hrequest : tx.msg.cls = 0) :
    retryMsg tx = { tx.msg with bodyHi := tx.msg.bodyHi ||| reservedFlag tx.msg.op.toNat } := if_pos ⟨hmany, hrequest⟩

/-! ### Reserved entries (R282) -/

theorem nextStandby_empty {s : State} (h : s.coh.standby = []) : nextStandby s = none := by
  rw [nextStandby, h, bestOf]

theorem reservedFrees_empty {s : State} (h : s.coh.standby = []) : reservedFrees s = s := by
  rw [reservedFrees, nextStandby_empty h]

/-- The entry is held for the next node after the pointer, which leaves the standby set. -/
theorem reservedFrees_next {s : State} {m : Node} (h : nextStandby s = some m) :
    reservedFrees s = { s with coh := { s.coh with
      heldFor := s.coh.heldFor ++ [m]
      standby := s.coh.standby.filter (· != m)
      pointer := m } } := by
  rw [reservedFrees, h]

/-- An entry held for a node frees when the node does not come for it. -/
theorem reservedHoldTimeout_held {s : State} {n : Node} (h : s.coh.heldFor.contains n = true) :
    reservedHoldTimeout s n = reservedFrees { s with coh := { s.coh with heldFor := s.coh.heldFor.erase n } } := if_pos h

/-- Settles O32: each timer by the lemma of its case; a flushed host and a cleared predictor are their commands' own effects. -/
theorem coherenceTimers : Obligations.CoherenceTimers := by
  unfold Obligations.CoherenceTimers
  refine ⟨?_, ?_, ?_, ?_, fun s => endsWork_of rfl, fun s => ends_of rfl⟩
  · intro s p rest u hnext hresync hpopulated hunfenced hidle
    exact endsWork_of_eq rfl (resyncPage_sends hnext hresync hpopulated hunfenced hidle)
  · intro s line key tx n tag label queue w hgrant hpeer
    exact endsWork_of_eq rfl (ackTimeout_recovers hgrant hpeer)
  · intro s queue idx tx key hopen hwait
    have hbody := nackExpiryBody_resends hopen hwait
    refine ⟨fun hfew => ?_, fun hmany hrequest => ?_⟩
    · rw [retryMsg_few hfew] at hbody
      exact endsWork_of_eq rfl hbody
    · rw [retryMsg_reserved hmany hrequest] at hbody
      exact endsWork_of_eq rfl hbody
  · intro s n hheld u
    have hbody := reservedHoldTimeout_held hheld
    refine ⟨fun hstandby => ?_, fun m hnext => ?_⟩
    · have hempty : u.coh.standby = [] := hstandby
      exact endsWork_of_eq rfl (hbody.trans (reservedFrees_empty hempty))
    · exact endsWork_of_eq rfl (hbody.trans (reservedFrees_next hnext))

end Sys2Proof.Proofs.Migration
end

section
/-! SUPPORT. Compression (06): what the compressor makes of a block is what the decoder reads back (R188, R190 to R193, R199, R200),
and the operations of the lanes and of the primer slots (R188, R209, R215, R219, R658, R659). -/

namespace Sys2Proof.Proofs.Compression

open Sys2Proof Sys2Proof.Machine Sys2Proof.Safety Sys2Proof.Proofs.OnePass

/-! ### Byte strings and bit fields (R190) -/

theorem leNat_natLe (n : Nat) {v : Nat} (h : v < 256 ^ n) : leNat (natLe n v) = v := by
  induction n generalizing v with
  | zero => exact (Nat.lt_one_iff.mp h).symm
  | succ n ih =>
    rw [natLe, leNat, ih (Nat.div_lt_of_lt_mul (Nat.pow_succ' ▸ h)), BitVec.toNat_ofNat]
    exact Nat.mod_add_div v 256

theorem bytesAt_length (bs : List Byte) : bytesAt bs 0 bs.length = bs := by simp [bytesAt]

/-- A field put behind `p` bits ends the longer string of bits. -/
theorem put_lt {acc p c w : Nat} (hacc : acc < 2 ^ p) (hc : c < 2 ^ w) : acc + c * 2 ^ p < 2 ^ (p + w) := by
  calc acc + c * 2 ^ p < 2 ^ p + c * 2 ^ p := Nat.add_lt_add_right hacc _
    _ = (c + 1) * 2 ^ p := by ring
    _ ≤ 2 ^ w * 2 ^ p := Nat.mul_le_mul_right _ hc
    _ = 2 ^ (p + w) := by ring

/-- A stream that begins with `acc` and a field `c` behind it begins with `acc`. -/
theorem begins_of_put {v acc p c w : Nat} (hacc : acc < 2 ^ p) (h : v % 2 ^ (p + w) = acc + c * 2 ^ p) : v % 2 ^ p = acc := by
  rw [← Nat.mod_mod_of_dvd v (pow_dvd_pow 2 (Nat.le_add_right p w)), h, Nat.add_mul_mod_self_right, Nat.mod_eq_of_lt hacc]

/-- The field behind the first `p` bits reads as it was put there. -/
theorem read_of_put {v acc p c w : Nat} (hacc : acc < 2 ^ p) (h : v % 2 ^ (p + w) = acc + c * 2 ^ p) : (v >>> p) % 2 ^ w = c := by
  rw [Nat.shiftRight_eq_div_pow, ← Nat.mod_mul_right_div_self, ← pow_add, h, Nat.add_mul_div_right _ _ (Nat.two_pow_pos p),
    Nat.div_eq_of_lt hacc, Nat.zero_add]

/-! ### Codes and their widths (R191, R192) -/

/-- The next code to assign follows those of the phrases and of the entries, and the table holds at most the codes below 4,096. -/
def Numbered (ph entries : List (List Byte)) (n : Nat) : Prop := n = 258 + ph.length + entries.length ∧ n ≤ 4096

/-- Every width has room for the codes of 9 bits, END and ZRUN among them. -/
theorem nine_bits_le_two_pow_codeWidth (n : Nat) : 512 ≤ 2 ^ codeWidth n :=
  Nat.pow_le_pow_right (n := 2) (by decide) (Nat.le_max_left 9 _)

/-- Every code up to the next one fits the width, where the next one can be assigned (R192). -/
theorem lt_two_pow_codeWidth {n c : Nat} (hn : n ≤ 4096) (hc : c ≤ n) (hnext : c = n → n < 4096) : c < 2 ^ codeWidth n := by
  by_cases hfull : n = 4096
  · subst hfull
    have hwidth : codeWidth 4096 = 12 := by decide +kernel
    rw [hwidth]
    omega
  · have hlog : n.log2 + 1 ≤ codeWidth n := by
      have hsmall : n.log2 + 1 ≤ 12 := by
        rw [Nat.log2_eq_log_two]
        exact Nat.succ_le_succ ((Nat.log_mono_right (show n ≤ 4095 by omega)).trans (by decide +kernel))
      exact (Nat.le_min.mpr ⟨hsmall, le_rfl⟩).trans (Nat.le_max_right 9 _)
    exact lt_of_lt_of_le (lt_of_le_of_lt hc Nat.lt_log2_self) (Nat.pow_le_pow_right (by decide) hlog)


theorem addable_iff {prev : Option (List Byte)} {n : Nat} :
    addable prev n = true ↔ ∃ s, prev = some s ∧ n < 4096 ∧ s.length < 64 := by
  cases prev with
  | none => simp [addable]
  | some s => simp [addable]

/-- A phrase keeps the numbering, whether or not it adds an entry (R193). -/
theorem addEntry_numbered {ph entries : List (List Byte)} {n : Nat} (h : Numbered ph entries n) (prev : Option (List Byte))
    (s : List Byte) : Numbered ph (addEntry entries prev n s).1 (addEntry entries prev n s).2 := by
  obtain ⟨hn, hmax⟩ := h
  unfold addEntry
  split
  · next hadd =>
    obtain ⟨_, _, hroom, _⟩ := addable_iff.mp hadd
    exact ⟨by simp [hn, Nat.add_assoc], hroom⟩
  · exact ⟨hn, hmax⟩

section
variable {ph entries : List (List Byte)} {prev : Option (List Byte)} {n c : Nat}

theorem codeString_literal (b : Byte) : codeString ph entries prev n b.toNat = some [b] := by
  simp [codeString, b.isLt]

theorem codeString_phrase {k : Nat} (hk : k < ph.length) : codeString ph entries prev n (258 + k) = some ph[k] := by
  rw [codeString, if_neg (by omega), if_pos (by omega), Nat.add_sub_cancel_left, List.getD_eq_getElem _ _ hk]

theorem codeString_entry (h : Numbered ph entries n) {k : Nat} (hk : k < entries.length) :
    codeString ph entries prev n (258 + ph.length + k) = some entries[k] := by
  obtain ⟨hn, _⟩ := h
  rw [codeString, if_neg (by omega), if_neg (by omega), if_pos (by omega), Nat.sub_sub, Nat.add_sub_cancel_left,
    List.getD_eq_getElem _ _ hk]

theorem codeString_next (h : Numbered ph entries n) (hadd : addable prev n = true) :
    codeString ph entries prev n n = some (prev.getD [] ++ (prev.getD []).take 1) := by
  obtain ⟨hn, _⟩ := h
  rw [codeString, if_neg (by omega), if_neg (by omega), if_neg (lt_irrefl n), if_pos ⟨rfl, hadd⟩]

/-- A valid code fits its width. -/
theorem codeString_fits (h : Numbered ph entries n) {s : List Byte} (hc : codeString ph entries prev n c = some s) :
    c < 2 ^ codeWidth n := by
  obtain ⟨hn, hmax⟩ := h
  have hle : c ≤ n ∧ (c = n → n < 4096) := by
    unfold codeString at hc
    split_ifs at hc with hlit hphrase hentry hnext
    · omega
    · omega
    · omega
    · obtain ⟨_, _, hroom, _⟩ := addable_iff.mp hnext.2
      exact ⟨hnext.1.le, fun _ => hroom⟩
  exact lt_two_pow_codeWidth hmax hle.1 hle.2

/-! ### The compressor's choice (R199) -/

theorem isFront_iff {s rest : List Byte} : isFront s rest = true ↔ s <+: rest := by
  induction s generalizing rest with
  | nil => simp [isFront]
  | cons a s ih =>
    cases rest with
    | nil => simp [isFront]
    | cons b rest => simp [isFront, ih, List.cons_prefix_cons]

/-- A code and its string that the compressor may emit: the decoder reads the code as the string, a front part of the rest. -/
structure IsCandidate (ph entries : List (List Byte)) (prev : Option (List Byte)) (n : Nat) (rest : List Byte)
    (b : Nat × List Byte) : Prop where
  reads : codeString ph entries prev n b.1 = some b.2
  front : b.2 <+: rest
  nonempty : b.2 ≠ []
  notEnd : b.1 ≠ 256
  notZeros : b.1 ≠ 257

variable {rest : List Byte}

/-- The better of a candidate and a list of strings, each the string of its code, is a candidate. -/
theorem bestCandidate_isCandidate {ss : List (List Byte)} {best : Nat × List Byte} (hc : 258 ≤ c)
    (hss : ∀ k (hk : k < ss.length), codeString ph entries prev n (c + k) = some ss[k])
    (hbest : IsCandidate ph entries prev n rest best) : IsCandidate ph entries prev n rest (bestCandidate rest ss c best) := by
  induction ss generalizing c best with
  | nil => exact hbest
  | cons s ss ih =>
    rw [bestCandidate]
    refine ih (by omega) (fun k hk => ?_) ?_
    · have := hss (k + 1) (Nat.succ_lt_succ hk)
      rwa [← Nat.add_assoc, Nat.add_right_comm] at this
    · split
      · next hlonger =>
        obtain ⟨hlen, hfront⟩ := Bool.and_eq_true_iff.mp hlonger
        exact ⟨hss 0 (Nat.succ_pos _), isFront_iff.mp hfront, List.ne_nil_of_length_pos (Nat.zero_lt_of_lt (of_decide_eq_true hlen)),
          by dsimp only; omega, by dsimp only; omega⟩
      · exact hbest

theorem literal_isCandidate (b : Byte) : IsCandidate ph entries prev n (b :: rest) (b.toNat, [b]) := by
  have := b.isLt
  exact ⟨codeString_literal b, ⟨rest, rfl⟩, List.cons_ne_nil _ _, by dsimp only; omega, by dsimp only; omega⟩

/-- What rule 2 of R199 emits is a candidate: a literal, a phrase, an entry, or the entry about to be assigned. -/
theorem chooseCode_isCandidate (h : Numbered ph entries n) (hrest : rest ≠ []) :
    IsCandidate ph entries prev n rest (chooseCode ph entries prev n rest) := by
  cases rest with
  | nil => exact absurd rfl hrest
  | cons b rest =>
    have hliteral : IsCandidate ph entries prev n (b :: rest) (b.toNat, [b]) := literal_isCandidate b
    have hphrases := bestCandidate_isCandidate le_rfl (fun k hk => codeString_phrase hk) hliteral
    have hentries := bestCandidate_isCandidate (c := 258 + ph.length) (by omega) (fun k hk => codeString_entry h hk) hphrases
    unfold chooseCode
    dsimp only
    split
    · next hadd =>
      refine bestCandidate_isCandidate (by have := h.1; omega) (fun k hk => ?_) hentries
      obtain rfl : k = 0 := by simpa using hk
      exact codeString_next h hadd
    · exact hentries

end

/-! ### One step of the compressor and of the decoder (R193, R199) -/

theorem eq_zeros_append_drop {k : Nat} {rest : List Byte} (h : k ≤ zeroRun rest) :
    rest = List.replicate k 0 ++ rest.drop k := by
  induction k generalizing rest with
  | zero => rfl
  | succ k ih =>
    cases rest with
    | nil => exact absurd h (by simp [zeroRun])
    | cons b rest =>
      rw [zeroRun] at h
      split at h
      · next hb =>
        rw [hb, List.replicate_succ, List.cons_append, List.drop_succ_cons, ← ih (Nat.le_of_succ_le_succ h)]
      · exact absurd h (by simp)

section
variable {ph entries : List (List Byte)} {fuel n p : Nat} {prev : Option (List Byte)} {rest out : List Byte}

/-- What a step of a compressor that ends with a stream does: it emits END, a run of zeros, or the code of a candidate (R199). -/
theorem compressLoop_cases {acc : Nat} {r : Nat × Nat} (hnum : Numbered ph entries n)
    (h : compressLoop ph (fuel + 1) rest entries n prev acc p = some r) :
    (rest = [] ∧ p + codeWidth n ≤ 7680 ∧ r = (acc + 256 * 2 ^ p, p + codeWidth n)) ∨
    (∃ k rest', k < 64 ∧ rest = List.replicate ((k + 1) * 4) 0 ++ rest' ∧
      compressLoop ph fuel rest' entries n none (acc + 257 * 2 ^ p + k * 2 ^ (p + codeWidth n)) (p + codeWidth n + 6) = some r) ∨
    (∃ c s rest', rest = s ++ rest' ∧ IsCandidate ph entries prev n rest (c, s) ∧
      compressLoop ph fuel rest' (addEntry entries prev n s).1 (addEntry entries prev n s).2 (some s) (acc + c * 2 ^ p)
        (p + codeWidth n) = some r) := by
  unfold compressLoop at h
  dsimp only at h
  split_ifs at h with hlong hend hfull hrun
  · exact .inl ⟨List.isEmpty_iff.mp hend, Nat.le_of_not_lt hfull, (Option.some.inj h).symm⟩
  · refine .inr (.inl ⟨min (zeroRun rest / 4) 64 - 1, _, by omega, eq_zeros_append_drop (by omega), ?_⟩)
    rw [← h]
    congr 1
    · rw [Nat.mul_comm]
    · ring
  · have hrest : rest ≠ [] := fun hnil => hend (List.isEmpty_iff.mpr hnil)
    have hcand := chooseCode_isCandidate (prev := prev) hnum hrest
    exact .inr (.inr ⟨_, _, _, (List.prefix_iff_eq_append.mp hcand.front).symm, hcand, h⟩)

variable {v len : Nat}

theorem decodeLoop_end (hbits : p + codeWidth n ≤ len) (hcode : (v >>> p) % 2 ^ codeWidth n = 256) :
    decodeLoop ph v len (fuel + 1) p entries n prev out 1024 = .ok out.reverse := by
  simp [decodeLoop, Nat.not_lt.mpr hbits, hcode]

theorem decodeLoop_zeros {o k : Nat} (hbits : p + codeWidth n + 6 ≤ len) (hcode : (v >>> p) % 2 ^ codeWidth n = 257)
    (hcount : (v >>> (p + codeWidth n)) % 2 ^ 6 = k) (hroom : o + (k + 1) * 4 ≤ 1024) :
    decodeLoop ph v len (fuel + 1) p entries n prev out o =
      decodeLoop ph v len fuel (p + codeWidth n + 6) entries n none (List.replicate ((k + 1) * 4) 0 ++ out) (o + (k + 1) * 4) := by
  have hcount' : (v >>> (p + codeWidth n)) % 64 = k := hcount
  rw [decodeLoop]
  dsimp only
  rw [if_neg (by omega), hcode, if_neg (by decide), if_pos rfl, if_neg (by omega), hcount', if_neg (by omega)]

theorem decodeLoop_code {o c : Nat} {s : List Byte} (hbits : p + codeWidth n ≤ len) (hcode : (v >>> p) % 2 ^ codeWidth n = c)
    (hcand : IsCandidate ph entries prev n rest (c, s)) (hroom : o + s.length ≤ 1024) :
    decodeLoop ph v len (fuel + 1) p entries n prev out o =
      decodeLoop ph v len fuel (p + codeWidth n) (addEntry entries prev n s).1 (addEntry entries prev n s).2 (some s)
        (s.reverse ++ out) (o + s.length) := by
  have hreads : codeString ph entries prev n c = some s := hcand.reads
  rw [decodeLoop]
  dsimp only
  rw [if_neg (by omega), hcode, if_neg hcand.notEnd, if_neg hcand.notZeros, hreads]
  dsimp only
  rw [if_neg (by omega)]

/-! ### The stream that is emitted, and its decoding -/

/-- The stream begins with what was emitted already, and ends within 7,680 bits (R190, R200). -/
theorem stream_begins {acc e : Nat} (hnum : Numbered ph entries n) (hacc : acc < 2 ^ p)
    (h : compressLoop ph fuel rest entries n prev acc p = some (v, e)) :
    v % 2 ^ p = acc ∧ v < 2 ^ e ∧ p < e ∧ e ≤ 7680 := by
  induction fuel generalizing rest entries n prev acc p with
  | zero => cases h
  | succ fuel ih =>
    have hwide := nine_bits_le_two_pow_codeWidth n
    have hpos : 0 < codeWidth n := by unfold codeWidth; omega
    obtain ⟨-, hmax, hr⟩ | ⟨k, rest', hk, -, hgo⟩ | ⟨c, s, rest', -, hcand, hgo⟩ := compressLoop_cases hnum h
    · obtain ⟨rfl, rfl⟩ := Prod.mk.inj hr
      have hlt : acc + 256 * 2 ^ p < 2 ^ (p + codeWidth n) := put_lt hacc (by omega)
      exact ⟨begins_of_put hacc (Nat.mod_eq_of_lt hlt), hlt, by omega, hmax⟩
    · have hzeros : acc + 257 * 2 ^ p < 2 ^ (p + codeWidth n) := put_lt hacc (by omega)
      obtain ⟨hv, hlt, hpe, hmax⟩ := ih hnum (put_lt hzeros hk) hgo
      exact ⟨begins_of_put hacc (begins_of_put hzeros hv), hlt, by omega, hmax⟩
    · obtain ⟨hv, hlt, hpe, hmax⟩ := ih (addEntry_numbered hnum prev s) (put_lt hacc (codeString_fits hnum hcand.reads)) hgo
      exact ⟨begins_of_put hacc hv, hlt, by omega, hmax⟩

/-- The decoder, in the compressor's state, puts out what the compressor still has to read (R193). -/
theorem decodeLoop_of_compressLoop {acc e o : Nat} (hnum : Numbered ph entries n) (hacc : acc < 2 ^ p) (hlen : e ≤ len)
    (ho : o + rest.length = 1024) (h : compressLoop ph fuel rest entries n prev acc p = some (v, e)) :
    decodeLoop ph v len fuel p entries n prev out o = .ok (out.reverse ++ rest) := by
  induction fuel generalizing rest entries n prev acc p out o with
  | zero => cases h
  | succ fuel ih =>
    have hwide := nine_bits_le_two_pow_codeWidth n
    obtain ⟨rfl, -, hr⟩ | ⟨k, rest', hk, rfl, hgo⟩ | ⟨c, s, rest', rfl, hcand, hgo⟩ := compressLoop_cases hnum h
    · obtain ⟨rfl, rfl⟩ := Prod.mk.inj hr
      obtain rfl : o = 1024 := ho
      have hv := Nat.mod_eq_of_lt (put_lt hacc (show 256 < 2 ^ codeWidth n by omega))
      rw [decodeLoop_end hlen (read_of_put hacc hv), List.append_nil]
    · have hzeros : acc + 257 * 2 ^ p < 2 ^ (p + codeWidth n) := put_lt hacc (by omega)
      have hacc' := put_lt hzeros (show k < 2 ^ 6 from hk)
      obtain ⟨hv, -, hpe, -⟩ := stream_begins hnum hacc' hgo
      rw [List.length_append, List.length_replicate] at ho
      rw [decodeLoop_zeros (by omega) (read_of_put hacc (begins_of_put hzeros hv)) (read_of_put hzeros hv) (by omega),
        ih hnum hacc' (by omega) hgo]
      simp
    · have hacc' := put_lt hacc (codeString_fits hnum hcand.reads)
      have hnum' := addEntry_numbered hnum prev s
      obtain ⟨hv, -, hpe, -⟩ := stream_begins hnum' hacc' hgo
      rw [List.length_append] at ho
      rw [decodeLoop_code (by omega) (read_of_put hacc hv) hcand (by omega), ih hnum' hacc' (by omega) hgo]
      simp

end

/-! ### The stored form (R188, R200) -/

theorem numbered_start {ph : List (List Byte)} (h : ph.length ≤ 2048) : Numbered ph [] (258 + ph.length) := ⟨rfl, by omega⟩

/-- The pods that hold a stream of 1 to 7,680 bits. -/
theorem pods_of_bits {p : Nat} (hpos : 0 < p) (hmax : p ≤ 7680) :
    1 ≤ ceilDiv p 512 ∧ ceilDiv p 512 ≤ 15 ∧ p ≤ 512 * ceilDiv p 512 := by
  unfold ceilDiv
  rw [if_neg (by decide)]
  omega

/-- A stream of whole pods is read back from its stored form. -/
theorem leNat_pods {v blen : Nat} (h : v < 2 ^ (512 * blen)) :
    leNat (bytesAt (natLe (64 * blen) v) 0 (64 * blen)) = v := by
  have hlen := bytesAt_length (natLe (64 * blen) v)
  rw [length_natLe] at hlen
  have hbytes : v < 256 ^ (64 * blen) := by
    calc v < 2 ^ (8 * (64 * blen)) := by rwa [← Nat.mul_assoc]
      _ = 256 ^ (64 * blen) := Nat.pow_mul 2 8 _
  rw [hlen, leNat_natLe _ hbytes]

/-- The stored form of a stream decodes to the block it was made of. -/
theorem decodeBlock_of_stream {pr : Primer} {block : List Byte} {v p : Nat} (hblock : block.length = 1024)
    (hph : pr.phrases.length ≤ 2048)
    (h : compressLoop pr.phrases 1026 block [] (258 + pr.phrases.length) none 0 0 = some (v, p)) :
    1 ≤ ceilDiv p 512 ∧ ceilDiv p 512 ≤ 15 ∧
      decodeBlock pr (ceilDiv p 512) (natLe (64 * ceilDiv p 512) v) = .ok block := by
  have hnum := numbered_start hph
  obtain ⟨-, hv, hpos, hmax⟩ := stream_begins hnum Nat.one_pos h
  obtain ⟨hone, hfifteen, hpods⟩ := pods_of_bits hpos hmax
  refine ⟨hone, hfifteen, ?_⟩
  rw [decodeBlock, leNat_pods (lt_of_lt_of_le hv (Nat.pow_le_pow_right (by decide) hpods))]
  exact decodeLoop_of_compressLoop (out := []) hnum Nat.one_pos hpods (by rw [hblock]) h

/-- Settles O60: by the result, a block of zeros, a stream that the decoder follows step by step, or a block that is not all zeros. -/
theorem compressionIsLossless : Obligations.CompressionIsLossless := by
  unfold Obligations.CompressionIsLossless
  intro pr block hblock hph
  unfold compressBlock
  by_cases hzero : block.all (· == 0) = true
  · rw [if_pos hzero]
    exact List.eq_replicate_iff.mpr ⟨hblock, fun b hb => beq_iff_eq.mp (List.all_eq_true.mp hzero b hb)⟩
  · rw [if_neg hzero]
    cases hstream : compressLoop pr.phrases 1026 block [] (258 + pr.phrases.length) none 0 0 with
    | none =>
      show ∃ b ∈ block, b ≠ 0
      simpa using hzero
    | some r =>
      obtain ⟨hone, hfifteen, hdecodes⟩ := decodeBlock_of_stream hblock hph hstream
      exact ⟨hone, hfifteen, length_natLe _ _, hdecodes⟩

/-! ### The result of a lane (R188, R218) -/

/-- A lane gives up its block. -/
def laneFreed (s : State) (i : Nat) : State := { s with cmp := { s.cmp with lanes := mdel s.cmp.lanes i } }

/-- The event a result is counted as where the shadow check agrees (R188; the counters of chapter 20). -/
def resultEvent : BlockResult → Nat
  | .packed _ _ => 0x020
  | .zero => 0x022
  | _ => 0x021

section
variable {s : State} {k label : Nat} {slot : BitVec 6} {data : List Byte} {src : CmdSrc}

/-- A lane with a block of an evaluation ends it: the lane is free, and its result is that of the one slot. -/
theorem compressionResultBody_eval {i : Nat} {r : BlockResult}
    (hlane : mget s.cmp.lanes i = some ⟨.eval src k, [slot], [], label, data⟩)
    (hr : compressBlock (primerOf s slot.toNat) data = r) : compressionResultBody s i true =
      pump (evalResult (runLanes (countL (laneFreed s i) (resultEvent r) label)) src k (resultBlen r)) := by
  subst hr
  unfold compressionResultBody laneEnd
  rw [hlane]
  rfl

theorem compressionResult_eval_ends {i : Fin 16} {r : BlockResult} {ev blen : Nat}
    (hlane : mget s.cmp.lanes i.val = some ⟨.eval src k, [slot], [], label, data⟩)
    (hr : compressBlock (primerOf s slot.toNat) data = r) (hev : resultEvent r = ev) (hblen : resultBlen r = blen) :
    EndsWork (.compressionResult i true) s (pump (evalResult (runLanes (countL (laneFreed s i) ev label)) src k blen)) := by
  subst hev hblen
  exact endsWork_of_eq rfl (compressionResultBody_eval hlane hr)

theorem compressionResultBody_eval_fails {i : Nat} (hlane : mget s.cmp.lanes i = some ⟨.eval src k, [slot], [], label, data⟩) :
    compressionResultBody s i false =
      pump (evalResult (runLanes (verifyFail (countL (laneFreed s i) 0x023 label) i)) src k 17) := by
  unfold compressionResultBody laneEnd
  rw [hlane]
  rfl

end

/-! ### Fences of the lanes (R215, R659) -/

theorem mhas_of_some {α : Type} {m : NMap α} {i : Nat} {v : α} (h : mget m i = some v) : mhas m i = true := by
  simp [mhas, h]

theorem mhas_of_none {α : Type} {m : NMap α} {i : Nat} (h : mget m i = none) : mhas m i = false := by
  simp [mhas, h]

theorem fenceCLane_with_job {s : State} {i : Fin 16} {j : Job} (hopen : s.cmp.cFenced.getLsbD i.val = false)
    (hjob : mget s.cmp.lanes i.val = some j) :
    let mask := s.cmp.cFenced ||| ((1 : BitVec 16) <<< i.val)
    fenceCLane s i.val = pushJob (raiseP { s with cmp := { s.cmp with cFenced := mask, lanes := mdel s.cmp.lanes i.val } } 0x162
      (if mask = BitVec.allOnes 16 then 1 else 0) (.clane i) i.val) j := by
  unfold fenceCLane
  rw [if_neg (Bool.eq_false_iff.mp hopen), hjob, Fin.ofNat_val_eq_self]

theorem fenceDLane_with_job {s : State} {i : Fin 32} {j : DJob} (hopen : s.cmp.dFenced.getLsbD i.val = false)
    (hjob : mget s.cmp.dLanes i.val = some j) :
    let mask := s.cmp.dFenced ||| ((1 : BitVec 32) <<< i.val)
    fenceDLane s i.val = raiseP { s with cmp := { s.cmp with
      dFenced := mask
      dWait := s.cmp.dWait ++ [j]
      dLanes := mdel s.cmp.dLanes i.val } } 0x163 (if mask = BitVec.allOnes 32 then 1 else 0) (.dlane i) i.val := by
  unfold fenceDLane
  rw [if_neg (Bool.eq_false_iff.mp hopen), hjob, Fin.ofNat_val_eq_self]
  rfl

theorem laneTimeoutBody_compressor {s : State} {i : Nat} {j : Job} (hjob : mget s.cmp.lanes i = some j) :
    laneTimeoutBody s false i = fenceCLane s i := if_pos (mhas_of_some hjob)

theorem laneTimeoutBody_decompressor {s : State} {i : Nat} {j : DJob} (hjob : mget s.cmp.dLanes i = some j) :
    laneTimeoutBody s true i = pump (fenceDLane s i) := if_pos (mhas_of_some hjob)

theorem laneTimeoutBody_idle {s : State} {i : Nat} (hidle : mget s.cmp.dLanes i = none) : laneTimeoutBody s true i = s :=
  if_neg (Bool.eq_false_iff.mp (mhas_of_none hidle))

/-! ### Retiring a slot (R209) -/

/-- A slot is set to retire. -/
def slotRetires (s : State) (n : Nat) : State :=
  { s with cmp := { s.cmp with retire := s.cmp.retire ||| ((1 : BitVec 64) <<< n) } }

/-- The write to an installed slot: event 0x166 comes at once where the slot was not retiring and nothing names it. -/
theorem primerRetire_installed {s : State} {n : Nat} (h : (mget s.img.active.primers n).isSome = true) :
    primerRetire s n = if !s.cmp.retire.getLsbD n && slotUse (slotRetires s n) n == 0 then raiseP (slotRetires s n) 0x166 0 .none n
      else slotRetires s n := by
  have hinstalled : ¬(mget s.img.active.primers n).isNone = true := by simp [Option.isSome_iff_ne_none.mp h]
  exact if_neg hinstalled

theorem primerRetire_in_use {s : State} {n : Nat} (h : (mget s.img.active.primers n).isSome = true)
    (huse : slotUse (slotRetires s n) n ≠ 0) : primerRetire s n = slotRetires s n := by
  rw [primerRetire_installed h, if_neg (by simp [huse])]

theorem primerRetire_free {s : State} {n : Nat} (h : (mget s.img.active.primers n).isSome = true)
    (huse : slotUse (slotRetires s n) n = 0) (hnew : s.cmp.retire.getLsbD n = false) :
    primerRetire s n = raiseP (slotRetires s n) 0x166 0 .none n := by
  rw [primerRetire_installed h, if_pos (by simp [huse, hnew])]

/-- Settles O7: each result, each fence and each write to a slot by the lemma of its case; a reload is its command's own effect. -/
theorem compressionLanes : Obligations.CompressionLanes := by
  unfold Obligations.CompressionLanes
  refine ⟨?_, ?_, ?_, ?_, ?_, fun s n => endsWork_of rfl⟩
  · intro s i slot label data src k hlane u r
    exact ⟨fun a b hr => compressionResult_eval_ends hlane hr rfl (congrArg resultBlen hr.symm),
      fun hr => compressionResult_eval_ends hlane hr rfl rfl, fun hr => compressionResult_eval_ends hlane hr rfl rfl,
      endsWork_of_eq rfl (compressionResultBody_eval_fails hlane)⟩
  · exact fun s i j hopen hjob => endsWork_of_eq rfl ((laneTimeoutBody_compressor hjob).trans (fenceCLane_with_job hopen hjob))
  · exact fun s i j hopen hjob =>
      endsWork_of_eq rfl ((laneTimeoutBody_decompressor hjob).trans (congrArg pump (fenceDLane_with_job hopen hjob)))
  · exact fun s i hidle => endsWork_of_eq rfl (laneTimeoutBody_idle hidle)
  · exact fun s n hthere => ⟨fun huse => ends_of_eq rfl (primerRetire_in_use hthere huse),
      fun huse hnew => ends_of_eq rfl (primerRetire_free hthere huse hnew)⟩

end Sys2Proof.Proofs.Compression
end

section
/-! SUPPORT. The coherence of the pool (08): requests of peers at the owner (R254, R261, R267, R269, R279 to R286), the directory after
a reply (R257, R258, R262), back-invalidates of the host (R270, R271), snoops at the requester (R268, R272, R276, R616), responses
(R264, R369, R370, R376), writebacks at the owner (R265, R267) and pods at the holder (R275, R331). Each part states what the operation
of its unit does in each case, and ends with the obligation that puts the cases together. -/

namespace Sys2Proof.Proofs.PoolCoherence

open Sys2Proof Sys2Proof.Machine Sys2Proof.Safety Sys2Proof.Proofs.OnePass

/-! ### Messages that reach a device in Run (R34, R375) -/

/-- A message of the fabric that reaches a device in Run ends where its intake does. -/
theorem endsWork_takeIn {c : Instr} {s t : State} (hexec : exec c s = .next (work (inRun s c))) (hrun : s.aon.st = .run)
    (ht : takeIn s c = t) : EndsWork c s t :=
  endsWork_of_eq hexec ((if_pos (beq_iff_eq.mpr hrun)).trans ht)

theorem arrive_young {s : State} {cls op : Nat} {t : Tag} (hyoung : (consumeTag s cls op t).2.old = false) (act : State → State) :
    arrive s cls op t act = act (active (consumeTag s cls op t).1) := if_neg (Bool.eq_false_iff.mp hyoung)

/-! ### Requests of peers (R254, R261, R267, R279 to R282) -/

/-- The peer that asks with a request, as its transaction keeps it. -/
def askerOf (h : ReqHdr) (c : Consumed) : Asker :=
  .peer (BitVec.ofNat 12 (tagSource h.tag)) h.tag h.label.toNat (queueLabel h.label.toNat c.demoted c.yellow) h.isNew

/-- A request that is taken counts where its line is this device's own (R106). -/
def heatOf (owner line : Nat) (kind : OwnKind) (s : State) : State :=
  if owner = myNode s then heatTaken s (line / 64) kind else s

/-- A checked request at its line (R261, R277, R279): it opens its transaction there, or looks for a place in the pending table. -/
def turnAt (s : State) (owner line : Nat) (kind : OwnKind) (h : ReqHdr) (c : Consumed) (reserved : Bool) : State :=
  let key := lineKey owner line
  let v := makeWay s key kind
  if !pendBefore v key && mayTake v key kind then goOn (openOwn (heatOf owner line kind v) key kind (askerOf h c) false false) key
  else
    let t := pendRequest v key kind (askerOf h c) h.tag h.label.toNat reserved
    if v.coh.pend.length < t.coh.pend.length then heatOf owner line kind t else t

/-- A far atomic is not older than the floor of its source (R177). -/
def notBehind (s : State) (src owner : Nat) : OwnKind → Bool
  | .atomicFar _ _ seq _ _ _ => !seqBefore seq (floorOf s src owner)
  | _ => true

section
variable {s u : State} {op line owner : Nat} {h : ReqHdr} {reserved : Bool} {kind : OwnKind}
  (hu : active (consumeTag s 0 op h.tag).1 = u) (hyoung : (consumeTag s 0 op h.tag).2.old = false) (howner : requestOwner u line = owner)
include hu hyoung howner

theorem peerRequest_unserved (hserve : servingFor u owner = false) :
    peerRequest s op h line reserved kind = respondNack u h.tag h.label.toNat 2 u.coh.notservingHint.toNat := by
  subst hu howner
  exact (if_neg (Bool.eq_false_iff.mp hyoung)).trans (if_pos (by simp [hserve]))

theorem peerRequest_uncovered (hserve : servingFor u owner = true) (hown : owner = myNode u)
    (hgrant : grantCovers u (tagSource h.tag) line = false) :
    peerRequest s op h line reserved kind =
      respondCmp (raiseP u 0x1A3 0 (.peer (BitVec.ofNat 12 (tagSource h.tag))) line) h.tag h.label.toNat 2 false 0 := by
  subst hu howner
  exact (if_neg (Bool.eq_false_iff.mp hyoung)).trans ((if_neg (by simp [hserve])).trans (if_pos (by simp [hown, hgrant])))

variable (hserve : servingFor u owner = true) (hgrant : owner = myNode u → grantCovers u (tagSource h.tag) line = true)
  (hclosed : tagOpen u h.tag = false) (hfresh : crtDuplicate u h.tag h.isNew = none)
include hserve hgrant hclosed hfresh

/-- A request that passes every check comes to its line, a far atomic with its floor noted. -/
theorem peerRequest_starts (hfloor : notBehind u (tagSource h.tag) owner kind = true) (hroom : crtFull u h.tag = false) :
    peerRequest s op h line reserved kind =
      turnAt (noteFloor u (tagSource h.tag) owner kind) owner line kind h (consumeTag s 0 op h.tag).2 reserved := by
  subst hu howner
  have hroom' := Bool.eq_false_iff.mp hroom
  unfold peerRequest
  dsimp only
  rw [if_neg (Bool.eq_false_iff.mp hyoung), if_neg (by simp [hserve]), if_neg (by simpa using hgrant),
    if_neg (Bool.eq_false_iff.mp hclosed), hfresh]
  cases kind with
  | rdCur => rfl
  | atomicFar _ _ seq _ _ _ => exact (if_neg (by simpa [notBehind] using hfloor)).trans (if_neg hroom')
  | _ => exact if_neg hroom'

/-- A far atomic older than the floor of its source raises the floor and is refused. -/
theorem peerRequest_behind {code : BitVec 8} {size : BitVec 3} {seq floor : BitVec 32} {off : BitVec 6} {ops : BitVec 256}
    (hkind : kind = .atomicFar code size seq floor off ops) (hbehind : seqBefore seq (floorOf u (tagSource h.tag) owner) = true) :
    peerRequest s op h line reserved kind =
      respondCmp (noteFloor u (tagSource h.tag) owner kind) h.tag h.label.toNat 1 false 0 := by
  subst hu howner hkind
  unfold peerRequest
  dsimp only
  rw [if_neg (Bool.eq_false_iff.mp hyoung), if_neg (by simp [hserve]), if_neg (by simpa using hgrant),
    if_neg (Bool.eq_false_iff.mp hclosed), hfresh]
  exact if_pos hbehind

end

@[simp] theorem putPend_pend (s : State) (key : Nat) (kind : OwnKind) (who : Asker) (area : Area) :
    (putPend s key kind who area).coh.pend = s.coh.pend ++ [⟨key, kind, who, area⟩] := by
  simp [putPend]

section
variable {s v : State} {owner line : Nat} {kind : OwnKind} {h : ReqHdr} {c : Consumed} {reserved : Bool}
  (hv : makeWay s (lineKey owner line) kind = v)
include hv

theorem turnAt_opens (hfirst : pendBefore v (lineKey owner line) = false) (htake : mayTake v (lineKey owner line) kind = true) :
    turnAt s owner line kind h c reserved =
      goOn (openOwn (heatOf owner line kind v) (lineKey owner line) kind (askerOf h c) false false) (lineKey owner line) := by
  subst hv
  exact if_pos (by simp [hfirst, htake])

theorem turnAt_waits (htake : mayTake v (lineKey owner line) kind = false) (harea : areaUsed v .general < 3584) :
    turnAt s owner line kind h c false = heatOf owner line kind (putPend v (lineKey owner line) kind (askerOf h c) .general) := by
  subst hv
  have hplace : pendRequest (makeWay s (lineKey owner line) kind) (lineKey owner line) kind (askerOf h c) h.tag h.label.toNat false =
      putPend (makeWay s (lineKey owner line) kind) (lineKey owner line) kind (askerOf h c) .general := if_pos harea
  unfold turnAt
  dsimp only
  rw [if_neg (by simp [htake]), hplace, if_pos (by simp)]

end

/-- The four requests of a line that are no atomics are taken in as requests of their kind. -/
theorem takeIn_lineRequest {s : State} {h : ReqHdr} {line : LineNo} {reserved : Bool} {keep : Keep} {poison : Bool} {mask : BitVec 64}
    {data : Line} {r : Nat × OwnKind × Instr}
    (hr : r ∈ [(1, OwnKind.rdShared, Instr.rdShared h line reserved), (2, .rdOwn, .rdOwn h line reserved),
      (3, .rdCur, .rdCur h line reserved), (4, .wrLine keep poison mask data, .wrLine h line reserved keep poison mask data)]) :
    exec r.2.2 s = .next (work (inRun s r.2.2)) ∧ takeIn s r.2.2 = peerRequest s r.1 h line.toNat reserved r.2.1 ∧
      (∀ x src owner, noteFloor x src owner r.2.1 = x) ∧ ∀ x src owner, notBehind x src owner r.2.1 = true := by
  simp only [List.mem_cons, List.not_mem_nil, or_false] at hr
  rcases hr with rfl | rfl | rfl | rfl <;> exact ⟨rfl, rfl, fun _ _ _ => rfl, fun _ _ _ => rfl⟩

/-- Settles O23: the checks in their order, then the request's turn at its line. -/
theorem peerRequests : Obligations.PeerRequests := by
  unfold Obligations.PeerRequests
  intro s h line reserved keep poison mask data r hr got u src owner key v counted who hrun hyoung
  obtain ⟨hexec, htake, hnote, hnever⟩ := takeIn_lineRequest (s := s) hr
  refine ⟨fun hserve => ?_, fun hserve hown hgrant => ?_, fun hserve hgrant hclosed hfresh hroom => ?_⟩
  · exact endsWork_takeIn hexec hrun (htake.trans (peerRequest_unserved rfl hyoung rfl hserve))
  · exact endsWork_takeIn hexec hrun (htake.trans (peerRequest_uncovered rfl hyoung rfl hserve hown hgrant))
  · have hturn := htake.trans (peerRequest_starts rfl hyoung rfl hserve hgrant hclosed hfresh (hnever u src owner) hroom)
    rw [hnote] at hturn
    refine ⟨fun hfirst hmay => ?_, fun hmay hplain harea => ?_⟩
    · exact endsWork_takeIn hexec hrun (hturn.trans (turnAt_opens rfl hfirst hmay))
    · subst hplain
      exact endsWork_takeIn hexec hrun (hturn.trans (turnAt_waits rfl hmay harea))

/-- Settles O24: a far atomic comes to its line with its floor noted, or is refused behind the floor. -/
theorem farAtomics : Obligations.FarAtomics := by
  unfold Obligations.FarAtomics
  intro s h line op size seq floor off ops got u src owner key kind old f counted hrun hyoung hserve hgrant hclosed hfresh
  refine ⟨fun hbehind => endsWork_takeIn rfl hrun ?_, ?_⟩
  · exact peerRequest_behind rfl hyoung rfl hserve hgrant hclosed hfresh rfl hbehind
  · intro v hnew hroom hfirst hmay
    have hfloor : notBehind u src owner kind = true := by simpa [notBehind, kind] using hnew
    exact endsWork_takeIn rfl hrun
      ((peerRequest_starts rfl hyoung rfl hserve hgrant hclosed hfresh hfloor hroom).trans (turnAt_opens rfl hfirst hmay))

/-! ### The directory after a reply (R257, R258, R262, R269) -/

theorem foldl_coh {α : Type} {f : State → α → State} (hf : ∀ s x, (f s x).coh = s.coh) (xs : List α) (s : State) :
    (xs.foldl f s).coh = s.coh := by
  induction xs generalizing s with
  | nil => rfl
  | cons x xs ih => exact (ih (f s x)).trans (hf s x)

@[simp] theorem memPush_coh (s : State) (n : Nat) (port : Port) (label qlabel : Nat) (write : Bool) (use : MemUse) (addr size : Nat)
    (data : Option Line) : (memPush s n port label qlabel write use addr size data).coh = s.coh := by
  unfold memPush
  dsimp only
  split <;> rfl

@[simp] theorem setAccess_coh (s : State) (set : Nat) (data : Option (List Line)) : (setAccess s set data).coh = s.coh :=
  foldl_coh (fun _ _ => memPush_coh ..) _ s

/-- The directory cache gives up a set: the entries stay. -/
theorem dirEvict_dir (s : State) : (dirEvict s).coh.dir = s.coh.dir := by
  unfold dirEvict
  dsimp only
  split
  · rfl
  · split <;> simp

theorem dirTouch_dir (s : State) (set : Nat) (change : Bool) : (dirTouch s set change).coh.dir = s.coh.dir := by
  unfold dirTouch
  dsimp only
  split
  · split <;> rfl
  · simp [dirEvict_dir]

/-- An entry in use stands in the directory as it was stored, in a way of its set. -/
theorem dirEnt_setEnt {s : State} {key : Nat} {e : DirEnt} (hused : e.isFree = false) :
    ∃ way age alt, dirEnt (setEnt s key e) key = { e with way := way, age := age, alt := alt } := by
  unfold setEnt
  simp only [hused]
  exact ⟨_, _, _, mgetD_mset_self ..⟩

/-- An entry that is free is freed (R258). -/
theorem setEnt_free {s : State} {key : Nat} {e : DirEnt} (hfree : e.isFree = true) :
    (setEnt s key e).coh.dir = mdel s.coh.dir key := by
  unfold setEnt
  simp only [hfree, if_true]
  split
  · rfl
  · exact congrArg (mdel · key) (dirTouch_dir ..)

@[simp] theorem enqueue_coh (s : State) (l : Nat) (m : Msg) : (enqueue s l m).coh = s.coh := rfl

theorem sendNeighbour_coh (s : State) (n : Nat) (m : Msg) : (sendNeighbour s n m).coh = s.coh := by
  unfold sendNeighbour
  split <;> rfl

@[simp] theorem flood_coh (s : State) (type opn : Nat) (fields : List (Nat × Nat)) : (flood s type opn fields).coh = s.coh :=
  foldl_coh (fun _ _ => sendNeighbour_coh ..) _ _

@[simp] theorem lightRow_coh (s : State) (row : Nat) : (lightRow s row).coh = s.coh := by
  unfold lightRow
  split
  · rfl
  · exact foldl_coh (fun s l => by split <;> rfl) _ s

@[simp] theorem floodRowWake_coh (s : State) (row : Nat) : (floodRowWake s row).coh = s.coh := by
  unfold floodRowWake
  split <;> simp

@[simp] theorem noteThreeHop_coh (s : State) (d : Nat) : (noteThreeHop s d).coh = s.coh := by
  unfold noteThreeHop
  dsimp only
  split
  · simp
  · split <;> simp

@[simp] theorem noteUnreachable_coh (s : State) (d : Nat) : (noteUnreachable s d).coh = s.coh := by
  unfold noteUnreachable
  split <;> simp

/-- Sending a message leaves the coherence state as it is, whichever way the message goes (R311 to R314, R335). -/
@[simp] theorem sendMsg_coh (s : State) (m : Msg) : (sendMsg s m).coh = s.coh := by
  unfold sendMsg sendFrom
  dsimp only
  split
  · rfl
  · split
    · split <;> simp [waitAtSource]
    · split
      · simp [waitAtSource]
      · split <;> simp

@[simp] theorem respondCmp_coh (s : State) (t : Tag) (label status : Nat) (contended : Bool) (vers : Nat) :
    (respondCmp s t label status contended vers).coh = s.coh := sendMsg_coh ..

@[simp] theorem respondData_coh (s : State) (op : Nat) (t : Tag) (label : Nat) (poison contended dirty hostDirty bulk : Bool)
    (vers pod : Nat) (d : Line) :
    (respondData s op t label poison contended dirty hostDirty bulk vers pod d).coh = s.coh := sendMsg_coh ..

@[simp] theorem recordTx_coh (s : State) (key : Nat) (tx : OwnTx) : (recordTx s key tx).coh = s.coh := by
  unfold recordTx
  split <;> rfl

theorem dirEnt_of_dir {s t : State} (h : t.coh.dir = s.coh.dir) (key : Nat) : dirEnt t key = dirEnt s key :=
  congrArg (mgetD · key DirEnt.none) h

section
variable {s : State} {key : Nat} {tx : OwnTx} {q : Node} {tag : Tag} {label queue : Nat} {n : Bool}
  (hpeer : tx.who = .peer q tag label queue n)
include hpeer

/-- The reply to RdOwn stores the line as E of the requester; what follows the store leaves the directory alone. -/
theorem reply_rdOwn_dir (hkind : tx.kind = .rdOwn) : (reply s key tx).coh.dir = (setEnt s key (entE q)).coh.dir := by
  simp [reply, nextEntry, hkind, hpeer, Asker.node, awaitAck, modTx]

/-- The reply to a WrLine that keeps no copy frees the line's entry, and the line. -/
theorem reply_wrLine_dir {poison : Bool} {mask : BitVec 64} {data : Line} (hkind : tx.kind = .wrLine .i poison mask data) :
    (reply s key tx).coh.dir = (setEnt s key DirEnt.none).coh.dir := by
  simp [reply, nextEntry, hkind, hpeer, Asker.node, endTxAt]

end

/-- Settles O25: the directory after a reply is the one its entry was stored in. -/
theorem singleOwnerAfterReply : Obligations.SingleOwnerAfterReply := by
  unfold Obligations.SingleOwnerAfterReply
  intro s key tx q tag label queue n hpeer
  refine ⟨fun hkind => ?_, fun poison mask data hkind hgone => ?_⟩
  · obtain ⟨way, age, alt, hent⟩ := dirEnt_setEnt (s := s) (key := key) (e := entE q) rfl
    rw [dirEnt_of_dir (reply_rdOwn_dir hpeer hkind), hent]
    exact ⟨rfl, rfl, rfl, rfl⟩
  · have hdir : (reply s key tx).coh.dir = mdel s.coh.dir key := (reply_wrLine_dir hpeer hkind).trans (setEnt_free rfl)
    simp [dirEnt, mgetD, hdir, hgone]

/-! ### Back-invalidates of the host (R262, R269 to R271) -/

/-- The copy the host is left with by each back-invalidate (R269). -/
def hostAfter (had : HostCopy) : BiOp → HostCopy
  | .inv => .i
  | .data => .s
  | .cur => had

/-- The host's answer to the back-invalidate of an open transaction: its copy is recorded, and the transaction goes on with what was
written back. -/
theorem biAnswered_awaited {s : State} {key t : Nat} {tx : OwnTx} (hopen : mget s.coh.txs key = some tx) (hbi : tx.bisnp = some t)
    (wb : Option (Line × Bool)) : biAnswered s key wb =
      goOn (modTx (setEnt s key { dirEnt s key with host := hostAfter (dirEnt s key).host (biOf s key tx.kind) }) key
        (fun t => { t with bisnp := none, commit := wb.or t.commit })) key := by
  unfold biAnswered
  rw [hopen]
  dsimp only
  rw [if_neg (by simp [hbi])]
  cases wb <;> cases biOf s key tx.kind <;> rfl

theorem biRspBody_own {s : State} {dpa : Nat} (hown : ownKey s (biKey s dpa) = true) (wb : Option (Line × Bool)) :
    biRspBody s dpa wb = biAnswered s (biKey s dpa) wb := if_pos hown

theorem biRspBody_other {s : State} {dpa : Nat} (hown : ownKey s (biKey s dpa) = false) (wb : Option (Line × Bool)) :
    biRspBody s dpa wb = hostInvDone s (biKey s dpa) wb := if_neg (Bool.eq_false_iff.mp hown)

/-- The fence of the host's memory (R271, R500). -/
def hostFenced (s : State) : State := { s with host := { s.host with memFenced := true } }

theorem ownKey_of_img {s t : State} (h : t.img = s.img) (key : Nat) : ownKey t key = ownKey s key := by
  rw [ownKey, ownKey, myNode, myNode, h]

/-- The first back-invalidate that runs out of time fences the host's memory, and its host copy is recorded I. -/
theorem bisnpTimeoutBody_first {s v w : State} {dpa key t : Nat} {tx : OwnTx} (hkey : biKey s dpa = key) (hown : ownKey s key = true)
    (hopen : mget s.coh.txs key = some tx) (hbi : tx.bisnp = some t) (hunfenced : s.host.memFenced = false)
    (hv : hostFenced (raiseP s 0x1A4 0 .hostMem dpa) = v) (hw : raiseP v 0x265 0 .hostMem 0 = w) :
    bisnpTimeoutBody s dpa = biAnswered (setEnt w key { dirEnt w key with host := .i }) key none := by
  have hown' : ownKey w key = true := (ownKey_of_img (by simp [← hw, ← hv, hostFenced]) key).trans hown
  subst hkey hv hw
  unfold bisnpTimeoutBody
  dsimp only
  rw [if_pos hown, hopen]
  dsimp only
  rw [if_neg (by simp [hbi]), if_neg (Bool.eq_false_iff.mp hunfenced)]
  exact if_pos hown'

/-- Settles O26: each answer, or its lack, by the lemma of its case; a conflict is its command's own effect. -/
theorem hostSnoopAnswers : Obligations.HostSnoopAnswers := by
  unfold Obligations.HostSnoopAnswers
  refine ⟨?_, fun s dpa wb hown => endsWork_of_eq rfl (biRspBody_other hown wb), fun s dpa => ends_of rfl, ?_⟩
  · intro s dpa wb tx t key e hown hopen hbi
    refine endsWork_of_eq rfl ((biRspBody_own hown wb).trans ((biAnswered_awaited hopen hbi wb).trans ?_))
    cases wb <;> cases hop : biOf s key tx.kind <;> rfl
  · intro s dpa tx t key u v hown hopen hbi hunfenced w
    exact endsWork_of_eq rfl (bisnpTimeoutBody_first rfl hown hopen hbi hunfenced rfl rfl)

/-! ### Snoops at the requester (R268, R272, R276, R616) -/

section
variable {s u : State} {op : Nat} {tag : Tag} (hu : active (consumeTag s 1 op tag).1 = u) (hyoung : (consumeTag s 1 op tag).2.old = false)
include hu hyoung

theorem snpArrives_early (hend : u.boot.ended.contains 0x20 = false) (act : State → State) :
    snpArrives s op tag act = respondNack u tag 15 2 u.coh.notservingHint.toNat := by
  subst hu
  exact (arrive_young hyoung _).trans (if_neg (Bool.eq_false_iff.mp hend))

theorem snpArrives_ready (hend : u.boot.ended.contains 0x20 = true) (act : State → State) : snpArrives s op tag act = act u := by
  subst hu
  exact (arrive_young hyoung _).trans (if_pos hend)

end

/-- A snoop of a set or a stack takes every line of it that this device holds for the sender. -/
theorem takeIn_snpInv_scope {s : State} {tag grant : Tag} {line : LineNo} {scope : Scope} (hscope : scope ≠ .line) :
    takeIn s (.snpInv tag line scope grant) =
      snpArrives s 1 tag (fun u => snoopScope u (tagSource tag) line.toNat scope tag) := by
  cases scope with
  | line => exact absurd rfl hscope
  | set => rfl
  | stack => rfl

/-- The three snoops of a line without a grant differ in their operation alone. -/
theorem takeIn_lineSnoop {s : State} {tag : Tag} {line : LineNo} {r : Nat × Instr}
    (hr : r ∈ [(1, Instr.snpInv tag line .line 0), (2, .snpData tag line), (3, .snpCur tag line)]) :
    exec r.2 s = .next (work (inRun s r.2)) ∧
      takeIn s r.2 = snpArrives s r.1 tag (fun u => snoopLine u (snoopKey u (tagSource tag) line.toNat) r.1 tag 0) := by
  simp only [List.mem_cons, List.not_mem_nil, or_false] at hr
  rcases hr with rfl | rfl | rfl <;> exact ⟨rfl, rfl⟩

section
variable {u : State} {key op : Nat} {tag : Tag} (hkept : u.coh.sentDirty.find? (fun x => x.tag.toNat / 4 == tag.toNat / 4) = none)
include hkept

theorem snoopLine_evicting {t : ReqTx} (hreq : mget u.coh.reqs key = some t) (hstage : t.stage = .evicting) :
    snoopLine u key op tag 0 = respondLine u 5 tag (keyLine key) := by
  have hevicting : lineEvicting u key = true := by simp [lineEvicting, hreq, hstage]
  unfold snoopLine
  rw [hkept]
  exact (if_neg (by simp)).trans (if_pos hevicting)

/-- A line of which there is no copy and no request is in I, and every snoop of it is answered as from I. -/
theorem snoopLine_invalid (hreq : mget u.coh.reqs key = none) (hcopy : nearGet u key = none) :
    snoopLine u key op tag 0 = respondCmp u tag 15 0 false 0 := by
  have hidle : lineEvicting u key = false := by simp [lineEvicting, hreq]
  have hhost : snoopNeedsHost (lineSt u key) (lineHf u key) op = false := by simp [snoopNeedsHost, lineHf, hcopy]
  have hact : snoopAct u key op tag none = respondCmp u tag 15 0 false 0 := by rw [snoopAct, hcopy]
  unfold snoopLine
  rw [hkept]
  exact (if_neg (by simp)).trans ((if_neg (Bool.eq_false_iff.mp hidle)).trans ((if_neg (Bool.eq_false_iff.mp hhost)).trans hact))

end

/-- Settles O27: a snoop that arrives in time acts on its scope or its line, by the state of the line. -/
theorem snoopsAtRequester : Obligations.SnoopsAtRequester := by
  unfold Obligations.SnoopsAtRequester
  intro s tag line hrun
  refine ⟨?_, ?_⟩
  · intro sc g hscope hyoung hend
    exact endsWork_takeIn rfl hrun ((takeIn_snpInv_scope hscope).trans (snpArrives_ready rfl hyoung hend _))
  · intro r hr got u key hyoung
    obtain ⟨hexec, htake⟩ := takeIn_lineSnoop (s := s) hr
    refine ⟨fun hend => endsWork_takeIn hexec hrun (htake.trans (snpArrives_early rfl hyoung hend _)), fun hend hkept => ?_⟩
    have hline := htake.trans (snpArrives_ready rfl hyoung hend _)
    refine ⟨fun t hreq hstage => ?_, fun hreq hcopy => ?_⟩
    · exact endsWork_takeIn hexec hrun (hline.trans (snoopLine_evicting hkept hreq hstage))
    · exact endsWork_takeIn hexec hrun (hline.trans (snoopLine_invalid hkept hreq hcopy))

/-! ### Responses (R264, R273, R276, R281, R369, R370) -/

section
variable {s : State} {tag : Tag} {src : Nat} {poison contended dirty hostDirty : Bool} {vers pod : Nat} {value : Line} {dec : DecOutcome}
  (hyoung : (consumeTag s 2 1 tag).2.old = false)
include hyoung

theorem dataBody_late (hnone : txFor (consumeTag s 2 1 tag).1 tag = none) :
    dataBody s tag src poison contended dirty hostDirty vers pod value dec = lateResponse (consumeTag s 2 1 tag).1 := by
  simp only [dataBody, hyoung, hnone, Bool.false_eq_true, if_false]

variable {key : Nat} {tx : E2E} (htx : txFor (consumeTag s 2 1 tag).1 tag = some (key, tx))
include htx

theorem dataBody_snoop {k : Nat} {n : Node} (hsnoop : tx.purpose = .snoop k n) :
    dataBody s tag src poison contended dirty hostDirty vers pod value dec =
      snoopAnswered (closeTx (consumeTag s 2 1 tag).1 key) k n tag
        (if dirty || hostDirty then .dirty (value, poison) dirty hostDirty else .clean) := by
  simp only [dataBody, hyoung, htx, hsnoop, Bool.false_eq_true, if_false]

theorem dataBody_line {k : Nat} (hline : tx.purpose = .line k) :
    dataBody s tag src poison contended dirty hostDirty vers pod value dec =
      reqGranted (closeTx (consumeTag s 2 1 tag).1 key) k tag src false (value, poison) contended := by
  simp only [dataBody, hyoung, htx, hline, Bool.false_eq_true, if_false]

end

section
variable {s : State} {tag : Tag} {key : Nat} {tx : E2E}

theorem dataOwnedBody_line (hyoung : (consumeTag s 2 2 tag).2.old = false)
    (htx : txFor (consumeTag s 2 2 tag).1 tag = some (key, tx)) {k : Nat} (hline : tx.purpose = .line k) (src : Nat)
    (poison contended : Bool) (value : Line) : dataOwnedBody s tag src poison contended value =
      reqGranted (closeTx (consumeTag s 2 2 tag).1 key) k tag src true (value, poison) contended := by
  simp only [dataOwnedBody, hyoung, htx, hline, Bool.false_eq_true, if_false]

/-- A Cmp with the tag of another device acknowledges a grant, unless snoop data waits for it. -/
theorem cmpBody_acknowledges (hyoung : (consumeTag s 2 3 tag).2.old = false) (hother : tagSource tag ≠ myNode (consumeTag s 2 3 tag).1)
    (hkept : (consumeTag s 2 3 tag).1.coh.sentDirty.any (fun x => x.tag.toNat / 4 == tag.toNat / 4) = false) (src status : Nat)
    (contended : Bool) (vers : Nat) : cmpBody s tag src status contended vers = grantAcked (consumeTag s 2 3 tag).1 tag :=
  (if_neg (Bool.eq_false_iff.mp hyoung)).trans ((if_pos hother).trans (if_neg (Bool.eq_false_iff.mp hkept)))

/-- A Cmp that answers a snoop is its clean answer. -/
theorem cmpBody_snoop (hyoung : (consumeTag s 2 3 tag).2.old = false) (htx : txFor (consumeTag s 2 3 tag).1 tag = some (key, tx))
    (hown : tagSource tag = myNode (consumeTag s 2 3 tag).1) {k : Nat} {n : Node} (hsnoop : tx.purpose = .snoop k n) (src status : Nat)
    (contended : Bool) (vers : Nat) : cmpBody s tag src status contended vers =
      snoopAnswered (closeTx (consumeTag s 2 3 tag).1 key) k n tag .clean := by
  simp only [cmpBody, cmpActs, hyoung, hown, htx, hsnoop, Bool.false_eq_true, Bool.false_and, ne_eq, not_true_eq_false, if_false]

/-- A NackRetry of the incarnation last sent lets its transaction wait before the retry. -/
theorem nackRetryBody_waits (hyoung : (consumeTag s 2 4 tag).2.old = false) (htx : txFor (consumeTag s 2 4 tag).1 tag = some (key, tx))
    (hinc : tagInc tag = tx.inc) {hint : Nat} (hhint : hint % 64 ≠ 0) (cause : Nat) : nackRetryBody s tag cause hint =
      { (consumeTag s 2 4 tag).1 with e2e := { (consumeTag s 2 4 tag).1.e2e with
        txs := mset (consumeTag s 2 4 tag).1.e2e.txs key { tx with
          retryWait := true
          nacks := if cause = 1 then tx.nacks + 1 else tx.nacks } } } := by
  simp only [nackRetryBody, hyoung, htx, hinc, hhint, Bool.false_eq_true, ne_eq, not_true_eq_false, if_false]

theorem evictInFlightBody_snoop (hyoung : (consumeTag s 2 5 tag).2.old = false)
    (htx : txFor (consumeTag s 2 5 tag).1 tag = some (key, tx)) {k : Nat} {n : Node} (hsnoop : tx.purpose = .snoop k n) :
    evictInFlightBody s tag = snoopAnswered (closeTx (consumeTag s 2 5 tag).1 key) k n tag .inFlight := by
  simp only [evictInFlightBody, hyoung, htx, hsnoop, Bool.false_eq_true, if_false]

theorem evictAckBody_writeback (hyoung : (consumeTag s 2 6 tag).2.old = false)
    (htx : txFor (consumeTag s 2 6 tag).1 tag = some (key, tx)) {k : Nat} (hwriteback : tx.purpose = .writeback k) :
    evictAckBody s tag = reqEvicted (closeTx (consumeTag s 2 6 tag).1 key) k := by
  simp only [evictAckBody, hyoung, htx, hwriteback, Bool.false_eq_true, if_false]

end

/-- Settles O28: each response by the lemma of its operation and of the purpose of the transaction its tag names. -/
theorem responses : Obligations.Responses := by
  unfold Obligations.Responses
  intro s tag src poison contended value
  refine ⟨fun hyoung => ⟨?_, ?_, ?_⟩, fun hyoung key tx k htx hline => ?_, fun hyoung => ⟨?_, ?_⟩,
    fun hyoung key tx cause hint htx hinc hhint => ?_, fun hyoung line key tx k n htx hsnoop => ?_,
    fun hyoung line key tx k htx hwriteback => ?_⟩
  · exact fun hd bulk vers pod hnone => endsWork_of_eq rfl (dataBody_late hyoung hnone)
  · intro key tx k n hd bulk vers pod htx hsnoop
    have hdata := fun dirty hostDirty => endsWork_of_eq (c := .data tag src poison contended dirty hostDirty bulk vers pod value) rfl
      (dataBody_snoop hyoung htx hsnoop)
    exact ⟨hdata true hd, hdata false true, hdata false false⟩
  · exact fun key tx k bulk vers pod htx hline => endsWork_of_eq rfl (dataBody_line hyoung htx hline)
  · exact endsWork_of_eq rfl (dataOwnedBody_line hyoung htx hline src.toNat poison contended value)
  · exact fun status vers hother hkept => endsWork_of_eq rfl (cmpBody_acknowledges hyoung hother hkept ..)
  · exact fun vers key tx k n htx hown hsnoop => endsWork_of_eq rfl (cmpBody_snoop hyoung htx hown hsnoop ..)
  · have hcause : cause.toNat = 1 ↔ cause = 1 := BitVec.toNat_inj (y := 1#4)
    have hbody := nackRetryBody_waits hyoung htx hinc hhint cause.toNat
    simp only [hcause] at hbody
    exact endsWork_of_eq rfl hbody
  · exact endsWork_of_eq rfl (evictInFlightBody_snoop hyoung htx hsnoop)
  · exact endsWork_of_eq rfl (evictAckBody_writeback hyoung htx hwriteback)

/-! ### Writebacks at the owner (R265, R267, R362) -/

section
variable {s u : State} {h : ReqHdr} {line : Nat} (hsink : s.coh.sink.length < 4096)
include hsink

theorem evictArrives_room (hu : active (consumeTag s 3 1 h.tag).1 = u) (hyoung : (consumeTag s 3 1 h.tag).2.old = false) :
    evictArrives s h line = writeback u (lineKey (requestOwner u line) line) h none := by
  subst hu
  exact (if_neg (Nat.not_le.mpr hsink)).trans (arrive_young hyoung _)

theorem wbDirtyArrives_room (hu : active (consumeTag s 3 2 h.tag).1 = u) (hyoung : (consumeTag s 3 2 h.tag).2.old = false)
    (v : Line × Bool) : wbDirtyArrives s h line v = writeback u (lineKey (requestOwner u line) line) h (some v) := by
  subst hu
  exact (if_neg (Nat.not_le.mpr hsink)).trans (arrive_young hyoung _)

end

section
variable {u : State} {h : ReqHdr} {key : Nat} {n : Node} (hn : BitVec.ofNat 12 (tagSource h.tag) = n)
  (hfresh : crtDuplicate u h.tag h.isNew = none) (hroom : crtFull u h.tag = false)
  (hnew : u.coh.sink.any (fun x => x.tag.toNat / 4 == h.tag.toNat / 4) = false) (hidle : mget u.coh.txs key = none)
  (hserve : servingFor u (keyOwner key) = true)
include hn hfresh hroom hnew hidle hserve

/-- An Evict of a line no transaction holds takes its sender off the entry and is acknowledged. -/
theorem writeback_evict (hrecords : (dirEnt u key).records n = true) (hst : (dirEnt u key).st = .s ∨ (dirEnt u key).st = .e) :
    writeback u key h none = respondLine (crtRecordFor (setEnt u key ((dirEnt u key).dropPeer n)) (keyOwner key) h.tag h.isNew 25 0
      (keyLine key) 0 0) 6 h.tag (keyLine key) := by
  subst hn
  have hleaves : (!(dirEnt u key).owns (BitVec.ofNat 12 (tagSource h.tag)) || (dirEnt u key).st == .e) = true := by
    rcases hst with hst | hst <;> simp [DirEnt.owns, hst]
  unfold writeback
  simp only [hfresh, hroom, hnew, hidle, hserve, hrecords, hleaves, Bool.false_eq_true, if_false, Bool.not_true, Bool.and_true, if_true,
    Option.isSome_none]

/-- A WbDirty of the recorded owner takes it off the entry, its data into the sink. -/
theorem writeback_dirty (howns : (dirEnt u key).owns n = true) (v : Line × Bool) :
    writeback u key h (some v) =
      sinkPut (setEnt u key ((dirEnt u key).dropPeer n)) ⟨key, h.tag, h.isNew, v.1, v.2, false, .waiting⟩ := by
  subst hn
  unfold writeback
  simp only [hfresh, hroom, hnew, hidle, hserve, howns, Bool.false_eq_true, if_false, Bool.not_true, Bool.true_or, if_true]

end

/-- Settles O29: a writeback that finds room in the sink acts on the entry of its line. -/
theorem writebacksAtOwner : Obligations.WritebacksAtOwner := by
  unfold Obligations.WritebacksAtOwner
  intro s h line poison hostDirty value hrun hsink n
  refine ⟨?_, ?_⟩
  · intro u key hyoung hfresh hroom hnew hidle hserve hrecords hst
    exact endsWork_takeIn rfl hrun
      ((evictArrives_room hsink rfl hyoung).trans (writeback_evict rfl hfresh hroom hnew hidle hserve hrecords hst))
  · intro u key hyoung hfresh hroom hnew hidle hserve howns
    exact endsWork_takeIn rfl hrun
      ((wbDirtyArrives_room hsink rfl hyoung _).trans (writeback_dirty rfl hfresh hroom hnew hidle hserve howns _))

/-! ### Pods at the holder (R275, R331, R357) -/

section
variable {s u : State} {h : ReqHdr} {pod vers : Nat} (hu : active (consumeTag s 4 1 h.tag).1 = u)
  (hyoung : (consumeTag s 4 1 h.tag).2.old = false) (hserve : serves u = true)
include hu hyoung hserve

/-- A BlkRead of no pods, or of more than 64, is refused with status 4. -/
theorem blkReadBody_count {cnt : Nat} (hcount : cnt = 0 ∨ 64 < cnt) :
    blkReadBody s h pod cnt vers = respondCmp u h.tag h.label.toNat 4 false vers := by
  subst hu
  exact (if_neg (Bool.eq_false_iff.mp hyoung)).trans ((if_neg (by simp [hserve])).trans (if_pos hcount))

theorem blkReadBody_outside {cnt : Nat} (hsome : cnt ≠ 0) (hmany : cnt ≤ 64)
    (hlease : inLease u (tagSource h.tag) pod cnt false = false) :
    blkReadBody s h pod cnt vers = respondCmp u h.tag h.label.toNat 3 false vers := by
  subst hu
  exact (if_neg (Bool.eq_false_iff.mp hyoung)).trans ((if_neg (by simp [hserve])).trans
    ((if_neg (by omega)).trans (if_pos (by simp [hlease]))))

/-- One pod of the lease on a channel in service is read, under the label it queues by. -/
theorem blkReadBody_one (hlease : inLease u (tagSource h.tag) pod 1 false = true)
    (hin : channelOut u (paChannel u (podAddr u (tagSource h.tag) pod)) = false) :
    blkReadBody s h pod 1 vers = pushDdr u .fabric h.label.toNat
      (queueLabel h.label.toNat (consumeTag s 4 1 h.tag).2.demoted (consumeTag s 4 1 h.tag).2.yellow) false
      (.podRead h.tag pod 0 (BitVec.ofNat 16 vers) h.label.toNat) (podAddr u (tagSource h.tag) pod) 64 none := by
  subst hu
  exact (if_neg (Bool.eq_false_iff.mp hyoung)).trans ((if_neg (by simp [hserve])).trans
    ((if_neg (by omega)).trans ((if_neg (by simp [hlease])).trans (if_neg (Bool.eq_false_iff.mp hin)))))

end

section
variable {s : State} {h : ReqHdr} {kind pod vers : Nat} (hfresh : crtDuplicate s h.tag h.isNew = none) (hroom : crtFull s h.tag = false)
include hfresh hroom

/-- A recorded BULK request that is new and finds room acts where it lies in the lease, and is answered with its status. -/
theorem bulkRecorded_new (ok : Bool) (act : State → State) : bulkRecorded s h kind pod vers ok act =
    respondCmp (crtRecord (if ok then act s else s) h.tag h.isNew kind (if ok then 0 else 3) pod 0 0) h.tag h.label.toNat
      (if ok then 0 else 3) false vers := by
  unfold bulkRecorded
  rw [hfresh]
  exact if_neg (Bool.eq_false_iff.mp hroom)

end

section
variable {s u : State} {h : ReqHdr} {pod vers : Nat} {v : Line} (hu : active (consumeTag s 4 2 h.tag).1 = u)
  (hyoung : (consumeTag s 4 2 h.tag).2.old = false) (hserve : serves u = true) (hfresh : crtDuplicate u h.tag h.isNew = none)
  (hroom : crtFull u h.tag = false)
include hu hyoung hserve hfresh hroom

theorem blkWriteBody_outside (hlease : inLease u (tagSource h.tag) pod 1 true = false) :
    blkWriteBody s h pod vers v =
      respondCmp (crtRecord u h.tag h.isNew 34 3 pod 0 0) h.tag h.label.toNat 3 false vers := by
  subst hu
  unfold blkWriteBody
  dsimp only
  rw [if_neg (Bool.eq_false_iff.mp hyoung), if_neg (by simp [hserve]), bulkRecorded_new hfresh hroom, hlease]
  rfl

/-- A pod of the lease is stored under its owner, and written to its place in DDR-5. -/
theorem blkWriteBody_inside {w : State} (hlease : inLease u (tagSource h.tag) pod 1 true = true)
    (hw : { u with fab := { u.fab with lentPods := mset u.fab.lentPods (podKey (tagSource h.tag) pod) v } } = w) :
    blkWriteBody s h pod vers v =
      respondCmp (crtRecord (pushDdr (podsWritten w h.label.toNat 1) .fabric h.label.toNat
        (queueLabel h.label.toNat (consumeTag s 4 2 h.tag).2.demoted (consumeTag s 4 2 h.tag).2.yellow) true .podWrite
        (podAddr w (tagSource h.tag) pod) 64 (some v)) h.tag h.isNew 34 0 pod 0 0) h.tag h.label.toNat 0 false vers := by
  subst hu hw
  unfold blkWriteBody
  dsimp only
  rw [if_neg (Bool.eq_false_iff.mp hyoung), if_neg (by simp [hserve]), bulkRecorded_new hfresh hroom, hlease]
  rfl

end

/-- A BlkFree of pods in the lease drops them. -/
theorem blkFreeBody_inside {s u : State} {h : ReqHdr} {pod cnt : Nat} (hu : active (consumeTag s 4 3 h.tag).1 = u)
    (hyoung : (consumeTag s 4 3 h.tag).2.old = false) (hserve : serves u = true) (hsome : cnt ≠ 0) (hmany : cnt ≤ 64)
    (hfresh : crtDuplicate u h.tag h.isNew = none) (hroom : crtFull u h.tag = false)
    (hlease : inLease u (tagSource h.tag) pod cnt false = true) : blkFreeBody s h pod cnt =
      respondCmp (crtRecord { u with fab := { u.fab with lentPods := mfilter u.fab.lentPods (fun k _ =>
        !(decide (podKey (tagSource h.tag) pod ≤ k) && decide (k < podKey (tagSource h.tag) pod + cnt))) } }
        h.tag h.isNew 35 0 pod 0 0) h.tag h.label.toNat 0 false 0 := by
  subst hu
  unfold blkFreeBody
  dsimp only
  rw [if_neg (Bool.eq_false_iff.mp hyoung), if_neg (by simp [hserve]), if_neg (by omega), bulkRecorded_new hfresh hroom, hlease]
  rfl

/-- Settles O30: each operation on pods by the lemma of its count and of its place in the lease. -/
theorem podsAtHolder : Obligations.PodsAtHolder := by
  unfold Obligations.PodsAtHolder
  intro s h pod vers value hrun o label
  refine ⟨fun hyoung hserve => ⟨?_, ?_, ?_⟩, fun hyoung hserve hfresh hroom => ⟨?_, ?_⟩, ?_⟩
  · exact endsWork_takeIn rfl hrun (blkReadBody_count rfl hyoung hserve (.inl rfl))
  · exact fun n hsome hmany hlease => endsWork_takeIn rfl hrun (blkReadBody_outside rfl hyoung hserve hsome hmany hlease)
  · intro hlease a hin
    have hbody := blkReadBody_one (vers := vers.toNat) rfl hyoung hserve hlease hin
    rw [BitVec.ofNat_toNat, BitVec.setWidth_eq] at hbody
    exact endsWork_takeIn rfl hrun hbody
  · exact fun hlease => endsWork_takeIn rfl hrun (blkWriteBody_outside rfl hyoung hserve hfresh hroom hlease)
  · exact fun hlease => endsWork_takeIn rfl hrun (blkWriteBody_inside rfl hyoung hserve hfresh hroom hlease rfl)
  · exact fun n hyoung hserve hsome hmany hfresh hroom hlease =>
      endsWork_takeIn rfl hrun (blkFreeBody_inside rfl hyoung hserve hsome hmany hfresh hroom hlease)

end Sys2Proof.Proofs.PoolCoherence
end

section
/-! SUPPORT. The fabric and the membership of the pool (09), with the states of its links (10: R347 to R352, R366 to R369, R379 to R382):
floods (R305, R307, R318, R328, R332), joining (R324 to R327, R344), leases (R129, R329 to R332), row sleep and wake (R333 to R336,
R593) and pool epochs (R337, R338, R359). Each part states what the operation of its unit does in each case, and ends with the
obligation that puts the cases together. -/

namespace Sys2Proof.Proofs.Membership

open Sys2Proof Sys2Proof.Machine Sys2Proof.Safety Sys2Proof.Proofs.OnePass

/-! ### Links that lose and find their peers (R300, R349, R350, R366, R382) -/

@[simp] theorem link_setLink_self (s : State) (l : Nat) (r : LinkRec) : link (setLink s l r) l = r := mgetD_mset_self ..

@[simp] theorem link_modLink_self (s : State) (l : Nat) (f : LinkRec → LinkRec) : link (modLink s l f) l = f (link s l) :=
  link_setLink_self ..

/-- A link in RETRAIN, with its first TRAIN frame sent and nothing heard of the peer yet (R366). -/
def retraining (s : State) (l : Nat) : State :=
  sendTrain (setLink s l { link s l with
    st := .retrain
    retrains := (link s l).retrains + 1
    retrainNs := some s.clockNs
    peerTrain := none
    identSeen := false
    expiries := 0 }) l false

section
variable {s : State} {l : Nat}

theorem toRetrain_up (hup : (link s l).isUp = true) : toRetrain s l = retraining s l := if_pos hup

theorem toRetrain_down (hdown : (link s l).isUp = false) : toRetrain s l = s := if_neg (Bool.eq_false_iff.mp hdown)

theorem linkReset_outside_reset (hreset : s.flt.inReset = false) : linkReset s l = toRetrain s l :=
  if_neg (Bool.eq_false_iff.mp hreset)

/-- A link towards no sleeping row that loses its signal retrains. -/
theorem lossOfSignal_awake (hawake : ∀ n k, peerOf s l = some (n, k) → rowAsleep s (n / 64) = false) (kind : LossKind) :
    lossOfSignal s l kind = toRetrain s l := by
  unfold lossOfSignal
  split
  next n k hpeer => exact if_neg (by simp [hawake n k hpeer])
  next => rfl

/-- A link that is up towards a sleeping row goes dark with it when it loses its signal. -/
theorem lossOfSignal_asleep {n k : Nat} (hup : (link s l).isUp = true) (hpeer : peerOf s l = some (n, k))
    (hasleep : rowAsleep s (n / 64) = true) (kind : LossKind) :
    lossOfSignal s l kind = setLink s l { link s l with st := .asleep, laser := false } := by
  unfold lossOfSignal
  rw [hpeer]
  exact if_pos (by simp [hup, hasleep])

theorem lightPresent_dark (hst : (link s l).st = .dark) (hhold : (link s l).hold = false) : lightPresent s l = toTraining s l := by
  simp [lightPresent, hst, hhold]

end

/-! ### The peer's identity (R66, R350, R351) -/

theorem isUp_of_training {r : LinkRec} (h : r.st = .training ∨ r.st = .retrain) : r.isUp = false := by
  rcases h with h | h <;> simp [LinkRec.isUp, h]

/-- The identity that a TRAIN frame carries is noted in its link. -/
def peerNoted (s : State) (l : Nat) (b : TrainBody) : State := setLink s l { link s l with peerNode := b.node, peerLink := b.link }

/-- The identity has been seen, and with READY the peer's sequence state (R351). -/
def peerSeen (u : State) (l : Nat) (b : TrainBody) : State :=
  modLink u l (fun r => { r with identSeen := true, peerTrain := if b.ready then some b else r.peerTrain })

section
variable {s u : State} {l : Nat} {b : TrainBody} (hu : peerNoted s l b = u)
  (htrain : (link s l).st = .training ∨ (link s l).st = .retrain)
include hu htrain

/-- In training and in RETRAIN the checks of R66 are made in their order: the link's use, the peer, the rate. -/
theorem trainBody_checks : trainBody s l b =
    if (linkExpect u l).1 ≠ 1 then holdLink (linkCause u l 0x04) l
    else if b.node.toNat ≠ (linkExpect u l).2.1 ∨ b.link.toNat ≠ (linkExpect u l).2.2 then holdLink (linkCause u l 0x03) l
    else if b.rate.toNat ≠ (link s l).rate.toNat then holdLink (linkCause u l 0x02) l
    else if (link s l).identSeen then peerSeen u l b
    else sendTrain (peerSeen u l b) l true := by
  subst hu
  unfold trainBody
  rw [toRetrain_down (isUp_of_training htrain)]
  refine if_pos ?_
  rcases htrain with h | h <;> simp [h]

theorem trainBody_unused (hused : (linkExpect u l).1 ≠ 1) : trainBody s l b = holdLink (linkCause u l 0x04) l :=
  (trainBody_checks hu htrain).trans (if_pos hused)

variable (hused : (linkExpect u l).1 = 1)
include hused

theorem trainBody_other_peer (hpeer : b.node.toNat ≠ (linkExpect u l).2.1 ∨ b.link.toNat ≠ (linkExpect u l).2.2) :
    trainBody s l b = holdLink (linkCause u l 0x03) l :=
  (trainBody_checks hu htrain).trans ((if_neg (not_not_intro hused)).trans (if_pos hpeer))

variable (hnode : b.node.toNat = (linkExpect u l).2.1) (hlink : b.link.toNat = (linkExpect u l).2.2)
include hnode hlink

theorem trainBody_of_peer : trainBody s l b =
    if b.rate.toNat ≠ (link s l).rate.toNat then holdLink (linkCause u l 0x02) l
    else if (link s l).identSeen then peerSeen u l b
    else sendTrain (peerSeen u l b) l true :=
  (trainBody_checks hu htrain).trans ((if_neg (not_not_intro hused)).trans (if_neg (by simp [hnode, hlink])))

theorem trainBody_other_rate (hrate : b.rate.toNat ≠ (link s l).rate.toNat) : trainBody s l b = holdLink (linkCause u l 0x02) l :=
  (trainBody_of_peer hu htrain hused hnode hlink).trans (if_pos hrate)

variable (hrate : b.rate.toNat = (link s l).rate.toNat)
include hrate

theorem trainBody_again (hseen : (link s l).identSeen = true) : trainBody s l b = peerSeen u l b :=
  (trainBody_of_peer hu htrain hused hnode hlink).trans ((if_neg (not_not_intro hrate)).trans (if_pos hseen))

/-- The first frame of the peer is answered with READY. -/
theorem trainBody_first (hseen : (link s l).identSeen = false) : trainBody s l b = sendTrain (peerSeen u l b) l true :=
  (trainBody_of_peer hu htrain hused hnode hlink).trans
    ((if_neg (not_not_intro hrate)).trans (if_neg (Bool.eq_false_iff.mp hseen)))

end

/-- What a link keeps once its peer's identity is seen, in terms of the link before the frame. -/
theorem peerSeen_peerNoted (s : State) (l : Nat) (b : TrainBody) : peerSeen (peerNoted s l b) l b =
    setLink (peerNoted s l b) l { link (peerNoted s l b) l with
      identSeen := true
      peerTrain := if b.ready then some b else (link s l).peerTrain } := by
  unfold peerSeen modLink peerNoted
  rw [link_setLink_self]

/-! ### The ends of training and retraining (R350, R352, R366, R368, R379) -/

section
variable {s : State} {l : Nat}

theorem trainingDone_up (hst : (link s l).st = .training) (hpeer : (link s l).peerTrain.isSome = true) :
    trainingDone s l true = linkComesUp s l := by
  simp [trainingDone, hst, hpeer]

theorem trainingDone_failed (hst : (link s l).st = .training) : trainingDone s l false =
    linksChanged (modLink (linkCause s l 0x02) l (fun r => { r with st := .givenUp })) := by
  simp [trainingDone, hst]

theorem giveUp_retraining (hst : (link s l).st = .retrain) : giveUp s l = linkExcluded (requeue (dropReplay
    (linkCause (setLink s l { link s l with st := .givenUp, retrainNs := none }) l 0x06) l) l) true :=
  if_neg (by simp [hst])

theorem givenUpRetry_given_up (hst : (link s l).st = .givenUp) : givenUpRetry s l = toTraining s l := if_pos (beq_iff_eq.mpr hst)

theorem linkRetrain_released (hst : (link s l).st = .givenUp ∨ (link s l).st = .held) (hhold : (link s l).hold = false) :
    linkRetrain s l = toTraining s l := by
  refine if_pos ?_
  rcases hst with hst | hst <;> simp [hst, hhold]

end

/-- A link that resumes after a retrain: its peer's acknowledgement frees the frames up to it (R352, R375). -/
def resumedLink (r : LinkRec) (t : TrainBody) (units : Nat) : LinkRec :=
  { r with
    replay := r.replay.drop (t.rxNext - 1 - r.txAcked).toNat
    txAcked := t.rxNext - 1
    st := .up
    laser := true
    retrainNs := none
    expiries := 0
    rxReplayTo := if t.txLastValid then some (t.txLast, units) else none }

/-- A link whose session starts again after a retrain (R352). -/
def restartedLink (r : LinkRec) (t : TrainBody) : LinkRec :=
  { r.fresh with st := .up, laser := true, peerSession := some t.session }

section
variable {s : State} {l : Nat} {t : TrainBody} (hst : (link s l).st = .retrain) (hpeer : (link s l).peerTrain = some t)
include hst hpeer

theorem retrainDone_resumes (hresume : t.resume = true) (hsession : (link s l).peerSession = some t.session)
    (hacked : (t.rxNext - 1 - (link s l).txAcked).toNat ≤ (link s l).replay.length) (units : Nat) : retrainDone s l units =
      linksChanged (replayAll (linkCause (setLink s l (resumedLink (link s l) t units)) l 0x05) l) := by
  unfold retrainDone
  dsimp only
  rw [if_neg (by simp [hst]), hpeer]
  simp only [resumedLink, hresume, hsession, hpeer, beq_self_eq_true, Bool.and_self, if_pos hacked]

theorem retrainDone_restarts (hresume : t.resume = false) (units : Nat) : retrainDone s l units =
    linksChanged (linkCause (modLink (dropReplay s l) l (fun r => restartedLink r t)) l 0x09) := by
  unfold retrainDone
  dsimp only
  rw [if_neg (by simp [hst]), hpeer]
  simp only [hresume, Bool.false_and]
  rfl

end

/-! ### Hold and release (R381) -/

section
variable {s : State} {l : Nat}

theorem linkHold_holds (hhold : (link s l).hold = false) : linkHold s l true =
    linksChanged (requeue (dropReplay (setLink s l { link s l with hold := true, st := .held, laser := false }) l) l) := by
  simp [linkHold, hhold]

/-- A link that only the bit holds is released into training. -/
theorem linkHold_releases (hhold : (link s l).hold = true) (hst : (link s l).st = .held) (hcheck : (link s l).heldByCheck = false) :
    linkHold s l false = toTraining (setLink s l { link s l with hold := false }) l := by
  simp [linkHold, hhold, hst, hcheck]

end

/-- Settles O34: each state of a link leaves by the lemma of its case. -/
theorem linkStates : Obligations.LinkStates := by
  unfold Obligations.LinkStates
  refine ⟨?_, ?_, ?_, ?_, ?_, ?_⟩
  · intro s l r again hup
    have hagain : toRetrain s l.toNat = again := toRetrain_up hup
    refine ⟨fun hreset => ?_, fun hawake kind => ?_, fun n k hpeer hasleep kind => ?_⟩
    · exact ends_of_eq rfl ((linkReset_outside_reset hreset).trans hagain)
    · exact endsWork_of_eq rfl ((lossOfSignal_awake hawake kind).trans hagain)
    · exact endsWork_of_eq rfl (lossOfSignal_asleep hup hpeer hasleep kind)
  · exact fun s l hst hhold => endsWork_of_eq rfl (lightPresent_dark hst hhold)
  · intro s l b u e htrain
    have hseen := peerSeen_peerNoted s l.toNat b
    refine ⟨fun hused => ?_, fun hused hpeer => ?_, fun hused hnode hlink hrate => ?_,
      fun hused hnode hlink hrate => ⟨fun h => ?_, fun h => ?_⟩⟩
    · exact endsWork_of_eq rfl (trainBody_unused rfl htrain hused)
    · exact endsWork_of_eq rfl (trainBody_other_peer rfl htrain hused hpeer)
    · exact endsWork_of_eq rfl (trainBody_other_rate rfl htrain hused hnode hlink hrate)
    · exact endsWork_of_eq rfl ((trainBody_again rfl htrain hused hnode hlink hrate h).trans hseen)
    · exact endsWork_of_eq rfl
        ((trainBody_first rfl htrain hused hnode hlink hrate h).trans (congrArg (sendTrain · l.toNat true) hseen))
  · intro s l
    refine ⟨fun hst hpeer => ?_, fun hst => ?_, fun hst => ?_, fun hst => ?_, fun hst hhold => ?_⟩
    · exact endsWork_of_eq rfl (congrArg joinsLeave (trainingDone_up hst hpeer))
    · exact endsWork_of_eq rfl (congrArg joinsLeave (trainingDone_failed hst))
    · exact endsWork_of_eq rfl (giveUp_retraining hst)
    · exact endsWork_of_eq rfl (givenUpRetry_given_up hst)
    · exact endsWork_of_eq rfl (linkRetrain_released hst hhold)
  · intro s l units t r n hst hpeer
    refine ⟨fun hresume hsession hacked => ?_, fun hresume => ?_⟩
    · exact endsWork_of_eq rfl (retrainDone_resumes hst hpeer hresume hsession hacked units.toNat)
    · exact endsWork_of_eq rfl (retrainDone_restarts hst hpeer hresume units.toNat)
  · intro s l r
    refine ⟨ends_of rfl, fun hhold => ?_, fun hhold hst hcheck => ?_⟩
    · exact endsWork_of_eq rfl (linkHold_holds hhold)
    · exact endsWork_of_eq rfl (linkHold_releases hhold hst hcheck)

/-! ### Floods (R305) -/

section
variable {s : State} {f : FloodHdr} {type opn : Nat}

/-- A flooded message that is not new is taken from its link, and no more. -/
theorem flooded_stale (hstale : ¬ News s f type opn) (fields : List (Nat × Nat)) (act : State → State) :
    flooded s f type opn fields act = consumeCtrl s type opn f.origin.toNat := by
  refine if_pos ?_
  simpa [News, or_iff_not_imp_left] using hstale

/-- A new one is spread, and then acted on. -/
theorem flooded_new (hnews : News s f type opn) (fields : List (Nat × Nat)) (act : State → State) :
    flooded s f type opn fields act = act (spread s f type opn fields) := by
  obtain ⟨horigin, hfresh⟩ := hnews
  exact if_neg (by simp [horigin, hfresh])

theorem endsWork_flooded_stale {c : Instr} {fields : List (Nat × Nat)} {act : State → State}
    (hexec : exec c s = .next (work (flooded s f type opn fields act))) (hstale : ¬ News s f type opn) :
    EndsWork c s (consumeCtrl s type opn f.origin.toNat) :=
  endsWork_of_eq hexec (flooded_stale hstale fields act)

/-- A new flood ends where the device's action on what it spread leads. -/
theorem endsWork_flooded {c : Instr} {fields : List (Nat × Nat)} {act : State → State} {u t : State}
    (hexec : exec c s = .next (work (flooded s f type opn fields act))) (hnews : News s f type opn)
    (hu : spread s f type opn fields = u) (hact : act u = t) : EndsWork c s t := by
  subst hu
  exact endsWork_of_eq hexec ((flooded_new hnews fields act).trans hact)

end

/-! ### Link vectors and member records (R307, R318) -/

theorem versionAfter_iff (a b : BitVec 16) : versionAfter a b = true ↔ a ≠ b ∧ (a - b).toNat < 2 ^ 15 := by
  simp [versionAfter]

theorem versionAfter_self (a : BitVec 16) : versionAfter a a = false := by simp [versionAfter]

section
variable {u : State} {w : MemberWire} {st : MemberSt} (hst : codeMember w.state.toNat = some st) {auth : Nat}
include hst

/-- A record of the version held, from no lower authority, is not taken. -/
theorem applyMember_held (hversion : w.version = (memberOf u w.node.toNat).version)
    (hauth : (memberOf u w.node.toNat).authority.toNat ≤ auth) : applyMember u w auth = u := by
  simp [applyMember, hst, hversion, versionAfter_self, Nat.not_lt.mpr hauth]

theorem applyMember_taken (hnew : versionAfter w.version (memberOf u w.node.toNat).version = true ∨
    (w.version = (memberOf u w.node.toNat).version ∧ auth < (memberOf u w.node.toNat).authority.toNat)) :
    applyMember u w auth = setMember u w.node.toNat st w.incarnation auth w.version := by
  rcases hnew with h | ⟨hversion, hauth⟩
  · simp [applyMember, hst, h]
  · simp [applyMember, hst, hversion, hauth]

end

/-- A member record is stored; the capacity held with it stays. -/
def memberStored (u : State) (n : Nat) (st : MemberSt) (inc : BitVec 16) (auth : Node) (v : BitVec 16) : State :=
  { u with fab := { u.fab with members := mset u.fab.members n ⟨st, inc, auth, v, (memberOf u n).lendable⟩ } }

/-- A member's record is sent on to a neighbour that it has brought into service since `u` (R305, R318). -/
def forwardedAgain (u t : State) (f : FloodHdr) (w : MemberWire) : State :=
  if !inService u w.node.toNat && inService t w.node.toNat && w.node.toNat != myNode t && (neighbourList t).contains w.node.toNat then
    sendNeighbour t w.node.toNat (mkCtrl 6 2 0 f.origin.toNat f.seq.toNat
      (memberFields w.node.toNat w.state.toNat w.incarnation.toNat w.version.toNat))
  else t

theorem routeMember_new {s : State} {f : FloodHdr} {w : MemberWire} {u t : State} (hnews : News s f 6 2)
    (hu : spread s f 6 2 (memberFields w.node.toNat w.state.toNat w.incarnation.toNat w.version.toNat) = u)
    (ht : applyMember u w f.origin.toNat = t) : routeMember s f w = forwardedAgain u t f w := by
  subst hu ht
  unfold routeMember
  exact flooded_new hnews ..

theorem forwardedAgain_served {u t : State} {w : MemberWire} (f : FloodHdr) (h : inService u w.node.toNat = true) :
    forwardedAgain u t f w = t :=
  if_neg (by simp [h])

theorem forwardedAgain_same {u t : State} {w : MemberWire} (f : FloodHdr) (h : inService t w.node.toNat = inService u w.node.toNat) :
    forwardedAgain u t f w = t :=
  if_neg (by simp [h])

@[simp] theorem memberOf_memberStored (u : State) (n : Nat) (st : MemberSt) (inc : BitVec 16) (auth : Node) (v : BitVec 16) :
    memberOf (memberStored u n st inc auth v) n = ⟨st, inc, auth, v, (memberOf u n).lendable⟩ := mgetD_mset_self ..

theorem inService_of_other {u : State} {n : Nat} (hother : n ≠ myNode u) : inService u n = ((memberOf u n).state == .inService) := by
  rw [inService, memberState, if_neg hother]

theorem inService_memberStored {u : State} {n : Nat} {st : MemberSt} (hother : n ≠ myNode u) (hsame : (memberOf u n).state = st)
    (inc : BitVec 16) (auth : Node) (v : BitVec 16) : inService (memberStored u n st inc auth v) n = inService u n := by
  rw [inService_of_other (u := memberStored u n st inc auth v) hother, inService_of_other hother, memberOf_memberStored, hsame]

section
variable {u : State} {n : Nat} {st : MemberSt} {inc : BitVec 16} {auth : Node} {v : BitVec 16}

/-- A record that changes neither state nor incarnation of another device is only stored. -/
theorem setMember_same (hother : n ≠ myNode u) (hstate : (memberOf u n).state = st) (hinc : (memberOf u n).incarnation = inc) :
    setMember u n st inc auth.toNat v = memberStored u n st inc auth v := by
  unfold setMember memberStored
  rw [BitVec.ofNat_toNat, BitVec.setWidth_eq]
  exact if_pos ⟨hstate, hinc, hother⟩

theorem setMember_self (hself : n = myNode u) : setMember u n .failed inc auth.toNat v =
    selfFailed { memberStored u n .failed inc auth v with fab := { (memberStored u n .failed inc auth v).fab with own := .failed } } := by
  unfold setMember memberStored
  rw [BitVec.ofNat_toNat, BitVec.setWidth_eq]
  exact (if_neg (fun h => h.2.2 hself)).trans (if_pos hself)

/-- A device in service that is recorded FAILED fails here (R318). -/
theorem setMember_fails (hother : n ≠ myNode u) (hserves : inService u n = true) :
    setMember u n .failed inc auth.toNat v = nodeFails (memberStored u n .failed inc auth v) n := by
  have hstate : (memberOf u n).state = .inService := by simpa [inService_of_other hother] using hserves
  unfold setMember memberStored
  rw [BitVec.ofNat_toNat, BitVec.setWidth_eq]
  exact (if_neg (by simp [hstate])).trans (if_neg hother)

end

/-! ### Aliases (R174, R176, R332) -/

/-- What a device does with a ROUTE ALIAS once it has spread it (R174, R176, R332). -/
def aliasActed (s : State) (failed owner : Nat) (serving : Bool) : State :=
  if owner = failed then
    let t := { s with fab := { s.fab with aliases := mdel s.fab.aliases failed } }
    if failed = myNode s then takeBack t else redirectBack t failed (aliasOf s failed)
  else if failed = myNode s then { s with chd := { s.chd with ownedAway := some (BitVec.ofNat 12 owner) } }
  else
    let t := aliasTaken s failed owner serving
    if serving && mhas t.fab.leaseFree failed then freeLease t failed else t

theorem endsWork_routeAlias {s u : State} {f : FloodHdr} {failed owner : Node} {regions : BitVec 8} {serving : Bool}
    (hnews : News s f 6 4) (hu : spread s f 6 4 (aliasFields failed.toNat owner.toNat regions.toNat serving) = u) {t : State}
    (ht : aliasActed u failed.toNat owner.toNat serving = t) : EndsWork (.routeAlias f failed owner regions serving) s t :=
  endsWork_flooded rfl hnews hu ht

section
variable {u : State} {failed owner : Nat} {serving : Bool}

theorem aliasActed_own (hnew : owner ≠ failed) (hself : failed = myNode u) : aliasActed u failed owner serving =
    { u with chd := { u.chd with ownedAway := some (BitVec.ofNat 12 owner) } } :=
  (if_neg hnew).trans (if_pos hself)

theorem aliasActed_named (hnew : owner ≠ failed) (hother : failed ≠ myNode u) :
    aliasActed u failed owner false = aliasTaken u failed owner false :=
  (if_neg hnew).trans ((if_neg hother).trans (if_neg (by simp)))

/-- Once the owner's lines are served elsewhere, its lease here is freed. -/
theorem aliasActed_served (hnew : owner ≠ failed) (hother : failed ≠ myNode u)
    (hfree : mhas (aliasTaken u failed owner true).fab.leaseFree failed = true) :
    aliasActed u failed owner true = freeLease (aliasTaken u failed owner true) failed :=
  (if_neg hnew).trans ((if_neg hother).trans (if_pos (by simp [hfree])))

theorem aliasActed_ended_own (hself : failed = myNode u) : aliasActed u failed failed serving =
    takeBack { u with fab := { u.fab with aliases := mdel u.fab.aliases failed } } :=
  (if_pos rfl).trans (if_pos hself)

theorem aliasActed_ended (hother : failed ≠ myNode u) : aliasActed u failed failed serving =
    redirectBack { u with fab := { u.fab with aliases := mdel u.fab.aliases failed } } failed (aliasOf u failed) :=
  (if_pos rfl).trans (if_neg hother)

end

/-- Settles O36: a flood that is not new is only taken in; a new one is spread and acted on, by the lemma of its operation. -/
theorem poolFloods : Obligations.PoolFloods := by
  unfold Obligations.PoolFloods
  refine ⟨?_, ?_, ?_, ?_, ?_⟩
  · intro s f version lendable vector w failed owner regions serving row epoch digest c hc hstale
    simp only [List.mem_cons, List.not_mem_nil, or_false] at hc
    rcases hc with rfl | rfl | rfl | rfl | rfl | rfl | rfl | rfl | rfl | rfl <;> exact endsWork_flooded_stale rfl hstale
  · intro s f version vector hnews u o held
    have hu : spread s f 6 1 [(16, version.toNat), (126, vector.toNat)] = u := rfl
    clear_value u
    refine ⟨fun hne hlt => ?_, fun h => ?_⟩
    · exact endsWork_flooded rfl hnews hu (if_pos ((versionAfter_iff ..).mpr ⟨hne, hlt⟩))
    · refine endsWork_flooded rfl hnews hu (if_neg fun hafter => ?_)
      obtain ⟨hne, hlt⟩ := (versionAfter_iff ..).mp hafter
      exact h.elim hne (Nat.not_le.mpr hlt)
  · intro s f w st hnews hst n u old v
    have hu : spread s f 6 2 (memberFields w.node.toNat w.state.toNat w.incarnation.toNat w.version.toNat) = u := rfl
    clear_value u
    have ends : ∀ {t t'}, applyMember u w f.origin.toNat = t → forwardedAgain u t f w = t' → EndsWork (.routeMember f w) s t' :=
      fun ht hagain => endsWork_of_eq rfl ((routeMember_new hnews hu ht).trans hagain)
    refine ⟨fun hversion hauth => ends (applyMember_held hst hversion hauth) (forwardedAgain_same f rfl), fun hnew => ?_⟩
    have taken := applyMember_taken hst hnew
    refine ⟨fun hother hstate hinc => ?_, ?_⟩
    · exact ends (taken.trans (setMember_same hother hstate hinc)) (forwardedAgain_same f (inService_memberStored hother hstate _ _ _))
    · rintro hserves rfl
      exact ⟨fun hself => ends (taken.trans (setMember_self hself)) (forwardedAgain_served f hserves),
        fun hother => ends (taken.trans (setMember_fails hother hserves)) (forwardedAgain_served f hserves)⟩
  · exact fun s f lendable hnews => endsWork_flooded rfl hnews rfl rfl
  · intro s f failed owner regions serving hnews u n taken ended c
    have hu : spread s f 6 4 (aliasFields failed.toNat owner.toNat regions.toNat serving) = u := rfl
    clear_value u
    refine ⟨fun hne hself => ?_, ?_, ?_, ?_, ?_⟩
    · exact endsWork_routeAlias hnews hu ((aliasActed_own (BitVec.toNat_ne.mp hne) hself).trans (by simp))
    · rintro hne hother rfl
      exact endsWork_routeAlias hnews hu (aliasActed_named (BitVec.toNat_ne.mp hne) hother)
    · rintro hne hother rfl hfree
      exact endsWork_routeAlias hnews hu (aliasActed_served (BitVec.toNat_ne.mp hne) hother hfree)
    · rintro rfl hself
      exact endsWork_routeAlias hnews hu (aliasActed_ended_own hself)
    · rintro rfl hother
      exact endsWork_routeAlias hnews hu (aliasActed_ended hother)

/-! ### A JOIN REQUEST at a device of the pool (R324 to R326) -/

/-- The JOIN REQUESTs this device has accepted in the present millisecond (R325). -/
def acceptedNow (u : State) : Nat := if u.fab.joinsMs.1 = nowMs u then u.fab.joinsMs.2 else 0

/-- A joiner put off: JOIN_WAIT with a free delay of 1 to 64 ms. -/
def putOff (u : State) (l : Nat) : State :=
  sendOnLink { u with freeIdx := u.freeIdx + 1 } l
    (mkCtrl 2 1 0 (myNode { u with freeIdx := u.freeIdx + 1 }) 0 [(7, 1 + Config.freeNat u.freeIdx % 64)])

/-- A joiner accepted: it is counted, watched from now on, and answered with ACCEPT. -/
def joinerAccepted (u : State) (l : Nat) (node : Node) (inc : BitVec 16) (custody : Bool) : State :=
  sendAccept { u with fab := { u.fab with
    joinsMs := (nowMs u, acceptedNow u + 1)
    accepted := u.fab.accepted.filter (fun a => a.1 != node) ++ [(node, inc)]
    joiningHeard := node :: u.fab.joiningHeard.filter (fun m => m != node)
    buddyIntact := if myBuddy u = some node.toNat then custody && !u.chd.resilver else u.fab.buddyIntact
    heard := mset u.fab.heard node.toNat ⟨u.clockNs, false, false, false⟩ } } l

section
variable {s u : State} {l : Nat} {node : Node} {poolId : BitVec 64} {inc : BitVec 16} {epoch : BitVec 32} {digest : BitVec 128}
  {custody : Bool} (hu : consumeCtrl s 1 1 node.toNat = u)
include hu

theorem joinRequest_refused {cause : Nat} (hcause : refuseCause u node.toNat poolId inc epoch digest = some cause) :
    joinRequest s l node.toNat poolId inc epoch digest custody =
      sendOnLink u l (mkCtrl 1 3 0 (myNode u) 0 [(4, cause)]) := by
  subst hu
  unfold joinRequest
  dsimp only
  rw [hcause]

variable (hcause : refuseCause u node.toNat poolId inc epoch digest = none)
include hcause

/-- Beyond the eighth of a millisecond a joiner is put off, and event 0x221 is raised at most once per second. -/
theorem joinRequest_put_off {w : State} (hw : putOff u l = w) (hmany : 8 ≤ acceptedNow u) :
    joinRequest s l node.toNat poolId inc epoch digest custody =
      if elapsed w w.fab.lastThrottleNs 1000000000 then
        raise { w with fab := { w.fab with lastThrottleNs := some w.clockNs } } 0x221 0
      else w := by
  subst hu hw
  unfold joinRequest
  dsimp only
  rw [hcause]
  exact if_pos hmany

/-- A joiner that is accepted is admitted where this device is in service. -/
theorem joinRequest_accepted {v : State} (hv : joinerAccepted u l node inc custody = v) (hfew : acceptedNow u < 8) :
    joinRequest s l node.toNat poolId inc epoch digest custody =
      if v.fab.own == .inService then admitNode v node.toNat inc custody else v := by
  subst hu hv
  unfold joinRequest
  dsimp only
  rw [hcause]
  refine (if_neg (Nat.not_le.mpr hfew)).trans ?_
  rw [BitVec.ofNat_toNat, BitVec.setWidth_eq]
  rfl

end

/-! ### The joiner (R324 to R327, R344) -/

/-- The answer of a device that is itself joining is noted, its sender heard, and the records it carries are judged (R326). -/
theorem joinAccept_of_joiner {s u : State} {node : Node} (hu : consumeCtrl s 1 2 node.toNat = u) (epoch : BitVec 32)
    (records : List MemberWire) : joinAccept s node.toNat 1 epoch records =
      records.foldl (fun v r => if r.node.toNat = myNode v then v else applyMember v r ((authorityOf v r.node.toNat).getD node.toNat))
        { u with fab := { u.fab with
          heard := mset u.fab.heard node.toNat ⟨u.clockNs, false, false, false⟩
          answers := ⟨node, 1⟩ :: u.fab.answers.filter (fun a => a.node.toNat != node.toNat) } } := by
  subst hu
  unfold joinAccept
  rw [BitVec.ofNat_toNat, BitVec.setWidth_eq]
  rfl

section
variable {s : State} {l : LinkNo} {n k : Nat} (hpeer : peerOf s l.toNat = some (n, k))
include hpeer

theorem joinRefuse_from (cause : Nat) : joinRefuse s l.toNat cause = raiseP (consumeCtrl s 1 3 n) 0x220 cause .none l.toNat := by
  simp [joinRefuse, hpeer]

theorem joinWait_from {u : State} (hu : consumeCtrl s 2 1 n = u) (delay : BitVec 7) : joinWait s l.toNat delay =
    { u with fab := { u.fab with joinWaiting := u.fab.joinWaiting.filter (fun w => w.1.toNat != l.toNat) ++ [(l, delay)] } } := by
  simp [joinWait, hpeer, hu]

end

theorem joinWaitExpiry_waiting {s : State} {l : Nat} (h : s.fab.joinWaiting.any (fun w => w.1.toNat == l) = true) :
    joinWaitExpiry s l =
      sendJoin { s with fab := { s.fab with joinWaiting := s.fab.joinWaiting.filter (fun w => w.1.toNat != l) } } l :=
  if_pos h

theorem joinWaitExpiry_none {s : State} {l : Nat} (h : s.fab.joinWaiting.any (fun w => w.1.toNat == l) = false) :
    joinWaitExpiry s l = s :=
  if_neg (Bool.eq_false_iff.mp h)

/-- The joining devices that decide whether this one founds the pool: those of its row, or of its column where it heard none of its
row (R326). -/
def founderPeers (s : State) : List Node :=
  let row := s.fab.joiningHeard.filter (fun n => n.toNat / 64 == myNode s / 64)
  if row = [] then s.fab.joiningHeard.filter (fun n => n.toNat % 64 == myNode s % 64) else row

/-- The founder is in service, and the row peers it has accepted with it. -/
def poolFounded (s : State) : State :=
  formEpoch (declareAll { s with fab := { s.fab with founder := true, own := .inService } }
    ((myNode s, s.fab.incarnation) ::
      (s.fab.accepted.filter (fun n => n.1.toNat / 64 == myNode s / 64)).map (fun n => (n.1.toNat, n.2))))

section
variable {s : State} (hown : s.fab.own = .joining) (hopen : s.fab.selfFenced = false)
  (hanswers : s.fab.answers.all (fun a => a.state == 1) = true)
include hown hopen hanswers

/-- A joiner that only joiners have answered founds the pool unless one of its peers has a lower ID. -/
theorem joinJudge_joiner : joinJudge s =
    if (founderPeers s).any (fun n => decide (n.toNat < myNode s)) then s else poolFounded s := by
  have hjoiners : s.fab.answers.any (fun a => a.state != 1) = false := by simpa using hanswers
  unfold joinJudge
  dsimp only
  rw [if_neg (by simp [hown, hopen]), if_neg (Bool.eq_false_iff.mp hjoiners)]
  simp only [List.isEmpty_iff]
  rfl

theorem joinJudge_not_lowest (hlower : ∃ n ∈ founderPeers s, n.toNat < myNode s) : joinJudge s = s :=
  (joinJudge_joiner hown hopen hanswers).trans (if_pos (by simpa using hlower))

theorem joinJudge_lowest (hlowest : ∀ n ∈ founderPeers s, myNode s ≤ n.toNat) : joinJudge s = poolFounded s :=
  (joinJudge_joiner hown hopen hanswers).trans (if_neg (by simpa using hlowest))

end

theorem joinRetry_alone {s : State} (halone : s.fab.alone = true) (hopen : s.fab.selfFenced = false) : joinRetry s = sendJoins s :=
  if_pos (by simp [halone, hopen])

theorem joinRetry_in_pool {s : State} (halone : s.fab.alone = false) : joinRetry s = s := if_neg (by simp [halone])

theorem rejoin_linked {s : State} (hup : ∃ l ∈ usedLinks s, (link s l).isUp = true) :
    rejoin s = sendJoins { s with fab := { s.fab with rejoin := false } } :=
  if_pos (by simpa using hup)

theorem rejoin_unlinked {s : State} (hdown : ∀ l ∈ usedLinks s, (link s l).isUp = false) :
    rejoin s = { s with fab := { s.fab with rejoin := true } } :=
  if_neg (by simpa using hdown)

/-- Settles O38: the request by its checks in their order, the joiner by what it heard. -/
theorem joining : Obligations.Joining := by
  unfold Obligations.Joining
  refine ⟨?_, ?_, ?_, ?_, ?_, ?_⟩
  · intro s l node poolId inc epoch digest custody n u k c others v
    have hu : consumeCtrl s 1 1 node.toNat = u := rfl
    have hv : joinerAccepted u l.toNat node inc custody = v := rfl
    clear_value v u
    refine ⟨fun cause hcause => endsWork_of_eq rfl (joinRequest_refused hu hcause), fun hcause hmany => ?_, fun hcause hfew => ?_⟩
    · intro w
      have putoff := joinRequest_put_off (inc := inc) (custody := custody) hu hcause (w := w) rfl hmany
      clear_value w
      exact ⟨fun h => endsWork_of_eq rfl (putoff.trans (if_neg (Bool.eq_false_iff.mp h))),
        fun h => endsWork_of_eq rfl (putoff.trans (if_pos h))⟩
    · have accepted := joinRequest_accepted hu hcause hv hfew
      exact ⟨fun h => endsWork_of_eq rfl (accepted.trans (if_neg (mt beq_iff_eq.mp h))),
        fun h => endsWork_of_eq rfl (accepted.trans (if_pos (beq_iff_eq.mpr h)))⟩
  · exact fun s l node epoch part parts records => endsWork_of_eq rfl (joinAccept_of_joiner rfl epoch records)
  · exact fun s l cause delay n k hpeer => ⟨endsWork_of_eq rfl (joinRefuse_from hpeer cause.toNat),
      endsWork_of_eq rfl (joinWait_from hpeer rfl delay)⟩
  · exact fun s l => ⟨fun h => endsWork_of_eq rfl (joinWaitExpiry_waiting h), fun h => endsWork_of_eq rfl (joinWaitExpiry_none h)⟩
  · intro s hown hopen hanswers me row col peers mine
    exact ⟨fun h => endsWork_of_eq rfl (joinJudge_not_lowest hown hopen hanswers h),
      fun h => endsWork_of_eq rfl (joinJudge_lowest hown hopen hanswers h)⟩
  · exact fun s => ⟨fun halone hopen => endsWork_of_eq rfl (joinRetry_alone halone hopen),
      fun halone => endsWork_of_eq rfl (joinRetry_in_pool halone),
      fun hup => endsWork_of_eq rfl (rejoin_linked hup), fun hdown => endsWork_of_eq rfl (rejoin_unlinked hdown)⟩

/-! ### A holder answers a lease request (R129, R330, R331) -/

/-- The lease of an owner at this holder. -/
def lentTo (u : State) (o : Nat) : Lent := mgetD u.fab.lent o ⟨0, none, 0, false⟩

/-- A lease request is denied, with its cause. -/
def denied (u : State) (o cause : Nat) : State := sendCtrl u o 5 3 (leaseFields 0 cause 0) false

/-- The size a request comes to where nothing is being recalled: no more than is asked, nor than can be lent on top of the lease. -/
def sizeGranted (u : State) (o size : Nat) : Nat := min size ((lentTo u o).sizeGib + lendable u)

/-- A lease grown to a size, and the owner told. -/
def granted (u : State) (o new : Nat) : State :=
  sendCtrl (ctrlAnswered (reserveChanged { u with fab := { u.fab with
    lent := mset u.fab.lent o { lentTo u o with sizeGib := max (lentTo u o).sizeGib new } } }) o 5 4) o 5 2 (leaseFields new 0 0) false

section
variable {s u : State} {o size : Nat} (hu : consumeCtrl s 5 1 o = u)
include hu

theorem leaseRequest_leaving (hown : u.fab.own = .leaving ∨ u.fab.own = .left) : leaseRequest s o size = denied u o 3 := by
  subst hu
  refine if_pos ?_
  rcases hown with hown | hown <;> simp [hown]

variable (hleaving : u.fab.own ≠ .leaving) (hleft : u.fab.own ≠ .left)
include hleaving hleft

theorem leaseRequest_faulty (hfault : poolFault u = true) : leaseRequest s o size = denied u o 1 := by
  subst hu
  exact (if_neg (by simp [hleaving, hleft])).trans (if_pos hfault)

variable (hfault : poolFault u = false)
include hfault

theorem leaseRequest_overdue (hoverdue : (lentTo u o).overdue = true) : leaseRequest s o size = denied u o 2 := by
  subst hu
  exact (if_neg (by simp [hleaving, hleft])).trans ((if_neg (Bool.eq_false_iff.mp hfault)).trans (if_pos hoverdue))

variable (hoverdue : (lentTo u o).overdue = false) (hrecall : (lentTo u o).recallTo = none)
include hoverdue hrecall

/-- Nothing stands against a lease of which nothing is recalled: it grows, where there is room for more than it has. -/
theorem leaseRequest_judged : leaseRequest s o size =
    if sizeGranted u o size ≤ (lentTo u o).sizeGib ∨ 12288 < sizeGranted u o size then
      denied u o (if lendCap u - lentFrames u < 262144 then 1 else 2)
    else granted u o (sizeGranted u o size) := by
  subst hu
  unfold lentTo at hoverdue hrecall
  simp only [granted, sizeGranted, lentTo, hrecall]
  unfold leaseRequest
  dsimp only
  rw [if_neg (by simp [hleaving, hleft]), if_neg (Bool.eq_false_iff.mp hfault), if_neg (Bool.eq_false_iff.mp hoverdue), hrecall]
  rfl

end

theorem granted_more {u : State} {o new : Nat} (h : (lentTo u o).sizeGib < new) : granted u o new =
    sendCtrl (ctrlAnswered (reserveChanged { u with fab := { u.fab with
      lent := mset u.fab.lent o { lentTo u o with sizeGib := new } } }) o 5 4) o 5 2 (leaseFields new 0 0) false := by
  rw [granted, Nat.max_eq_right (Nat.le_of_lt h)]

/-! ### The owner of a lease (R129, R130, R329) -/

/-- A recall that reaches the owner: event 0x228, and the size the lease is to come down to. -/
def recalled (u : State) (src : Node) (size : Nat) : State :=
  setBorrow (raiseP u 0x228 0 (.holder src) size) src.toNat { borrow u src.toNat with
    recallTo := if size < (borrow u src.toNat).sizeGib then some size else (borrow u src.toNat).recallTo }

section
variable {s u : State} {src : Node} {size : Nat} (hu : consumeCtrl s 5 4 src.toNat = u)
include hu

/-- What this device does not borrow is returned at once. -/
theorem leaseRecall_unknown (hnone : (borrow u src.toNat).sizeGib = 0) :
    leaseRecall s src.toNat size = sendCtrl u src.toNat 5 5 (leaseFields size 0 0) false := by
  subst hu
  exact if_pos hnone

/-- With no migration open, the pages above the recalled size are posted to be vacated, and what can be returned is. -/
theorem leaseRecall_known {w : State} (hw : recalled u src size = w) (hsome : (borrow u src.toNat).sizeGib ≠ 0)
    (hmigs : w.chd.migs = []) : leaseRecall s src.toNat size =
      leaseReturnCheck (leaseHeadroom
        (((w.chd.pages.filter (fun x => vacates w x.2.desc && dNode x.2.desc == src.toNat)).map (·.1)).foldl
          (fun z p => postCand z .rehome p) w)) src.toNat := by
  subst hu
  unfold leaseRecall
  rw [BitVec.ofNat_toNat, BitVec.setWidth_eq]
  refine (if_neg hsome).trans ?_
  unfold recalled at hw
  dsimp only
  rw [hw, hmigs]
  rfl

end

/-! ### The holder's side of a return, a deadline and a departure (R331, R332) -/

/-- A return frees the range above the size it names, and ends the recall. -/
theorem leaseReturn_lent {s u : State} {o size : Nat} {t : Lent} (hu : ctrlAnswered (consumeCtrl s 5 5 o) o 5 4 = u)
    (hlent : mget u.fab.lent o = some t) (hsize : size ≠ 0) : leaseReturn s o size =
      leaveCheck (reserveChanged { u with fab := { u.fab with
        lent := mset u.fab.lent o { t with sizeGib := min t.sizeGib size, recallTo := none, overdue := false }
        lentPods := mfilter u.fab.lentPods (fun k _ => k / 2 ^ 38 != o || decide (k % 2 ^ 38 < size * podsPerGib)) } }) := by
  subst hu
  unfold leaseReturn
  dsimp only
  rw [hlent]
  dsimp only
  rw [if_neg hsize]

theorem leaseDeadline_overdue {s : State} {node : Node} {t : Lent} (hlent : mget s.fab.lent node.toNat = some t)
    (hrecall : t.recallTo ≠ none) (hfresh : t.overdue = false) (hown : (borrow s node.toNat).recallTo = none) :
    leaseDeadline s node.toNat =
      raiseP { s with fab := { s.fab with lent := mset s.fab.lent node.toNat { t with overdue := true } } } 0x229 0 (.peer node) 0 := by
  have hdue : (t.recallTo.isSome && !t.overdue) = true := by simp [Option.isSome_iff_ne_none, hrecall, hfresh]
  unfold leaseDeadline
  dsimp only
  rw [if_neg (by simp [hown]), hlent, BitVec.ofNat_toNat, BitVec.setWidth_eq]
  exact if_pos hdue

/-- A leaving device that has nothing lent and an authority is LEFT; its wish to leave stands until its record says so. -/
theorem leaveCheck_left {u : State} (hown : u.fab.own = .leaving) (hlent : u.fab.lent = [])
    (hauth : (authorityOf u (myNode u)).isSome = true) : leaveCheck u = { u with fab := { u.fab with own := .left } } := by
  have hknown : (authorityOf u (myNode u)).isNone = false := Option.isNone_eq_false_iff.mpr hauth
  simp [leaveCheck, hown, hlent, hknown]

theorem leave_nothing_lent {s : State} (hown : s.fab.own = .inService) (hlent : s.fab.lent = [])
    (hauth : (authorityOf { s with fab := { s.fab with leave := true, own := .leaving } } (myNode s)).isSome = true) :
    leave s = { s with fab := { s.fab with leave := true, own := .left } } := by
  have hleaving : leave s = leaveCheck { s with fab := { s.fab with leave := true, own := .leaving } } := by
    simp [leave, hown, hlent, mkeys]
  exact hleaving.trans (leaveCheck_left rfl hlent hauth)

/-- Settles O39: holder and owner, each by the lemma of its case. -/
theorem leases : Obligations.Leases := by
  unfold Obligations.Leases
  refine ⟨?_, ?_, ?_, ?_, ?_, ?_⟩
  · intro s src size o u t cur new deny
    have hu : consumeCtrl s 5 1 o = u := rfl
    clear_value u
    refine ⟨fun hown => endsWork_of_eq rfl (leaseRequest_leaving hu hown),
      fun hleaving hleft hfault => endsWork_of_eq rfl (leaseRequest_faulty hu hleaving hleft hfault),
      fun hleaving hleft hfault hoverdue => endsWork_of_eq rfl (leaseRequest_overdue hu hleaving hleft hfault hoverdue),
      fun hleaving hleft hfault hoverdue hrecall => ?_⟩
    have hcur : cur = t.sizeGib := congrArg (·.getD t.sizeGib) hrecall
    have hnew : new = sizeGranted u o size.toNat := congrArg (fun c => min size.toNat (c + lendable u)) hcur
    clear_value new
    subst hnew
    have judged := leaseRequest_judged (size := size.toNat) hu hleaving hleft hfault hoverdue hrecall
    refine ⟨fun h => endsWork_of_eq rfl (judged.trans (if_pos h)), fun hgrows hmax => endsWork_of_eq rfl ?_⟩
    exact judged.trans ((if_neg (not_or.mpr ⟨Nat.not_le.mpr hgrows, Nat.not_lt.mpr hmax⟩)).trans (granted_more hgrows))
  · exact fun s src size cause => ⟨endsWork_of rfl, endsWork_of rfl⟩
  · intro s src size deadline n u b v w
    have hu : consumeCtrl s 5 4 n = u := rfl
    have hw : recalled u src size.toNat = w := rfl
    clear_value w u
    exact ⟨fun hnone => endsWork_of_eq rfl (leaseRecall_unknown hu hnone),
      fun hsome hmigs => endsWork_of_eq rfl (leaseRecall_known hu hw hsome hmigs)⟩
  · intro s src size t o u hlent hsize
    have hu : ctrlAnswered (consumeCtrl s 5 5 o) o 5 4 = u := rfl
    clear_value u
    exact endsWork_of_eq rfl (leaseReturn_lent hu hlent (BitVec.toNat_ne.mp hsize))
  · exact fun s node t hlent hrecall hfresh hown => endsWork_of_eq rfl (leaseDeadline_overdue hlent hrecall hfresh hown)
  · intro s u
    exact ⟨endsWork_of rfl, fun hown hlent hauth => endsWork_of_eq rfl (leave_nothing_lent hown hlent hauth)⟩

/-! ### Proposing sleep (R333) -/

/-- Every device of this row that is in service reports SLEEP_READY. -/
def rowReady (s : State) : Bool :=
  ((allInService s).filter (fun n => n / 64 == myNode s / 64)).all (fun n =>
    if n = myNode s then sleepReady s else (heardOf s n).any (·.sleepReady))

/-- The row's authority proposes sleep, and takes its own proposal. -/
def rowProposed (s : State) : State :=
  takeProposal (flood { s with fab := { s.fab with proposal := some (BitVec.ofNat 6 (myNode s / 64), []) } } 4 1
    [(6, myNode s / 64)]) (BitVec.ofNat 6 (myNode s / 64))

theorem rowReady_eq (s : State) : rowReady s = ((allInService s).filter (fun n => n / 64 == myNode s / 64)).all (fun n =>
    if n = myNode s then sleepReady s else match heardOf s n with
      | some h => h.sleepReady
      | none => false) := by
  unfold rowReady
  congr 1
  funext n
  cases heardOf s n <;> rfl

theorem sleepPropose_eq (s : State) : sleepPropose s =
    if s.fab.proposal.isSome || decide (s.clockNs < s.fab.nextProposalNs) ||
      lowestInService s (fun n => n / 64 == myNode s / 64) != some (myNode s) || !rowReady s then s
    else rowProposed s := by
  rw [rowReady_eq]
  rfl

theorem sleepPropose_not_ready {s : State} (hready : rowReady s = false) : sleepPropose s = s :=
  (sleepPropose_eq s).trans (if_pos (by simp [hready]))

/-- The row's authority proposes where nothing is proposed, its wait is over, and the row is ready. -/
theorem sleepPropose_ready {s : State} (hnone : s.fab.proposal = none) (hwait : s.fab.nextProposalNs ≤ s.clockNs)
    (hauth : lowestInService s (fun n => n / 64 == myNode s / 64) = some (myNode s)) (hready : rowReady s = true) :
    sleepPropose s = rowProposed s :=
  (sleepPropose_eq s).trans (if_neg (by simp [hnone, Nat.not_lt.mpr hwait, hauth, hready]))

/-! ### Answers to a proposal (R333) -/

/-- What a device does with a PROPOSE once it has spread it. -/
def proposalActed (s : State) (f : FloodHdr) (row : BitVec 6) : State :=
  if s.fab.own != .inService then s
  else if myNode s / 64 = row.toNat && !sleepReady s then sendCtrl s f.origin.toNat 4 3 [(6, row.toNat)] false
  else takeProposal s row

section
variable {u : State} {f : FloodHdr} {row : BitVec 6}

theorem proposalActed_out_of_service (hown : u.fab.own ≠ .inService) : proposalActed u f row = u :=
  if_pos (bne_iff_ne.mpr hown)

variable (hown : u.fab.own = .inService)
include hown

theorem proposalActed_refused (hrow : myNode u / 64 = row.toNat) (hready : sleepReady u = false) :
    proposalActed u f row = sendCtrl u f.origin.toNat 4 3 [(6, row.toNat)] false :=
  (if_neg (by simp [hown])).trans (if_pos (by simp [hrow, hready]))

theorem proposalActed_taken (h : myNode u / 64 ≠ row.toNat ∨ sleepReady u = true) : proposalActed u f row = takeProposal u row := by
  refine (if_neg (by simp [hown])).trans (if_neg ?_)
  rcases h with h | h <;> simp [h]

end

/-- A CONSENT of a node is noted with the others of the proposal. -/
def consented (u : State) (row : BitVec 6) (all : List Node) : State := { u with fab := { u.fab with proposal := some (row, all) } }

/-- The row is committed: COMMIT is flooded, and the authority records the row asleep. -/
def rowCommitted (u : State) (row : BitVec 6) : State :=
  rowSleeps (flood { u with fab := { u.fab with proposal := none } } 4 4 [(6, row.toNat)]) row.toNat

section
variable {s u : State} {src : Node} {row : BitVec 6} {got all : List Node} (hu : consumeCtrl s 4 2 src.toNat = u)
  (hprop : u.fab.proposal = some (row, got)) (hall : src :: got.filter (fun m => m.toNat != src.toNat) = all)
include hu hprop hall

/-- A CONSENT to the proposal that stands commits the row once every device in service has consented. -/
theorem wakeConsent_noted : wakeConsent s src.toNat row =
    if (allInService u).all (fun n => all.contains (BitVec.ofNat 12 n)) then rowCommitted u row else consented u row all := by
  subst hu hall
  unfold wakeConsent addConsent
  rw [hprop]
  dsimp only
  rw [if_pos rfl, BitVec.ofNat_toNat, BitVec.setWidth_eq]
  rfl

theorem wakeConsent_missing (hmissing : ∃ n ∈ allInService u, all.contains (BitVec.ofNat 12 n) = false) :
    wakeConsent s src.toNat row = consented u row all := by
  obtain ⟨n, hserves, hnot⟩ := hmissing
  refine (wakeConsent_noted hu hprop hall).trans (if_neg fun h => ?_)
  exact Bool.eq_false_iff.mp hnot (List.all_eq_true.mp h n hserves)

theorem wakeConsent_complete (hcomplete : ∀ n ∈ allInService u, all.contains (BitVec.ofNat 12 n) = true) :
    wakeConsent s src.toNat row = rowCommitted u row :=
  (wakeConsent_noted hu hprop hall).trans (if_pos (List.all_eq_true.mpr hcomplete))

end

/-- The proposal is aborted, and none follows for 60 s (R333). -/
def proposalAborted (u : State) (row : BitVec 6) : State :=
  flood { u with fab := { u.fab with proposal := none, nextProposalNs := u.clockNs + 60000000000 } } 4 5 [(6, row.toNat)]

section
variable {s u : State}

theorem abortProposal_proposed {row : BitVec 6} {got : List Node} (h : u.fab.proposal = some (row, got)) :
    abortProposal u = proposalAborted u row := by
  unfold abortProposal
  rw [h]
  rfl

theorem abortProposal_none (h : u.fab.proposal = none) : abortProposal u = u := by
  unfold abortProposal
  rw [h]

variable {src : Nat} {row : BitVec 6} (hu : consumeCtrl s 4 3 src = u)
include hu

theorem wakeRefuse_proposed {got : List Node} (h : u.fab.proposal = some (row, got)) :
    wakeRefuse s src row = proposalAborted u row := by
  subst hu
  unfold wakeRefuse
  dsimp only
  rw [h]
  exact (if_pos rfl).trans (abortProposal_proposed h)

theorem wakeRefuse_none (h : u.fab.proposal = none) : wakeRefuse s src row = u := by
  subst hu
  unfold wakeRefuse
  dsimp only
  rw [h]

end

/-! ### A row asleep and its wake (R333 to R336, R593) -/

/-- This device owes a row no CONSENT any more. -/
def consentCleared (u : State) (row : Nat) : State :=
  { u with fab := { u.fab with consentOwed := u.fab.consentOwed.filter (fun r => r.toNat != row) } }

/-- A row is recorded asleep, its devices in service with it. -/
def rowRecorded (x : State) (row : Nat) : State :=
  { x with fab := { x.fab with
    rowsAsleep := x.fab.rowsAsleep ||| ((1 : BitVec 64) <<< row)
    slept := mset x.fab.slept row x.clockNs
    waking := mdel x.fab.waking row
    members := mmap x.fab.members (fun n m => if n / 64 = row ∧ m.state = .inService then { m with state := .asleep } else m) } }

/-- Another row's COMMIT is recorded, but for one that a ROW_WAKE of the same cycle undoes. -/
theorem rowSleeps_other {u : State} {row : Nat} (hwake : mget u.fab.waking row ≠ some u.clockNs) (hother : myNode u / 64 ≠ row) :
    rowSleeps u row = rowRecorded (raise (consentCleared u row) 0x22A 0) row := by
  unfold rowSleeps
  dsimp only
  rw [if_neg hwake]
  have hown : decide (myNode (consentCleared u row) / 64 = row) = false := decide_eq_false hother
  unfold consentCleared at hown
  rw [hown]
  rfl

/-- What a device does with a ROW_WAKE once it has noted it. -/
def wakeActed (s : State) (row : Nat) : State := if rowAsleep s row then lightRow (ownWake s row) row else s

theorem wakePatternLimit_dark {s : State} {l since : Nat} (hwake : (link s l).wakeSince = some since) (hdown : (link s l).isUp = false) :
    wakePatternLimit s l = toTraining (modLink s l (fun r => { r with wakeSince := none })) l := by
  unfold wakePatternLimit
  rw [hwake]
  refine (if_pos rfl).trans (if_neg ?_)
  rw [link_modLink_self]
  exact Bool.eq_false_iff.mp hdown

/-- Settles O40: proposal, answers, commit and wake by the lemma of their case. -/
theorem rowSleepAndWake : Obligations.RowSleepAndWake := by
  unfold Obligations.RowSleepAndWake
  refine ⟨?_, ?_, ?_, ?_, ?_, ?_⟩
  · intro s me row members ready hnone hwait hauth
    have hready : ready = rowReady s := (rowReady_eq s).symm
    clear_value ready
    subst hready
    exact ⟨fun h => endsWork_of_eq rfl (sleepPropose_ready hnone hwait hauth h),
      fun h => endsWork_of_eq rfl (sleepPropose_not_ready h)⟩
  · intro s f row hnews u
    have hu : spread s f 4 1 [(6, row.toNat)] = u := rfl
    clear_value u
    exact ⟨fun hown => endsWork_flooded rfl hnews hu (proposalActed_out_of_service hown),
      fun hown hrow hready => endsWork_flooded rfl hnews hu (proposalActed_refused hown hrow hready),
      fun hown h => endsWork_flooded rfl hnews hu (proposalActed_taken hown h)⟩
  · intro s src row got u all hprop
    have hu : consumeCtrl s 4 2 src.toNat = u := rfl
    clear_value u
    exact ⟨fun h => endsWork_of_eq rfl (wakeConsent_missing hu hprop rfl h),
      fun h => endsWork_of_eq rfl (wakeConsent_complete hu hprop rfl h)⟩
  · intro s src row got u aborted
    have hu : consumeCtrl s 4 3 src.toNat = u := rfl
    clear_value u
    exact ⟨fun h => endsWork_of_eq rfl (wakeRefuse_proposed hu h), fun h => endsWork_of_eq rfl (wakeRefuse_none hu h),
      fun h => endsWork_of_eq rfl (abortProposal_proposed h), fun h => endsWork_of_eq rfl (abortProposal_none h)⟩
  · intro s f row u v w noted
    have hu : spread s f 4 4 [(6, row.toNat)] = u := rfl
    have hv : spread s f 4 5 [(6, row.toNat)] = v := rfl
    have hw : spread s f 4 6 [(6, row.toNat)] = w := rfl
    clear_value u v w
    have acts : ∀ {t}, News s f 4 6 → wakeActed noted row.toNat = t → EndsWork (.rowWake f row) s t :=
      fun hnews ht => endsWork_flooded rfl hnews hw ht
    clear_value noted
    refine ⟨fun hnews hwake hother => ?_, fun hnews => ?_, fun hnews h => ?_, fun hnews h => ?_⟩
    · exact endsWork_flooded rfl hnews hu (rowSleeps_other hwake hother)
    · exact endsWork_flooded rfl hnews hv rfl
    · exact acts hnews (if_neg (Bool.eq_false_iff.mp h))
    · exact acts hnews (if_pos h)
  · exact fun s l since hwake hdown => endsWork_of_eq rfl (wakePatternLimit_dark hwake hdown)

/-! ### Preparing an epoch (R337) -/

/-- The coordinator prepares the epoch of its pending sections. -/
def epochPrepared (s : State) : State :=
  flood { s with fab := { s.fab with prepare := some (s.img.active.poolEpoch, s.img.active.poolDigest, [], []) } } 7 1
    [(32, s.img.active.poolEpoch.toNat), (128, s.img.active.poolDigest.toNat)]

theorem epochPrepareStart_due {s : State} (hcoord : coordinator s = some (myNode s)) (hnext : s.img.active.poolEpoch = s.fab.epoch + 1) :
    epochPrepareStart s = epochPrepared s :=
  if_pos (by simp [hcoord, hnext])

theorem epochPrepareStart_not_due {s : State} (h : coordinator s ≠ some (myNode s) ∨ s.img.active.poolEpoch ≠ s.fab.epoch + 1) :
    epochPrepareStart s = s := by
  refine if_neg ?_
  rw [Bool.and_eq_true, decide_eq_true_iff, beq_iff_eq]
  exact not_and_or.mpr h

/-- This device's answer to a PREPARE: the operation, the epoch, and the digest of its pending sections. -/
def epochAnswered (u : State) (f : FloodHdr) (epoch : BitVec 32) (op : Nat) : State :=
  sendCtrl u f.origin.toNat 7 op [(32, epoch.toNat), (128, u.img.active.poolDigest.toNat)] false

/-- Are the pending sections those of an epoch still to come? -/
def epochPending (u : State) (epoch : BitVec 32) : Bool := u.img.active.poolEpoch == epoch && decide (u.fab.epoch.toNat < epoch.toNat)

theorem endsWork_epochPrepare {s u : State} {f : FloodHdr} {epoch : BitVec 32} {digest : BitVec 128} (hnews : News s f 7 1)
    (hu : spread s f 7 1 [(32, epoch.toNat), (128, digest.toNat)] = u) (hown : u.fab.own = .inService) {op : Nat}
    (hop : (if epochPending u epoch then 2 else 3) = op) :
    EndsWork (.epochPrepare f epoch digest) s (epochAnswered u f epoch op) := by
  subst hop
  exact endsWork_flooded rfl hnews hu (if_neg (by simp [hown]))

/-! ### The coordinator notes the answers (R337) -/

section
variable {s u : State} {src : Node} {e : BitVec 32} {d : BitVec 128} {ready bad : List Node}

theorem epochReady_noted (hu : consumeCtrl s 7 2 src.toNat = u) (hprep : u.fab.prepare = some (e, d, ready, bad)) :
    epochReady s src.toNat e = { u with fab := { u.fab with prepare := some (e, d, src :: ready, bad) } } := by
  subst hu
  unfold epochReady
  dsimp only
  rw [hprep, BitVec.ofNat_toNat, BitVec.setWidth_eq]
  exact if_pos rfl

theorem epochNotReady_noted (hu : consumeCtrl s 7 3 src.toNat = u) (hprep : u.fab.prepare = some (e, d, ready, bad)) :
    epochNotReady s src.toNat e = { u with fab := { u.fab with prepare := some (e, d, ready, src :: bad) } } := by
  subst hu
  unfold epochNotReady
  dsimp only
  rw [hprep, BitVec.ofNat_toNat, BitVec.setWidth_eq]
  exact if_pos rfl

/-- The preparation ends; with no NOT_READY the epoch is committed. -/
theorem epochPrepareTimeout_prepared (hprep : s.fab.prepare = some (e, d, ready, bad))
    (hu : { s with fab := { s.fab with prepare := none } } = u) : epochPrepareTimeout s =
      if bad.isEmpty then epochApply (flood u 7 4 [(32, e.toNat), (128, d.toNat)]) e d else u := by
  subst hu
  unfold epochPrepareTimeout
  rw [hprep]

end

/-! ### COMMIT (R64, R337, R338) -/

section
variable {u : State} {e : BitVec 32} {d : BitVec 128}

theorem epochApply_past (h : e.toNat < u.fab.epoch.toNat) : epochApply u e d = u := if_pos h

/-- A COMMIT of a later epoch puts it in force; sections that are not those it names raise 0x22E. -/
theorem epochApply_later (h : u.fab.epoch.toNat < e.toNat) : epochApply u e d =
    if u.img.active.poolEpoch = e ∧ u.img.active.poolDigest = d then
      raise (applyPool { u with fab := { u.fab with epoch := e, digest := some d } }) 0x22D 0
    else raise { u with fab := { u.fab with epoch := e, digest := some d } } 0x22E 0 := by
  have hne : e ≠ u.fab.epoch := fun he => Nat.lt_irrefl _ (he ▸ h)
  exact (if_neg (Nat.not_lt.mpr (Nat.le_of_lt h))).trans (if_neg hne)

/-- A COMMIT of the epoch in force gives its digest; other sections than the pool's take this device out of it. -/
theorem epochApply_present (h : e = u.fab.epoch) : epochApply u e d =
    if u.img.pool.poolDigest = d then { u with fab := { u.fab with digest := some d } }
    else raise { u with fab := { u.fab with digest := some d, own := .absent } } 0x22E 0 :=
  (if_neg (by simp [h])).trans (if_pos h)

end

theorem recallForReserve_enough {s : State} (h : reserveLow s ≤ framesF s) : recallForReserve s = s := if_pos h

/-- A device with room above its reserve advertises its capacity while it is in service (R328). -/
theorem capacityPeriodic_enough {s : State} (h : reserveLow s ≤ framesF s) :
    capacityPeriodic s = if s.fab.own == .inService then floodCapacity s else s := by
  rw [capacityPeriodic, recallForReserve_enough h]

/-- Settles O41: preparation, answers, commit and the periodic floods by the lemma of their case. -/
theorem poolEpochs : Obligations.PoolEpochs := by
  unfold Obligations.PoolEpochs
  refine ⟨?_, ?_, ?_, ?_, ?_, ?_⟩
  · exact fun s => ⟨fun hcoord hnext => endsWork_of_eq rfl (epochPrepareStart_due hcoord hnext),
      fun h => endsWork_of_eq rfl (epochPrepareStart_not_due h)⟩
  · intro s f epoch digest hnews u i answer hown
    have hu : spread s f 7 1 [(32, epoch.toNat), (128, digest.toNat)] = u := rfl
    clear_value u
    refine ⟨fun hepoch hlater => endsWork_epochPrepare hnews hu hown (if_pos ?_),
      fun h => endsWork_epochPrepare hnews hu hown (if_neg ?_)⟩
    · simp [epochPending, hepoch, i, hlater]
    · rcases h with h | h <;> simp [epochPending, h, i]
  · intro s src e d ready bad u v
    exact ⟨fun hprep => endsWork_of_eq rfl (epochReady_noted rfl hprep),
      fun hprep => endsWork_of_eq rfl (epochNotReady_noted rfl hprep)⟩
  · intro s e d ready bad hprep u
    have ended := epochPrepareTimeout_prepared hprep (u := u) rfl
    clear_value u
    exact ⟨fun h => endsWork_of_eq rfl (ended.trans (if_pos (List.isEmpty_iff.mpr h))),
      fun h => endsWork_of_eq rfl (ended.trans (if_neg (mt List.isEmpty_iff.mp h)))⟩
  · intro s f e d hnews u v
    have hu : spread s f 7 4 [(32, e.toNat), (128, d.toNat)] = u := rfl
    clear_value u
    have acts : ∀ {t}, epochApply u e d = t → EndsWork (.epochCommit f e d) s t := fun ht => endsWork_flooded rfl hnews hu ht
    refine ⟨fun h => acts (epochApply_past h), fun h hepoch hdigest => ?_, fun h hdiffer => ?_, fun h hdigest => ?_,
      fun h hdigest => ?_⟩
    · exact acts ((epochApply_later h).trans (if_pos ⟨hepoch, hdigest⟩))
    · exact acts ((epochApply_later h).trans (if_neg (not_and_or.mpr hdiffer)))
    · exact acts ((epochApply_present h).trans (if_pos hdigest))
    · exact acts ((epochApply_present h).trans (if_neg hdigest))
  · refine fun s => ⟨endsWork_of rfl, fun henough => ⟨fun hown => ?_, fun hown => ?_⟩, fun dst => endsWork_of rfl⟩
    · exact endsWork_of_eq rfl ((capacityPeriodic_enough henough).trans (if_pos (beq_iff_eq.mpr hown)))
    · exact endsWork_of_eq rfl ((capacityPeriodic_enough henough).trans (if_neg (mt beq_iff_eq.mp hown)))

end Sys2Proof.Proofs.Membership
end

section
/-! SUPPORT. The Dexex link layer (10): frames and the messages they carry (R353 to R360), what leaves and arrives on a link (R348, R355,
R361 to R365), and the timers of end-to-end delivery (R371 to R377). Each part states what the operation of its unit does in each
case, and ends with the obligation that puts the cases together. -/

namespace Sys2Proof.Proofs.DexexLink

open Sys2Proof Sys2Proof.Machine Sys2Proof.Safety Sys2Proof.Proofs.OnePass Sys2Proof.Proofs.Compression
  Sys2Proof.Proofs.Membership

/-! ### Packed fields -/

theorem packF_append (fs gs : List (Nat × Nat)) : packF (fs ++ gs) = packF fs + packF gs * 2 ^ widthF fs := by
  induction fs with
  | nil => simp [packF, widthF]
  | cons x fs ih =>
    simp only [List.cons_append, packF, widthF, ih, pow_add]
    ring

theorem widthF_append (fs gs : List (Nat × Nat)) : widthF (fs ++ gs) = widthF fs + widthF gs := by
  induction fs with
  | nil => exact (Nat.zero_add _).symm
  | cons x fs ih => simp only [List.cons_append, widthF, ih, Nat.add_assoc]

theorem packF_lt (fs : List (Nat × Nat)) : packF fs < 2 ^ widthF fs := by
  induction fs with
  | nil => exact Nat.one_pos
  | cons x fs ih =>
    rw [packF, widthF, Nat.mul_comm]
    exact put_lt (Nat.mod_lt _ (Nat.two_pow_pos _)) ih

theorem toNat_packF {fs : List (Nat × Nat)} {n : Nat} (h : widthF fs ≤ n) : (BitVec.ofNat n (packF fs)).toNat = packF fs := by
  rw [BitVec.toNat_ofNat]
  exact Nat.mod_eq_of_lt (lt_of_lt_of_le (packF_lt fs) (Nat.pow_le_pow_right Nat.two_pos h))

section
variable {fs : List (Nat × Nat)} {lo hi w v : Nat}

/-- The field at place `k` stands behind the bits of those before it. -/
theorem packF_field (k : Nat) (hk : fs[k]? = some (w, v)) (hlo : widthF (fs.take k) = lo) (hv : v < 2 ^ w) :
    packF fs / 2 ^ lo % 2 ^ w = v := by
  obtain ⟨hlt, hfield⟩ := List.getElem?_eq_some_iff.mp hk
  have hsplit : fs = fs.take k ++ (w, v) :: fs.drop (k + 1) := by
    rw [← hfield, ← List.drop_eq_getElem_cons, List.take_append_drop]
  have hfront : packF (fs.take k) < 2 ^ lo := hlo ▸ packF_lt _
  rw [hsplit, packF_append, hlo, Nat.add_mul_div_right _ _ (Nat.two_pow_pos lo), Nat.div_eq_of_lt hfront, Nat.zero_add, packF,
    Nat.add_mul_mod_self_left, Nat.mod_mod, Nat.mod_eq_of_lt hv]

theorem bits_packF (k : Nat) (hk : fs[k]? = some (w, v)) (hlo : widthF (fs.take k) = lo) (hhi : hi + 1 = lo + w) (hv : v < 2 ^ w) :
    bits (packF fs) hi lo = v := by
  rw [bits, hhi, Nat.add_sub_cancel_left, Nat.shiftRight_eq_div_pow]
  exact packF_field k hk hlo hv

theorem ofNat_packF {x : BitVec w} (k : Nat) (hk : fs[k]? = some (w, x.toNat)) (hlo : widthF (fs.take k) = lo) :
    BitVec.ofNat w (packF fs / 2 ^ lo) = x :=
  BitVec.eq_of_toNat_eq ((BitVec.toNat_ofNat ..).trans (packF_field k hk hlo x.isLt))

theorem nbit_of_div_mod {n i : Nat} {b : Bool} (h : n / 2 ^ i % 2 = b2n b) : nbit n i = b := by
  rw [nbit, Nat.testBit_eq_decide_div_mod_eq, h]
  cases b <;> rfl

theorem b2n_lt (b : Bool) : b2n b < 2 ^ 1 := by cases b <;> decide

theorem nbit_packF {b : Bool} (k : Nat) (hk : fs[k]? = some (1, b2n b)) (hlo : widthF (fs.take k) = lo) :
    nbit (packF fs) lo = b :=
  nbit_of_div_mod (packF_field k hk hlo (b2n_lt b))

end

/-! ### Header slots (R356, R358) -/

/-- The fields of a message's header slot, from bit 0. -/
def headFields (m : Msg) : List (Nat × Nat) :=
  [(23, m.bodyHi.toNat), (1, b2n m.joined), (1, b2n m.isNew), (4, m.age.toNat), (4, m.label.toNat), (6, m.coord.toNat),
    (3, m.form.toNat), (12, m.dst.toNat), (3, m.op.toNat), (3, 1 + m.slots.length), (4, m.vc.toNat), (64, m.word1.toNat)]

/-- The header slot of a message. -/
def headSlot (m : Msg) : BitVec 128 := BitVec.ofNat 128 (packF (headFields m))

/-- The CONT of a message, as the message that its header slot spells (R358). -/
def contMsg (m : Msg) (c : Cont) : Msg :=
  { m with op := 7, isNew := false, joined := false, bodyHi := c.bodyHi, word1 := c.word1, slots := c.slots, cont := none }

theorem packF_headFields (m : Msg) : packF (headFields m) = headWord m.vc.toNat (1 + m.slots.length) m.op.toNat m.dst.toNat
    m.form.toNat m.coord.toNat m.label.toNat m.age.toNat m.isNew m.joined m.bodyHi.toNat + 2 ^ 64 * m.word1.toNat := by
  have hsplit : headFields m = (headFields m).take 11 ++ [(64, m.word1.toNat)] := rfl
  rw [hsplit, packF_append, Nat.mul_comm]
  simp only [packF, Nat.mod_eq_of_lt m.word1.isLt, Nat.mul_zero, Nat.add_zero]
  rfl

theorem wire_of_no_cont {m : Msg} (h : m.cont = none) : m.wire = headSlot m :: m.slots := by
  rw [Msg.wire, headSlot, packF_headFields, h]
  exact List.append_nil _

theorem wire_of_cont {m : Msg} {c : Cont} (h : m.cont = some c) :
    m.wire = headSlot m :: m.slots ++ (headSlot (contMsg m c) :: (contMsg m c).slots) := by
  rw [Msg.wire, headSlot, headSlot, packF_headFields, packF_headFields, h]
  rfl

theorem length_wire (m : Msg) : m.wire.length = m.slotCount := by
  unfold Msg.wire Msg.slotCount
  cases m.cont with
  | none => simp [Nat.add_comm]
  | some c =>
    simp only [List.length_append, List.length_cons]
    omega

/-- A message as its header slot and its further slots give it: without its CONT, and of the colour of the frame. -/
def bare (m : Msg) (yellow : Bool) : Msg := { m with cont := none, yellow := yellow, rx := none }

theorem headSlot_toNat (m : Msg) : (headSlot m).toNat = packF (headFields m) := toNat_packF (fs := headFields m) le_rfl

theorem headSlot_len {m : Msg} (h : m.slots.length ≤ 4) : bits (headSlot m).toNat 59 57 = 1 + m.slots.length := by
  rw [headSlot_toNat]
  exact bits_packF 9 rfl rfl rfl (by omega)

/-- A header slot reads as the message it was made of. -/
theorem readMsg_headSlot (m : Msg) (yellow : Bool) : readMsg (headSlot m).toNat m.slots yellow = bare m yellow := by
  have hbody : BitVec.ofNat 23 (packF (headFields m)) = m.bodyHi := Nat.div_one (packF _) ▸ ofNat_packF (lo := 0) 0 rfl rfl
  have hword : BitVec.ofNat 64 (packF (headFields m) / 2 ^ 64) = m.word1 := ofNat_packF 11 rfl rfl
  have hnew : nbit (packF (headFields m)) 24 = m.isNew := nbit_packF 2 rfl rfl
  have hjoined : nbit (packF (headFields m)) 23 = m.joined := nbit_packF 1 rfl rfl
  rw [headSlot_toNat, readMsg, hbody, hword, hnew, hjoined,
    bits_packF (lo := 25) (hi := 28) 3 rfl rfl rfl m.age.isLt, bits_packF (lo := 29) (hi := 32) 4 rfl rfl rfl m.label.isLt,
    bits_packF (lo := 33) (hi := 38) 5 rfl rfl rfl m.coord.isLt, bits_packF (lo := 39) (hi := 41) 6 rfl rfl rfl m.form.isLt,
    bits_packF (lo := 42) (hi := 53) 7 rfl rfl rfl m.dst.isLt, bits_packF (lo := 54) (hi := 56) 8 rfl rfl rfl m.op.isLt,
    bits_packF (lo := 60) (hi := 63) 10 rfl rfl rfl m.vc.isLt]
  simp [bare]

/-! ### Reading one header slot (R357, R358, R360) -/

/-- Nothing is owed to the message read last: one that says a CONT follows has it. -/
def Whole (prev : Option Msg) : Prop := ∀ p, prev = some p → p.joined = true → p.cont ≠ none

/-- What reading goes on with after the header slot of `m`: `next` reads the rest, given whether only CTRL messages have come and
the message read last (R357, R358, R360). -/
def readOn (bypass ctrl : Bool) (prev : Option Msg) (m : Msg) (next : Bool → Msg → Option (List Msg)) : Option (List Msg) :=
  if m.isCtrl then
    if !ctrl || m.joined || m.op == 0 then none else (next true m).map (prev.toList ++ ·)
  else if bypass then none
  else if m.op == 7 then prev.bind (fun p => if p.joined && p.cont == none then next false (attach p m) else none)
  else if m.op == 0 || decide (topOp m.cls < m.op.toNat) then none
  else if prev.any (fun p => p.joined && p.cont == none) then none
  else (next false m).map (prev.toList ++ ·)

section
variable {yellow fuel i : Nat} {bypass ctrl : Bool} {prev : Option Msg} {m : Msg} {rest : List (BitVec 128)}
  {next : Bool → Msg → Option (List Msg)}

theorem readSlots_nil (h : Whole prev) : readSlots yellow bypass fuel i ctrl prev [] = some prev.toList := by
  cases fuel <;> cases prev with
  | none => rfl
  | some p => exact if_neg (by simpa using h p rfl)

theorem readSlots_headSlot (hlen : m.slots.length ≤ 4) :
    readSlots yellow bypass (fuel + 1) i ctrl prev (headSlot m :: m.slots ++ rest) =
      readOn bypass ctrl prev (bare m (nbit yellow i))
        (fun c x => readSlots yellow bypass fuel (i + (1 + m.slots.length)) c (some x) rest) := by
  rw [List.cons_append, readSlots.eq_def]
  simp only [headSlot_len hlen, Nat.add_sub_cancel_left, List.take_left, List.drop_left, readMsg_headSlot, List.length_append]
  rw [if_neg (by omega)]
  cases prev <;> simp [readOn]

theorem readOn_ctrl (hctrl : m.isCtrl = true) (hjoined : m.joined = false) (hop : m.op ≠ 0) :
    readOn bypass true prev m next = (next true m).map (prev.toList ++ ·) := by
  simp only [readOn, hctrl, hjoined, beq_false_of_ne hop, Bool.not_true, Bool.or_self, if_true, Bool.false_eq_true, if_false]

theorem readOn_message (hprev : Whole prev) (hctrl : m.isCtrl = false) (hop : m.op ≠ 0) (hcont : m.op ≠ 7)
    (htop : m.op.toNat ≤ topOp m.cls) : readOn false ctrl prev m next = (next false m).map (prev.toList ++ ·) := by
  have howed : prev.any (fun p => p.joined && p.cont == none) = false := by
    cases prev with
    | none => rfl
    | some p => simpa [Option.isSome_iff_ne_none] using hprev p rfl
  simp only [readOn, hctrl, beq_false_of_ne hop, beq_false_of_ne hcont, decide_eq_false (Nat.not_lt.mpr htop), howed, Bool.or_self,
    Bool.false_eq_true, if_false]

theorem readOn_cont {p : Msg} (hctrl : m.isCtrl = false) (hop : m.op = 7) (hjoined : p.joined = true) (hcont : p.cont = none) :
    readOn false ctrl (some p) m next = next false (attach p m) := by
  simp [readOn, hctrl, hop, hjoined, hcont]

end

/-! ### Reading the messages of a frame -/

/-- A message that a frame can carry: of at most five slots, with a CONT exactly where it says so, a CTRL message or one of its
class that may stand in this frame (R355, R356 to R358). -/
structure Carried (bypass : Bool) (m : Msg) : Prop where
  short : m.slots.length ≤ 4
  op : m.op ≠ 0
  here : m.rx = none
  joined : m.joined = true ↔ m.cont ≠ none
  shortCont : ∀ c, m.cont = some c → c.slots.length ≤ 4
  kind : m.isCtrl = true ∧ m.joined = false ∨ m.isCtrl = false ∧ bypass = false ∧ m.op.toNat ≤ topOp m.cls

/-- The messages of every class but CTRL have operations below 7, the CONT's (R357, R358). -/
theorem op_ne_cont {m : Msg} (hctrl : m.isCtrl = false) (htop : m.op.toNat ≤ topOp m.cls) : m.op ≠ 7 := by
  have hcls : m.cls < 5 := by
    have hvc : m.vc.toNat ≠ 15 := fun hvc => Bool.eq_false_iff.mp hctrl (beq_iff_eq.mpr (BitVec.eq_of_toNat_eq hvc))
    have hbound := m.vc.isLt
    unfold Msg.cls
    omega
  have hbelow : ∀ k < 5, topOp k < 7 := by decide
  intro hop
  rw [hop] at htop
  exact absurd htop (Nat.not_le.mpr (hbelow _ hcls))

/-- The header slot gives back a message that has no CONT. -/
theorem bare_self {m : Msg} {yellow : Bool} (hcont : m.cont = none) (hrx : m.rx = none) (hyellow : yellow = m.yellow) :
    bare m yellow = m := by
  subst hyellow
  cases m
  cases hcont
  cases hrx
  rfl

/-- The CONT read after it completes a message. -/
theorem attach_cont {m : Msg} {c : Cont} {yellow y : Bool} (hcont : m.cont = some c) (hrx : m.rx = none)
    (hyellow : yellow = m.yellow) : attach (bare m yellow) (bare (contMsg m c) y) = m := by
  subst hyellow
  cases m
  cases hcont
  cases hrx
  rfl

theorem slotCount_of_no_cont {m : Msg} (h : m.cont = none) : m.slotCount = 1 + m.slots.length := by
  rw [Msg.slotCount, h]
  exact Nat.add_zero _

theorem slotCount_of_cont {m : Msg} {c : Cont} (h : m.cont = some c) :
    m.slotCount = 1 + m.slots.length + (1 + c.slots.length) := by
  rw [Msg.slotCount, h]

section
variable {yellow fuel i : Nat} {bypass ctrl : Bool} {prev : Option Msg} {m : Msg} {rest : List (BitVec 128)}
  (hm : Carried bypass m) (hprev : Whole prev) (hyellow : nbit yellow i = m.yellow)
include hm hprev hyellow

theorem readSlots_wire_of_no_cont (hcont : m.cont = none) (hctrl : m.isCtrl = true → ctrl = true) :
    readSlots yellow bypass (fuel + 1) i ctrl prev (m.wire ++ rest) =
      (readSlots yellow bypass fuel (i + m.slotCount) m.isCtrl (some m) rest).map (prev.toList ++ ·) := by
  have hsingle : m.joined = false := by simpa [hcont] using hm.joined
  rw [wire_of_no_cont hcont, readSlots_headSlot hm.short, bare_self hcont hm.here hyellow, slotCount_of_no_cont hcont]
  rcases hm.kind with ⟨hkind, -⟩ | ⟨hkind, rfl, htop⟩
  · rw [hctrl hkind, readOn_ctrl hkind hsingle hm.op, hkind]
  · rw [readOn_message hprev hkind hm.op (op_ne_cont hkind htop) htop, hkind]

theorem readSlots_wire_of_cont {c : Cont} (hcont : m.cont = some c) :
    readSlots yellow bypass (fuel + 2) i ctrl prev (m.wire ++ rest) =
      (readSlots yellow bypass fuel (i + m.slotCount) m.isCtrl (some m) rest).map (prev.toList ++ ·) := by
  have hjoined : m.joined = true := hm.joined.mpr (by simp [hcont])
  rcases hm.kind with ⟨-, hsingle⟩ | ⟨hkind, rfl, htop⟩
  · exact absurd hjoined (Bool.eq_false_iff.mp hsingle)
  · rw [wire_of_cont hcont, List.append_assoc, readSlots_headSlot hm.short,
      readOn_message (m := bare m _) hprev hkind hm.op (op_ne_cont hkind htop) htop,
      readSlots_headSlot (m := contMsg m c) (hm.shortCont c hcont),
      readOn_cont (p := bare m _) (m := bare (contMsg m c) _) hkind rfl hjoined rfl,
      attach_cont hcont hm.here hyellow, slotCount_of_cont hcont, hkind, Nat.add_assoc i]
    rfl

/-- A message in its place is read as it was made, and costs at most as much fuel as it has slots. -/
theorem readSlots_wire (hctrl : m.isCtrl = true → ctrl = true) (hfuel : m.slotCount ≤ fuel) :
    ∃ fuel', fuel - m.slotCount ≤ fuel' ∧ readSlots yellow bypass fuel i ctrl prev (m.wire ++ rest) =
      (readSlots yellow bypass fuel' (i + m.slotCount) m.isCtrl (some m) rest).map (prev.toList ++ ·) := by
  cases hcont : m.cont with
  | none =>
    have hcount := slotCount_of_no_cont hcont
    obtain ⟨k, rfl⟩ := Nat.exists_eq_add_of_le' (show 1 ≤ fuel by omega)
    exact ⟨k, by omega, readSlots_wire_of_no_cont hm hprev hyellow hcont hctrl⟩
  | some c =>
    have hcount := slotCount_of_cont hcont
    obtain ⟨k, rfl⟩ := Nat.exists_eq_add_of_le' (show 2 ≤ fuel by omega)
    exact ⟨k, by omega, readSlots_wire_of_cont hm hprev hyellow hcont⟩

end

/-- The messages of a frame are read as they were put in, CTRL messages before the others (R355, R357, R358, R360). -/
theorem readSlots_wires {yellow : Nat} {bypass : Bool} {ms : List Msg} {fuel i : Nat} {ctrl : Bool} {prev : Option Msg}
    (hms : ∀ m ∈ ms, Carried bypass m) (horder : ms.Pairwise (fun a b => b.isCtrl = true → a.isCtrl = true))
    (hctrl : ∀ m ∈ ms, m.isCtrl = true → ctrl = true) (hprev : Whole prev)
    (hyellow : ∀ x ∈ starts i ms, nbit yellow x.1 = x.2.yellow) (hfuel : (ms.map Msg.slotCount).sum ≤ fuel) :
    readSlots yellow bypass fuel i ctrl prev (ms.map Msg.wire).flatten = some (prev.toList ++ ms) := by
  induction ms generalizing fuel i ctrl prev with
  | nil => rw [List.map_nil, List.flatten_nil, readSlots_nil hprev, List.append_nil]
  | cons m ms ih =>
    rw [List.forall_mem_cons] at hms hctrl
    obtain ⟨hfirst, hlater⟩ := List.pairwise_cons.mp horder
    obtain ⟨hself, hnext⟩ := List.forall_mem_cons.mp (show ∀ x ∈ (i, m) :: starts (i + m.slotCount) ms, _ from hyellow)
    rw [List.map_cons, List.sum_cons] at hfuel
    have hwhole : Whole (some m) := fun p hp => by
      cases hp
      exact hms.1.joined.mp
    obtain ⟨fuel', hleft, hread⟩ := readSlots_wire hms.1 hprev hself hctrl.1 (Nat.le_of_add_right_le hfuel)
    rw [List.map_cons, List.flatten_cons, hread, ih hms.2 hlater hfirst hwhole hnext (by omega)]
    rfl

/-! ### Colours (R354) -/

/-- The yellow bits of messages laid out from slot `i`, above those of the slots before. -/
def yellowFrom (acc i : Nat) (ms : List Msg) : Nat := (starts i ms).foldl (fun a x => if x.2.yellow then a + 2 ^ x.1 else a) acc

theorem yellowFrom_cons (acc i : Nat) (m : Msg) (ms : List Msg) :
    yellowFrom acc i (m :: ms) = yellowFrom (acc + b2n m.yellow * 2 ^ i) (i + m.slotCount) ms := by
  cases hyellow : m.yellow <;> simp [yellowFrom, starts, hyellow, b2n]

theorem slotCount_pos (m : Msg) : 0 < m.slotCount := by
  unfold Msg.slotCount
  omega

/-- The bit of a message is put at its first slot, behind the bits of the messages before it. -/
theorem yellow_put_lt {acc i : Nat} (h : acc < 2 ^ i) (m : Msg) : acc + b2n m.yellow * 2 ^ i < 2 ^ (i + m.slotCount) :=
  lt_of_lt_of_le (put_lt h (b2n_lt m.yellow))
    (Nat.pow_le_pow_right (by decide) (Nat.add_le_add_left (slotCount_pos m) i))

theorem yellowFrom_lt {acc i : Nat} {ms : List Msg} (h : acc < 2 ^ i) :
    yellowFrom acc i ms < 2 ^ (i + (ms.map Msg.slotCount).sum) := by
  induction ms generalizing acc i with
  | nil => exact h
  | cons m ms ih =>
    rw [yellowFrom_cons, List.map_cons, List.sum_cons, ← Nat.add_assoc]
    exact ih (yellow_put_lt h m)

/-- A stream that begins with `acc` begins with it at every width that holds it. -/
theorem begins_narrower {v acc p q : Nat} (hpq : p ≤ q) (hacc : acc < 2 ^ p) (h : v % 2 ^ q = acc) : v % 2 ^ p = acc := by
  rw [← Nat.mod_mod_of_dvd v (pow_dvd_pow 2 hpq), h, Nat.mod_eq_of_lt hacc]

section
variable {acc i : Nat} (hacc : acc < 2 ^ i)
include hacc

/-- The messages from slot `i` on change no bit below it. -/
theorem yellowFrom_begins (ms : List Msg) : yellowFrom acc i ms % 2 ^ i = acc := by
  induction ms generalizing acc i with
  | nil => exact Nat.mod_eq_of_lt hacc
  | cons m ms ih =>
    refine begins_of_put (w := m.slotCount) (c := b2n m.yellow) hacc ?_
    rw [yellowFrom_cons]
    exact ih (yellow_put_lt hacc m)

theorem nbit_yellowFrom_cons (m : Msg) (ms : List Msg) : nbit (yellowFrom acc i (m :: ms)) i = m.yellow := by
  have hput : acc + b2n m.yellow * 2 ^ i < 2 ^ (i + 1) := put_lt hacc (b2n_lt m.yellow)
  have hread : (yellowFrom acc i (m :: ms) >>> i) % 2 ^ 1 = b2n m.yellow := by
    refine read_of_put hacc (begins_narrower (Nat.add_le_add_left (slotCount_pos m) i) hput ?_)
    rw [yellowFrom_cons]
    exact yellowFrom_begins (yellow_put_lt hacc m) ms
  rw [Nat.shiftRight_eq_div_pow] at hread
  exact nbit_of_div_mod hread

/-- Each message's bit is its colour. -/
theorem nbit_yellowFrom (ms : List Msg) : ∀ x ∈ starts i ms, nbit (yellowFrom acc i ms) x.1 = x.2.yellow := by
  induction ms generalizing acc i with
  | nil => exact fun _ hx => absurd hx List.not_mem_nil
  | cons m ms ih =>
    refine List.forall_mem_cons.mpr ⟨nbit_yellowFrom_cons hacc m ms, ?_⟩
    rw [yellowFrom_cons]
    exact ih (yellow_put_lt hacc m)

end

theorem yellowBits_lt {ms : List Msg} (h : (ms.map Msg.slotCount).sum ≤ 15) : yellowBits ms < 2 ^ 15 :=
  lt_of_lt_of_le (yellowFrom_lt (acc := 0) (i := 0) Nat.one_pos) (Nat.pow_le_pow_right Nat.two_pos ((Nat.zero_add _).trans_le h))

theorem nbit_yellowBits (ms : List Msg) : ∀ x ∈ starts 0 ms, nbit (yellowBits ms) x.1 = x.2.yellow :=
  nbit_yellowFrom (acc := 0) Nat.one_pos ms

/-! ### Headers and slots (R353, R354) -/

/-- The fields of a frame's header, from bit 0. -/
def headerFields (h : FrameHead) : List (Nat × Nat) :=
  [(1, 0), (4, h.used), (15, h.yellow), (5, h.crbCount), (4, h.crbVc), (5, h.craCount), (4, h.craVc), (12, h.ack), (12, h.seq),
    (2, h.type)]

/-- The slots of a frame as fields. -/
def slotFields (slots : List (BitVec 128)) : List (Nat × Nat) := slots.map (fun x => (128, x.toNat))

/-- A frame of a header and slots. -/
def frameOf (h : FrameHead) (slots : List (BitVec 128)) : FrameBits :=
  BitVec.ofNat 2016 (packF (headerFields h ++ slotFields slots))

/-- The fields of a header are in their ranges (R354). -/
structure InRange (h : FrameHead) : Prop where
  type : h.type < 2 ^ 2
  seq : h.seq < 2 ^ 12
  ack : h.ack < 2 ^ 12
  craVc : h.craVc < 2 ^ 4
  craCount : h.craCount < 2 ^ 5
  crbVc : h.crbVc < 2 ^ 4
  crbCount : h.crbCount < 2 ^ 5
  yellow : h.yellow < 2 ^ 15
  used : h.used < 2 ^ 4

theorem widthF_slotFields (slots : List (BitVec 128)) : widthF (slotFields slots) = 128 * slots.length := by
  induction slots with
  | nil => rfl
  | cons x slots ih =>
    rw [slotFields, List.map_cons, widthF, List.length_cons, Nat.mul_succ, Nat.add_comm]
    exact congrArg (· + 128) ih

theorem frameOf_toNat {h : FrameHead} {slots : List (BitVec 128)} (hslots : slots.length ≤ 15) :
    (frameOf h slots).toNat = packF (headerFields h ++ slotFields slots) := by
  have hwidth : widthF (headerFields h ++ slotFields slots) ≤ 2016 := by
    rw [widthF_append, widthF_slotFields]
    show 64 + _ ≤ _
    omega
  exact toNat_packF hwidth

section
variable {h : FrameHead} {slots : List (BitVec 128)} (hslots : slots.length ≤ 15)
include hslots

theorem frameSlot_frameOf {i : Nat} (hi : i < slots.length) : frameSlot (frameOf h slots) i = slots[i] := by
  have hplace : (headerFields h ++ slotFields slots)[10 + i]? = some (128, slots[i].toNat) := by
    rw [List.getElem?_append_right (Nat.le_add_right 10 i)]
    show (slotFields slots)[10 + i - 10]? = _
    rw [Nat.add_sub_cancel_left, slotFields, List.getElem?_map, List.getElem?_eq_getElem hi]
    rfl
  have hbefore : widthF ((headerFields h ++ slotFields slots).take (10 + i)) = 64 + 128 * i := by
    have htake : (headerFields h ++ slotFields slots).take (10 + i) = headerFields h ++ slotFields (slots.take i) := by
      rw [slotFields, slotFields, List.map_take]
      exact List.take_length_add_append (l₁ := headerFields h) i
    rw [htake, widthF_append, widthF_slotFields, List.length_take_of_le hi.le]
    rfl
  rw [frameSlot, frameOf_toNat hslots]
  exact ofNat_packF (10 + i) hplace hbefore

variable (hrange : InRange h)
include hrange

theorem frameHead_frameOf : frameHead (frameOf h slots) = h := by
  have hword : (frameOf h slots).toNat % 2 ^ 64 = packF (headerFields h) := by
    have hheader : widthF (headerFields h) = 64 := rfl
    rw [frameOf_toNat hslots, packF_append, hheader, Nat.add_mul_mod_self_right]
    exact Nat.mod_eq_of_lt (packF_lt (headerFields h))
  obtain ⟨htype, hseq, hack, hcraVc, hcraCount, hcrbVc, hcrbCount, hyellow, hused⟩ := hrange
  simp only [frameHead, hword]
  rw [bits_packF (lo := 62) (hi := 63) 9 rfl rfl rfl htype, bits_packF (lo := 50) (hi := 61) 8 rfl rfl rfl hseq,
    bits_packF (lo := 38) (hi := 49) 7 rfl rfl rfl hack, bits_packF (lo := 34) (hi := 37) 6 rfl rfl rfl hcraVc,
    bits_packF (lo := 29) (hi := 33) 5 rfl rfl rfl hcraCount, bits_packF (lo := 25) (hi := 28) 4 rfl rfl rfl hcrbVc,
    bits_packF (lo := 20) (hi := 24) 3 rfl rfl rfl hcrbCount, bits_packF (lo := 5) (hi := 19) 2 rfl rfl rfl hyellow,
    bits_packF (lo := 1) (hi := 4) 1 rfl rfl rfl hused]

theorem frameSlots_frameOf (hused : h.used = slots.length) : frameSlots (frameOf h slots) = slots := by
  rw [frameSlots, frameHead_frameOf hslots hrange, hused]
  refine List.ext_getElem (by simp) (fun i hi hi' => ?_)
  rw [List.getElem_map, List.getElem_range, frameSlot_frameOf hslots hi']

end

/-- The slots of messages, in order. -/
def wires (ms : List Msg) : List (BitVec 128) := (ms.map Msg.wire).flatten

theorem length_wires (ms : List Msg) : (wires ms).length = (ms.map Msg.slotCount).sum := by
  rw [wires, List.length_flatten, List.map_map]
  exact congrArg List.sum (List.map_congr_left (fun m _ => length_wire m))

/-- A built frame is the frame of its header and of its messages' slots. -/
theorem buildFrame_eq (type seq ack craVc craCount crbVc crbCount : Nat) (ms : List Msg) :
    buildFrame type seq ack craVc craCount crbVc crbCount ms =
      frameOf ⟨type, seq, ack, craVc, craCount, crbVc, crbCount, yellowBits ms, (wires ms).length⟩ (wires ms) := by
  rw [frameOf, packF_append, Nat.mul_comm]
  rfl

/-- What a built frame is made of reads back: its header, and the messages it carries. -/
theorem buildFrame_reads {type seq ack craVc craCount crbVc crbCount : Nat} {ms : List Msg} {bypass : Bool}
    (hrange : InRange ⟨type, seq, ack, craVc, craCount, crbVc, crbCount, yellowBits ms, (ms.map Msg.slotCount).sum⟩)
    (hms : ∀ m ∈ ms, Carried bypass m) (horder : ms.Pairwise (fun a b => b.isCtrl = true → a.isCtrl = true)) :
    let b := buildFrame type seq ack craVc craCount crbVc crbCount ms
    frameHead b = ⟨type, seq, ack, craVc, craCount, crbVc, crbCount, yellowBits ms, (ms.map Msg.slotCount).sum⟩ ∧
      readSlots (frameHead b).yellow bypass 15 0 true none (frameSlots b) = some ms := by
  have hfew := Nat.le_of_lt_succ hrange.used
  rw [← length_wires] at hrange hfew ⊢
  rw [buildFrame_eq]
  dsimp only
  rw [frameSlots_frameOf hfew hrange rfl, frameHead_frameOf hfew hrange]
  refine ⟨rfl, readSlots_wires hms horder (fun _ _ _ => rfl) (fun _ hp => nomatch hp) (nbit_yellowBits ms) ?_⟩
  exact length_wires ms ▸ hfew

/-- Settles O59: every message is one that the frame can carry, and the CTRL messages stand first. -/
theorem framesCarryTheirMessages : Obligations.FramesCarryTheirMessages := by
  unfold Obligations.FramesCarryTheirMessages
  intro type seq ack craVc craCount crbVc crbCount ctrls others bypass ms b htype hseq hack hcraVc hcraCount hcrbVc hcrbCount htotal
    hall hctrls hothers hbypass
  rw [← List.sum_eq_foldl] at htotal ⊢
  have hctrl : ∀ m ∈ ctrls, m.isCtrl = true := fun m hm => beq_iff_eq.mpr (hctrls m hm).1
  have hother : ∀ m ∈ others, m.isCtrl = false := fun m hm => beq_false_of_ne (hothers m hm).1
  refine buildFrame_reads ⟨htype, hseq, hack, hcraVc, hcraCount, hcrbVc, hcrbCount, yellowBits_lt htotal, Nat.lt_succ_of_le htotal⟩
    (fun m hm => ?_) ?_
  · obtain ⟨hshort, hop, hrx⟩ := hall m hm
    rcases List.mem_append.mp hm with hm | hm
    · obtain ⟨-, hjoined, hcont, -, -⟩ := hctrls m hm
      exact ⟨hshort, hop, hrx, by simp [hjoined, hcont], fun c hc => by simp [hcont] at hc, .inl ⟨hctrl m hm, hjoined⟩⟩
    · obtain ⟨-, htop, hjoined, hcont⟩ := hothers m hm
      have hdata : bypass = false := Bool.eq_false_iff.mpr (fun h => List.ne_nil_of_mem hm (hbypass h))
      exact ⟨hshort, hop, hrx, hjoined, hcont, .inr ⟨hother m hm, hdata, htop⟩⟩
  · refine List.pairwise_append.mpr ⟨List.pairwise_of_forall_mem_list ?_, List.pairwise_of_forall_mem_list ?_, ?_⟩
    · exact fun a ha _ _ _ => hctrl a ha
    · exact fun _ _ b hb h => absurd h (Bool.eq_false_iff.mp (hother b hb))
    · exact fun a ha _ _ _ => hctrl a ha

/-! ### Frames that leave a link (R355, R362, R364) -/

section
variable {s u : State} {l : Nat} {ms : List Msg} (hup : (link s l).isUp = true)
include hup

/-- A frame leaves with what the queues give it, while fewer than 128 wait for their acknowledgement. -/
theorem frameSendBody_sends {bypass : Bool} (hroom : (link s l).replay.length < 128)
    (hbypass : decide (120 ≤ (link s l).replay.length) = bypass) (hfill : fillFrame l bypass 15 s 15 [] = (u, ms))
    (hms : ms ≠ []) : frameSendBody s l = sendFrame u l (if bypass then 2 else 0) ms := by
  unfold frameSendBody
  dsimp only
  rw [if_neg (by simp [hup, hroom]), hbypass, hfill]
  exact if_neg (by simpa using hms)

theorem ackOnly_owed (howed : (link s l).ackOwed = true) : ackOnly s l =
    let b := buildFrame 1 0 ((link s l).rxNext - 1).toNat 0 0 0 0 []
    emit (setLink s l { link s l with ackOwed := false, frameNs := s.clockNs }) (.frame (BitVec.ofNat 8 l) b (frameCrc b)) :=
  if_pos (by simp [hup, howed])

theorem creditReturn_owing (howing : owing (link s l) ≠ []) (hroom : (link s l).replay.length < 120) :
    creditReturn s l = sendFrame s l 0 [] :=
  if_pos (by simp [hup, howing, hroom])

end

/-! ### The replay timer (R365) -/

/-- An expiry of the replay timer is counted, in its link and as a performance event. -/
def expiryNoted (s : State) (l : Nat) : State :=
  count (setLink s l { link s l with replays := (link s l).replays + 1, expiries := (link s l).expiries + 1 }) (0x1B0 + l / 8)

section
variable {s : State} {l : Nat} (hup : (link s l).isUp = true) (hreplay : (link s l).replay ≠ [])
include hup hreplay

theorem replayExpiry_waiting : replayExpiry s l = if (link s l).expiries + 1 = 4 then
    toRetrain (linkCause (expiryNoted s l) l 0x08) l else replayAll (expiryNoted s l) l :=
  if_neg (by simp [hup, hreplay])

theorem replayExpiry_again (hfew : (link s l).expiries + 1 ≠ 4) : replayExpiry s l = replayAll (expiryNoted s l) l :=
  (replayExpiry_waiting hup hreplay).trans (if_neg hfew)

/-- The fourth expiry in a row takes the link to RETRAIN. -/
theorem replayExpiry_fourth (hfour : (link s l).expiries + 1 = 4) :
    replayExpiry s l = toRetrain (linkCause (expiryNoted s l) l 0x08) l :=
  (replayExpiry_waiting hup hreplay).trans (if_pos hfour)

end

/-! ### Frames that arrive (R360, R363, R364) -/

/-- The messages that the slots of a frame read as. -/
def frameMsgs (b : FrameBits) : Option (List Msg) :=
  readSlots (frameHead b).yellow ((frameHead b).type == 2) 15 0 true none (frameSlots b)

/-- The state in which a frame is judged: a link that dozes is UP again (R590). -/
def frameSeen (s : State) (l : Nat) : State := frameWakes (setLink s l { link s l with st := .up, frameNs := s.clockNs })

/-- A link once a well-formed frame has acknowledged and ended a run of malformed ones. -/
def acknowledged (r : LinkRec) (h : FrameHead) : LinkRec :=
  applyAck { r with malformedRun := 0, lastMalformed := none } (BitVec.ofNat 12 h.ack)

/-- A well-formed frame at the link `a` that it acknowledged, by its type and its place in the sequence (R363, R364). -/
def frameTaken (v : State) (l : Nat) (a : LinkRec) (b : FrameBits) : State :=
  let d := (BitVec.ofNat 12 (frameHead b).seq - a.rxNext).toNat
  if (frameHead b).type = 1 then v
  else if d = 0 then acceptFrame v l (frameHead b) ((frameMsgs b).getD [])
  else if 2048 ≤ d then setLink v l { a with ackOwed := true }
  else v

/-- A frame is judged malformed or taken at the link `r`. -/
def frameJudged (u : State) (l : Nat) (r : LinkRec) (b : FrameBits) : State :=
  if malformed u r (frameHead b) (frameMsgs b) then onMalformed u l b
  else frameTaken (setLink u l (acknowledged r (frameHead b))) l (acknowledged r (frameHead b)) b

section
variable {s : State} {l : Nat} {b : FrameBits}

theorem receiveFrame_up (hup : (link s l).isUp = true) : receiveFrame s l b =
    if (frameHead b).type = 3 then frameSeen s l else frameJudged (frameSeen s l) l (link (frameSeen s l) l) b :=
  if_neg (by simp [hup])

theorem frameJudged_wellFormed {u : State} {r : LinkRec} (h : malformed u r (frameHead b) (frameMsgs b) = false) :
    frameJudged u l r b = frameTaken (setLink u l (acknowledged r (frameHead b))) l (acknowledged r (frameHead b)) b :=
  if_neg (Bool.eq_false_iff.mp h)

/-- A well-formed frame at an UP link is taken at the link that it woke and acknowledged. -/
theorem receiveFrame_wellFormed {u : State} {r : LinkRec} (hup : (link s l).isUp = true) (htype : (frameHead b).type ≠ 3)
    (hu : frameSeen s l = u) (hr : { link s l with st := .up, frameNs := s.clockNs } = r)
    (hwell : malformed u r (frameHead b) (frameMsgs b) = false) :
    receiveFrame s l b = frameTaken (setLink u l (acknowledged r (frameHead b))) l (acknowledged r (frameHead b)) b := by
  have hlink : link u l = r := by
    rw [← hu, ← hr]
    exact link_setLink_self s l _
  rw [receiveFrame_up hup, if_neg htype, hu, hlink, frameJudged_wellFormed hwell]

section
variable {v : State} {a : LinkRec}

theorem frameTaken_ack (hack : (frameHead b).type = 1) : frameTaken v l a b = v := if_pos hack

variable (hseq : (frameHead b).type ≠ 1)
include hseq

theorem frameTaken_next (hnext : (BitVec.ofNat 12 (frameHead b).seq - a.rxNext).toNat = 0) :
    frameTaken v l a b = acceptFrame v l (frameHead b) ((frameMsgs b).getD []) :=
  (if_neg hseq).trans (if_pos hnext)

/-- A frame with a gap before it is dropped. -/
theorem frameTaken_gap (hnext : (BitVec.ofNat 12 (frameHead b).seq - a.rxNext).toNat ≠ 0)
    (hgap : (BitVec.ofNat 12 (frameHead b).seq - a.rxNext).toNat < 2048) : frameTaken v l a b = v :=
  (if_neg hseq).trans ((if_neg hnext).trans (if_neg (Nat.not_le.mpr hgap)))

/-- A frame that was seen before is acknowledged again. -/
theorem frameTaken_seen (hseen : 2048 ≤ (BitVec.ofNat 12 (frameHead b).seq - a.rxNext).toNat) :
    frameTaken v l a b = setLink v l { a with ackOwed := true } :=
  (if_neg hseq).trans ((if_neg (by omega)).trans (if_pos hseen))

end

end

/-- Frames of all three kinds are received alike. -/
theorem exec_frame {s : State} {l : LinkNo} {b : FrameBits} {c : Instr}
    (hc : c ∈ [.dataFrame l b, .bypassFrame l b, .ackFrame l b]) : exec c s = .next (work (receiveFrame s l.toNat b)) := by
  simp only [List.mem_cons, List.not_mem_nil, or_false] at hc
  rcases hc with rfl | rfl | rfl <;> rfl

/-- Settles O33: frames that leave by the room in the replay buffer, frames that arrive by their type and place in the sequence,
and the timers by what is owed. -/
theorem linkFrames : Obligations.LinkFrames := by
  unfold Obligations.LinkFrames
  refine ⟨?_, ?_, ?_, ?_⟩
  · intro s u l ms hup hms
    refine ⟨fun hroom hfill => ?_, fun hlong hroom hfill => ?_⟩
    · exact endsWork_of_eq rfl (frameSendBody_sends (bypass := false) hup (by omega) (decide_eq_false (by omega)) hfill hms)
    · exact endsWork_of_eq rfl (frameSendBody_sends (bypass := true) hup hroom (decide_eq_true hlong) hfill hms)
  · intro s l bits c hc h r u ms a v d hup htype hwell
    have htaken : receiveFrame s l.toNat bits = frameTaken v l.toNat a bits := receiveFrame_wellFormed hup htype rfl rfl hwell
    have ends : ∀ {t}, frameTaken v l.toNat a bits = t → EndsWork c s t :=
      fun ht => endsWork_of_eq (exec_frame hc) (htaken.trans ht)
    clear_value a v
    exact ⟨fun hack => ends (frameTaken_ack hack), fun hseq hnext => ends (frameTaken_next hseq hnext),
      fun hseq hnext hgap => ends (frameTaken_gap hseq hnext hgap), fun hseq hseen => ends (frameTaken_seen hseq hseen)⟩
  · intro s l hup r
    refine ⟨fun howed => ?_, fun howing hroom => ?_, fun hreplay => ⟨fun hfew => ?_, fun hfour => ?_⟩⟩
    · exact ends_of_eq rfl (ackOnly_owed hup howed)
    · exact ends_of_eq rfl (creditReturn_owing hup howing hroom)
    · exact endsWork_of_eq rfl (replayExpiry_again hup hreplay hfew)
    · exact endsWork_of_eq rfl (replayExpiry_fourth hup hreplay hfour)
  · exact fun s l => ⟨ends_of rfl, ends_of rfl⟩

/-! ### Timers of end-to-end delivery (R178, R371 to R374) -/

/-- A reissue takes the next incarnation of its tag, not new, and waits for no retry (R372, R373). -/
theorem reissue_open {s : State} {key : Nat} {tx : E2E} (h : mget s.e2e.txs key = some tx) :
    ∃ u tx', reissue s key = count u 0x060 ∧ mget u.e2e.txs key = some tx' ∧ tx'.inc = tx.inc + 1 ∧ tx'.reissued = true ∧
      tx'.msg.isNew = false ∧ tx'.retryWait = false ∧ tx'.purpose = tx.purpose := by
  unfold reissue
  rw [h]
  exact ⟨_, _, rfl, mget_mset_self .., rfl, rfl, rfl, rfl, rfl⟩

theorem e2eTimeoutBody_reissues {s : State} {key : Nat} {tx : E2E} (h : mget s.e2e.txs key = some tx)
    (hmirror : ∀ q k, tx.purpose ≠ .mirror q k) (hserves : declaredFailed s tx.msg.dst.toNat = false)
    (hruns : timerStands s key tx = false) : e2eTimeoutBody s key = noteReissue (reissue s key) := by
  unfold e2eTimeoutBody
  rw [h]
  dsimp only
  split
  · next q k hpurpose => exact absurd hpurpose (hmirror q k)
  · rw [hserves, Bool.false_and, Bool.false_and, if_neg Bool.false_ne_true, timeoutTx, h]
    exact if_neg (Bool.eq_false_iff.mp hruns)

theorem retryNoTag_none {s : State} (h : s.e2e.noTag = []) : retryNoTag s = s := by
  unfold retryNoTag
  rw [h]
  rfl

/-- A tag leaves its quarantine unless it was open at a device reset and memory is not active yet (R374). -/
theorem quarantineEnd_frees {s : State} {key : Nat} (h : s.e2e.resetQuarantine.contains key = false ∨ s.host.memActive = true)
    (hwait : s.e2e.noTag = []) : quarantineEnd s key = { s with e2e := { s.e2e with
      quarantined := s.e2e.quarantined.filter (fun k => k != key)
      resetQuarantine := if s.host.memActive then s.e2e.resetQuarantine.filter (· != key) else s.e2e.resetQuarantine } } := by
  have hfree : (s.e2e.resetQuarantine.contains key && !s.host.memActive) = false := by
    rcases h with h | h
    · rw [h, Bool.false_and]
    · rw [h, Bool.not_true, Bool.and_false]
  unfold quarantineEnd
  simp only [hfree, Bool.or_false]
  exact retryNoTag_none hwait

theorem crtExpire_past {s : State} {k : Nat} {c : Crt} (h : mget s.e2e.crt k = some c) (hpast : crtHeld s k c = false) :
    crtExpire s k = { s with e2e := { s.e2e with crt := mdel s.e2e.crt k } } := by
  unfold crtExpire
  rw [h]
  exact if_neg (Bool.eq_false_iff.mp hpast)

/-- Settles O35: each timer by the lemma of its unit. -/
theorem endToEndTimers : Obligations.EndToEndTimers := by
  unfold Obligations.EndToEndTimers
  refine ⟨?_, ?_, ?_, ?_⟩
  · intro s queue idx tx key h hmirror hserves hruns
    exact endsWork_of_eq rfl (e2eTimeoutBody_reissues h hmirror hserves hruns)
  · exact fun s key tx h => reissue_open h
  · intro s queue idx key h hwait
    exact endsWork_of_eq rfl (quarantineEnd_frees h hwait)
  · exact fun s key c h hpast => endsWork_of_eq rfl (crtExpire_past h hpast)

end Sys2Proof.Proofs.DexexLink
end

section
/-! SUPPORT. The memory controllers (12): refresh and low power (R433, R434), admission, issue and return (R428 to R431), and their
registers and training helpers (R444, R447, R450), with the error buckets and the scrubber (13: R455, R460 to R462). Each part states
what the operation of its unit does in each case, and ends with the obligation that puts the cases together. -/

namespace Sys2Proof.Proofs.MemoryControllers

open Sys2Proof Sys2Proof.Machine Sys2Proof.Safety Sys2Proof.Proofs.OnePass

/-! ### The controllers of a state -/

@[simp] theorem mset_mset {α : Type} (m : NMap α) (i : Nat) (v w : α) : mset (mset m i v) i w = mset m i w := by
  induction m with
  | nil => simp [mset]
  | cons x m ih =>
    obtain ⟨k, u⟩ := x
    rcases Nat.lt_trichotomy i k with hlt | rfl | hgt
    · simp [mset, hlt]
    · simp [mset]
    · simp [mset, Nat.not_lt.mpr hgt.le, hgt.ne', ih]

@[simp] theorem ctl_setCtl_self (s : State) (n : Nat) (c : MemCtl) : ctl (setCtl s n c) n = c := mgetD_mset_self ..

@[simp] theorem setCtl_setCtl (s : State) (n : Nat) (c d : MemCtl) : setCtl (setCtl s n c) n d = setCtl s n d := by
  rw [setCtl, setCtl_ctls, mset_mset]
  rfl

/-- A channel raises its event as itself (R444). -/
theorem raiseCtl_channel (s : State) (c : Fin 12) (cause : Nat) :
    raiseCtl s c.val cause = raiseP s (0x100 + c.val) cause (.channel c) 0 :=
  dif_pos c.isLt

/-- A channel that still takes data is fenced, with its event (R444). -/
theorem fenceCtl_channel {s : State} {c : Fin 12} (h : channelOut s c.val = false) (cause : Nat) :
    fenceCtl s c.val cause = raiseP (fenceChannel s c.val) (0x100 + c.val) cause (.channel c) 0 := by
  rw [fenceCtl, h, if_neg Bool.false_ne_true, if_pos c.isLt, raiseCtl_channel]

/-! ### Refresh (R433) -/

section
variable {s : State} {n rank : Nat} (hst : (ctl s n).st = .active ∨ (ctl s n).st = .powerDown)
include hst

theorem mayRefresh : ((ctl s n).st == .active || (ctl s n).st == .powerDown) = true := by
  rcases hst with h | h <;> simp [h]

theorem refreshDue_postponed
    (hasked : (ctl s n).rq.any (fun q => rankOf s n q.addr == rank && decide (2 ≤ urgency s.clockNs q)) = true)
    (hroom : (ctl s n).postponed.getD rank 0 < (ctl s n).postponeMax) :
    refreshDue s n rank = setCtl s n { ctl s n with
      postponed := (ctl s n).postponed.set rank ((ctl s n).postponed.getD rank 0 + 1) } := by
  unfold refreshDue
  dsimp only
  rw [mayRefresh hst, hasked, decide_eq_true hroom]
  rfl

/-- With no urgent read of its rank, or at the limit, the refresh is issued. -/
theorem refreshDue_issued
    (h : (ctl s n).rq.any (fun q => rankOf s n q.addr == rank && decide (2 ≤ urgency s.clockNs q)) = false ∨
      (ctl s n).postponeMax ≤ (ctl s n).postponed.getD rank 0) :
    refreshDue s n rank = setCtl s n { ctl s n with
      postponed := (ctl s n).postponed.set rank 0
      openRows := (ctl s n).openRows.filter (fun x => decide (n < 12) && decide (x.1 / 256 ≠ rank)) } := by
  unfold refreshDue
  dsimp only
  rw [mayRefresh hst, Bool.not_true, if_neg Bool.false_ne_true]
  refine if_neg ?_
  rcases h with hcalm | hlimit
  · rw [hcalm, Bool.false_and]
    exact Bool.false_ne_true
  · rw [decide_eq_false (Nat.not_lt.mpr hlimit), Bool.and_false]
    exact Bool.false_ne_true

end

/-! ### The poll of mode register 4 (R433, R444) -/

section
variable {s : State} {c : Nat} (hserves : ctlServes (ctl s c) = true)
include hserves

theorem mr4Poll_normal : mr4Poll s c .normal = setCtl s c { ctl s c with rate := 1 } := by
  simp [mr4Poll, hserves, modCtl]

theorem mr4Poll_double_again (hrate : (ctl s c).rate = 2) : mr4Poll s c .double = setCtl s c { ctl s c with rate := 2 } := by
  simp [mr4Poll, hserves, hrate, modCtl]

theorem mr4Poll_double_first (hrate : (ctl s c).rate ≠ 2) :
    mr4Poll s c .double = raiseCtl (setCtl s c { ctl s c with rate := 2 }) c 0x06 := by
  simp [mr4Poll, hserves, hrate, modCtl]

theorem mr4Poll_beyond : mr4Poll s c .beyond = fenceCtl s c 0x07 := by
  simp [mr4Poll, hserves]

end

/-! ### Power-down and self-refresh (R434) -/

/-- A rank of an active controller that no queued request needs goes down, the controller with its last rank. -/
theorem powerDownEntry_enters {s : State} {n rank : Nat} (hst : (ctl s n).st = .active) (hidle : (ctl s n).pdIdleNs ≠ 0)
    (hrank : rank < (if n < 12 then 2 ^ chanRankBits s n else 1)) (hup : (ctl s n).ranksDown.getLsbD rank = false)
    (hfree : ((ctl s n).rq ++ (ctl s n).wq).any (fun q => rankOf s n q.addr == rank) = false) :
    powerDownEntry s n rank = setCtl s n { ctl s n with
      ranksDown := (ctl s n).ranksDown ||| ((1 : BitVec 4) <<< rank)
      pdEntries := (ctl s n).pdEntries + 1
      st := if popCount 4 ((ctl s n).ranksDown ||| ((1 : BitVec 4) <<< rank)).toNat = (if n < 12 then 2 ^ chanRankBits s n else 1)
        then .powerDown else .active } := by
  unfold powerDownEntry
  dsimp only
  rw [if_neg]
  rw [hst, hup, hfree, decide_eq_false (Nat.not_le.mpr hrank), beq_eq_false_iff_ne.mpr hidle]
  decide

theorem selfRefreshEntry_enters {s : State} {n : Nat} (hst : (ctl s n).st = .active ∨ (ctl s n).st = .powerDown)
    (hidle : (ctl s n).srIdleUs ≠ 0) (hrq : (ctl s n).rq = []) (hwq : (ctl s n).wq = []) (hflight : (ctl s n).flight = [])
    (hitems : (ctl s n).sched.items = []) :
    selfRefreshEntry s n = setCtl s n
      { ctl s n with st := .selfRefresh, srEntries := (ctl s n).srEntries + 1, openRows := [], ranksDown := 0 } := by
  unfold selfRefreshEntry
  dsimp only
  rw [if_neg]
  rw [mayRefresh hst, hrq, hwq, hflight, hitems, beq_eq_false_iff_ne.mpr hidle]
  decide

/-- Settles O1: the refresh by whether it may wait, the poll by its report, and the two low-power entries. -/
theorem memoryRefreshAndLowPower : Obligations.MemoryRefreshAndLowPower := by
  unfold Obligations.MemoryRefreshAndLowPower
  refine ⟨?_, ?_, ?_, ?_⟩
  · intro s n r hst
    refine ⟨fun hasked hroom => ?_, fun h => ?_⟩
    · exact ends_of_eq rfl (refreshDue_postponed hst hasked hroom)
    · exact ends_of_eq rfl (refreshDue_issued hst h)
  · intro s c hserves
    refine ⟨?_, fun hrate => ?_, fun hrate => ?_, fun hin => ?_⟩
    · exact endsWork_of_eq rfl (mr4Poll_normal hserves)
    · exact endsWork_of_eq rfl (mr4Poll_double_again hserves hrate)
    · exact endsWork_of_eq rfl ((mr4Poll_double_first hserves hrate).trans (raiseCtl_channel ..))
    · exact endsWork_of_eq rfl ((mr4Poll_beyond hserves).trans (fenceCtl_channel hin _))
  · intro s n r c ranks hst hidle hrank hup hfree
    exact ends_of_eq rfl (powerDownEntry_enters hst hidle hrank hup hfree)
  · intro s n c hst hidle hrq hwq hflight hitems
    exact ends_of_eq rfl (selfRefreshEntry_enters hst hidle hrq hwq hflight hitems)

/-! ### Admission (R428, R430, R431, R434) -/

/-- With no request newly at urgency 3 there is nothing to count (R427, R448). -/
theorem countUrgent_none {s : State} {n : Nat} (h : NoneDue s n) : countUrgent s n = s := by
  have hnone : ((ctl s n).sched.items.map (·.item) ++ (ctl s n).rq ++ (ctl s n).wq).filter
      (fun r => !r.counted && urgency s.clockNs r == 3) = [] := by
    refine List.filter_eq_nil_iff.mpr fun r hr => ?_
    rcases h r hr with hcounted | hurgency
    · simp [hcounted]
    · simp [hurgency]
  unfold countUrgent
  dsimp only
  rw [hnone]
  rfl

/-- A rank that is not in power-down, of an active controller, has nothing to wake from. -/
theorem wakeCtl_awake {s : State} {n rank : Nat} {c : MemCtl} (hst : c.st = .active) (hup : c.ranksDown.getLsbD rank = false) :
    wakeCtl (setCtl s n c) n rank = setCtl s n c := by
  simp [wakeCtl, modCtl, hst, hup]

theorem memRefill_none {s : State} {n : Nat} (h : (ctl s n).upstream = []) (l : Nat) : memRefill s n l = s := by
  unfold memRefill
  dsimp only
  rw [h]
  rfl

/-- Where nothing waits upstream and no rank sleeps, a controller stays as its scheduler left it. -/
theorem memRefill_wakeCtl_idle {s : State} {n rank : Nat} {c : MemCtl} (hst : c.st = .active) (hupstream : c.upstream = [])
    (hup : c.ranksDown.getLsbD rank = false) (l : Nat) : memRefill (wakeCtl (setCtl s n c) n rank) n l = setCtl s n c := by
  rw [wakeCtl_awake hst hup]
  exact memRefill_none ((congrArg MemCtl.upstream (ctl_setCtl_self s n c)).trans hupstream) l

/-- A controller as a request joins its read or its write queue (R428, R430, R431). -/
def withQueued (c : MemCtl) (r : MemReq) (write : Bool) : MemCtl :=
  if write then
    drainUpdate (if c.wq.any (sameLine r) then { c with wq := modFirst (sameLine r) (fun w => { w with data := r.data }) c.wq }
      else { c with wq := c.wq ++ [r] })
  else { c with rq := c.rq ++ [r] }

/-- The bytes of an admitted request are counted under its label (R417). -/
def bytesCounted (s : State) (r : MemReq) : State :=
  { s with qos := { s.qos with bwm := mupd s.qos.bwm r.label 0 (· + BitVec.ofNat 48 r.size) } }

theorem bytesCounted_setCtl (s : State) (n : Nat) (c : MemCtl) (r : MemReq) :
    bytesCounted (setCtl s n c) r = setCtl (bytesCounted s r) n c := rfl

/-- The request whose turn it is enters the queue that has room for it, at a controller that is awake, with nothing upstream. -/
theorem memAdmit_picked {s : State} {n : Nat} {write : Bool} {x : Queued MemReq} {q : Wfq MemReq} (hdue : NoneDue s n)
    (hst : (ctl s n).st = .active) (hupstream : (ctl s n).upstream = [])
    (hup : (ctl s n).ranksDown.getLsbD (rankOf s n x.item.addr) = false)
    (hroom : (if write then (ctl s n).wq.length else (ctl s n).rq.length) < 64)
    (hpick : wfqPick (ctl s n).sched (labelRt s) (fun _ => false) (fun r => r.write == write) (fun _ => 0) = some (x, q)) :
    memAdmit s n write =
      (setCtl (bytesCounted s x.item) n (withQueued { ctl s n with sched := q } x.item write), some x.item) := by
  have hopen : (!ctlServes (ctl s n) || decide (64 ≤ (if write then (ctl s n).wq.length else (ctl s n).rq.length))) = false := by
    rw [decide_eq_false (Nat.not_le.mpr hroom), ctlServes, hst]
    rfl
  unfold memAdmit
  dsimp only
  rw [countUrgent_none hdue, hopen, if_neg Bool.false_ne_true, hpick]
  dsimp only
  rw [memRefill_wakeCtl_idle (c := { ctl s n with sched := q }) hst hupstream hup]
  generalize ({ ctl s n with sched := q } : MemCtl) = c
  change (setCtl (bytesCounted (setCtl s n c) x.item) n (withQueued (ctl (bytesCounted (setCtl s n c) x.item) n) x.item write), _) = _
  rw [bytesCounted_setCtl, ctl_setCtl_self, setCtl_setCtl]

/-- Where the request admitted is no home write and meets no queued write of its line, admission ends there (R431). -/
theorem memAdmitBody_queued {s t : State} {n : Nat} {write : Bool} {c : MemCtl} {r : MemReq}
    (h : memAdmit s n write = (setCtl t n c, some r)) (huse : ∀ key, r.use ≠ .homeWrite key)
    (hline : write = true ∨ c.wq.any (sameLine r) = false) : memAdmitBody s n write = setCtl t n c := by
  unfold memAdmitBody
  rw [h]
  dsimp only
  split
  · next key hkey => exact absurd hkey (huse key)
  · rw [ctl_setCtl_self]
    refine if_neg ?_
    rcases hline with rfl | hnone
    · exact Bool.false_ne_true
    · rw [hnone, Bool.and_false]
      exact Bool.false_ne_true

/-- A write that meets none of its line is one more in the write queue, and the watermarks are looked at (R430, R431). -/
theorem withQueued_write {c : MemCtl} {r : MemReq} (h : c.wq.any (sameLine r) = false) : withQueued c r true = { c with
    wq := c.wq ++ [r]
    draining := if c.draining then decide (c.wqLow < c.wq.length + 1) else decide (c.wqHigh ≤ c.wq.length + 1)
    drained := if (if c.draining then decide (c.wqLow < c.wq.length + 1) else decide (c.wqHigh ≤ c.wq.length + 1)) then c.drained
      else 0 } := by
  simp only [withQueued, h, drainUpdate, List.length_append, List.length_singleton, if_true, Bool.false_eq_true, if_false]

/-! ### Issue (R429, R430) -/

/-- A controller as it issues a request whose bank and row are given (R429, R430). -/
def withIssued (c : MemCtl) (b : Nat × Nat) (r : MemReq) : MemCtl :=
  let c := { c with openRows := mset c.openRows b.1 b.2 }
  if r.write then
    drainUpdate { c with
      wq := c.wq.filter (fun w => w.id != r.id)
      drained := if c.drainBurst ≤ c.drained then 1 else c.drained + 1 }
  else { c with rq := c.rq.filter (fun w => w.id != r.id), flight := c.flight ++ [r], drained := 0 }

theorem memIssue_chosen {s : State} {n : Nat} {blocked : List Nat} {r : MemReq} (hdue : NoneDue s n)
    (hserves : ctlServes (ctl s n) = true) (h : issueChoice s n (ctl s n) blocked = some r) :
    memIssue s n blocked =
      countBurst (setCtl s n (withIssued (ctl s n) (bankOf s n r.addr) r)) n r.write (rowHit s n (ctl s n) r) := by
  unfold memIssue
  dsimp only
  rw [countUrgent_none hdue, hserves, h]
  rfl

theorem issueChoice_read {s : State} {n : Nat} {c : MemCtl} (hdrain : c.draining = false) (hrq : c.rq ≠ []) (blocked : List Nat) :
    issueChoice s n c blocked = nextRead s n c blocked := by
  simp [issueChoice, hdrain, hrq]

/-- Within a burst of writes no urgent read is looked for (R430). -/
theorem issueChoice_write {s : State} {n : Nat} {c : MemCtl} (hdrain : c.draining = true) (hburst : c.drained < c.drainBurst)
    (blocked : List Nat) : issueChoice s n c blocked = nextWrite s n c blocked := by
  simp [issueChoice, hdrain, Nat.not_le.mpr hburst]

theorem withIssued_read {r : MemReq} (hread : r.write = false) (c : MemCtl) (b : Nat × Nat) : withIssued c b r = { c with
    openRows := mset c.openRows b.1 b.2
    rq := c.rq.filter (fun w => w.id != r.id)
    flight := c.flight ++ [r]
    drained := 0 } := by
  simp only [withIssued, hread, Bool.false_eq_true, if_false]

theorem withIssued_write {c : MemCtl} {r : MemReq} (hwrite : r.write = true) (hdrain : c.draining = true)
    (hburst : c.drained < c.drainBurst) (b : Nat × Nat) : withIssued c b r = { c with
      openRows := mset c.openRows b.1 b.2
      wq := c.wq.filter (fun w => w.id != r.id)
      draining := decide (c.wqLow < (c.wq.filter (fun w => w.id != r.id)).length)
      drained := if c.wqLow < (c.wq.filter (fun w => w.id != r.id)).length then c.drained + 1 else 0 } := by
  simp only [withIssued, hwrite, drainUpdate, hdrain, Nat.not_le.mpr hburst, if_true, if_false, decide_eq_true_eq]

/-! ### Return (R429, R453) -/

theorem takeReturn_first {s : State} {n : Nat} {r : MemReq} {rest : List MemReq} (h : (ctl s n).flight = r :: rest) :
    takeReturn s n = some (r, setCtl s n { ctl s n with flight := rest }) := by
  unfold takeReturn
  rw [h]
  rfl

/-- A burst without an error, and without a marker, is read as it was stored (R453). -/
theorem ddrRead_clean {s : State} {n addr : Nat} (h : markedMedia s n addr = false) (stored : Line) :
    ddrRead s n addr stored 0 = (.clean, stored) := by
  rw [ddrRead, h, readDdr, if_pos rfl, if_neg Bool.false_ne_true]

/-- A pod that was read well is answered with its data (R275). -/
theorem podReturned_clean {s : State} {n addr : Nat} {res : ReturnResult} (herror : res.errors.getD 0 0 = 0)
    (hmark : markedMedia s n addr = false) (tag : Tag) (pod off vers label : Nat) :
    podReturned s n addr tag pod off vers label res =
      respondData s 1 tag label false false false false true vers off (mgetD s.fab.lentPods (podKey (tagSource tag) pod) 0) := by
  unfold podReturned
  dsimp only
  rw [herror, ddrRead_clean hmark, eccActs]
  dsimp only
  rw [if_pos rfl, if_pos rfl]

/-- Settles O2: a read and a write by their admission and by their issue, and a read by its return. -/
theorem memoryQueues : Obligations.MemoryQueues := by
  unfold Obligations.MemoryQueues
  refine ⟨?_, ?_, ?_, ?_, ?_⟩
  · intro s n x q hdue c hst hupstream hup hroom hpick hread huse hline
    have hadmit := memAdmit_picked (write := false) hdue hst hupstream hup hroom hpick
    exact endsWork_of_eq rfl (memAdmitBody_queued hadmit huse (.inr hline))
  · intro s n x q hdue c on hst hupstream hup hroom hpick huse hline
    have hadmit := memAdmit_picked (write := true) hdue hst hupstream hup hroom hpick
    rw [withQueued_write (c := { ctl s n.val with sched := q }) hline] at hadmit
    exact endsWork_of_eq rfl (memAdmitBody_queued hadmit (fun key h => by simp [huse] at h) (.inl rfl))
  · intro s n blocked r hdue c b hserves hdrain hnext hread hrq
    refine ends_of_eq rfl ((memIssue_chosen hdue hserves ((issueChoice_read hdrain hrq blocked).trans hnext)).trans ?_)
    rw [withIssued_read hread, hread]
  · intro s n blocked r hdue c b wq hserves hdrain hburst hnext hwrite
    refine ends_of_eq rfl ((memIssue_chosen hdue hserves ((issueChoice_write hdrain hburst blocked).trans hnext)).trans ?_)
    rw [withIssued_write hwrite hdrain hburst, hwrite]
  · intro s n r rest res tag pod off vers label hflight huse herror hmark t hquiet
    have hdeliver : memDeliver (setCtl s n.val { ctl s n.val with flight := rest }) n.val r res = t := by
      rw [memDeliver, huse]
      exact podReturned_clean (s := setCtl s n.val { ctl s n.val with flight := rest }) herror hmark ..
    have hbody : memDataReturnBody s n.val res = t := by
      rw [memDataReturnBody, takeReturn_first hflight]
      exact (congrArg pump hdeliver).trans (pump_quiet hquiet)
    exact (endsWork_of_eq rfl hbody).2 hquiet

/-! ### Buckets and the scrubber (R455, R460 to R462) -/

theorem scrubRuns_awake {s : State} {n : Nat} (h : scrubRuns s n = true) : s.aon.st = .run := by
  simp only [scrubRuns, Bool.and_eq_true, beq_iff_eq] at h
  exact h.1.2

theorem clocked_scrubRuns {s : State} {n : Nat} (h : scrubRuns s n = true) (run : State → State) : clocked s run = run s := by
  have hrun := scrubRuns_awake h
  exact clocked_awake (by simp [hrun]) (by simp [hrun]) run

/-- A state in which one more line of a pass has been read (R460, R462). -/
def lineScrubbed (s : State) (n line : Nat) : State :=
  scrubRead { s with ecc := { s.ecc with scrubbed := mset s.ecc.scrubbed n (mgetD s.ecc.scrubbed n 0 + 1) } } n line

/-- A corrected burst whose bucket stays below its threshold fills it by 1, and is counted (R455). -/
theorem corrected_below {s : State} {n addr : Nat} {dev : Fin 10}
    (h : (mgetD s.ecc.buckets (bucketNo s n addr dev.val) 0).toNat + 1 < s.ecc.threshold.toNat) :
    corrected s n addr dev = ({ s with ecc := { s.ecc with
      corrected := mupd s.ecc.corrected n 0 (· + 1)
      buckets := mset s.ecc.buckets (bucketNo s n addr dev.val)
        (BitVec.ofNat 8 ((mgetD s.ecc.buckets (bucketNo s n addr dev.val) 0).toNat + 1)) } }, false) :=
  if_pos h

section
variable {s : State} {n line : Nat} {e : BurstError} (hruns : scrubRuns s n = true)
  (hintime : s.clockNs ≤ mgetD s.ecc.passStartNs n 0 + 2 * scrubPeriod s n)
  (hmore : mgetD s.ecc.scrubbed n 0 + 1 < scrubTotal s n)

include hintime hmore in
/-- A line within a pass that is not late counts, and no more (R462). -/
theorem scrubStep_counts :
    scrubStep s n = { s with ecc := { s.ecc with scrubbed := mset s.ecc.scrubbed n (mgetD s.ecc.scrubbed n 0 + 1) } } := by
  unfold scrubStep
  dsimp only
  rw [decide_eq_false (Nat.not_lt.mpr hintime), Bool.false_and, if_neg Bool.false_ne_true, if_pos hmore]

include hruns hintime hmore

/-- A line that is clean, or that holds a marker, is read and no more. -/
theorem scrubLineBody_good (h : scrubOutcome s n line e = .clean ∨ ∃ media, scrubOutcome s n line e = .marker media) :
    scrubLineBody s n line e = lineScrubbed s n line := by
  unfold scrubLineBody
  dsimp only
  rw [hruns, scrubStep_counts hintime hmore]
  rcases h with hclean | ⟨media, hmarker⟩
  · rw [hclean]
    rfl
  · rw [hmarker]
    rfl

theorem scrubLineBody_corrected {dev : Fin 10} {t : State} (h : scrubOutcome s n line e = .corrected dev)
    (hfix : corrected (lineScrubbed s n line) n (64 * line) dev = (t, false)) : scrubLineBody s n line e = t := by
  unfold scrubLineBody
  dsimp only
  rw [hruns, scrubStep_counts hintime hmore, h]
  dsimp only
  rw [← lineScrubbed, hfix]
  rfl

end

/-! ### Registers and training helpers (R447, R450) -/

/-- A write in range sets all three fields where none is locked (R63, R447). -/
theorem memSchedWrite_takes {s : State} {n : Nat} {v : Word} (hlow : bits v.toNat 7 0 ≤ 63)
    (horder : bits v.toNat 7 0 + 1 ≤ bits v.toNat 15 8) (hhigh : bits v.toNat 15 8 ≤ 64) (hone : 1 ≤ bits v.toNat 23 16)
    (hburst : bits v.toNat 23 16 ≤ 64) (hfree6 : memLocked s n 6 = false) (hfree7 : memLocked s n 7 = false)
    (hfree8 : memLocked s n 8 = false) : memSchedWrite s n v = setCtl s n (drainUpdate
      { ctl s n with wqLow := bits v.toNat 7 0, wqHigh := bits v.toNat 15 8, drainBurst := bits v.toNat 23 16 }) := by
  simp [memSchedWrite, hlow, horder, hhigh, hone, hburst, hfree6, hfree7, hfree8]

theorem memSchedWrite_ignored {s : State} {n : Nat} {v : Word} (h : 63 < bits v.toNat 7 0 ∨
    bits v.toNat 15 8 < bits v.toNat 7 0 + 1 ∨ 64 < bits v.toNat 15 8 ∨ bits v.toNat 23 16 = 0 ∨ 64 < bits v.toNat 23 16) :
    memSchedWrite s n v = s := by
  refine if_neg ?_
  simp only [Bool.and_eq_true, decide_eq_true_eq]
  omega

section
variable {s : State} {c : Nat} (hst : (ctl s c).st = .training) (hidle : (trn s c).busy = false)
include hst hidle

/-- A destructive run starts, and so does one that only reads the mode-register pattern. -/
theorem trnStart_starts (h : (trn s c).destructive = true ∨ ((trn s c).target ≠ 2 ∧ (trn s c).pattern = 6)) :
    trnStart s c = setTrn s c { trn s c with busy := true, refused := false } := by
  unfold trnStart
  dsimp only
  rw [hst, hidle, if_neg (by decide), if_neg]
  rcases h with hdestructive | ⟨htarget, hpattern⟩
  · simp [hdestructive]
  · rw [beq_eq_false_iff_ne.mpr htarget, hpattern]
    exact Bool.false_ne_true

theorem trnStart_refused (hkeep : (trn s c).destructive = false) (h : (trn s c).target = 2 ∨ (trn s c).pattern ≠ 6) :
    trnStart s c = setTrn s c { trn s c with refused := true } := by
  unfold trnStart
  dsimp only
  rw [hst, hidle, hkeep, if_neg (by decide), if_pos]
  rcases h with htarget | hpattern
  · rw [htarget]
    rfl
  · rw [bne_iff_ne.mpr hpattern, Bool.or_true]
    rfl

end

theorem trnEnd_busy {s : State} {c : Nat} (h : (trn s c).busy = true) (failed : BitVec 16) (l0 l1 : BitVec 40) :
    trnEnd s c failed l0 l1 = setTrn s c { trn s c with busy := false, failed := failed, fail0 := l0, fail1 := l1 } :=
  if_neg (by simp [h])

/-- Settles O3: a scrubbed line by its outcome, a register write by its range, a run by its pattern, and the fence of a channel. -/
theorem errorBucketsAndControllerRegisters : Obligations.ErrorBucketsAndControllerRegisters := by
  unfold Obligations.ErrorBucketsAndControllerRegisters
  refine ⟨⟨?_, ?_⟩, ?_, ?_, ?_, ?_⟩
  · exact fun s => ends_of rfl
  · intro s n line e lines u hruns hintime hmore
    refine ⟨fun h => ?_, fun media h => ?_, ?_⟩
    · exact endsWork_of_eq rfl ((clocked_scrubRuns hruns _).trans (scrubLineBody_good hruns hintime hmore (.inl h)))
    · exact endsWork_of_eq rfl ((clocked_scrubRuns hruns _).trans (scrubLineBody_good hruns hintime hmore (.inr ⟨media, h⟩)))
    · intro dev h k b hbelow
      exact endsWork_of_eq rfl ((clocked_scrubRuns hruns _).trans
        (scrubLineBody_corrected hruns hintime hmore h (corrected_below hbelow)))
  · intro s n v lo hi db
    refine ⟨fun hlow horder hhigh hone hburst hfree6 hfree7 hfree8 => ?_, fun h => ?_⟩
    · exact ends_of_eq rfl (memSchedWrite_takes hlow horder hhigh hone hburst hfree6 hfree7 hfree8)
    · exact ends_of_eq rfl (memSchedWrite_ignored h)
  · intro s c hst hidle
    refine ⟨fun h => ?_, fun hkeep h => ?_⟩
    · exact ends_of_eq rfl (trnStart_starts hst hidle h)
    · exact ends_of_eq rfl (trnStart_refused hst hidle hkeep h)
  · exact fun s c failed l0 l1 h => ends_of_eq rfl (trnEnd_busy h failed l0 l1)
  · exact fun s c hin => endsWork_of_eq rfl (fenceCtl_channel hin _)

end Sys2Proof.Proofs.MemoryControllers
end

section
/-! SUPPORT. Power entry and protection (17): the start of a feed (R555 to R561), its trips and its losses (R563 to R574), and its
telemetry (R575, R580). First the record of a feed and the thresholds of the part, then each operation of a feed, case by case, and
then the obligations that put the cases together. -/

namespace Sys2Proof.Proofs.PowerEntry

open Sys2Proof Sys2Proof.Machine Sys2Proof.Safety Sys2Proof.Proofs.OnePass

/-! ### The record of a feed -/

@[simp] theorem feed_setFeed_same (s : State) (f : Feed) (r : FeedRec) : feed (setFeed s f r) f = r := by cases f <;> rfl

@[simp] theorem setFeed_clockNs (s : State) (f : Feed) (r : FeedRec) : (setFeed s f r).clockNs = s.clockNs := by cases f <;> rfl
@[simp] theorem setFeed_img (s : State) (f : Feed) (r : FeedRec) : (setFeed s f r).img = s.img := by cases f <;> rfl
@[simp] theorem setFeed_boot (s : State) (f : Feed) (r : FeedRec) : (setFeed s f r).boot = s.boot := by cases f <;> rfl
@[simp] theorem setFeed_single (s : State) (f : Feed) (r : FeedRec) : (setFeed s f r).pwr.single = s.pwr.single := by
  cases f <;> rfl

@[simp] theorem setTest_clockNs (s : State) (f : Feed) (b : Bool) : (setTest s f b).clockNs = s.clockNs := by cases f <;> rfl

@[simp] theorem feed_raiseFeed (s : State) (f g : Feed) (cause point was : Nat) :
    feed (raiseFeed s f cause point was) g = feed s g := by
  cases g <;> simp [feed, raiseFeed]

/-- The breaker's curve is the image's, whatever the feeds are. -/
theorem curvePoints_setFeed (s : State) (f : Feed) (r : FeedRec) : curvePoints (setFeed s f r) = curvePoints s := by
  simp [curvePoints]
theorem curveMa_setFeed (s : State) (f : Feed) (r : FeedRec) : curveMa (setFeed s f r) = curveMa s := by
  funext k; simp [curveMa]
theorem curveUs_setFeed (s : State) (f : Feed) (r : FeedRec) : curveUs (setFeed s f r) = curveUs s := by
  funext k; simp [curveUs]

/-! ### Thresholds (R555) -/

theorem threshold_ge (f : Feed) (k low high : Nat) : low ≤ threshold f k low high := Nat.le_add_right _ _

theorem threshold_le (f : Feed) (k : Nat) {low high : Nat} (h : low ≤ high) : threshold f k low high ≤ high := by
  have := Nat.mod_lt (Config.comparator (2 * k + feedBit f)) (y := high - low + 1) (Nat.succ_pos _)
  unfold threshold
  omega

/-- A present feed is above its reset threshold. -/
theorem mvReset_le_mvPresent (f : Feed) : mvReset f ≤ mvPresent f := by
  have hreset : mvReset f ≤ 2200 := threshold_le f 0 (by decide)
  have hpresent : 4800 ≤ mvPresent f := threshold_ge f 1 4800 5200
  omega

theorem isOff_of_present {s : State} {f : Feed} (h : mvPresent f ≤ (feed s f).mv) : isOff s = false := by
  have hreset := Nat.not_lt.mpr ((mvReset_le_mvPresent f).trans h)
  cases f <;> simp_all [isOff, feed]

/-- A device with a present feed is not Off (R582). -/
theorem offCheck_present {s : State} {f : Feed} (h : mvPresent f ≤ (feed s f).mv) : offCheck s = s :=
  if_neg (by simp [isOff_of_present h])

theorem inWindow_iff (f : Feed) (mv : Nat) : inWindow f mv = true ↔ mvLow f ≤ mv ∧ mv ≤ mvHigh f := by
  simp [inWindow]

theorem inWindow_inside {f : Feed} {mv : Nat} (hlow : mvLow f ≤ mv) (hhigh : mv ≤ mvHigh f) : inWindow f mv = true :=
  (inWindow_iff f mv).mpr ⟨hlow, hhigh⟩

theorem inWindow_outside {f : Feed} {mv : Nat} (h : mv < mvLow f ∨ mvHigh f < mv) : inWindow f mv = false := by
  rw [Bool.eq_false_iff, ne_eq, inWindow_iff]
  omega

/-! ### The start of a feed (R556 to R559) -/

section
variable {s : State} {f : Feed} {mv : Nat}

theorem feedPresent_expected (hmv : mvPresent f ≤ mv) (hst : (feed s f).st = .absent) (hexp : feedExpected s f = true) :
    feedPresent s f mv = setFeed s f { feed s f with mv := mv, st := .outOfRange } := by
  simp [feedPresent, Nat.not_lt.mpr hmv, hst, hexp]

theorem feedPresent_unexpected (hmv : mvPresent f ≤ mv) (hst : (feed s f).st = .absent) (hexp : feedExpected s f = false) :
    feedPresent s f mv = raiseFeed (setFeed s f { feed s f with mv := mv, st := .unexpected }) f 0x02 0 0 := by
  simp [feedPresent, Nat.not_lt.mpr hmv, hst, hexp, fcUnexpected]

theorem feedWindowEntry_expected (hlow : mvLow f ≤ mv) (hhigh : mv ≤ mvHigh f) (hst : (feed s f).st = .outOfRange)
    (hexp : feedExpected s f = true) : feedWindowEntry s f mv = setFeed s f { feed s f with mv := mv, st := .qualify } := by
  simp [feedWindowEntry, inWindow_inside hlow hhigh, hst, hexp]

theorem startWindowExit_qualify (h : mv < mvLow f ∨ mvHigh f < mv) (hst : (feed s f).st = .qualify) :
    startWindowExit s f mv = setFeed s f { feed s f with mv := mv, st := .outOfRange } := by
  simp [startWindowExit, inWindow_outside h, hst]

theorem feedQualified_qualify (hst : (feed s f).st = .qualify) : feedQualified s f = startRamp s f := if_pos hst

/-- A feed whose gate is full waits for its power-good; VBUS stands if its ORing FET is on. -/
theorem feedGateFull_ramp (hst : (feed s f).st = .ramp) (limiting : Bool) : feedGateFull s f limiting =
    if (feed s f).oringOn = true then
      { setFeed s f { feed s f with st := .pgQual, limiting := limiting } with
        pwr := { (setFeed s f { feed s f with st := .pgQual, limiting := limiting }).pwr with vbus9 := true } }
    else setFeed s f { feed s f with st := .pgQual, limiting := limiting } := by
  simp [feedGateFull, hst]

theorem feedPowerGood_limiting (hlim : (feed s f).limiting = true) : feedPowerGood s f = s := by
  simp [feedPowerGood, hlim]

/-- The state with a feed ON and VBUS standing. -/
def feedOn (s : State) (f : Feed) : State :=
  let u := setFeed s f { feed s f with st := .on, pg := true, oringOn := true, curve := [], onNs := some s.clockNs }
  { u with pwr := { u.pwr with vbus9 := true, collapsed := false } }

/-- What follows once a feed is ON: a lost pair is whole again (R573), and step 0x03 and the boot go on (R561). -/
def bootWithFeed (u : State) (f : Feed) : State :=
  let v := if (feed u (otherFeed f)).st = .on ∧ u.pwr.single then
      raiseP { u with pwr := { u.pwr with single := false } } 0x1F4 0 .none 6
    else u
  bootOn (if (runOf v 0x03).isSome then endFeeds v else v)

theorem bootWithFeed_booted {u : State} (hsingle : u.pwr.single = false) (hrun : runOf u 0x03 = none) (f : Feed) :
    bootWithFeed u f = bootOn u := by
  simp [bootWithFeed, hsingle, hrun]

theorem feedPowerGood_idle (hst : (feed s f).st = .pgQual) (hlim : (feed s f).limiting = false) :
    feedPowerGood s f = bootWithFeed (feedOn s f) f :=
  if_neg (by simp [hst, hlim])

theorem retryWaitExpiry_inside (hst : (feed s f).st = .retryWait) (hlow : mvLow f ≤ (feed s f).mv) (hhigh : (feed s f).mv ≤ mvHigh f) :
    retryWaitExpiry s f = startRamp s f := by
  simp [retryWaitExpiry, hst, inWindow_inside hlow hhigh]

theorem retryWaitExpiry_outside (hst : (feed s f).st = .retryWait) (h : (feed s f).mv < mvLow f ∨ mvHigh f < (feed s f).mv) :
    retryWaitExpiry s f =
      setFeed s f { feed s f with st := if (feed s f).mv < mvPresent f then .absent else .outOfRange } := by
  simp [retryWaitExpiry, hst, inWindow_outside h]

theorem releaseFeed_latched (hst : (feed s f).st = .latched) : releaseFeed s f =
    raiseFeed (setFeed s f { feed s f with
      st := if (feed s f).mv < mvPresent f then FeedSt.absent
        else if feedExpected s f = false then .unexpected
        else if mvLow f ≤ (feed s f).mv ∧ (feed s f).mv ≤ mvHigh f then .qualify else .outOfRange
      trips := 0
      absentNs := none }) f 0x0A 0 0 := by
  simp [releaseFeed, hst, inWindow_iff, fcReleased]

theorem releaseFeed_unlatched (hst : (feed s f).st ≠ .latched) :
    releaseFeed s f = setFeed s f { feed s f with releaseNs := some s.clockNs } := by
  simp [releaseFeed, hst]

end

/-- Settles O45: each step of a feed's start by its state, with the retry, the trip count and the release. -/
theorem feedStart : Obligations.FeedStart := by
  unfold Obligations.FeedStart
  refine ⟨fun s f mv => ⟨fun hmv hst hexp => ?_, fun hmv hst hexp => ?_, fun hlow hhigh hst hexp => ?_, fun h hst => ?_⟩, ?_⟩
  · refine ends_of_eq rfl ((congrArg offCheck (feedPresent_expected hmv hst hexp)).trans (offCheck_present (f := f) ?_))
    simpa using hmv
  · refine ends_of_eq rfl ((congrArg offCheck (feedPresent_unexpected hmv hst hexp)).trans (offCheck_present (f := f) ?_))
    simpa using hmv
  · exact ends_of_eq rfl (feedWindowEntry_expected hlow hhigh hst hexp)
  · exact ends_of_eq rfl (startWindowExit_qualify h hst)
  · intro s f r ramp
    refine ⟨fun hst => ?_, fun limiting hst => ⟨fun horing => ?_, fun horing => ?_⟩, fun hst hlim hsingle hrun => ?_,
      fun _ hlim => ?_, fun hst hlow hhigh => ?_, fun hst h => ?_, fun hst => ?_, fun hst => ?_, fun hst => ?_, fun hst => ?_⟩
    · exact ends_of_eq rfl (feedQualified_qualify hst)
    · exact ends_of_eq rfl ((feedGateFull_ramp hst limiting).trans (if_neg (Bool.eq_false_iff.mp horing)))
    · exact ends_of_eq rfl ((feedGateFull_ramp hst limiting).trans (if_pos horing))
    · exact ends_of_eq rfl ((feedPowerGood_idle hst hlim).trans
        (bootWithFeed_booted (by simpa [feedOn] using hsingle) (by simpa [feedOn, runOf] using hrun) f))
    · exact ends_of_eq rfl (feedPowerGood_limiting hlim)
    · exact ends_of_eq rfl (retryWaitExpiry_inside hst hlow hhigh)
    · exact ends_of_eq rfl (retryWaitExpiry_outside hst h)
    · exact ends_of_eq rfl (if_pos hst)
    · exact ends_of_eq rfl (if_neg hst)
    · exact ends_of_eq rfl (releaseFeed_latched hst)
    · exact ends_of_eq rfl (releaseFeed_unlatched hst)

/-! ### A feed that is lost (R570 to R574) -/

theorem startRamp_clockNs (s : State) (f : Feed) : (startRamp s f).clockNs = s.clockNs := setFeed_clockNs _ _ _

theorem raiseFeed_clockNs (s : State) (f : Feed) (cause point was : Nat) : (raiseFeed s f cause point was).clockNs = s.clockNs :=
  raiseP_clockNs _ _ _ _ _

/-- Whatever follows the loss of a feed, it follows at once. -/
theorem feedLost_clockNs (s : State) (f : Feed) (wasOn : Bool) : (feedLost s f wasOn).clockNs = s.clockNs := by
  unfold feedLost modFeed
  extract_lets o otherOn single s1 s2 s3 collapsed
  have h1 : s1.clockNs = s.clockNs := by
    unfold s1
    split
    · exact raise_clockNs _ _ _
    · rfl
  have h2 : s2.clockNs = s.clockNs := by
    unfold s2
    split
    · exact (setFeed_clockNs _ _ _).trans h1
    · exact h1
  have h3 : s3.clockNs = s.clockNs := by
    unfold s3
    split
    · exact (startRamp_clockNs _ _).trans ((setTest_clockNs _ _ _).trans h2)
    · exact h2
  split
  · exact (raise_clockNs _ _ _).trans h3
  · exact h3

/-! ### Trips (R560, R563, R564, R568) -/

/-- A feed's record after a trip of a kind, at a point of the curve. -/
def trippedRec (s : State) (r : FeedRec) (kind point : Nat) : FeedRec :=
  { r.stop (if retryPolicy s = 2 ∨ r.trips = 3 then .latched else .retryWait) with
    trips := min 3 (r.trips + 1)
    lastTrip := BitVec.ofNat 4 kind
    tripPoint := if kind = 2 then BitVec.ofNat 8 point else r.tripPoint }

/-- A trip leaves its record, is reported, and the feed is lost. -/
def tripped (s : State) (f : Feed) (kind cause point : Nat) : State :=
  let v := setFeed s f (trippedRec s (feed s f) kind point)
  feedLost (if retryPolicy s = 2 ∨ (feed s f).trips = 3 then raiseFeed v f 0x09 point cause else raiseFeed v f cause point 0) f
    ((feed s f).st == .on)

/-- A trip whose feed is not released in the same cycle. -/
theorem tripFeed_unreleased {s : State} {f : Feed} (h : (feed s f).releaseNs ≠ some s.clockNs) (kind cause point : Nat) :
    tripFeed s f kind cause point = tripped s f kind cause point := by
  have hclock : (tripped s f kind cause point).clockNs = s.clockNs := by
    refine (feedLost_clockNs _ _ _).trans ?_
    split <;> exact (raiseFeed_clockNs _ _ _ _ _).trans (setFeed_clockNs _ _ _)
  refine if_neg (t := releaseFeed (tripped s f kind cause point) f) ?_
  rw [Bool.and_eq_true, beq_iff_eq]
  exact fun hreleased => h (hreleased.2.trans (congrArg some hclock))

section
variable {s : State} {f : Feed}

theorem startTimerTrip_limiting (hst : (feed s f).st = .ramp ∨ (feed s f).st = .pgQual) (hlim : (feed s f).limiting = true) :
    startTimerTrip s f = tripFeed s f 1 0x05 0 := if_pos ⟨hst, hlim⟩

theorem startTimerTrip_idle (hlim : (feed s f).limiting = false) : startTimerTrip s f = s := if_neg (by simp [hlim])

/-- A sample of the current is noted, with its peak (R580). -/
def sampled (s : State) (f : Feed) (ma : Nat) : FeedRec :=
  { feed s f with ma := ma, peak := BitVec.ofNat 16 (max (feed s f).peak.toNat (min 65535 (ma / 10))) }

/-- A sample acts on the record it is noted in. -/
theorem breakerSample_eq (ma : Nat) : breakerSample s f ma =
    (let u := setFeed s f (sampled s f ma)
     let q := sampled s f ma
     if q.gateOn && decide (maFast f < ma) then tripFeed u f 3 0x07 0
     else if q.st = .on then
       let m := curveStep u ma q.curve
       let v := setFeed u f { q with curve := m }
       match (curvePoints v).find? (fun k => decide (curveUs v k ≤ mgetD m k 0) && decide (curveMa v k < ma)) with
       | some k => tripFeed v f 2 0x06 k
       | none => v
     else if q.gateOn then setFeed u f { q with limiting := decide (q.rampIlim * 100 ≤ ma) }
     else u) := by
  unfold breakerSample sampled
  simp only [feed_setFeed_same]
  rfl

theorem curveStep_setFeed (r : FeedRec) : curveStep (setFeed s f r) = curveStep s := by
  funext ma m
  simp [curveStep, curvePoints_setFeed, curveMa_setFeed]

/-- The curve counters of an ON feed after a sample, and its record with them. -/
def curveCounted (s : State) (f : Feed) (ma : Nat) : NMap Nat := curveStep s ma (feed s f).curve
def curveSampled (s : State) (f : Feed) (ma : Nat) : FeedRec := { sampled s f ma with curve := curveCounted s f ma }

/-- Does a sample reach point `k` of the curve: its current is exceeded, and has been for its time (R564)? -/
def curveReached (s : State) (f : Feed) (ma k : Nat) : Bool :=
  decide (curveUs s k ≤ mgetD (curveCounted s f ma) k 0) && decide (curveMa s k < ma)

variable {ma : Nat}

theorem curveReached_iff {k : Nat} :
    curveReached s f ma k = true ↔ curveUs s k ≤ mgetD (curveCounted s f ma) k 0 ∧ curveMa s k < ma := by
  simp [curveReached]

theorem breakerSample_off (hgate : (feed s f).gateOn = false) (hst : (feed s f).st ≠ .on) :
    breakerSample s f ma = setFeed s f (sampled s f ma) := by
  rw [breakerSample_eq]
  simp [sampled, hgate, hst]

theorem breakerSample_fast (hgate : (feed s f).gateOn = true) (hfast : maFast f < ma) :
    breakerSample s f ma = tripFeed (setFeed s f (sampled s f ma)) f 3 0x07 0 := by
  rw [breakerSample_eq]
  exact if_pos (by simp [sampled, hgate, hfast])

theorem breakerSample_ramp (hgate : (feed s f).gateOn = true) (hslow : ma ≤ maFast f) (hst : (feed s f).st ≠ .on) :
    breakerSample s f ma = setFeed (setFeed s f (sampled s f ma)) f
      { sampled s f ma with limiting := decide ((feed s f).rampIlim * 100 ≤ ma) } := by
  rw [breakerSample_eq]
  simp [sampled, hgate, Nat.not_lt.mpr hslow, hst]

theorem breakerSample_on (hst : (feed s f).st = .on) (hslow : ma ≤ maFast f) :
    breakerSample s f ma =
      match (curvePoints s).find? (curveReached s f ma) with
      | some k => tripFeed (setFeed (setFeed s f (sampled s f ma)) f (curveSampled s f ma)) f 2 0x06 k
      | none => setFeed (setFeed s f (sampled s f ma)) f (curveSampled s f ma) := by
  have hgate : ¬ ((sampled s f ma).gateOn && decide (maFast f < ma)) = true := by simp [Nat.not_lt.mpr hslow]
  refine (breakerSample_eq ma).trans ((if_neg hgate).trans ((if_pos hst).trans ?_))
  simp only [curveStep_setFeed, curvePoints_setFeed, curveUs_setFeed, curveMa_setFeed]
  rfl

theorem breakerSample_below_curve (hst : (feed s f).st = .on) (hslow : ma ≤ maFast f)
    (h : ∀ k ∈ curvePoints s, ¬ curveReached s f ma k = true) :
    breakerSample s f ma = setFeed (setFeed s f (sampled s f ma)) f (curveSampled s f ma) := by
  rw [breakerSample_on hst hslow, List.find?_eq_none.mpr h]

theorem breakerSample_first_point (hst : (feed s f).st = .on) (hslow : ma ≤ maFast f) {k : Nat} {rest : List Nat}
    (hpoints : curvePoints s = k :: rest) (h : curveReached s f ma k = true) :
    breakerSample s f ma = tripFeed (setFeed (setFeed s f (sampled s f ma)) f (curveSampled s f ma)) f 2 0x06 k := by
  rw [breakerSample_on hst hslow, hpoints, List.find?_cons_of_pos h]

end

/-! ### Undervoltage, overvoltage, reverse current and tests (R555, R571, R574) -/

section
variable {s : State} {f : Feed} {mv : Nat}

theorem feedOff_on (hst : (feed s f).st = .on) (cause : Nat) : feedOff s f mv cause =
    feedLost (raiseFeed (setFeed s f { (feed s f).stop .outOfRange with mv := mv }) f cause 0 0) f true :=
  if_neg (by simp [hst])

theorem feedUndervolt_low (h : mv < mvUnder f) : feedUndervolt s f mv = feedOff s f mv 0x03 := if_pos h
theorem feedUndervolt_high (h : mvUnder f ≤ mv) : feedUndervolt s f mv = s := if_neg (Nat.not_lt.mpr h)
theorem feedOvervolt_high (h : mvOver f < mv) : feedOvervolt s f mv = feedOff s f mv 0x04 := if_pos h
theorem feedOvervolt_low (h : mv ≤ mvOver f) : feedOvervolt s f mv = s := if_neg (Nat.not_lt.mpr h)

theorem feedTest_runs (hgate : (feed s f).gateOn = true) (hother : (feed s (otherFeed f)).st = .on) : feedTest s f =
    feedLost (setTest (setFeed s f ((feed s f).stop .testOff)) f true) f ((feed s f).st == .on) :=
  if_neg (by simp [hgate, hother])

theorem feedTest_ignored (h : (feed s (otherFeed f)).st ≠ .on ∨ (feed s f).gateOn = false) : feedTest s f = s := by
  refine if_pos ?_
  rw [Bool.or_eq_true, bne_iff_ne, Bool.not_eq_true']
  exact h

end

/-- Settles O46: a trip by its timer or its sample, a loss by its voltage, and the reads that clear. -/
theorem feedProtection : Obligations.FeedProtection := by
  unfold Obligations.FeedProtection
  refine ⟨fun s f => ?_, fun s f mv => ?_, fun s f => ?_, fun s => ends_of rfl⟩
  · intro r last trip free
    refine ⟨fun hfree hst hlim => ?_, fun hlim => ends_of_eq rfl (startTimerTrip_idle hlim), ?_⟩
    · exact ends_of_eq rfl ((startTimerTrip_limiting hst hlim).trans (tripFeed_unreleased hfree _ _ _))
    · intro ma q u m exceeds
      refine ⟨fun hgate hst => ?_, fun hfree hgate hfast => ?_, fun hgate hslow hst => ?_, fun hst hslow => ⟨fun h => ?_, ?_⟩⟩
      · exact ends_of_eq rfl (breakerSample_off hgate hst)
      · refine ends_of_eq rfl ((breakerSample_fast hgate hfast).trans ((tripFeed_unreleased ?_ _ _ _).trans ?_))
        · rw [feed_setFeed_same, setFeed_clockNs]
          exact hfree
        · cases f <;> rfl
      · exact ends_of_eq rfl (breakerSample_ramp hgate hslow hst)
      · exact ends_of_eq rfl (breakerSample_below_curve hst hslow fun k hk => mt curveReached_iff.mp (h k hk))
      · intro k rest hfree hpoints hk
        refine ends_of_eq rfl ((breakerSample_first_point hst hslow hpoints (curveReached_iff.mpr hk)).trans
          ((tripFeed_unreleased ?_ _ _ _).trans ?_))
        · rw [feed_setFeed_same, setFeed_clockNs, setFeed_clockNs]
          exact hfree
        · cases f <;> rfl
  · exact ⟨fun hst h => ends_of_eq rfl (congrArg offCheck ((feedUndervolt_low h).trans (feedOff_on hst _))),
      fun h => ends_of_eq rfl (congrArg offCheck (feedUndervolt_high h)),
      fun hst h => ends_of_eq rfl ((feedOvervolt_high h).trans (feedOff_on hst _)),
      fun h => ends_of_eq rfl (feedOvervolt_low h)⟩
  · exact ⟨fun h => ends_of_eq rfl (if_pos h), fun h => ends_of_eq rfl (if_neg (by simp [h])),
      fun hgate hother => ends_of_eq rfl (feedTest_runs hgate hother), fun h => ends_of_eq rfl (feedTest_ignored h),
      fun hst => ends_of_eq rfl (if_pos hst), fun hst => ends_of_eq rfl (if_neg hst), ends_of rfl, fun _ _ _ _ => ends_of rfl⟩

end Sys2Proof.Proofs.PowerEntry
end

section
/-! SUPPORT. The host interface (14): command queues (R483, R485 to R488, R501), HDM decoders and the host link (R474, R477, R497,
R584), and the standard mailbox commands for event records and firmware (R481, R506 to R510). Each part states what the operation of
its unit does in each case, and ends with the obligation that puts the cases together. -/

namespace Sys2Proof.Proofs.HostInterface

open Sys2Proof Sys2Proof.Machine Sys2Proof.Safety Sys2Proof.Proofs.OnePass Sys2Proof.Proofs.Window

/-! ### QUEUE_CREATE (R485) -/

section
variable {s : State} {a : QueueArgs}

/-- The arguments that are INVALID, and those that are LENGTH_RANGE. -/
abbrev argsInvalid (a : QueueArgs) : Prop :=
  1024 ≤ a.qid ∨ 2048 ≤ a.vector ∨ a.sqEntries < 2 ∨ a.sqBase % 4096 ≠ 0 ∨ a.cqEntries < 2 ∨ 1 < a.cls ∨ a.rsv = true ∨
    a.cqBase % 4096 ≠ 0
abbrev argsLong (a : QueueArgs) : Prop :=
  65536 < a.sqEntries ∨ 65536 < a.cqEntries ∨ 2 ^ 64 < a.sqBase + 64 * a.sqEntries ∨ 2 ^ 64 < a.cqBase + 16 * a.cqEntries

theorem queueStatus_invalid (h : argsInvalid a) : queueStatus s a = stInvalid := by
  refine if_pos ?_
  rcases h with h | h | h | h | h | h | h | h <;> simp [h]

theorem queueStatus_valid (h : ¬ argsInvalid a) :
    queueStatus s a = if argsLong a then stLength else if mhas s.host.queues a.qid then stBusyRetry else stOk := by
  refine if_neg (mt ?_ h)
  rintro (h | h | h | h | h | h | h | h) <;> simp [argsInvalid, h]

end

/-- The queue pair that QUEUE_CREATE makes: both queues empty, phase 1. -/
def emptyQueue (a : QueueArgs) : Queue where
  vector := BitVec.ofNat 11 a.vector
  admin := a.cls == 1
  sqEntries := a.sqEntries
  cqEntries := a.cqEntries
  sqBase := BitVec.ofNat 64 a.sqBase
  cqBase := BitVec.ofNat 64 a.cqBase
  sqHead := 0
  sqTail := 0
  cqHead := 0
  cqTail := 0
  phase := true
  stopped := false
  deleting := false
  waiting := []
  taken := []

theorem queueCreateBody_eq {b : List Byte} (h : b.length = 32) (s : State) : queueCreateBody s b =
    if queueStatus s (queueArgs b) ≠ stOk then entryReply s (queueStatus s (queueArgs b)) 0
    else entryReply { s with host := { s.host with
      queues := mset s.host.queues (queueArgs b).qid (emptyQueue (queueArgs b)) } } stOk 0 :=
  if_neg (not_not.mpr h)

theorem queueCreateBody_refuses {b : List Byte} (h : b.length = 32) {s : State} {st : Nat} (hst : queueStatus s (queueArgs b) = st)
    (hne : st ≠ stOk) : queueCreateBody s b = entryReply s st 0 := by
  rw [queueCreateBody_eq h, hst, if_pos hne]

theorem queueCreateBody_makes {b : List Byte} (h : b.length = 32) {s : State} (hst : queueStatus s (queueArgs b) = stOk) :
    queueCreateBody s b = entryReply { s with host := { s.host with
      queues := mset s.host.queues (queueArgs b).qid (emptyQueue (queueArgs b)) } } stOk 0 := by
  rw [queueCreateBody_eq h, hst, if_neg (not_not.mpr rfl)]

/-- Settles O16: the three refusals in their order, and the queues of a valid command. -/
theorem queueCreate : Obligations.QueueCreate := by
  unfold Obligations.QueueCreate
  intro s payload hserves hlen qid vector sqEntries sqBase cqEntries cls cqBase invalid long taken
  have run : mailbox s false (fun s => queueCreateBody s payload) = queueCreateBody s payload := mailbox_serves hserves false _
  have hinvalid : argsInvalid (queueArgs payload) ↔ invalid := by
    simp [argsInvalid, queueArgs, invalid, qid, vector, sqEntries, sqBase, cqEntries, cls, cqBase]
  have hvalid (h : ¬ invalid) : queueStatus s (queueArgs payload) = if argsLong (queueArgs payload) then stLength
      else if mhas s.host.queues (queueArgs payload).qid then stBusyRetry else stOk := queueStatus_valid (mt hinvalid.mp h)
  refine ⟨fun h => ?_, fun h hlong => ?_, fun h hshort htaken => ?_, fun h hshort hfree => ?_⟩
  · exact ends_of_eq rfl (run.trans (queueCreateBody_refuses hlen (queueStatus_invalid (hinvalid.mpr h)) (by decide)))
  · exact ends_of_eq rfl (run.trans (queueCreateBody_refuses hlen ((hvalid h).trans (if_pos hlong)) (by decide)))
  · exact ends_of_eq rfl (run.trans (queueCreateBody_refuses hlen
      ((hvalid h).trans ((if_neg hshort).trans (if_pos htaken))) (by decide)))
  · exact ends_of_eq rfl (run.trans (queueCreateBody_makes hlen ((hvalid h).trans ((if_neg hshort).trans (if_neg hfree)))))

/-! ### The queues in the host's registers -/

theorem signalMsix_queues (s : State) (v : Nat) : (signalMsix s v).host.queues = s.host.queues := by
  unfold signalMsix
  split
  · dsimp only
    split <;> rfl
  · rfl

section
variable {α : Type} {g : State → α} (hpmc : ∀ s p, g { s with pmc := p } = g s) (hsignal : ∀ s v, g (signalMsix s v) = g s)
include hpmc hsignal

theorem addCtr_keeps (s : State) (n : Nat) (sel : PmcSel) (k : Nat) : g (addCtr s n sel k).1 = g s := by
  unfold addCtr
  dsimp only
  split
  · exact hpmc _ _
  · split
    · exact (hsignal _ _).trans (hpmc s _)
    · exact hpmc s _

theorem addCtrs_keeps (ev : Nat) (label : Option Nat) (k : Nat) (m : NMap PmcSel) (s : State) (prev : Nat × Nat) :
    g (addCtrs ev label k m s prev) = g s := by
  induction m generalizing s prev with
  | nil => rfl
  | cons x m ih =>
    unfold addCtrs
    dsimp only
    split
    · exact ih s _
    · exact (ih _ _).trans (addCtr_keeps hpmc hsignal s _ _ _)

/-- Counting an event leaves whatever neither the counters nor a signal to the host change. -/
theorem countN_keeps (s : State) (ev : Nat) (label : Option Nat) (k : Nat) : g (countN s ev label k) = g s := by
  unfold countN
  split
  · unfold countEvent
    dsimp only
    split
    · exact hpmc s _
    · exact (addCtrs_keeps hpmc hsignal _ _ _ _ _ _).trans (hpmc s _)
  · split
    · exact hpmc s _
    · rfl

end

theorem countN_queues (s : State) (ev : Nat) (label : Option Nat) (k : Nat) : (countN s ev label k).host.queues = s.host.queues :=
  countN_keeps (g := fun s => s.host.queues) (fun _ _ => rfl) signalMsix_queues s ev label k

/-! ### Doorbells, completions and deletion (R486, R487, R501) -/

section
variable {s : State} {qid : Nat} {q : Queue} (hq : mget s.host.queues qid = some q)
include hq

theorem sqTailBody_beyond {v : Nat} (h : q.sqEntries ≤ v) (es : List Line) : sqTailBody s qid v es = raise s 0x262 0 := by
  unfold sqTailBody
  rw [hq]
  exact if_pos h

/-- A tail inside the queue hands over the entries between the old tail and itself. -/
theorem sqTailBody_inside {v : Nat} (h : v < q.sqEntries) {es : List Line}
    (hes : es.length = (v + q.sqEntries - q.sqTail) % q.sqEntries) :
    sqTailBody s qid v es = takeEntries 256 { s with host := { s.host with
      queues := mset s.host.queues qid { q with sqTail := v, waiting := q.waiting ++ es } } } qid := by
  have hall : (List.range es.length).map (fun i => es.getD i 0) = es := by
    refine List.ext_getElem (by simp) fun i _ hi => ?_
    simp [List.getElem?_eq_getElem hi]
  unfold sqTailBody
  rw [hq]
  dsimp only
  rw [if_neg (Nat.not_le.mpr h), ← hes, hall]

theorem cqHeadBody_beyond {v : Nat} (h : q.cqEntries ≤ v) : cqHeadBody s qid v = raise s 0x262 0 := by
  unfold cqHeadBody
  rw [hq]
  exact if_pos h

theorem cqHeadBody_inside {v : Nat} (h : v < q.cqEntries) : cqHeadBody s qid v =
    { s with host := { s.host with queues := mset s.host.queues qid { q with cqHead := v } } } := by
  unfold cqHeadBody
  rw [hq]
  exact if_neg (Nat.not_le.mpr h)

theorem dmaErrorBody_stops : dmaErrorBody s qid =
    raise { s with host := { s.host with queues := mset s.host.queues qid { q with stopped := true } } } 0x263 0 := by
  unfold dmaErrorBody
  rw [hq]

theorem commandCompleteBody_full (h : (q.cqTail + 1) % q.cqEntries = q.cqHead) : commandCompleteBody s qid = s := by
  unfold commandCompleteBody
  rw [hq]
  exact if_pos h

theorem commandCompleteBody_posts {t : Taken} {c : Completion} (h : (q.cqTail + 1) % q.cqEntries ≠ q.cqHead)
    (hfind : q.taken.find? (fun t => t.done.isSome) = some t) (hdone : t.done = some c) :
    commandCompleteBody s qid = deleteCheck (takeEntries 256 (postOne s qid q t c) qid) qid := by
  unfold commandCompleteBody
  rw [hq]
  dsimp only
  rw [if_neg h, hfind]
  dsimp only
  rw [hdone]

theorem queueDeleteBody_deletes {b : List Byte} (hlen : b.length = 2) (hbg : s.host.background = none) (hid : field b 0 2 = qid) :
    queueDeleteBody s b = deleteCheck (mbReply { s with host := { s.host with
      background := some (.queueDelete (BitVec.ofNat 10 qid))
      queues := mset s.host.queues qid { q with deleting := true, waiting := [] } } } .background) qid := by
  subst hid
  simp [queueDeleteBody, hlen, hbg, hq]

end

/-- The queue after its first finished command `t` is posted: the tail moves on, and the phase turns where the tail comes round. -/
def postedQueue (q : Queue) (t : Taken) : Queue :=
  { q with
    cqTail := (q.cqTail + 1) % q.cqEntries
    phase := if (q.cqTail + 1) % q.cqEntries = 0 then !q.phase else q.phase
    taken := match takeFirst (fun x => x == t) q.taken with
      | some (_, r) => r
      | none => q.taken }

/-- A posted completion, before its interrupt. -/
def posted (s : State) (qid : Nat) (q : Queue) (t : Taken) (c : Completion) : State :=
  let u := emit { s with host := { s.host with queues := mset s.host.queues qid (postedQueue q t) } }
    (.cqe (BitVec.ofNat 10 qid) q.cqTail c q.phase)
  countN u 0x002 (some (entryLabel { s with host := { s.host with queues := mset s.host.queues qid (postedQueue q t) } } t.entry)) 1

theorem postOne_eq (s : State) (qid : Nat) (q : Queue) (t : Taken) (c : Completion) :
    postOne s qid q t c = signalMsix (posted s qid q t c) q.vector.toNat := rfl

theorem posted_queue (s : State) (qid : Nat) (q : Queue) (t : Taken) (c : Completion) :
    mget (posted s qid q t c).host.queues qid = some (postedQueue q t) := by
  unfold posted
  rw [countN_queues]
  exact mget_mset_self _ _ _

/-- EXEC_ENTRY of a command that ends at once answers with its completion. -/
theorem execEntryBody_ends {s u : State} {b : List Byte} {blocks : List (List Byte)} {dmaOk : Bool} {c : Completion}
    (hlen : b.length = 64) (hbg : s.host.background = none)
    (hu : runEntry { s with host := { s.host with background := some (.execEntry (bytesLine b)), bgOutput := none } } .mailbox
      (bytesLine b) blocks dmaOk = u)
    (hdone : u.host.background = none) (hout : u.host.bgOutput = some c) :
    execEntryBody s b blocks dmaOk = emit { u with host := { u.host with bgOutput := none } } (.mailbox (.entry c)) := by
  unfold execEntryBody
  rw [if_neg (not_not.mpr hlen), hbg]
  dsimp only
  rw [if_neg (by decide), hu, hdone, hout]

/-- Settles O17: each doorbell by its value, a completion by the room in its queue, a deletion, and one entry through the mailbox. -/
theorem commandQueues : Obligations.CommandQueues := by
  unfold Obligations.CommandQueues
  refine ⟨fun s qid v es q hq => ⟨fun h => ?_, fun h => ?_, fun h => ?_, fun h => ?_, ?_⟩,
    fun s qid q t c hq hfind hdone => ⟨fun h => ?_, fun h => ⟨?_, ?_⟩⟩, ?_, ?_⟩
  · exact endsWork_of_eq rfl (sqTailBody_beyond hq h es)
  · exact endsWork_of_eq rfl (cqHeadBody_beyond hq h)
  · exact fun hes => endsWork_of_eq rfl (sqTailBody_inside hq h hes)
  · exact endsWork_of_eq rfl (cqHeadBody_inside hq h)
  · exact endsWork_of_eq rfl (dmaErrorBody_stops hq)
  · exact endsWork_of_eq rfl (commandCompleteBody_full hq h)
  · exact endsWork_of_eq rfl (commandCompleteBody_posts hq h hfind hdone)
  · exact ⟨posted s qid.toNat q t c, postOne_eq s qid.toNat q t c, postedQueue q t, posted_queue s qid.toNat q t c, rfl, rfl⟩
  · intro s payload q hserves hlen hbg qid hq
    exact endsWork_of_eq rfl ((mailbox_serves hserves false _).trans (queueDeleteBody_deletes hq hlen hbg rfl))
  · intro s payload c hserves hlen hbg e u hdone hout
    exact endsWork_of_eq rfl ((mailbox_serves hserves false _).trans (execEntryBody_ends hlen hbg rfl hdone hout))

/-! ### HDM decoders and the host link (R474, R477, R497, R584) -/

/-- A decoder without BI is not accepted. -/
theorem decoderOk_without_bi {x : HdmSetting} (h : x.bi = false) (s : State) (i : Nat) : decoderOk s i x = false := by
  simp [decoderOk, h]

theorem flushMsix_empty {s : State} (h : s.host.msix = []) : flushMsix s = s := by
  simp [flushMsix, h]

/-- The host link in L0 at a speed and width, and the report of one below 32 GT/s or 16 lanes (R474). -/
def linkTrained (s : State) (speed : BitVec 4) (width : BitVec 6) : State :=
  { s with host := { s.host with speed := speed, width := width, linkLow := none, wake := false } }
def degradedReported (speed : BitVec 4) (width : BitVec 6) (s : State) : State :=
  if speed.toNat < 6 ∨ width.toNat < 16 then raise s 0x260 0 else s

theorem hostLinkUp_from_down {s : State} (hterm : s.host.termination = true) (hdown : s.host.linkLow = some .down)
    (hmsix : s.host.msix = []) (speed : BitVec 4) (width : BitVec 6) :
    hostLinkUp s speed width = degradedReported speed width (linkTrained s speed width) := by
  have hback : (s.host.linkLow == some .l1 || s.host.linkLow == some .l2) = false := by rw [hdown]; rfl
  have hflush : flushMsix (linkTrained s speed width) = linkTrained s speed width := flushMsix_empty hmsix
  unfold hostLinkUp
  rw [if_neg (by simp [hterm]), hback]
  exact congrArg (degradedReported speed width) hflush

theorem hostLinkLeavesL0_low {s : State} {low : HostLinkLow} (hup : s.host.linkLow = none) (hspeed : s.host.speed ≠ 0)
    (hlow : low ≠ .down) : hostLinkLeavesL0 s low = { s with host := { s.host with linkLow := some low } } :=
  (if_neg hlow).trans (if_pos (by rw [hup, bne_iff_ne.mpr hspeed]; rfl))

/-- A ready interface takes Memory_Active and the withheld credits from the state of the boot (R497). -/
def interfaceReady (s : State) (serving : Bool) : State :=
  let u := { s with host := { s.host with
    crs := false
    infoValid := true
    memActive := s.host.memActive || serving
    creditsWithheld := s.host.creditsWithheld && !serving } }
  if serving then pump u else u

theorem hostInterfaceReady_ready {s : State} (hperst : s.host.perst = false) (hboot : s.boot.ended.contains 0x05 = true) :
    hostInterfaceReady s = interfaceReady s (s.boot.st == .serving) :=
  if_neg (by rw [hperst, hboot]; decide)

theorem interfaceReady_booting (s : State) :
    interfaceReady s false = { s with host := { s.host with crs := false, infoValid := true } } := by
  simp [interfaceReady]

theorem interfaceReady_serving (s : State) : interfaceReady s true = pump { s with host := { s.host with
    crs := false
    infoValid := true
    memActive := true
    creditsWithheld := false } } := by
  simp [interfaceReady]

/-- Settles O18: a commit by its check, the link by its direction, and the interface by the state of the boot. -/
theorem hostPort : Obligations.HostPort := by
  unfold Obligations.HostPort
  refine ⟨fun s i x => ⟨fun h => ?_, fun h => ?_, fun h => ?_⟩, fun s speed width hterm hdown hmsix => ⟨fun hfast hwide => ?_,
    fun h => ?_⟩, fun s => ⟨endsWork_of rfl, fun hup hspeed low hlow => ?_⟩, fun s hperst hboot => ⟨fun hst => ?_, fun hst => ?_⟩⟩
  · exact ends_of_eq rfl (if_pos h)
  · exact ends_of_eq rfl (if_neg (Bool.eq_false_iff.mp h))
  · exact decoderOk_without_bi h _ _
  · have hfull : ¬ (speed.toNat < 6 ∨ width.toNat < 16) := by omega
    exact endsWork_of_eq rfl ((hostLinkUp_from_down hterm hdown hmsix speed width).trans (if_neg hfull))
  · exact endsWork_of_eq rfl ((hostLinkUp_from_down hterm hdown hmsix speed width).trans (if_pos h))
  · have hlow' : low ≠ .down := by
      rintro rfl
      simp at hlow
    exact endsWork_of_eq rfl (hostLinkLeavesL0_low hup hspeed hlow')
  · refine endsWork_of_eq rfl ((hostInterfaceReady_ready hperst hboot).trans ?_)
    rw [beq_eq_false_iff_ne.mpr hst]
    exact interfaceReady_booting s
  · refine endsWork_of_eq rfl ((hostInterfaceReady_ready hperst hboot).trans ?_)
    rw [hst]
    exact interfaceReady_serving s

/-! ### Event records and the timestamp (R481) -/

section
variable {s : State} {log : Nat}

theorem getEventRecords_log (h : log ≤ 4) :
    getEventRecords s log = mbReply s (.records ((mgetD s.host.logs log []).take 511)) := if_neg (Nat.not_lt.mpr h)

theorem getEventRecords_unknown (h : 4 < log) : getEventRecords s log = mbReply s .invalidInput := if_pos h

theorem clearEventRecords_all (h : log ≤ 4) (hs : List (BitVec 16)) : clearEventRecords s log true hs =
    mbReply { s with host := { s.host with logs := mset s.host.logs log [] } } .ok := if_neg (Nat.not_lt.mpr h)

theorem clearEventRecords_oldest (h : log ≤ 4) {hs : List (BitVec 16)} (hold : oldestHandles hs (mgetD s.host.logs log []) = true) :
    clearEventRecords s log false hs = mbReply { s with host := { s.host with
      logs := mset s.host.logs log ((mgetD s.host.logs log []).drop hs.length) } } .ok :=
  (if_neg (Nat.not_lt.mpr h)).trans (if_neg (by simp [hold]))

theorem clearEventRecords_others (h : log ≤ 4) {hs : List (BitVec 16)} (hold : oldestHandles hs (mgetD s.host.logs log []) = false) :
    clearEventRecords s log false hs = mbReply s .invalidHandle :=
  (if_neg (Nat.not_lt.mpr h)).trans (if_pos (by simp [hold]))

theorem clearEventRecords_unknown (h : 4 < log) (all : Bool) (hs : List (BitVec 16)) :
    clearEventRecords s log all hs = mbReply s .invalidInput := if_pos h

theorem getTimestamp_unset (h : s.host.timestamp = none) : getTimestamp s = mbReply s (.bytes (natLe 8 0)) := by
  simp [getTimestamp, h]

theorem getTimestamp_set {v : BitVec 64} {t : Nat} (h : s.host.timestamp = some (v, t)) :
    getTimestamp s = mbReply s (.bytes (natLe 8 (v + BitVec.ofNat 64 (s.clockNs - t)).toNat)) := by
  simp [getTimestamp, stamp, h]

end

/-- Settles O19: each command of the event logs and the timestamp, once the mailbox serves. -/
theorem mailboxEvents : Obligations.MailboxEvents := by
  unfold Obligations.MailboxEvents
  intro s hserves
  have run (rom : Bool) (f : State → State) : mailbox s rom f = f s := mailbox_serves hserves rom f
  refine ⟨fun log h => ⟨?_, fun hs => ?_, fun hs hold => ?_, fun hs hold => ?_⟩, fun log h all hs => ⟨?_, ?_⟩, ?_, fun p => ?_,
    fun h => ?_, fun v t h => ?_, fun v => ?_⟩
  · exact ends_of_eq rfl ((run true _).trans (getEventRecords_log h))
  · exact ends_of_eq rfl ((run true _).trans (clearEventRecords_all h hs))
  · exact ends_of_eq rfl ((run true _).trans (clearEventRecords_oldest h hold))
  · exact ends_of_eq rfl ((run true _).trans (clearEventRecords_others h hold))
  · exact ends_of_eq rfl ((run true _).trans (getEventRecords_unknown h))
  · exact ends_of_eq rfl ((run true _).trans (clearEventRecords_unknown h all hs))
  · exact ends_of_eq rfl (run true _)
  · exact ends_of_eq rfl (run true _)
  · exact ends_of_eq rfl ((run false _).trans (getTimestamp_unset h))
  · exact ends_of_eq rfl ((run false _).trans (getTimestamp_set h))
  · exact ends_of_eq rfl (run false _)

/-! ### Firmware (R506, R508 to R510) -/

section
variable {s : State} {slot : Nat} {data : List Byte}

/-- A transfer begins in the inactive slot, which is empty until the transfer ends. -/
theorem transferFw_begins (hidle : s.host.fwTransfer = none) (hone : 1 ≤ slot) (htwo : slot ≤ 2)
    (hother : s.host.fwActive ≠ some (slot - 1)) :
    transferFw s 1 slot 0 data = mbReply { s with host := { s.host with
      fwTransfer := some ⟨slot - 1, data.length, data⟩
      fwSlots := mdel s.host.fwSlots (slot - 1) } } .ok := by
  simp [transferFw, hidle, hother, Nat.ne_of_gt hone, Nat.not_lt.mpr htwo]

theorem transferFw_active_slot (hactive : s.host.fwActive = some (slot - 1)) (hidle : s.host.fwTransfer = none) :
    transferFw s 1 slot 0 data = mbReply s .invalidInput := by
  simp [transferFw, hidle, hactive]

theorem transferFw_aborts (off : Nat) : transferFw s 4 slot off data =
    mbReply { s with host := { s.host with fwTransfer := none } } .ok := rfl

variable {t : FwTransfer} {off : Nat} (hrun : s.host.fwTransfer = some t) (hoff : 128 * off = t.received)
  (hmax : t.received + data.length ≤ 16777216)
include hrun hoff hmax

theorem transferFw_continues : transferFw s 2 slot off data = mbReply { s with host := { s.host with
    fwTransfer := some ⟨t.slot, t.received + data.length, t.bytes ++ data⟩ } } .ok := by
  simp [transferFw, hrun, hoff, Nat.not_lt.mpr hmax]

theorem transferFw_ends : transferFw s 3 slot off data = fwArrived s t.slot (t.bytes ++ data) := by
  simp [transferFw, hrun, hoff, Nat.not_lt.mpr hmax]

end

/-- A boot that has neither halted nor fallen back to the ROM is not started again. -/
theorem restartHalted_running {s : State} (hhalt : s.boot.st ≠ .halted) (hrom : s.boot.st ≠ .romRecovery) : restartHalted s = s :=
  if_neg (by simp [hhalt, hrom])

theorem activateFw_valid {s : State} {slot : Nat} {f : FwImage} (hone : 1 ≤ slot) (htwo : slot ≤ 2)
    (hslot : mget s.host.fwSlots (slot - 1) = some f) (hvalid : f.valid = true) (hhalt : s.boot.st ≠ .halted)
    (hrom : s.boot.st ≠ .romRecovery) :
    activateFw s 1 slot = mbReply { s with host := { s.host with fwPending := some (slot - 1) } } .ok := by
  have hgood : ¬ ((1 : Nat) ≠ 1 ∨ slot = 0 ∨ 2 < slot ∨ (!(mget s.host.fwSlots (slot - 1)).any (fun f => f.valid)) = true) := by
    simp [hslot, hvalid, Nat.ne_of_gt hone, htwo]
  unfold activateFw
  rw [if_neg hgood]
  exact restartHalted_running (by simpa using hhalt) (by simpa using hrom)

/-- Settles O20: the slots' report, the parts of a transfer by its action, and an activation. -/
theorem mailboxFirmware : Obligations.MailboxFirmware := by
  unfold Obligations.MailboxFirmware
  intro s hserves
  have run (f : State → State) : mailbox s true f = f s := mailbox_serves hserves true f
  obtain ⟨-, hrom⟩ := hserves
  refine ⟨ends_of_eq rfl (run _), fun slot data hidle hone htwo hother => ?_, fun slot data hactive hidle => ?_,
    fun slot off data t hrun hoff hmax => ⟨?_, ?_⟩,
    fun slot off data => ends_of_eq rfl ((run _).trans (transferFw_aborts off.toNat)),
    fun slot f hone htwo hslot hvalid hhalt => ?_⟩
  · exact ends_of_eq rfl ((run _).trans (transferFw_begins hidle hone htwo hother))
  · exact ends_of_eq rfl ((run _).trans (transferFw_active_slot hactive hidle))
  · exact ends_of_eq rfl ((run _).trans (transferFw_continues hrun hoff hmax))
  · exact ends_of_eq rfl ((run _).trans (transferFw_ends hrun hoff hmax))
  · exact ends_of_eq rfl ((run _).trans (activateFw_valid hone htwo hslot hvalid hhalt hrom))

end Sys2Proof.Proofs.HostInterface
end

section
/-! SUPPORT. The fault collector (16): what a raise registers (R535, R538 to R540), and the collector's own commands (R532, R533,
R551, R554). The first part says what `register` leaves in each field of the collector; the obligations follow from it. -/

namespace Sys2Proof.Proofs.FaultCollector

open Sys2Proof Sys2Proof.Machine Sys2Proof.Safety Sys2Proof.Proofs.OnePass

/-! ### What the end of a registration leaves of the collector -/

@[simp] theorem signalMsix_flt (s : State) (v : Nat) : (signalMsix s v).flt = s.flt := by
  unfold signalMsix
  split
  · dsimp only
    split <;> rfl
  · rfl

@[simp] theorem driveAlert_flt (b s : State) : (driveAlert b s).flt = s.flt := by
  unfold driveAlert
  split <;> rfl

/-! ### What a registration leaves (R534 to R550) -/

/-- The mapped severity is raised by one level where the class, or at S4 the reset class, is unacknowledged (R539, R540). -/
def raiseEscalates (s : State) (ev cause : Nat) : Bool :=
  let c := (cls s ev).atCycle s.clockNs
  escalates (mappedLevel s ev cause) (c.unacked || c.startUnacked) (resetClaims s)
def raiseLevel (s : State) (ev cause : Nat) : Nat := effectiveLevel (mappedLevel s ev cause) (raiseEscalates s ev cause)

/-- Is a raise written to the log: always at S2 and higher, at most once in a millisecond below (R549)? -/
def raiseWritten (s : State) (ev cause : Nat) : Bool :=
  !decide (raiseLevel s ev cause < 2) || elapsed s ((cls s ev).atCycle s.clockNs).lowNs 1000000

/-- The class of a raise after it (R538, R540, R543, R549, R553). -/
def raisedClass (s : State) (ev cause : Nat) (part : Part) : FltClass :=
  let c := (cls s ev).atCycle s.clockNs
  let eff := raiseLevel s ev cause
  let low := decide (eff < 2)
  { c with
    count := c.count + 1
    lastCause := BitVec.ofNat 8 cause
    unacked := c.unacked || !low
    pending := if low then c.pending else BitVec.ofNat 3 (max c.pending.toNat eff)
    lastAlert := nbit (faultMap s ev).2.1 1
    lastPool := nbit (faultMap s ev).2.1 3
    lowNs := if low && raiseWritten s ev cause then some s.clockNs else c.lowNs
    fresh := if low then c.fresh else BitVec.ofNat 3 (max c.fresh.toNat eff)
    excluded := match part with
      | .peer n => if 3 ≤ eff && !c.excluded.contains n then n :: c.excluded else c.excluded
      | _ => c.excluded }

/-- The record of a raise (R548). -/
def raisedRecord (s : State) (ev cause info : Nat) : FltRecord where
  event := BitVec.ofNat 10 ev
  cause := BitVec.ofNat 8 cause
  effective := BitVec.ofNat 3 (raiseLevel s ev cause)
  mapped := BitVec.ofNat 3 (mappedLevel s ev cause)
  escalated := raiseEscalates s ev cause
  route := BitVec.ofNat 4 (faultMap s ev).2.1
  carried := false
  resetPart := raiseEscalates s ev cause && decide (mappedLevel s ev cause = 4) && resetClaims s
  vector := BitVec.ofNat 11 (faultMap s ev).2.2
  time := stamp s
  info := BitVec.ofNat 128 info

/-- The collector's records after a raise: the class, the log, and Radish's copy (R549, R550). -/
def raiseRecorded (s : State) (ev cause : Nat) (part : Part) (info : Nat) : State :=
  let r := raisedRecord s ev cause info
  let u := setCls s ev (raisedClass s ev cause part)
  let u := if raiseWritten s ev cause then logRecord u r else u
  if 3 ≤ raiseLevel s ev cause ∨ ev = 0x283 then { u with flt := { u.flt with radish := (putRecord r u.flt.radish).take 16 } } else u

/-- The reset class and the latch after a raise (R534, R546). -/
def raiseLatched (s : State) (ev cause : Nat) (part : Part) (info : Nat) : State :=
  let u := raiseRecorded s ev cause part info
  let u := if 4 ≤ raiseLevel s ev cause then resetRaised u else u
  if raiseLevel s ev cause = 5 then { u with flt := { u.flt with latchRecord := some (raisedRecord s ev cause info) } } else u

/-- The routes of a raise: Radish, the host, ALERT_L (R545, R549). -/
def raiseRouted (s : State) (ev cause : Nat) (part : Part) (info : Nat) : State :=
  let u := raiseLatched s ev cause part info
  let u := if nbit (faultMap s ev).2.1 2 then { u with aon := { u.aon with faultSev := max u.aon.faultSev (raiseLevel s ev cause) } } else u
  let u := if nbit (faultMap s ev).2.1 0 then signalMsix u (faultMap s ev).2.2 else u
  driveAlert s u

theorem register_eq (s : State) (ev cause : Nat) (part : Part) (info : Nat) (during : Bool) :
    register s ev cause part info during =
      { raiseRouted s ev cause part info with flt := { (raiseRouted s ev cause part info).flt with
        react := (raiseRouted s ev cause part info).flt.react ++ reactionOf (raiseLevel s ev cause) ev part during } } := rfl

section
variable (s : State) (ev cause : Nat) (part : Part) (info : Nat)

theorem raiseRouted_flt : (raiseRouted s ev cause part info).flt = (raiseLatched s ev cause part info).flt := by
  unfold raiseRouted
  simp only [driveAlert_flt, apply_ite State.flt, signalMsix_flt, ite_self]

theorem logRecord_log (r : FltRecord) : (logRecord s r).flt.log = putRecord r (s.flt.log.take 511) := by
  unfold logRecord
  split
  · rename_i hroom
    exact congrArg (putRecord r) (List.take_of_length_le (Nat.le_of_lt_succ hroom)).symm
  · rfl

/-- The log holds the records alone. -/
theorem logRecord_same (r : FltRecord) : (logRecord s r).flt.classes = s.flt.classes ∧ (logRecord s r).flt.react = s.flt.react ∧
    (logRecord s r).flt.resetUnacked = s.flt.resetUnacked := by
  unfold logRecord
  split <;> exact ⟨rfl, rfl, rfl⟩

theorem raiseRecorded_same : (raiseRecorded s ev cause part info).flt.classes = mset s.flt.classes ev (raisedClass s ev cause part) ∧
    (raiseRecorded s ev cause part info).flt.react = s.flt.react ∧
    (raiseRecorded s ev cause part info).flt.resetUnacked = s.flt.resetUnacked := by
  unfold raiseRecorded
  extract_lets r u v
  have hlogged : v.flt.classes = u.flt.classes ∧ v.flt.react = u.flt.react ∧ v.flt.resetUnacked = u.flt.resetUnacked := by
    unfold v
    split
    · exact logRecord_same u r
    · exact ⟨rfl, rfl, rfl⟩
  split <;> exact hlogged

theorem raiseRecorded_log (h : 2 ≤ raiseLevel s ev cause) :
    (raiseRecorded s ev cause part info).flt.log = putRecord (raisedRecord s ev cause info) (s.flt.log.take 511) := by
  have hwritten : raiseWritten s ev cause = true := by simp [raiseWritten, Nat.not_lt.mpr h]
  unfold raiseRecorded
  dsimp only
  rw [if_pos hwritten]
  split <;> exact logRecord_log _ _

theorem raiseLatched_same :
    (raiseLatched s ev cause part info).flt.classes = (raiseRecorded s ev cause part info).flt.classes ∧
    (raiseLatched s ev cause part info).flt.react = (raiseRecorded s ev cause part info).flt.react ∧
    (raiseLatched s ev cause part info).flt.log = (raiseRecorded s ev cause part info).flt.log := by
  unfold raiseLatched
  dsimp only
  split <;> split <;> exact ⟨rfl, rfl, rfl⟩

theorem raiseLatched_reset : (raiseLatched s ev cause part info).flt.resetUnacked =
    if 4 ≤ raiseLevel s ev cause then true else s.flt.resetUnacked := by
  unfold raiseLatched
  extract_lets u v
  have hreset : v.flt.resetUnacked = if 4 ≤ raiseLevel s ev cause then true else s.flt.resetUnacked := by
    obtain ⟨-, -, hrecorded⟩ := raiseRecorded_same s ev cause part info
    unfold v
    split
    · rfl
    · exact hrecorded
  split <;> exact hreset

variable (hout : s.flt.inReset = false)
include hout

theorem raiseP_flt : (raiseP s ev cause part info).flt = { (raiseLatched s ev cause part info).flt with
    react := (raiseLatched s ev cause part info).flt.react ++ reactionOf (raiseLevel s ev cause) ev part false } := by
  unfold raiseP
  rw [if_neg (by simp [hout]), register_eq, raiseRouted_flt]

theorem raiseP_classes : (raiseP s ev cause part info).flt.classes = mset s.flt.classes ev (raisedClass s ev cause part) := by
  obtain ⟨hlatched, -, -⟩ := raiseLatched_same s ev cause part info
  obtain ⟨hrecorded, -, -⟩ := raiseRecorded_same s ev cause part info
  rw [raiseP_flt s ev cause part info hout]
  exact hlatched.trans hrecorded

theorem raiseP_react : (raiseP s ev cause part info).flt.react = s.flt.react ++ reactionOf (raiseLevel s ev cause) ev part false := by
  obtain ⟨-, hlatched, -⟩ := raiseLatched_same s ev cause part info
  obtain ⟨-, hrecorded, -⟩ := raiseRecorded_same s ev cause part info
  rw [raiseP_flt s ev cause part info hout]
  exact congrArg (· ++ _) (hlatched.trans hrecorded)

theorem raiseP_log (h : 2 ≤ raiseLevel s ev cause) :
    (raiseP s ev cause part info).flt.log = putRecord (raisedRecord s ev cause info) (s.flt.log.take 511) := by
  obtain ⟨-, -, hlatched⟩ := raiseLatched_same s ev cause part info
  rw [raiseP_flt s ev cause part info hout]
  exact hlatched.trans (raiseRecorded_log s ev cause part info h)

theorem raiseP_resetUnacked : (raiseP s ev cause part info).flt.resetUnacked =
    if 4 ≤ raiseLevel s ev cause then true else s.flt.resetUnacked := by
  rw [raiseP_flt s ev cause part info hout]
  exact raiseLatched_reset s ev cause part info

theorem cls_raiseP_same : cls (raiseP s ev cause part info) ev = raisedClass s ev cause part := by
  simp [cls, raiseP_classes s ev cause part info hout]

theorem cls_raiseP_other {ev' : Nat} (h : ev' ≠ ev) : cls (raiseP s ev cause part info) ev' = cls s ev' := by
  unfold cls
  rw [raiseP_classes s ev cause part info hout, mgetD_mset_of_ne _ _ _ h]

end

/-! ### Escalation (R539, R542 to R544) -/

/-- A raise of mapped severity `m` is one level higher where its class is claimed, and at S4 where the reset class is. -/
theorem effectiveLevel_escalates (m : Nat) (claimed reset : Bool) : effectiveLevel m (escalates m claimed reset) =
    if 2 ≤ m ∧ claimed = true then min 5 (m + 1) else if m = 4 ∧ reset = true then 5 else m := by
  unfold effectiveLevel escalates
  by_cases hm : 2 ≤ m
  · cases claimed <;> cases reset <;> by_cases h4 : m = 4 <;> simp [hm, h4]
  · have h4 : m ≠ 4 := by omega
    simp [hm, h4]

theorem reactionOf_outside_reset (eff ev : Nat) (part : Part) : reactionOf eff ev part false =
    if eff = 3 ∧ part ≠ .none then [.fence (BitVec.ofNat 10 ev) part]
    else if eff = 4 then [.deviceReset (if ev = 0x2E1 then 3 else 2)]
    else if eff = 5 then [.latch] else [] := by
  unfold reactionOf
  by_cases h3 : eff = 3
  · by_cases hpart : part = .none <;> simp [h3, hpart]
  · simp [h3]

/-- Settles O43: each field of the collector after a raise, and what a raise leaves. -/
theorem faultEscalation : Obligations.FaultEscalation := by
  unfold Obligations.FaultEscalation
  intro s ev cause part info hout t m c d claimed up eff
  have hup : raiseEscalates s ev cause = true ↔ up := by simp [raiseEscalates, escalates, up, claimed, m, c]
  have heff : raiseLevel s ev cause = eff :=
    (effectiveLevel_escalates m (c.unacked || c.startUnacked) (resetClaims s)).trans (by simp only [Bool.or_eq_true]; rfl)
  have hlow : (!decide (eff < 2)) = decide (2 ≤ eff) := by
    rw [← decide_not]
    exact decide_eq_decide.mpr Nat.not_lt
  have hd : d = raisedClass s ev cause part := cls_raiseP_same s ev cause part info hout
  refine ⟨?_, ?_, ?_, fun ev' h => cls_raiseP_other s ev cause part info hout h, ?_, fun h => ?_,
    ⟨_, raiseP_react s ev cause part info hout, ?_⟩, ?_⟩
  · rw [hd]
    rfl
  · rw [hd, ← hlow, ← heff]
    rfl
  · rw [hd, ← heff]
    simp [raisedClass, c]
  · rw [raiseP_resetUnacked s ev cause part info hout, heff]
    split <;> simp [*]
  · exact ⟨raisedRecord s ev cause info, raiseP_log s ev cause part info hout (heff ▸ h), rfl, congrArg (BitVec.ofNat 3) heff, rfl, hup⟩
  · rw [heff]
    exact reactionOf_outside_reset eff ev part
  · simp [t]

/-! ### The collector's own commands (R532, R533, R538, R551, R554) -/

section
variable {s : State} {ev cause : Nat}

theorem faultRaise_reload (part : Part) (info : BitVec 128) :
    faultRaise s 0x164 1 part info = reloadBegins s (info.toNat % 64) := rfl

theorem faultRaise_raises (hdef : eventDefault ev ≠ none) (h : ¬ (ev = 0x164 ∧ cause = 1)) (part : Part) (info : BitVec 128) :
    faultRaise s ev cause part info = raiseP s ev cause part info.toNat :=
  (if_neg h).trans (if_pos (Option.isSome_iff_ne_none.mpr hdef))

theorem faultRaise_unknown (hdef : eventDefault ev = none) (part : Part) (info : BitVec 128) : faultRaise s ev cause part info = s := by
  have hreload : ¬ (ev = 0x164 ∧ cause = 1) := by
    rintro ⟨rfl, -⟩
    exact absurd hdef (by decide)
  exact (if_neg hreload).trans (if_neg (by simp [raisable, hdef]))

end

/-- The class after its acknowledgement (R538, R540). -/
def acknowledged (s : State) (ev : Nat) : State :=
  let c := (cls s ev).atCycle s.clockNs
  setCls s ev { c with
    unacked := c.fresh != 0
    pending := c.fresh
    excluded := if c.fresh = 0 then [] else c.excluded }

theorem classAcknowledge_eq {ev : Nat} (h : ev ≠ 0x169) (s : State) : classAcknowledge s ev = driveAlert s (acknowledged s ev) := by
  unfold classAcknowledge
  exact congrArg (driveAlert s) (if_neg h)

theorem driveAlert_same {s u : State} (h : alertL s = alertL u) : driveAlert s u = u := if_pos h
theorem driveAlert_changed {s u : State} (h : alertL s ≠ alertL u) : driveAlert s u = emit u (.alert (alertL u)) := if_neg h

theorem resetClassAcknowledge_new_cycle {s : State} (h : s.flt.resetNs ≠ s.clockNs) : resetClassAcknowledge s =
    { s with flt := { s.flt with
      resetStart := s.flt.resetUnacked
      resetFresh := false
      resetUnacked := false
      resetNs := s.clockNs } } := by
  simp [resetClassAcknowledge, h]

theorem resetClassAcknowledge_same_cycle {s : State} (h : s.flt.resetNs = s.clockNs) : resetClassAcknowledge s =
    { s with flt := { s.flt with resetUnacked := s.flt.resetFresh } } := by
  simp [resetClassAcknowledge, ← h]

/-- The state with an event selected for injection (R554). -/
def injectSelected (s : State) (event : BitVec 10) : State := { s with flt := { s.flt with injEvent := event } }

theorem faultInject_eq (s : State) (event : BitVec 10) : faultInject s event.toNat =
    if (0x2E0 ≤ event.toNat ∧ event.toNat ≤ 0x2FF) ∨ (!raisable event.toNat) = true then injectSelected s event
    else raise (injectSelected s event) event.toNat 0xFF := by
  unfold faultInject injectSelected
  rw [BitVec.ofNat_toNat, BitVec.setWidth_eq]

/-- Settles O44: a report by its event, an acknowledgement by what was raised in its cycle, an injection by its event. -/
theorem faultCommands : Obligations.FaultCommands := by
  unfold Obligations.FaultCommands
  refine ⟨fun s event cause part info => ⟨?_, fun hdef h => ?_, fun hdef => ?_⟩, fun s event hevent => ⟨fun h => ?_, fun h => ?_⟩,
    fun s => ⟨fun h => ?_, fun h => ?_⟩, fun s event => ⟨fun hdef h => ?_, fun h => ?_⟩, fun s e => endsWork_of rfl⟩
  · rintro rfl rfl
    exact endsWork_of_eq rfl (faultRaise_reload part info)
  · refine endsWork_of_eq rfl (faultRaise_raises hdef (fun hboth => ?_) part info)
    obtain ⟨hev, hcause⟩ := hboth
    exact h.elim (fun hne => hne (BitVec.eq_of_toNat_eq hev)) fun hne => hne (BitVec.eq_of_toNat_eq hcause)
  · exact endsWork_of_eq rfl (faultRaise_unknown hdef part info)
  · exact endsWork_of_eq rfl ((classAcknowledge_eq (fun he => hevent (BitVec.eq_of_toNat_eq he)) s).trans (driveAlert_same h))
  · exact endsWork_of_eq rfl ((classAcknowledge_eq (fun he => hevent (BitVec.eq_of_toNat_eq he)) s).trans (driveAlert_changed h))
  · exact ends_of_eq rfl (resetClassAcknowledge_new_cycle h)
  · exact ends_of_eq rfl (resetClassAcknowledge_same_cycle h)
  · refine endsWork_of_eq rfl ((faultInject_eq s event).trans (if_neg ?_))
    have hraisable : raisable event.toNat = true := Option.isSome_iff_ne_none.mpr hdef
    rw [hraisable]
    rintro (hsecure | hundefined)
    · omega
    · cases hundefined
  · refine endsWork_of_eq rfl ((faultInject_eq s event).trans (if_pos (h.imp_right fun hdef => ?_)))
    simp [raisable, hdef]

end Sys2Proof.Proofs.FaultCollector
end

section
/-! SUPPORT. The step itself, and the secure world (15): the SEC mailbox (R511 to R514, R519 to R523), the SPDM responder (R515 to
R518), and the hold votes (R525 to R530). Each part states what the operation of its unit does in each case, and ends with the
obligation that puts the cases together. -/

namespace Sys2Proof.Proofs.SecureWorld

open Sys2Proof Sys2Proof.Machine Sys2Proof.Safety Sys2Proof.Proofs.OnePass

/-! ### The step -/

theorem step_front (s : State) (c : Instr) (rest : List Instr) :
    step { s with pending := c :: rest } = exec c { s with pending := rest } := rfl

theorem step_idle {s : State} (h : s.pending = []) : step s = .next (tick s) := by
  unfold step
  rw [h]

/-- Inside a microsecond only the clock moves. -/
theorem tick_inside_micro {s : State} (h : (s.clockNs + 1) % 1000 ≠ 0) : tick s = { s with clockNs := s.clockNs + 1 } := if_neg h

/-- Settles O56: the front command, and the clock on an empty queue. -/
theorem stepRunsTheFrontCommand : Obligations.StepRunsTheFrontCommand := by
  unfold Obligations.StepRunsTheFrontCommand
  exact ⟨step_front, fun s hidle hmicro => (step_idle hidle).trans (congrArg _ (tick_inside_micro hmicro))⟩

/-! ### SEC commands: the layout check (R522) -/

section
variable {s : State} {op : Nat} {input : List Byte}

theorem secCmd_length {lengthOk : Bool} (h : lengthOk = false) (run : State → State × Nat × List Byte) :
    secCmd s op input lengthOk run = secDone s op input stLength [] := if_pos (by simp [h])

theorem secCmd_runs {lengthOk : Bool} (h : lengthOk = true) (hfits : input.length ≤ 16384) (run : State → State × Nat × List Byte) :
    secCmd s op input lengthOk run = secDone (run s).1 op input (run s).2.1 (run s).2.2 := if_neg (by simp [h, hfits])

/-- A layout of a head, and of a rest whose length the head gives. -/
theorem secCmd_other_length {head n : Nat} (h : input.length ≠ head + n) (run : State → State × Nat × List Byte) :
    secCmd s op input (decide (head ≤ input.length) && decide (input.length = head + n)) run = secDone s op input stLength [] :=
  secCmd_length (by simp [h]) run

theorem secCmd_own_length {head n : Nat} (h : input.length = head + n) (hfits : input.length ≤ 16384)
    (run : State → State × Nat × List Byte) :
    secCmd s op input (decide (head ≤ input.length) && decide (input.length = head + n)) run =
      secDone (run s).1 op input (run s).2.1 (run s).2.2 := secCmd_runs (by simp [h]) hfits run

theorem secCmd_not_empty (h : input ≠ []) (run : State → State × Nat × List Byte) :
    secCmd s op input input.isEmpty run = secDone s op input stLength [] := secCmd_length (List.isEmpty_eq_false_iff.mpr h) run

theorem secCmd_empty (run : State → State × Nat × List Byte) :
    secCmd s op [] ([] : List Byte).isEmpty run = secDone (run s).1 op [] (run s).2.1 (run s).2.2 :=
  secCmd_runs rfl (Nat.zero_le _) run

/-- The end of a command that answers in one of two ways. -/
theorem secDone_ite {c : Prop} [Decidable c] (p q : State × Nat × List Byte) :
    secDone (if c then p else q).1 op input (if c then p else q).2.1 (if c then p else q).2.2 =
      if c then secDone p.1 op input p.2.1 p.2.2 else secDone q.1 op input q.2.1 q.2.2 := by
  split <;> rfl

end

section
variable {s : State} {input : List Byte}

theorem secEnrol_length (h : input.length ≠ 1795 + field input 1793 2) : secEnrol s input = secDone s 0x02 input stLength [] := by
  unfold secEnrol
  exact secCmd_other_length h _

theorem secRelease_length (h : input.length ≠ 2 + field input 0 2) : secRelease s input = secDone s 0x03 input stLength [] := by
  unfold secRelease
  exact secCmd_other_length h _

theorem secKeySupply_length (h : input.length ≠ 0x692 + field input 0x690 2) :
    secKeySupply s input = secDone s 0x04 input stLength [] := by
  unfold secKeySupply
  exact secCmd_other_length h _

theorem secSvnRaise_length (h : input.length ≠ 6 + field input 4 2) : secSvnRaise s input = secDone s 0x06 input stLength [] := by
  unfold secSvnRaise
  exact secCmd_other_length h _

theorem secBuddyPair_length (h : input.length < 1573 + field input 0 4) :
    secBuddyPair s input = secDone s 0x07 input stLength [] := by
  have hshort : ¬ 4 + field input 0 4 + 1569 ≤ input.length := by omega
  unfold secBuddyPair
  exact secCmd_length (by simp [hshort]) _

end

/-! ### ENROL, RELEASE and SVN_RAISE: signed with a nonce (R511 to R514) -/

/-- Where nothing else denies a command, its signature decides. -/
theorem signature_decides {α : Type} {closed : Bool} (h : closed = false) (sig : Bool) (denied ok : α) :
    (if (closed || !sig) = true then denied else ok) = if sig = true then ok else denied := by
  subst h
  cases sig <;> rfl

/-- What an enrolment leaves: the owner's digest in the next slot, and its key (R513). -/
def enrolled (s : State) (key : List Byte) : State :=
  { useNonce s with sec := { (useNonce s).sec with
    slots := s.sec.slots ++ [⟨shake256 key 32, false⟩]
    ownerKey := some key
    ownerOk := true } }

/-- What a release leaves: the owner's keys are destroyed, and its slot is revoked (R514). -/
def released (s : State) : State :=
  { destroyOwnerKeys (useNonce s) with sec := { (destroyOwnerKeys (useNonce s)).sec with
    slots := revokeLast s.sec.slots
    ownerKey := none } }

/-- A floor: that of the image, or that of the firmware (R511); what it may rise to; and the state with another one. -/
def svnFloor (s : State) (which : Nat) : Nat := if which = 0 then s.sec.imgFloor else s.sec.fwFloor
def svnTop (s : State) (which : Nat) : Nat := if which = 0 then s.img.active.svn else fwSvn s
def svnRaised (s : State) (which floor : Nat) : State :=
  if which = 0 then { useNonce s with sec := { (useNonce s).sec with imgFloor := floor } }
  else { useNonce s with sec := { (useNonce s).sec with fwFloor := floor } }

section
variable {s : State} {input nonce : List Byte} (hfits : input.length ≤ 16384) (hnonce : nonceBytes s = some nonce)
include hfits hnonce

theorem secEnrol_signed (hlen : input.length = 1795 + field input 1793 2) (hn : field input 1793 2 ≠ 0) : secEnrol s input =
    if (!s.sec.secured || (ownerDigest s).isSome || decide (4 ≤ s.sec.slots.length) ||
        !Config.falconVerify (bytesAt input 0 1793) (ascii "LX9012-ENROL" ++ nonce ++ lotBytes s)
          (bytesAt input 1795 (field input 1793 2))) = true then secDone (useNonce s) 0x02 input stDenied []
    else secDone (raise (enrolled s (bytesAt input 0 1793)) 0x2E5 0) 0x02 input stOk [] := by
  unfold secEnrol
  refine (secCmd_own_length hlen hfits _).trans ?_
  dsimp only
  rw [hnonce, if_neg hn]
  exact secDone_ite _ _

/-- On a SECURED part without an owner and with a free slot the signature decides. -/
theorem secEnrol_free (hlen : input.length = 1795 + field input 1793 2) (hn : field input 1793 2 ≠ 0) (hsec : s.sec.secured = true)
    (hfree : ownerDigest s = none) (hslots : s.sec.slots.length < 4) : secEnrol s input =
    if Config.falconVerify (bytesAt input 0 1793) (ascii "LX9012-ENROL" ++ nonce ++ lotBytes s)
        (bytesAt input 1795 (field input 1793 2)) = true then
      secDone (raise (enrolled s (bytesAt input 0 1793)) 0x2E5 0) 0x02 input stOk []
    else secDone (useNonce s) 0x02 input stDenied [] := by
  have hopen : (!s.sec.secured || (ownerDigest s).isSome || decide (4 ≤ s.sec.slots.length)) = false := by
    simp [hsec, hfree, hslots]
  exact (secEnrol_signed hfits hnonce hlen hn).trans (signature_decides hopen _ _ _)

theorem secEnrol_closed (hlen : input.length = 1795 + field input 1793 2) (hn : field input 1793 2 ≠ 0)
    (h : s.sec.secured = false ∨ ownerDigest s ≠ none ∨ 4 ≤ s.sec.slots.length) :
    secEnrol s input = secDone (useNonce s) 0x02 input stDenied [] := by
  have hclosed : (!s.sec.secured || (ownerDigest s).isSome || decide (4 ≤ s.sec.slots.length)) = true := by
    simpa [Option.isSome_iff_ne_none, or_assoc] using h
  rw [secEnrol_signed hfits hnonce hlen hn, hclosed, Bool.true_or, if_pos rfl]

theorem secRelease_signed (hlen : input.length = 2 + field input 0 2) (hn : field input 0 2 ≠ 0) : secRelease s input =
    if extentCount s.chd.extents ≠ 0 then secDone (useNonce s) 0x03 input stBusyRetry []
    else if ((ownerDigest s).isNone || !ownerSigned s (ascii "LX9012-RELEASE" ++ nonce ++ lotBytes s)
        (bytesAt input 2 (field input 0 2))) = true then secDone (useNonce s) 0x03 input stDenied []
    else secDone (raise (released s) 0x2E6 0) 0x03 input stOk [] := by
  unfold secRelease
  refine (secCmd_own_length hlen hfits _).trans ?_
  dsimp only
  rw [hnonce, if_neg hn]
  exact (secDone_ite _ _).trans (congrArg (ite _ _) (secDone_ite _ _))

theorem secSvnRaise_signed (hlen : input.length = 6 + field input 4 2) (hn : field input 4 2 ≠ 0) (hwhich : field input 0 1 ≤ 1)
    (hrsv : allZero input 2 2 = true) : secSvnRaise s input =
    if ((ownerDigest s).isNone || !ownerSigned s (ascii "LX9012-SVN" ++ bytesAt input 0 2 ++ nonce ++ lotBytes s)
        (bytesAt input 6 (field input 4 2))) = true then secDone (useNonce s) 0x06 input stDenied []
    else if field input 1 1 ≤ svnFloor s (field input 0 1) ∨ svnTop s (field input 0 1) < field input 1 1 ∨ 64 < field input 1 1 then
      secDone (useNonce s) 0x06 input 0x0A []
    else secDone (raise (svnRaised s (field input 0 1) (field input 1 1)) 0x2E7 0) 0x06 input stOk [] := by
  have hform : ¬ (1 < field input 0 1 ∨ field input 4 2 = 0 ∨ (!allZero input 2 2) = true) := by
    simp [Nat.not_lt.mpr hwhich, hn, hrsv]
  unfold secSvnRaise
  refine (secCmd_own_length hlen hfits _).trans ?_
  dsimp only
  rw [hnonce, if_neg hform]
  exact (secDone_ite _ _).trans (congrArg (ite _ _) (secDone_ite _ _))

end

/-! ### KEY_SUPPLY (R519) -/

/-- What KEY_SUPPLY asks of its fields: a signature of 1 to 1,462 B, and a domain whose keys its owner supplies. -/
structure SupplyFormed (s : State) (input : List Byte) : Prop where
  fits : input.length ≤ 16384
  length : input.length = 0x692 + field input 0x690 2
  signed : 1 ≤ field input 0x690 2
  signature : field input 0x690 2 ≤ 1462
  domain : field input 0 2 ≤ 4095
  source : domainSource s (field input 0 2) = 2
  reserved : field input 3 1 = 0

/-- Is the supply signed by the owner? -/
def supplySigned (s : State) (input : List Byte) : Bool :=
  ownerSigned s (ascii "LX9012-KEYS" ++ shake256 (bytesAt input 0 0x690) 64 ++ lotBytes s) (bytesAt input 0x692 (field input 0x690 2))

/-- The keys of a supply, and whether it is stale: of another generation than the next, or of a serial not above the last. -/
def suppliedKeys (s : State) (input : List Byte) : Option KeySet :=
  Config.unwrapKeys s.sec.deviceSecret (bytesAt input 8 1568) (bytesAt input 0x628 104)
abbrev supplyStale (s : State) (input : List Byte) : Prop :=
  let k := domKeys s (field input 0 2)
  field input 2 1 ≠ (if k.cur.isSome then 1 - b2n k.current else 0) ∨ field input 4 4 ≤ k.supplySerial.toNat

/-- The first keys of a domain are current at once. -/
def firstSupplied (s : State) (input : List Byte) (g : KeySet) : State :=
  setDom s (field input 0 2) { domKeys s (field input 0 2) with
    supplySerial := BitVec.ofNat 32 (field input 4 4)
    cur := some g
    current := false
    supplied := none }

/-- The answer to a supply whose fields hold. -/
def supplyAnswer (s : State) (input : List Byte) : State × Nat × List Byte :=
  if (!supplySigned s input) = true then (s, stDenied, [])
  else if supplyStale s input then (s, 0x0A, [])
  else match suppliedKeys s input with
    | none => (s, stDenied, [])
    | some g =>
      let k := { domKeys s (field input 0 2) with supplySerial := BitVec.ofNat 32 (field input 4 4) }
      (raise (if k.cur.isSome then setDom s (field input 0 2) { k with supplied := some g }
        else setDom s (field input 0 2) { k with cur := some g, current := false, supplied := none }) 0x2E8 0, stOk, [])

section
variable {s : State} {input : List Byte} (hform : SupplyFormed s input)
include hform

theorem secKeySupply_answers {r : State × Nat × List Byte} (h : supplyAnswer s input = r) :
    secKeySupply s input = secDone r.1 0x04 input r.2.1 r.2.2 := by
  obtain ⟨hfits, hlen, hone, hmax, hdom, hsource, hrsv⟩ := hform
  have hfields : ¬ (field input 0x690 2 = 0 ∨ 1462 < field input 0x690 2 ∨ 4095 < field input 0 2 ∨
      domainSource s (field input 0 2) ≠ 2 ∨ field input 3 1 ≠ 0) := by omega
  subst h
  unfold secKeySupply
  refine (secCmd_own_length hlen hfits _).trans ?_
  dsimp only
  rw [if_neg hfields]
  rfl

theorem secKeySupply_unsigned (hsig : supplySigned s input = false) :
    secKeySupply s input = secDone s 0x04 input stDenied [] :=
  secKeySupply_answers hform (if_pos (by simp [hsig]))

theorem secKeySupply_stale (hsig : supplySigned s input = true) (hstale : supplyStale s input) :
    secKeySupply s input = secDone s 0x04 input 0x0A [] :=
  secKeySupply_answers hform ((if_neg (by simp [hsig])).trans (if_pos hstale))

theorem secKeySupply_garbled (hsig : supplySigned s input = true) (hfresh : ¬ supplyStale s input)
    (hkeys : suppliedKeys s input = none) : secKeySupply s input = secDone s 0x04 input stDenied [] := by
  refine secKeySupply_answers hform (r := (s, stDenied, [])) ((if_neg (by simp [hsig])).trans ((if_neg hfresh).trans ?_))
  rw [hkeys]

theorem secKeySupply_first (hsig : supplySigned s input = true) (hfresh : ¬ supplyStale s input) {g : KeySet}
    (hkeys : suppliedKeys s input = some g) (hcur : (domKeys s (field input 0 2)).cur = none) :
    secKeySupply s input = secDone (raise (firstSupplied s input g) 0x2E8 0) 0x04 input stOk [] := by
  refine secKeySupply_answers hform (r := (_, stOk, [])) ((if_neg (by simp [hsig])).trans ((if_neg hfresh).trans ?_))
  rw [hkeys]
  dsimp only
  rw [if_neg (by simp [hcur])]
  rfl

end

/-! ### BUDDY_PAIR (R520) -/

/-- Does a chain belong to the buddy: it verifies, names this part's owner, and its node is the buddy's (R520)? -/
def chainHolds (s : State) (chain : List Byte) : Prop :=
  Config.chainVerifies chain = true ∧ Config.chainOwner chain = (ownerDigest s).getD (List.replicate 32 0) ∧
    myBuddy s = some (Config.chainNode chain)

/-- A pairing begins: its envelope is sent to the buddy. -/
def pairingSent (s : State) : State := sendEnvelope { s with sec := { s.sec with pairing := .sending, envelopeOut := [] } }

section
variable {s : State} {input : List Byte} (hmin : 1573 + field input 0 4 ≤ input.length) (hmax : input.length ≤ field input 0 4 + 3034)
  (hfits : input.length ≤ 16384)
include hmin hmax hfits

theorem secBuddyPair_runs (run : State → State × Nat × List Byte) :
    secCmd s 0x07 input (decide (4 + field input 0 4 + 1569 ≤ input.length) && decide (input.length ≤ 4 + field input 0 4 + 3030)) run =
      secDone (run s).1 0x07 input (run s).2.1 (run s).2.2 := by
  refine secCmd_runs ?_ hfits run
  rw [Bool.and_eq_true, decide_eq_true_eq, decide_eq_true_eq]
  omega

variable (hn : field input 0 4 ≠ 0)
include hn

theorem secBuddyPair_refused (h : ¬ chainHolds s (bytesAt input 4 (field input 0 4))) :
    secBuddyPair s input = secDone s 0x07 input stDenied [] := by
  unfold secBuddyPair
  refine (secBuddyPair_runs hmin hmax hfits _).trans ?_
  dsimp only
  rw [if_neg hn, if_pos]
  simpa [chainHolds, or_assoc, imp_iff_not_or] using h

theorem secBuddyPair_pairs (h : chainHolds s (bytesAt input 4 (field input 0 4))) (hmirror : s.chd.mirror ≠ .mirrored) :
    secBuddyPair s input = secDone (raise (pairingSent s) 0x2E9 0) 0x07 input stOk [] := by
  obtain ⟨hverifies, howner, hbuddy⟩ := h
  unfold secBuddyPair
  refine (secBuddyPair_runs hmin hmax hfits _).trans ?_
  dsimp only
  rw [if_neg hn, if_neg (by simp [hverifies, howner, hbuddy]), if_neg (by simp [hmirror])]
  rfl

end

/-- Settles O49: each command by its length, then by its signature. -/
theorem secureCommands : Obligations.SecureCommands := by
  unfold Obligations.SecureCommands
  refine ⟨fun s input => ⟨fun h => ⟨?_, ?_, ?_⟩, fun h => ?_, fun h => ?_, fun h => ?_, fun h => ?_, fun h => ?_⟩,
    fun s => ⟨?_, ?_, ?_, fun opcode => ends_of rfl⟩, fun s input nonce hfits hnonce => ?_, fun s input hfits hlen => ?_,
    fun s input => ?_⟩
  · exact ends_of_eq rfl (secCmd_not_empty h _)
  · exact ends_of_eq rfl (secCmd_not_empty h _)
  · exact ends_of_eq rfl (secCmd_not_empty h _)
  · exact ends_of_eq rfl (secEnrol_length h)
  · exact ends_of_eq rfl (secRelease_length h)
  · exact ends_of_eq rfl (secKeySupply_length h)
  · exact ends_of_eq rfl (secSvnRaise_length h)
  · exact ends_of_eq rfl (secBuddyPair_length h)
  · exact ends_of_eq rfl (secCmd_empty _)
  · exact ends_of_eq rfl (secCmd_empty _)
  · exact ends_of_eq rfl (secCmd_empty _)
  · intro used lot n key m p which floor
    refine ⟨fun hlen hn hsec hfree hslots => ?_, fun hlen hn h => ?_, fun hlen hm hheld => ?_, fun hlen hm hempty howner => ?_,
      fun hlen hp hwhich hrsv howner => ?_⟩
    · exact ends_of_eq rfl (secEnrol_free hfits hnonce hlen hn hsec hfree hslots)
    · exact ends_of_eq rfl (secEnrol_closed hfits hnonce hlen hn h)
    · exact ends_of_eq rfl ((secRelease_signed hfits hnonce hlen hm).trans (if_pos hheld))
    · have howned : (ownerDigest s).isNone = false := by simpa using howner
      exact ends_of_eq rfl ((secRelease_signed hfits hnonce hlen hm).trans
        ((if_neg (not_not.mpr hempty)).trans (signature_decides howned _ _ _)))
    · intro now top raised
      have howned : (ownerDigest s).isNone = false := by simpa using howner
      have hmay : (floor ≤ now ∨ top < floor ∨ 64 < floor) ↔ ¬ (now < floor ∧ floor ≤ top ∧ floor ≤ 64) := by omega
      refine ends_of_eq rfl ((secSvnRaise_signed hfits hnonce hlen hp hwhich hrsv).trans ((signature_decides howned _ _ _).trans ?_))
      exact congrArg (ite _ · _) ((if_congr hmay rfl rfl).trans (ite_not _ _ _))
  · intro n d serial k hone hmax hdom hsource hrsv signed key kept
    have hform : SupplyFormed s input := ⟨hfits, hlen, hone, hmax, hdom, hsource, hrsv⟩
    refine ⟨fun hserial hkgen hcur => ?_, fun hserial => ?_⟩
    · have hfresh : ¬ supplyStale s input := by
        rintro (hgen | hold)
        · exact hgen (hkgen.trans (by rw [hcur]; rfl))
        · exact absurd hold (Nat.not_le.mpr hserial)
      rcases Bool.eq_false_or_eq_true signed with hsig | hsig
      · rcases hkeys : key with _ | g
        · refine ends_of_eq rfl ((secKeySupply_garbled hform hsig hfresh hkeys).trans ?_)
          rw [hsig]
        · refine ends_of_eq rfl ((secKeySupply_first hform hsig hfresh hkeys hcur).trans ?_)
          rw [hsig]
          rfl
      · refine ends_of_eq rfl ((secKeySupply_unsigned hform hsig).trans ?_)
        rw [hsig]
    · rcases Bool.eq_false_or_eq_true signed with hsig | hsig
      · exact ends_of_eq rfl ((secKeySupply_stale hform hsig (.inr hserial)).trans (if_pos hsig).symm)
      · exact ends_of_eq rfl ((secKeySupply_unsigned hform hsig).trans (if_neg (Bool.eq_false_iff.mp hsig)).symm)
  · intro n chain hmin hmax hfits hn hmirror
    by_cases h : chainHolds s chain
    · exact ends_of_eq rfl ((secBuddyPair_pairs hmin hmax hfits hn h hmirror).trans (if_pos h).symm)
    · exact ends_of_eq rfl ((secBuddyPair_refused hmin hmax hfits hn h).trans (if_neg h).symm)

/-! ### The SPDM responder (R515 to R518) -/

theorem spdmServes_not_ready {s : State} (h : s.host.infoValid = false) (run : State → State) : spdmServes s run = s :=
  if_neg (by simp [h])

theorem spdmOut_small {b : List Byte} (h : b.length + 4 ≤ 4096) (s : State) (code : BitVec 8) :
    spdmOut s code b = emit s (.spdm (.spdm code b)) := if_pos h

/-- The body of a CHALLENGE response: the chain's digest, a random value and no opaque data. -/
def challengeBody (s : State) : List Byte := shake256 (certChain s) 64 ++ natLe 32 (Config.freeNat s.freeIdx) ++ natLe 2 0

/-- The body of a response with all measurements, and that of one which is signed (R518). -/
def allMeasured (s : State) : List Byte := [(6 : Byte)] ++ [1, 2, 3, 4, 5, 6].flatMap (measBlock s)
def allMeasuredRandom (s : State) : List Byte := allMeasured s ++ natLe 32 (Config.freeNat s.freeIdx)

section
variable {s : State} (hready : s.host.infoValid = true)
include hready

theorem spdmServes_ready (run : State → State) : spdmServes s run = run s := if_pos hready

theorem spdmReady_early (halg : s.sec.spdmAlg = false) (run : State → State) : spdmReady s run = spdmErr s 0x04 :=
  (spdmServes_ready hready _).trans (if_neg (by simp [halg]))

theorem spdmReady_established (halg : s.sec.spdmAlg = true) (run : State → State) : spdmReady s run = run s :=
  (spdmServes_ready hready _).trans (if_pos halg)

theorem spdmVersion_restarts : spdmVersion s = emit { s with sec := { s.sec with
    spdmVersion := true
    spdmCaps := false
    spdmAlg := false
    chunkIn := none
    chunkOut := none } } (.spdm (.spdm 0x04 [0, 2, 0x00, 0x12, 0x00, 0x13])) :=
  (spdmServes_ready hready _).trans (spdmOut_small (by decide) _ _)

theorem spdmCapabilities_early (hver : s.sec.spdmVersion = false) : spdmCapabilities s = spdmErr s 0x04 :=
  (spdmServes_ready hready _).trans (if_pos (by simp [hver]))

theorem spdmCapabilities_versioned (hver : s.sec.spdmVersion = true) :
    spdmCapabilities s = emit { s with sec := { s.sec with spdmCaps := true } }
      (.spdm (.spdm 0x61 ([0, Config.ctExponent, 0, 0] ++ natLe 4 0x20036 ++ natLe 4 4096 ++ natLe 4 65536))) :=
  (spdmServes_ready hready _).trans ((if_neg (by simp [hver])).trans (spdmOut_small (by simp [length_natLe]) _ _))

theorem spdmNegotiate_early (hcaps : s.sec.spdmCaps = false) (extAsym extHash : Bool) :
    spdmNegotiate s extAsym extHash = spdmErr s 0x04 :=
  (spdmServes_ready hready _).trans (if_pos (by simp [hcaps]))

theorem spdmNegotiate_both (hcaps : s.sec.spdmCaps = true) :
    spdmNegotiate s true true = emit { s with sec := { s.sec with spdmAlg := true } }
      (.spdm (.spdm 0x63 (natLe 8 0 ++ [3, 0, 1, 0] ++ [3, 0, 2, 0]))) :=
  (spdmServes_ready hready _).trans ((if_neg (by simp [hcaps])).trans ((if_neg (by decide)).trans
    (spdmOut_small (by simp [length_natLe]) _ _)))

theorem spdmNegotiate_neither (hcaps : s.sec.spdmCaps = true) :
    spdmNegotiate s false false = spdmErr s Config.negotiationFail :=
  (spdmServes_ready hready _).trans ((if_neg (by simp [hcaps])).trans (if_pos rfl))

theorem spdmMeasurements_unsigned (halg : s.sec.spdmAlg = true) (nonce : BitVec 256) :
    spdmMeasurements s 0xFF false nonce = spdmOut s 0x60 (allMeasured s) :=
  (spdmReady_established hready halg _).trans ((if_neg (by simp)).trans (if_neg (by decide)))

section
variable (halg : s.sec.spdmAlg = true) (hsec : s.sec.secured = true)
include halg hsec

theorem spdmDigests_secured : spdmDigests s = spdmOut s 0x01 ([1] ++ shake256 (certChain s) 64) :=
  (spdmReady_established hready halg _).trans (if_pos hsec)

/-- A part of the chain from an offset inside it. -/
theorem spdmCertificate_secured (offset length : Nat) : spdmCertificate s 0 offset length =
    if offset < (certChain s).length then
      spdmOut s 0x02 (natLe 2 (((certChain s).drop offset).take length).length ++
        natLe 2 ((certChain s).length - offset - (((certChain s).drop offset).take length).length) ++
        ((certChain s).drop offset).take length)
    else spdmErr s 0x01 := by
  refine (spdmReady_established hready halg _).trans ((if_neg (by simp [hsec])).trans ?_)
  by_cases h : offset < (certChain s).length
  · exact (if_neg (by omega)).trans (if_pos h).symm
  · exact (if_pos (by omega)).trans (if_neg h).symm

theorem spdmChallenge_other_slot {slot : Nat} (hslot : slot ≠ 0) (nonce : BitVec 256) : spdmChallenge s slot nonce = spdmErr s 0x01 :=
  (spdmReady_established hready halg _).trans ((if_neg (by simp [hsec])).trans (if_pos hslot))

theorem spdmChallenge_signed (nonce : BitVec 256) : spdmChallenge s 0 nonce =
    spdmOut { s with freeIdx := s.freeIdx + 1 } 0x03 (challengeBody s ++
      aliasSignature { s with freeIdx := s.freeIdx + 1 } (natLe 32 nonce.toNat ++ challengeBody s)) :=
  (spdmReady_established hready halg _).trans ((if_neg (by simp [hsec])).trans (if_neg (by decide)))

theorem spdmMeasurements_signed (nonce : BitVec 256) : spdmMeasurements s 0xFF true nonce =
    spdmOut { s with freeIdx := s.freeIdx + 1 } 0x60 (allMeasuredRandom s ++
      aliasSignature { s with freeIdx := s.freeIdx + 1 } (natLe 32 nonce.toNat ++ allMeasuredRandom s)) :=
  (spdmReady_established hready halg _).trans ((if_neg (by simp [hsec])).trans (if_neg (by decide)))

end

/-- The first chunk of a message of several is kept under its handle (R516). -/
theorem spdmChunkSend_first {b : List Byte} (h : b.length ≤ 65536) (handle : BitVec 8) : spdmChunkSend s handle 0 false b =
    emit { s with sec := { s.sec with chunkIn := some (handle, 1, b) } } (.spdm (.spdm 0x05 ([handle] ++ natLe 2 0))) := by
  have hfits : ¬ 65536 < ([] : List Byte).length + b.length := by simpa using h
  exact (spdmServes_ready hready _).trans (if_neg hfits)

/-- The first chunk of a large response leaves, and the rest waits (R516). -/
theorem spdmChunkGet_first {b : List Byte} {handle : BitVec 8} (h : s.sec.chunkOut = some (handle, 0, b)) :
    spdmChunkGet s handle 0 =
      (let u := emit s (.spdm (.spdm 0x06 ([handle, BitVec.ofNat 8 (b2n (b.drop 4080).isEmpty)] ++ natLe 2 0 ++
        natLe 4 (b.take 4080).length ++ b.take 4080)))
       { u with sec := { u.sec with chunkOut := if (b.drop 4080).isEmpty then none else some (handle, 1, b.drop 4080) } }) := by
  refine (spdmServes_ready hready _).trans ?_
  dsimp only
  rw [h]
  exact if_pos ⟨rfl, rfl⟩

end

/-- Settles O51: each request by the state of the connection. -/
theorem spdmResponder : Obligations.SpdmResponder := by
  unfold Obligations.SpdmResponder
  refine ⟨fun s c hidle hc => ?_, fun s hready => ?_⟩
  · simp only [List.mem_cons, List.not_mem_nil, or_false] at hc
    rcases hc with rfl | rfl | rfl
    · exact ends_of_eq rfl (spdmServes_not_ready hidle _)
    · exact ends_of_eq rfl (spdmServes_not_ready hidle _)
    · exact ends_of_eq rfl (spdmServes_not_ready hidle _)
  · intro err
    have run (f : State → State) : spdmServes s f = f s := spdmServes_ready hready f
    refine ⟨?_, fun hver => ?_, fun hver => ?_, fun hcaps => ⟨?_, ?_⟩, fun hcaps a h => ?_,
      fun halg => ⟨?_, fun slot o n => ?_, fun slot nonce => ?_, fun op signed nonce => ?_⟩, fun halg hsec => ?_,
      fun handle b hb => ?_, fun handle b hb => ?_⟩
    · exact ends_of_eq rfl ((run _).trans (spdmVersion_restarts hready))
    · exact ends_of_eq rfl ((run _).trans (spdmCapabilities_versioned hready hver))
    · exact ends_of_eq rfl ((run _).trans (spdmCapabilities_early hready hver))
    · exact ends_of_eq rfl ((run _).trans (spdmNegotiate_both hready hcaps))
    · exact ends_of_eq rfl ((run _).trans (spdmNegotiate_neither hready hcaps))
    · exact ends_of_eq rfl ((run _).trans (spdmNegotiate_early hready hcaps a h))
    · exact ends_of_eq rfl ((run _).trans (spdmReady_early hready halg _))
    · exact ends_of_eq rfl ((run _).trans (spdmReady_early hready halg _))
    · exact ends_of_eq rfl ((run _).trans (spdmReady_early hready halg _))
    · exact ends_of_eq rfl ((run _).trans (spdmReady_early hready halg _))
    · intro chain v random
      refine ⟨?_, fun offset length => ?_, fun nonce => ?_, fun slot nonce hslot => ?_, fun nonce => ⟨?_, ?_⟩⟩
      · exact ends_of_eq rfl ((run _).trans (spdmDigests_secured hready halg hsec))
      · exact ends_of_eq rfl ((run _).trans (spdmCertificate_secured hready halg hsec offset.toNat length.toNat))
      · exact ends_of_eq rfl ((run _).trans (spdmChallenge_signed hready halg hsec nonce))
      · have hslot' : slot.toNat ≠ 0 := fun h => hslot (BitVec.eq_of_toNat_eq h)
        exact ends_of_eq rfl ((run _).trans (spdmChallenge_other_slot hready halg hsec hslot' nonce))
      · exact ends_of_eq rfl ((run _).trans (spdmMeasurements_unsigned hready halg nonce))
      · exact ends_of_eq rfl ((run _).trans (spdmMeasurements_signed hready halg hsec nonce))
    · exact ends_of_eq rfl ((run _).trans (spdmChunkSend_first hready hb handle))
    · exact ends_of_eq rfl ((run _).trans (spdmChunkGet_first hready hb))

/-! ### Hold votes and Doze (R526, R527, R588, R590) -/

/-- A rank goes into power-down only under an active controller (R434). -/
theorem powerDownEntry_inactive {s : State} {n : Nat} (h : (ctl s n).st ≠ .active) (rank : Nat) : powerDownEntry s n rank = s :=
  if_pos (by simp [h])

theorem dozeRanks_inactive {s : State} (h : ∀ n, (ctl s n).st ≠ .active) : dozeRanks s = s :=
  List.foldl_fixed' (fun n => List.foldl_fixed' (powerDownEntry_inactive (h n)) _) _

/-- The two ends of an entry into Doze: the engines are gated and the idle links doze, and the state is Doze (R590). -/
def enginesGated (s : State) : State := idleLinksDoze (applyNoted s 0 .gate)
def inDoze (s : State) : State := { s with aon := { s.aon with st := .doze } }

theorem enterDoze_inactive {s : State} (h : ∀ n, (ctl (enginesGated s) n).st ≠ .active) : enterDoze s = inDoze (enginesGated s) :=
  congrArg inDoze (dozeRanks_inactive h)

theorem dozeResumed_enters {s : State} (hwait : s.sec.dozeWait = true) (hheld : s.sec.held.getLsbD 0 = false) (hrun : s.aon.st = .run) :
    dozeResumed s = enterDoze { s with sec := { s.sec with dozeWait := false } } :=
  (if_neg (by rw [hwait, hheld]; decide)).trans (if_pos (by rw [hrun]; rfl))

/-- The device in Run in an open window with a vote on the engines (block 0), under which an entry into Doze waits: the vote is set,
and DOZE_ENTRY has left its request to gate the engines PENDING. -/
def dozePending : State :=
  { State.reset with
    sec := { State.reset.sec with
      held := 1
      windows := 1
      windowNs := some 0
      pendingRaised := true
      dozeWait := true
      requests := [(0, .gate)] }
    pmc := { State.reset.pmc with frozen := true } }

/-- What the cap of the window leaves by itself: the request is applied, the window closes, and event 0x2E3 is raised (R527). -/
def dozePendingCut : State := holdWindowCap dozePending

theorem calm_dozePendingCut : Calm dozePendingCut := ⟨rfl, rfl, rfl⟩

/-- No controller is active after reset, nor at the cap of the window. -/
theorem dozePendingCut_inactive (n : Nat) :
    (ctl (enginesGated { dozePendingCut with sec := { dozePendingCut.sec with dozeWait := false } }) n).st ≠ .active :=
  fun h => nomatch (show MemSt.off = .active from h)

theorem dozeResumed_dozePendingCut : dozeResumed dozePendingCut =
    inDoze (enginesGated { dozePendingCut with sec := { dozePendingCut.sec with dozeWait := false } }) :=
  (dozeResumed_enters (s := dozePendingCut) rfl rfl rfl).trans (enterDoze_inactive dozePendingCut_inactive)

theorem calm_dozeResumed : Calm (dozeResumed dozePendingCut) := by
  rw [dozeResumed_dozePendingCut]
  exact ⟨rfl, rfl, rfl⟩

theorem exec_holdWindowCap_dozePending : exec .holdWindowCap dozePending = .next (dozeResumed dozePendingCut) :=
  congrArg Host.Outcome.next (settle_calm calm_dozeResumed)

/-- Refutes O50: the cap of a window under which an entry into Doze waits does not only apply the request and close the window, for Doze
is entered in the same cycle (R526, R527), and the statement, whose next state keeps the power state, leaves that out. `dozePending` is
in Run before the command and in Doze after it. -/
theorem not_holdVotesAndWatchdog : ¬ Obligations.HoldVotesAndWatchdog := by
  unfold Obligations.HoldVotesAndWatchdog
  rintro ⟨-, -, -, hwindow, -⟩
  obtain ⟨-, -, hcap⟩ := hwindow dozePending
  obtain ⟨-, hsame⟩ := hcap nofun 0 .gate rfl
  have hnext := exec_holdWindowCap_dozePending.symm.trans (hsame calm_dozePendingCut)
  have hst : (dozeResumed dozePendingCut).aon.st = dozePendingCut.aon.st := congrArg (fun s => s.aon.st) (Host.Outcome.next.inj hnext)
  rw [dozeResumed_dozePendingCut] at hst
  cases hst

end Sys2Proof.Proofs.SecureWorld
end

section
/-! SUPPORT. The state after reset: its controllers are off. -/

namespace Sys2Proof.Proofs.AfterReset
open Sys2Proof Sys2Proof.Machine Sys2Proof.Safety

theorem ctl_reset (n : Nat) : (ctl State.reset n).st = .off := rfl

/-- Settles O57: after reset every memory, queue, table and counter is empty, by evaluation; nothing waits, and the invariant holds. -/
theorem resetState : Obligations.ResetState := by
  unfold Obligations.ResetState
  refine ⟨rfl, rfl, rfl, rfl, rfl, rfl, rfl, rfl, rfl, rfl, rfl, rfl, rfl, rfl, rfl, rfl, rfl, rfl, rfl, rfl, rfl, rfl, rfl,
    fun n _ => ctl_reset n, ClabexImage.quiet_reset_feeds _, wf_reset, rfl⟩

end Sys2Proof.Proofs.AfterReset
end

section
/-! SUPPORT. What every step keeps (O58), stated on the states of a step: the commands that wait, the canonical form of window memory and
the fuses; and how each form of an expression of the model keeps them. -/

namespace Sys2Proof.Proofs.Fuses
open Sys2Proof Sys2Proof.Machine Sys2Proof.Safety

/-- What is burnt into the part: SECURED, the lot, and the two anti-rollback floors (R3, R511). -/
def fuses (x : SecState) : Bool × BitVec 32 × Nat × Nat := (x.secured, x.lotId, x.imgFloor, x.fwFloor)

/-- From `a` to `s` the commands that wait and the fuses are the same, and window memory stays in canonical form. -/
structure Steady (a s : State) : Prop where
  pending : s.pending = a.pending
  mem : Memory.wf a.mem → Memory.wf s.mem
  fuses : fuses s.sec = fuses a.sec

namespace Steady
variable {s₀ s t u : State}

theorem refl (s : State) : Steady s s := ⟨rfl, id, rfl⟩

theorem trans (h : Steady s₀ s) (k : Steady s t) : Steady s₀ t :=
  ⟨k.pending.trans h.pending, k.mem ∘ h.mem, k.fuses.trans h.fuses⟩

/-- What is steady keeps: the floors stay, and so do not fall. -/
theorem kept (h : Steady s₀ s) : Kept s₀ s := by
  have hfuses := h.fuses
  simp only [Fuses.fuses, Prod.mk.injEq] at hfuses
  obtain ⟨hsec, hlot, himg, hfw⟩ := hfuses
  exact ⟨h.pending, h.mem, fun hs => hsec.trans hs, hlot, himg.ge, hfw.ge⟩

/-- An update of the units other than the secure world. -/
theorem upd {clockNs freeIdx : Nat} {out : List Output} {nextReq : Nat} {img : ImgState} {flt : FltState} {pmc : PmcState}
    {chd : ChdState} {fab : FabState} {e2e : E2EState} {links : NMap LinkRec} {ctls : NMap MemCtl} {trns : NMap MemTrn}
    {ecc : EccState} {qos : QosState} {xts : XtsState} {cmp : CmpState} {coh : CohState} {host : HostState} {pwr : PwrState}
    {aon : AonState} {boot : BootState} (h : Steady s₀ s) :
    Steady s₀ ⟨clockNs, freeIdx, out, s.pending, s.mem, nextReq, img, flt, pmc, chd, fab, e2e, links, ctls, trns, ecc, qos, xts, cmp, coh,
      host, s.sec, pwr, aon, boot⟩ := ⟨h.pending, h.mem, h.fuses⟩

/-- An update that leaves the fuses of the secure world. -/
theorem updSec {clockNs freeIdx : Nat} {out : List Output} {nextReq : Nat} {img : ImgState} {flt : FltState} {pmc : PmcState}
    {chd : ChdState} {fab : FabState} {e2e : E2EState} {links : NMap LinkRec} {ctls : NMap MemCtl} {trns : NMap MemTrn}
    {ecc : EccState} {qos : QosState} {xts : XtsState} {cmp : CmpState} {coh : CohState} {host : HostState} {sec : SecState}
    {pwr : PwrState} {aon : AonState} {boot : BootState} (h : Steady s₀ s)
    (hsec : (sec.secured, sec.lotId, sec.imgFloor, sec.fwFloor) = (s.sec.secured, s.sec.lotId, s.sec.imgFloor, s.sec.fwFloor)) :
    Steady s₀ ⟨clockNs, freeIdx, out, s.pending, s.mem, nextReq, img, flt, pmc, chd, fab, e2e, links, ctls, trns, ecc, qos, xts, cmp, coh,
      host, sec, pwr, aon, boot⟩ := ⟨h.pending, h.mem, Eq.trans hsec h.fuses⟩

theorem ite {p : Prop} [Decidable p] (h : Steady s₀ t) (k : Steady s₀ u) : Steady s₀ (if p then t else u) := by
  split
  · exact h
  · exact k

theorem dite {p : Prop} [Decidable p] {t : p → State} {u : ¬p → State} (h : ∀ hp, Steady s₀ (t hp)) (k : ∀ hp, Steady s₀ (u hp)) :
    Steady s₀ (if hp : p then t hp else u hp) := by
  split
  · exact h _
  · exact k _

/-- Something further is done under a condition. -/
theorem when {p : Prop} [Decidable p] (k : Steady s₀ t → Steady s₀ u) (h : Steady s₀ t) : Steady s₀ (if p then u else t) := ite (k h) h

theorem otherwise {p : Prop} [Decidable p] (k : Steady s₀ t → Steady s₀ u) (h : Steady s₀ t) : Steady s₀ (if p then t else u) := ite h (k h)

/-- Two continuations of one state. -/
theorem fork {p : Prop} [Decidable p] (k : Steady s₀ s → Steady s₀ t) (l : Steady s₀ s → Steady s₀ u) (h : Steady s₀ s) :
    Steady s₀ (if p then t else u) := ite (k h) (l h)

theorem iteFst {α : Type} {p : Prop} [Decidable p] {x y : State × α} (h : Steady s₀ x.1) (k : Steady s₀ y.1) :
    Steady s₀ (if p then x else y).1 := by
  split
  · exact h
  · exact k

theorem foldl {α : Type} {f : State → α → State} {l : List α} (k : ∀ {s x}, Steady s₀ s → Steady s₀ (f s x)) (h : Steady s₀ s) :
    Steady s₀ (l.foldl f s) := by
  induction l generalizing s with
  | nil => exact h
  | cons x l ih => exact ih (k h)

theorem getD {o : Option State} (k : ∀ {t}, o = some t → Steady s₀ t) (h : Steady s₀ s) : Steady s₀ (o.getD s) := by
  cases o with
  | none => exact h
  | some t => exact k rfl

/-- The state of a result that is a pair. -/
theorem fst {α : Type} {x : State × α} {y : α} (h : Steady s₀ x.1) (e : x = (t, y)) : Steady s₀ t := by
  subst e
  exact h

theorem writeMem {m : List Host.Cell} (h : Steady s₀ s) (k : Memory.wf s.mem → Memory.wf m) : Steady s₀ { s with mem := m } :=
  ⟨h.pending, fun w => k (h.mem w), h.fuses⟩

end Steady

end Sys2Proof.Proofs.Fuses
end

section
/-! SUPPORT. Every function of the model from state to state keeps the commands that wait, window memory in canonical form and the fuses,
but for the raising of an anti-rollback floor by SVN_RAISE (R511). There is one lemma for each function, in the order of the model's files;
its proof follows the function's own branches and cites the lemmas of the functions it calls. -/

namespace Sys2Proof.Proofs.Fuses
open Sys2Proof Sys2Proof.Machine Sys2Proof.Safety
variable {s₀ s : State}

/-! ### Sys2Proof/Machine/Ops.lean -/

theorem emit_steady {o : Output} (hs : Steady s₀ s) : Steady s₀ (emit s o) := .upd hs

theorem free_steady (hs : Steady s₀ s) : Steady s₀ (free s).2 := .upd hs

theorem chosen_steady {k : Nat} (hs : Steady s₀ s) : Steady s₀ (chosen s k) := .upd hs

theorem setLink_steady {l : Nat} {r : LinkRec} (hs : Steady s₀ s) : Steady s₀ (setLink s l r) := .upd hs

theorem modLink_steady {l : Nat} {f : LinkRec → LinkRec} (hs : Steady s₀ s) : Steady s₀ (modLink s l f) := setLink_steady hs

theorem setCtl_steady {n : Nat} {c : MemCtl} (hs : Steady s₀ s) : Steady s₀ (setCtl s n c) := .upd hs

theorem modCtl_steady {n : Nat} {f : MemCtl → MemCtl} (hs : Steady s₀ s) : Steady s₀ (modCtl s n f) := setCtl_steady hs

theorem setTrn_steady {c : Nat} {t : MemTrn} (hs : Steady s₀ s) : Steady s₀ (setTrn s c t) := .upd hs

theorem modMsix_steady {v : Nat} {f : MsixEnt → MsixEnt} (hs : Steady s₀ s) : Steady s₀ (modMsix s v f) := .upd hs

theorem signalMsix_steady {v : Nat} (hs : Steady s₀ s) : Steady s₀ (signalMsix s v) :=
  .ite (.when .upd (modMsix_steady hs)) (emit_steady hs)

theorem mbReply_steady {r : Reply} (hs : Steady s₀ s) : Steady s₀ (mbReply s r) := signalMsix_steady (emit_steady hs)

theorem flushMsix_steady (hs : Steady s₀ s) : Steady s₀ (flushMsix s) := .ite (.foldl (fun h => emit_steady (modMsix_steady h)) hs) hs

theorem addCtr_steady {n : Nat} {sel : PmcSel} {k : Nat} (hs : Steady s₀ s) : Steady s₀ (addCtr s n sel k).1 :=
  .iteFst (.upd hs) (.when signalMsix_steady (.upd (.upd hs)))

theorem addCtrs_steady {ev : Nat} {label : Option Nat} {k : Nat} {m : NMap PmcSel} {prev : Nat × Nat} (hs : Steady s₀ s) :
    Steady s₀ (addCtrs ev label k m s prev) := by
  induction m generalizing s prev with
  | nil => exact hs
  | cons x m ih => exact .ite (ih hs) (ih (addCtr_steady hs))

theorem countEvent_steady {ev : Nat} {label : Option Nat} {k : Nat} (hs : Steady s₀ s) : Steady s₀ (countEvent s ev label k) :=
  .otherwise addCtrs_steady (.upd hs)

theorem snapCycle_steady {ev : Nat} {label : Option Nat} {k : Nat} (hs : Steady s₀ s) : Steady s₀ (snapCycle s ev label k) := .upd hs

theorem rewriteCtrs_steady {ctr : NMap (BitVec 48) → NMap (BitVec 48)} {ovf : BitVec 128 → BitVec 128} (hs : Steady s₀ s) :
    Steady s₀ (rewriteCtrs s ctr ovf) := by
  unfold rewriteCtrs
  split
  · exact .upd hs
  · exact .ite (.otherwise (fun h => .foldl addCtrs_steady h) (.upd (.upd hs))) (.upd hs)

theorem noteLate_steady {ev : Nat} {label : Option Nat} {k : Nat} (hs : Steady s₀ s) : Steady s₀ (noteLate s ev label k) := .upd hs

theorem uncountCycle_steady (hs : Steady s₀ s) : Steady s₀ (uncountCycle s) := by
  unfold uncountCycle
  split
  · exact .ite (.upd hs) hs
  · exact hs

theorem countN_steady {ev : Nat} {label : Option Nat} {k : Nat} (hs : Steady s₀ s) : Steady s₀ (countN s ev label k) :=
  .ite (countEvent_steady (snapCycle_steady hs)) (.ite (noteLate_steady hs) hs)

theorem countLate_steady (hs : Steady s₀ s) : Steady s₀ (countLate s) := .foldl countN_steady (.upd hs)

theorem count_steady {ev : Nat} (hs : Steady s₀ s) : Steady s₀ (count s ev) := countN_steady hs

theorem countL_steady {ev label : Nat} (hs : Steady s₀ s) : Steady s₀ (countL s ev label) := countN_steady hs

theorem encrypted_steady {k : Nat} (hs : Steady s₀ s) : Steady s₀ (encrypted s k) := countN_steady hs

theorem decrypted_steady {k : Nat} (hs : Steady s₀ s) : Steady s₀ (decrypted s k) := countN_steady hs

theorem podsWritten_steady {label k : Nat} (hs : Steady s₀ s) : Steady s₀ (podsWritten s label k) := countN_steady hs

theorem setCls_steady {ev : Nat} {c : FltClass} (hs : Steady s₀ s) : Steady s₀ (setCls s ev c) := .upd hs

theorem driveAlert_steady {before : State} (hs : Steady s₀ s) : Steady s₀ (driveAlert before s) := .ite hs (emit_steady hs)

theorem postEvent_steady {log : Nat} {ev : CxlEvent} (hs : Steady s₀ s) : Steady s₀ (postEvent s log ev) :=
  .when signalMsix_steady (emit_steady (.upd hs))

theorem logRecord_steady {r : FltRecord} (hs : Steady s₀ s) : Steady s₀ (logRecord s r) := .ite (.upd hs) (.upd hs)

theorem resetRaised_steady (hs : Steady s₀ s) : Steady s₀ (resetRaised s) := .upd hs

theorem register_steady {ev cause : Nat} {part : Part} {info : Nat} {during : Bool} (hs : Steady s₀ s) :
    Steady s₀ (register s ev cause part info during) := by
  refine .upd ?_
  refine driveAlert_steady ?_
  refine .when signalMsix_steady ?_
  exact .when .upd (.when .upd (.when resetRaised_steady (.when .upd (.when logRecord_steady (setCls_steady hs)))))

theorem raiseP_steady {ev cause : Nat} {part : Part} {info : Nat} (hs : Steady s₀ s) : Steady s₀ (raiseP s ev cause part info) :=
  .ite (.upd hs) (register_steady hs)

theorem raise_steady {ev cause : Nat} (hs : Steady s₀ s) : Steady s₀ (raise s ev cause) := raiseP_steady hs

theorem raiseLink_steady {l cause : Nat} (hs : Steady s₀ s) : Steady s₀ (raiseLink s l cause) := raiseP_steady hs

theorem raiseCtl_steady {n cause : Nat} (hs : Steady s₀ s) : Steady s₀ (raiseCtl s n cause) :=
  .dite (fun _ => raiseP_steady hs) (fun _ => .dite (fun _ => raiseP_steady hs) (fun _ => hs))

theorem active_steady (hs : Steady s₀ s) : Steady s₀ (active s) := .upd hs

theorem idleLinksDoze_steady (hs : Steady s₀ s) : Steady s₀ (idleLinksDoze s) := .upd hs

theorem countMicro_steady (hs : Steady s₀ s) : Steady s₀ (countMicro s) := by
  refine .foldl count_steady (.when .upd (.when count_steady ?_))
  split
  · exact count_steady hs
  · exact idleLinksDoze_steady (count_steady hs)
  · exact .upd hs
  · exact .upd hs

theorem tick_steady (hs : Steady s₀ s) : Steady s₀ (tick s) := .when countMicro_steady (.upd hs)

/-! ### Sys2Proof/Machine/Pmc.lean -/

theorem pmcCtrWrite_steady {n : Nat} {value : Word} {occurrences : Nat} (hs : Steady s₀ s) :
    Steady s₀ (pmcCtrWrite s n value occurrences) :=
  .when (fun h => addCtrs_steady (addCtr_steady h)) (rewriteCtrs_steady hs)

theorem pmcClear_steady (hs : Steady s₀ s) : Steady s₀ (pmcClear s) := rewriteCtrs_steady hs

theorem pmcUpageWrite_steady {u : Nat} {value : Word} (hs : Steady s₀ s) : Steady s₀ (pmcUpageWrite s u value) := .ite hs (.upd hs)

/-! ### Sys2Proof/Machine/Sched.lean -/

theorem memJoin_steady {n : Nat} {r : MemReq} (hs : Steady s₀ s) : Steady s₀ (memJoin s n r) := setCtl_steady hs

theorem memPush_steady {n : Nat} {port : Port} {label qlabel : Nat} {write : Bool} {use : MemUse} {addr size : Nat} {data : Option Line}
    (hs : Steady s₀ s) : Steady s₀ (memPush s n port label qlabel write use addr size data) :=
  .ite (memJoin_steady (.upd hs)) (setCtl_steady (.upd hs))

theorem memRefill_steady {n l : Nat} (hs : Steady s₀ s) : Steady s₀ (memRefill s n l) := by
  unfold memRefill
  dsimp only
  split
  · exact .ite (memJoin_steady (setCtl_steady hs)) hs
  · exact hs

/-! ### Sys2Proof/Machine/Route.lean -/

theorem enqueue_steady {l : Nat} {m : Msg} (hs : Steady s₀ s) : Steady s₀ (enqueue s l m) := modLink_steady hs

theorem sendNeighbour_steady {n : Nat} {m : Msg} (hs : Steady s₀ s) : Steady s₀ (sendNeighbour s n m) := by
  unfold sendNeighbour
  split
  · exact hs
  · exact enqueue_steady hs

theorem floodOn_steady {m : Msg} {except : Option Nat} (hs : Steady s₀ s) : Steady s₀ (floodOn s m except) := .foldl sendNeighbour_steady hs

theorem flood_steady {type opn : Nat} {fields : List (Nat × Nat)} (hs : Steady s₀ s) : Steady s₀ (flood s type opn fields) :=
  floodOn_steady (.upd hs)

theorem noteFlood_steady {origin : Nat} {q : BitVec 16} (hs : Steady s₀ s) : Steady s₀ (noteFlood s origin q) := .upd hs

theorem lightRow_steady {row : Nat} (hs : Steady s₀ s) : Steady s₀ (lightRow s row) :=
  .ite hs (.foldl (fun h => .ite h (modLink_steady h)) hs)

theorem floodRowWake_steady {row : Nat} (hs : Steady s₀ s) : Steady s₀ (floodRowWake s row) :=
  .ite hs (count_steady (flood_steady (lightRow_steady (.upd hs))))

theorem waitAtSource_steady {m : Msg} (hs : Steady s₀ s) : Steady s₀ (waitAtSource s m) := .upd hs

theorem noteThreeHop_steady {d : Nat} (hs : Steady s₀ s) : Steady s₀ (noteThreeHop s d) :=
  .otherwise (fun h => .when (fun h' => raise_steady (.upd h')) (.upd h)) (count_steady (.upd hs))

theorem noteUnreachable_steady {d : Nat} (hs : Steady s₀ s) : Steady s₀ (noteUnreachable s d) := .ite (raiseP_steady (.upd hs)) hs

theorem loopBack_steady {m : Msg} (hs : Steady s₀ s) : Steady s₀ (loopBack s m) := modLink_steady hs

theorem sendFrom_steady {m : Msg} {avoidLink : Option Nat} {avoidNodes : List Nat} (hs : Steady s₀ s) :
    Steady s₀ (sendFrom s m avoidLink avoidNodes).1 := by
  refine .iteFst (loopBack_steady hs) (.iteFst (.when floodRowWake_steady (waitAtSource_steady hs)) ?_)
  split
  · exact noteUnreachable_steady (waitAtSource_steady hs)
  · exact enqueue_steady (.ite (noteThreeHop_steady hs) hs)

theorem sendMsg_steady {m : Msg} (hs : Steady s₀ s) : Steady s₀ (sendMsg s m) := sendFrom_steady hs

theorem sendCtrl_steady {dst type opn : Nat} {fields : List (Nat × Nat)} {answered : Bool} (hs : Steady s₀ s) :
    Steady s₀ (sendCtrl s dst type opn fields answered) :=
  sendMsg_steady (.ite (.upd hs) hs)

theorem ctrlAnswered_steady {dst type opn : Nat} (hs : Steady s₀ s) : Steady s₀ (ctrlAnswered s dst type opn) := .upd hs

theorem openTx_steady {queue : Nat} {m : Msg} {p : Purpose} (hs : Steady s₀ s) : Steady s₀ (openTx s queue m p) := by
  unfold openTx
  split
  · exact .upd hs
  · exact .upd (sendFrom_steady (chosen_steady hs))

theorem dropUnsent_steady {key : Nat} (hs : Steady s₀ s) : Steady s₀ (dropUnsent s key) := .upd hs

theorem reissue_steady {key : Nat} (hs : Steady s₀ s) : Steady s₀ (reissue s key) := by
  unfold reissue
  split
  · exact hs
  · exact count_steady (.upd (sendFrom_steady (dropUnsent_steady hs)))

theorem resend_steady {key : Nat} (hs : Steady s₀ s) : Steady s₀ (resend s key) := by
  unfold resend
  split
  · exact hs
  · exact .upd (sendMsg_steady hs)

theorem retryNoTag_steady (hs : Steady s₀ s) : Steady s₀ (retryNoTag s) := by
  unfold retryNoTag
  split
  · exact hs
  · exact openTx_steady (.upd hs)

theorem closeTx_steady {key : Nat} (hs : Steady s₀ s) : Steady s₀ (closeTx s key) := by
  unfold closeTx
  split
  · exact hs
  · exact retryNoTag_steady (.upd (dropUnsent_steady hs))

theorem lateResponse_steady (hs : Steady s₀ s) : Steady s₀ (lateResponse s) := .upd hs

theorem respond_steady {op : Nat} {t : Tag} {label : Nat} {body : List (Nat × Nat)} {slots : List (BitVec 128)} (hs : Steady s₀ s) :
    Steady s₀ (respond s op t label body slots) :=
  sendMsg_steady hs

theorem respondCmp_steady {t : Tag} {label status : Nat} {contended : Bool} {vers : Nat} (hs : Steady s₀ s) :
    Steady s₀ (respondCmp s t label status contended vers) :=
  respond_steady hs

theorem respondNack_steady {t : Tag} {label cause hint : Nat} (hs : Steady s₀ s) : Steady s₀ (respondNack s t label cause hint) :=
  count_steady (respond_steady hs)

theorem respondData_steady {op : Nat} {t : Tag} {label : Nat} {poison contended dirty hostDirty bulk : Bool} {vers pod : Nat} {d : Line}
    (hs : Steady s₀ s) : Steady s₀ (respondData s op t label poison contended dirty hostDirty bulk vers pod d) :=
  respond_steady hs

theorem respondResult_steady {t : Tag} {label : Nat} {poison contended : Bool} {r : BitVec 128} (hs : Steady s₀ s) :
    Steady s₀ (respondResult s t label poison contended r) :=
  respond_steady hs

theorem respondLine_steady {op : Nat} {t : Tag} {line : Nat} (hs : Steady s₀ s) : Steady s₀ (respondLine s op t line) := respond_steady hs

theorem retryWaiting_steady (hs : Steady s₀ s) : Steady s₀ (retryWaiting s) := .foldl sendMsg_steady (.upd hs)

/-! ### Sys2Proof/Machine/Link.lean -/

theorem freeSlots_steady {l vc n : Nat} (hs : Steady s₀ s) : Steady s₀ (freeSlots s l vc n) := modLink_steady hs

theorem floodLinkstate_steady (hs : Steady s₀ s) : Steady s₀ (floodLinkstate s) := flood_steady (.upd hs)

theorem linksChanged_steady (hs : Steady s₀ s) : Steady s₀ (linksChanged s) := .ite hs (retryWaiting_steady (floodLinkstate_steady hs))

theorem discardOld_steady {m : Msg} (hs : Steady s₀ s) : Steady s₀ (discardOld s m) := by
  refine .when (fun h => raise_steady (.upd h)) ?_
  split
  · exact freeSlots_steady (.upd hs)
  · exact .upd hs

theorem discardForward_steady {m : Msg} (hs : Steady s₀ s) : Steady s₀ (discardForward s m) := by
  refine raise_steady ?_
  split
  · exact freeSlots_steady (.upd hs)
  · exact .upd hs

theorem forward_steady {m : Msg} {hop : Nat} (hs : Steady s₀ s) : Steady s₀ (forward s m hop) := by
  refine .ite (discardForward_steady hs) ?_
  split
  · exact enqueue_steady hs
  · split
    · exact enqueue_steady hs
    · exact discardForward_steady hs

theorem forwardCtrl_steady {m : Msg} (hs : Steady s₀ s) : Steady s₀ (forwardCtrl s m) := by
  unfold forwardCtrl
  dsimp only
  split
  · exact enqueue_steady hs
  · split
    · exact enqueue_steady hs
    · exact .upd hs

theorem lostMsgs_steady {ms : List Msg} (hs : Steady s₀ s) : Steady s₀ (lostMsgs s ms) := .foldl reissue_steady (.upd hs)

theorem requeue_steady {l : Nat} (hs : Steady s₀ s) : Steady s₀ (requeue s l) := by
  refine .foldl (fun h => ?_) (modLink_steady hs)
  dsimp only
  split
  · exact .ite (forwardCtrl_steady h) (forward_steady h)
  · exact .ite h (sendMsg_steady h)

theorem dropReplay_steady {l : Nat} (hs : Steady s₀ s) : Steady s₀ (dropReplay s l) := lostMsgs_steady (modLink_steady hs)

theorem linkCause_steady {l cause : Nat} (hs : Steady s₀ s) : Steady s₀ (linkCause s l cause) := raiseLink_steady (modLink_steady hs)

theorem linkExcluded_steady {served : Bool} (hs : Steady s₀ s) : Steady s₀ (linkExcluded s served) :=
  .when raiseP_steady (linksChanged_steady hs)

theorem holdLink_steady {l : Nat} (hs : Steady s₀ s) : Steady s₀ (holdLink s l) :=
  linkExcluded_steady (requeue_steady (dropReplay_steady (modLink_steady hs)))

theorem sendTrain_steady {l : Nat} {ready : Bool} (hs : Steady s₀ s) : Steady s₀ (sendTrain s l ready) := emit_steady hs

theorem toRetrain_steady {l : Nat} (hs : Steady s₀ s) : Steady s₀ (toRetrain s l) := .ite (sendTrain_steady (setLink_steady hs)) hs

theorem toTraining_steady {l : Nat} (hs : Steady s₀ s) : Steady s₀ (toTraining s l) := sendTrain_steady (modLink_steady (free_steady hs))

theorem onMalformed_steady {l : Nat} {b : FrameBits} (hs : Steady s₀ s) : Steady s₀ (onMalformed s l b) :=
  .when (fun h => holdLink_steady (linkCause_steady h)) (setLink_steady hs)

theorem countRed_steady {l : Nat} (hs : Steady s₀ s) : Steady s₀ (countRed s l) := .when (fun h => raise_steady (.upd h)) (.upd hs)

theorem takeTokens_steady {l n : Nat} {green : Bool} (hs : Steady s₀ s) : Steady s₀ (takeTokens s l n green) := .upd hs

theorem countYellow_steady {l : Nat} (hs : Steady s₀ s) : Steady s₀ (countYellow s l) := .upd hs

theorem meter_steady {m : Msg} (hs : Steady s₀ s) : Steady s₀ (meter s m).1 :=
  .iteFst hs (.iteFst (countRed_steady hs) (.iteFst (countYellow_steady (takeTokens_steady hs)) (takeTokens_steady hs)))

theorem deliverLocal_steady {l : Nat} {m : Msg} (hs : Steady s₀ s) : Steady s₀ (deliverLocal s l m) := by
  unfold deliverLocal
  split
  · next t heq =>
      have ht : Steady s₀ t := (meter_steady hs).fst heq
      exact modLink_steady ht
  · next t heq =>
      have ht : Steady s₀ t := (meter_steady hs).fst heq
      exact modLink_steady ht
  · next t heq =>
      have ht : Steady s₀ t := (meter_steady hs).fst heq
      exact .when freeSlots_steady (.upd ht)

theorem deliver_steady {l : Nat} {m : Msg} (hs : Steady s₀ s) : Steady s₀ (deliver l s m) := by
  refine .ite ?_ ?_
  · exact deliverLocal_steady (.otherwise active_steady (countN_steady hs))
  · exact .ite (forwardCtrl_steady (freeSlots_steady (countN_steady hs))) (forward_steady (countN_steady hs))

theorem acceptFrame_steady {l : Nat} {h : FrameHead} {ms : List Msg} (hs : Steady s₀ s) : Steady s₀ (acceptFrame s l h ms) :=
  .foldl (fun h => .ite (discardOld_steady (freeSlots_steady h)) (deliver_steady h)) (count_steady (setLink_steady hs))

theorem frameWakes_steady (hs : Steady s₀ s) : Steady s₀ (frameWakes s) := .upd hs

theorem receiveFrame_steady {l : Nat} {b : FrameBits} (hs : Steady s₀ s) : Steady s₀ (receiveFrame s l b) := by
  refine .ite hs ?_
  refine .otherwise (fun h => ?_) (frameWakes_steady (setLink_steady hs))
  refine .ite (onMalformed_steady h) ?_
  exact .otherwise (fun h' => .ite (acceptFrame_steady h') (.ite (setLink_steady h') h')) (setLink_steady h)

theorem sendFrame_steady {l type : Nat} {ms : List Msg} (hs : Steady s₀ s) : Steady s₀ (sendFrame s l type ms) := by
  refine count_steady (.foldl (fun h => ?_) (emit_steady (setLink_steady (chosen_steady hs))))
  split
  · exact freeSlots_steady (.upd h)
  · exact .upd h

theorem fillFrame_steady {l : Nat} {ctrlOnly : Bool} {fuel room : Nat} {ms : List Msg} (hs : Steady s₀ s) :
    Steady s₀ (fillFrame l ctrlOnly fuel s room ms).1 := by
  induction fuel generalizing s room ms with
  | zero => exact hs
  | succ fuel ih =>
    unfold fillFrame
    dsimp only
    split
    · exact hs
    · exact .iteFst (ih (discardOld_steady (setLink_steady hs))) (ih (modLink_steady (setLink_steady hs)))

theorem frameSendBody_steady {l : Nat} (hs : Steady s₀ s) : Steady s₀ (frameSendBody s l) :=
  .ite hs (.otherwise sendFrame_steady (fillFrame_steady hs))

theorem replayAll_steady {l : Nat} (hs : Steady s₀ s) : Steady s₀ (replayAll s l) := .foldl emit_steady (.ite hs (setLink_steady hs))

theorem replayExpiry_steady {l : Nat} (hs : Steady s₀ s) : Steady s₀ (replayExpiry s l) :=
  .ite hs (.fork (fun h => toRetrain_steady (linkCause_steady h)) replayAll_steady (count_steady (setLink_steady hs)))

theorem trainBody_steady {l : Nat} {b : TrainBody} (hs : Steady s₀ s) : Steady s₀ (trainBody s l b) := by
  refine .when (fun h => ?_) (toRetrain_steady hs)
  refine .ite ?_ ?_
  · exact holdLink_steady (linkCause_steady (setLink_steady h))
  · refine .ite ?_ ?_
    · exact holdLink_steady (linkCause_steady (setLink_steady h))
    · refine .ite ?_ ?_
      · exact holdLink_steady (linkCause_steady (setLink_steady h))
      · exact .otherwise sendTrain_steady (modLink_steady (setLink_steady h))

theorem linkComesUp_steady {l : Nat} (hs : Steady s₀ s) : Steady s₀ (linkComesUp s l) := linksChanged_steady (.upd (modLink_steady hs))

theorem trainingDone_steady {l : Nat} {ok : Bool} (hs : Steady s₀ s) : Steady s₀ (trainingDone s l ok) :=
  .ite hs (.ite (linkComesUp_steady hs) (linksChanged_steady (modLink_steady (linkCause_steady hs))))

theorem retrainDone_steady {l units : Nat} (hs : Steady s₀ s) : Steady s₀ (retrainDone s l units) := by
  refine .ite hs ?_
  split
  · exact linksChanged_steady (replayAll_steady (linkCause_steady (setLink_steady hs)))
  · exact linksChanged_steady (linkCause_steady (modLink_steady (dropReplay_steady hs)))

theorem giveUp_steady {l : Nat} (hs : Steady s₀ s) : Steady s₀ (giveUp s l) :=
  .ite hs (linkExcluded_steady (requeue_steady (dropReplay_steady (linkCause_steady (modLink_steady hs)))))

theorem noteReissue_steady (hs : Steady s₀ s) : Steady s₀ (noteReissue s) := .ite (raise_steady (.upd hs)) hs

theorem consume_steady {p : Msg → Bool} (hs : Steady s₀ s) : Steady s₀ (consume s p).1 := by
  unfold consume
  split
  · exact hs
  · exact .iteFst (discardOld_steady (freeSlots_steady (setLink_steady hs))) (freeSlots_steady (setLink_steady hs))

theorem consumeTag_steady {cls op : Nat} {t : Tag} (hs : Steady s₀ s) : Steady s₀ (consumeTag s cls op t).1 := consume_steady hs

theorem consumeCtrl_steady {type opn origin : Nat} (hs : Steady s₀ s) : Steady s₀ (consumeCtrl s type opn origin) := consume_steady hs

theorem ackOnly_steady {l : Nat} (hs : Steady s₀ s) : Steady s₀ (ackOnly s l) := .ite (emit_steady (setLink_steady hs)) hs

theorem creditReturn_steady {l : Nat} (hs : Steady s₀ s) : Steady s₀ (creditReturn s l) := .ite (sendFrame_steady hs) hs

theorem lossOfSignal_steady {l : Nat} {_kind : LossKind} (hs : Steady s₀ s) : Steady s₀ (lossOfSignal s l _kind) := by
  unfold lossOfSignal
  split
  · exact .ite (modLink_steady hs) (toRetrain_steady hs)
  · exact toRetrain_steady hs

theorem lightPresent_steady {l : Nat} (hs : Steady s₀ s) : Steady s₀ (lightPresent s l) := by
  unfold lightPresent
  dsimp only
  split
  · exact .ite hs (toTraining_steady hs)
  · exact sendTrain_steady (setLink_steady hs)
  · exact sendTrain_steady hs
  · exact hs

theorem givenUpRetry_steady {l : Nat} (hs : Steady s₀ s) : Steady s₀ (givenUpRetry s l) := .ite (toTraining_steady hs) hs

theorem linkReset_steady {l : Nat} (hs : Steady s₀ s) : Steady s₀ (linkReset s l) := .ite hs (toRetrain_steady hs)

theorem linkClear_steady {l : Nat} (hs : Steady s₀ s) : Steady s₀ (linkClear s l) := modLink_steady hs

theorem linkHold_steady {l : Nat} {hold : Bool} (hs : Steady s₀ s) : Steady s₀ (linkHold s l hold) := by
  refine .ite ?_ ?_
  · exact .otherwise (fun h => linksChanged_steady (requeue_steady (dropReplay_steady h))) (setLink_steady hs)
  · exact .when toTraining_steady (setLink_steady hs)

theorem linkRetrain_steady {l : Nat} (hs : Steady s₀ s) : Steady s₀ (linkRetrain s l) := .ite (toTraining_steady hs) hs

theorem frameBadCrc_steady {l : Nat} {uncorrectable : Bool} (hs : Steady s₀ s) : Steady s₀ (frameBadCrc s l uncorrectable) :=
  .ite (modLink_steady hs) (count_steady (modLink_steady hs))

theorem timeoutTx_steady {key : Nat} (hs : Steady s₀ s) : Steady s₀ (timeoutTx s key) := by
  unfold timeoutTx
  split
  · exact hs
  · exact .ite hs (noteReissue_steady (reissue_steady hs))

theorem quarantineEnd_steady {key : Nat} (hs : Steady s₀ s) : Steady s₀ (quarantineEnd s key) := retryNoTag_steady (.upd hs)

/-! ### Sys2Proof/Machine/Page.lean -/

theorem writeLine_steady {line : Nat} {d : Line} (hs : Steady s₀ s) : Steady s₀ (writeLine s line d) := hs.writeMem (wf_writeLine line d)

theorem writeBlock_steady {block : Nat} {bs : List Byte} (hs : Steady s₀ s) : Steady s₀ (writeBlock s block bs) :=
  hs.writeMem (wf_writeBlock block bs)

theorem clearPage_steady {p : Nat} (hs : Steady s₀ s) : Steady s₀ (clearPage s p) := hs.writeMem (wf_clearPage p)

theorem setPage_steady {p : Nat} {x : Page} (hs : Steady s₀ s) : Steady s₀ (setPage s p x) := .upd hs

theorem modPage_steady {p : Nat} {f : Page → Page} (hs : Steady s₀ s) : Steady s₀ (modPage s p f) := setPage_steady hs

theorem reserveChanged_steady (hs : Steady s₀ s) : Steady s₀ (reserveChanged s) := .ite hs (.when raise_steady (.upd hs))

theorem allocFrameFor_steady {use : SegUse} {r : Nat × State} (hs : Steady s₀ s) (hr : allocFrameFor s use = some r) :
    Steady s₀ r.2 := by
  obtain ⟨f, -, rfl⟩ := Option.map_eq_some_iff.mp hr
  exact reserveChanged_steady (.upd (chosen_steady hs))

theorem allocFrame_steady {r : Nat × State} (hs : Steady s₀ s) (hr : allocFrame s = some r) : Steady s₀ r.2 :=
  allocFrameFor_steady hs hr

theorem freeFrameOf_steady {use : SegUse} {f : Nat} (hs : Steady s₀ s) : Steady s₀ (freeFrameOf s use f) := reserveChanged_steady (.upd hs)

theorem freeFrame_steady {f : Nat} (hs : Steady s₀ s) : Steady s₀ (freeFrame s f) := freeFrameOf_steady hs

/-- The pods of a new allocation are listed, whether in an arena that stands or in a new one. -/
theorem allocPodsFor_steady {use : SegUse} {ok : Nat → Bool} {n : Nat} {r : Nat × State} (hs : Steady s₀ s)
    (hr : allocPodsFor s use ok n = some r) : Steady s₀ r.2 := by
  unfold allocPodsFor at hr
  dsimp only at hr
  split at hr
  · cases hr
    exact hs
  · split at hr
    · cases hr
      exact reserveChanged_steady (.upd (chosen_steady hs))
    · split at hr
      · cases hr
      · split at hr
        · cases hr
        · cases hr
          exact reserveChanged_steady (.upd (chosen_steady (.upd hs)))

theorem allocPods_steady {n : Nat} {r : Nat × State} (hs : Steady s₀ s) (hr : allocPods s n = some r) : Steady s₀ r.2 :=
  allocPodsFor_steady hs hr

theorem allocPodsApart_steady {arena n : Nat} {r : Nat × State} (hs : Steady s₀ s) (hr : allocPodsApart s arena n = some r) :
    Steady s₀ r.2 := allocPodsFor_steady hs hr

theorem allocPodsNear_steady {arena n : Nat} {r : Nat × State} (hs : Steady s₀ s) (hr : allocPodsNear s arena n = some r) :
    Steady s₀ r.2 := by
  unfold allocPodsNear at hr
  split at hr
  · split at hr
    · cases hr
      exact hs
    · cases hr
      exact reserveChanged_steady (.upd (chosen_steady hs))
  · exact allocPods_steady hs hr

theorem freePods_steady {a n : Nat} (hs : Steady s₀ s) : Steady s₀ (freePods s a n) := .ite hs (reserveChanged_steady (.upd hs))

theorem trimPods_steady {a old n : Nat} (hs : Steady s₀ s) : Steady s₀ (trimPods s a old n) :=
  .ite hs (.ite (freePods_steady hs) (reserveChanged_steady (.upd hs)))

theorem freeLocal_steady {tier : Nat} {d : Desc} (hs : Steady s₀ s) : Steady s₀ (freeLocal s tier d) :=
  .ite (freeFrame_steady hs) (.ite (freePods_steady hs) hs)

theorem setDom_steady {d : Nat} {k : DomKeys} (hs : Steady s₀ s) : Steady s₀ (setDom s d k) := .upd hs

/-! ### Sys2Proof/Machine/Journal.lean -/

theorem setRing_steady {r : Nat} {x : Machine.Ring} (hs : Steady s₀ s) : Steady s₀ (setRing s r x) := .ite (.upd hs) (.upd hs)

theorem jwrite_steady {r : Nat} {x : JRec} (hs : Steady s₀ s) : Steady s₀ (jwrite s r x) := .when raise_steady (setRing_steady hs)

theorem jpage_steady {p type kind ref cnt : Nat} {a b : BitVec 128} (hs : Steady s₀ s) : Steady s₀ (jpage s p type kind ref cnt a b) :=
  jwrite_steady hs

theorem metaPort_steady {write : Bool} {pa : Nat} {data : Option Line} (hs : Steady s₀ s) : Steady s₀ (metaPort s write pa data) :=
  memPush_steady hs

theorem tcClean_steady {q : Nat} (hs : Steady s₀ s) : Steady s₀ (tcClean s q) := by
  unfold tcClean
  split
  · exact hs
  · exact .ite hs (.upd (metaPort_steady hs))

theorem tcEvict_steady {set : Nat} (hs : Steady s₀ s) : Steady s₀ (tcEvict s set) := .ite hs (.upd (tcClean_steady (chosen_steady hs)))

theorem tcFetch_steady {q : Nat} (hs : Steady s₀ s) : Steady s₀ (tcFetch s q) := .ite hs (.upd (metaPort_steady (tcEvict_steady hs)))

theorem markDirty_steady {p : Nat} {before : List Desc} (hs : Steady s₀ s) : Steady s₀ (markDirty s p before) := .upd (tcFetch_steady hs)

theorem putDesc_steady {p : Nat} {d : Desc} (hs : Steady s₀ s) : Steady s₀ (putDesc s p d) := markDirty_steady (modPage_steady hs)

theorem descSet_steady {p : Nat} {d : Desc} (hs : Steady s₀ s) : Steady s₀ (descSet s p d) := putDesc_steady (jpage_steady hs)

theorem poisonMask_steady {p : Nat} {mask : BitVec 64} (hs : Steady s₀ s) : Steady s₀ (poisonMask s p mask) :=
  .otherwise descSet_steady (setPage_steady hs)

theorem poisonOne_steady {line : Nat} (hs : Steady s₀ s) : Steady s₀ (poisonOne s line) := poisonMask_steady hs

theorem poisonBlock_steady {block : Nat} (hs : Steady s₀ s) : Steady s₀ (poisonBlock s block) := poisonMask_steady hs

theorem cleanOne_steady {line : Nat} (hs : Steady s₀ s) : Steady s₀ (cleanOne s line) := poisonMask_steady hs

theorem fencePage_steady {p : Nat} (hs : Steady s₀ s) : Steady s₀ (fencePage s p) := .upd (descSet_steady (setPage_steady hs))

theorem fetchDesc_steady {p : Nat} (hs : Steady s₀ s) : Steady s₀ (fetchDesc s p) :=
  .when (fun h => raiseP_steady (fencePage_steady h)) (tcFetch_steady hs)

theorem writeExtents_steady (hs : Steady s₀ s) : Steady s₀ (writeExtents s) := .upd (.foldl metaPort_steady hs)

theorem checkpointRing_steady {r : Nat} (hs : Steady s₀ s) : Steady s₀ (checkpointRing s r) := by
  unfold checkpointRing
  dsimp only
  split
  · exact hs
  · exact .when writeExtents_steady (setRing_steady (jwrite_steady (.foldl jwrite_steady hs)))

theorem translationWriteback_steady {quad : Nat} (hs : Steady s₀ s) : Steady s₀ (translationWriteback s quad) := by
  unfold translationWriteback
  split
  · exact .ite (tcClean_steady hs) hs
  · exact hs

theorem tcRebuild_steady {lost : NMap TcLine} (hs : Steady s₀ s) : Steady s₀ (tcRebuild s lost) :=
  .foldl (fun h => .upd (.ite (metaPort_steady h) h)) (.foldl (fun h => .foldl modPage_steady h) hs)

theorem tcLost_steady {stack : Nat} (hs : Steady s₀ s) : Steady s₀ (tcLost s stack) := tcRebuild_steady hs

theorem tcLineLost_steady {stack off : Nat} (hs : Steady s₀ s) : Steady s₀ (tcLineLost s stack off) := tcRebuild_steady hs

theorem spillStart_steady {stack : Nat} (hs : Steady s₀ s) : Steady s₀ (spillStart s stack) := .ite hs (setRing_steady hs)

theorem spillBuilt_steady {r : Nat} (hs : Steady s₀ s) : Steady s₀ (spillBuilt s r) := .ite (setRing_steady hs) hs

theorem ledgerDrop_steady {p : Nat} (hs : Steady s₀ s) : Steady s₀ (ledgerDrop s p) := .upd hs

theorem ledgerPut_steady {p : Nat} {st : BitVec 16} (hs : Steady s₀ s) : Steady s₀ (ledgerPut s p st) :=
  .ite hs (.ite (.upd hs) (raise_steady (.upd hs)))

theorem postCand_steady {k : CandKind} {p : Nat} (hs : Steady s₀ s) : Steady s₀ (postCand s k p) := .ite hs (.upd hs)

theorem dropCand_steady {k : CandKind} {p : Nat} (hs : Steady s₀ s) : Steady s₀ (dropCand s k p) := .upd hs

theorem heatReached_steady {p : Nat} (hs : Steady s₀ s) : Steady s₀ (heatReached s p) :=
  .ite (postCand_steady hs) (.ite (postCand_steady hs) hs)

theorem heatAccess_steady {p : Nat} (hs : Steady s₀ s) : Steady s₀ (heatAccess s p) :=
  .otherwise (fun h => heatReached_steady (modPage_steady (.ite (ledgerDrop_steady h) h))) (.upd hs)

theorem walkPage_steady {p : Nat} (hs : Steady s₀ s) : Steady s₀ (walkPage s p) := by
  refine .ite hs ?_
  refine .when postCand_steady ?_
  refine .when postCand_steady ?_
  exact heatReached_steady (.otherwise (fun h => .ite h (modPage_steady hs)) (ledgerPut_steady (modPage_steady hs)))

theorem passEnd_steady (hs : Steady s₀ s) : Steady s₀ (passEnd s) := .when raise_steady (.upd hs)

theorem walkerPage_steady {p : Nat} (hs : Steady s₀ s) : Steady s₀ (walkerPage s p) := by
  unfold walkerPage
  split
  · exact .ite (passEnd_steady hs) hs
  · exact .ite hs (.when passEnd_steady (walkPage_steady (.upd hs)))

theorem scanEntry_steady {p : Nat} (hs : Steady s₀ s) : Steady s₀ (scanEntry s p) := by
  unfold scanEntry
  split
  · exact hs
  · exact .when .upd (.when postCand_steady (.ite (postCand_steady hs) hs))

theorem epochStart_steady (hs : Steady s₀ s) : Steady s₀ (epochStart s) := by
  refine .otherwise (fun h => ?_) (.ite (passEnd_steady hs) hs)
  exact .when passEnd_steady (.when (fun h' => .foldl scanEntry_steady h') (.upd (jwrite_steady h)))

/-! ### Sys2Proof/Machine/Stored.lean -/

theorem setBorrow_steady {n : Nat} {b : Borrow} (hs : Steady s₀ s) : Steady s₀ (setBorrow s n b) := .upd hs

theorem leaseTake_steady {node a n : Nat} (hs : Steady s₀ s) : Steady s₀ (leaseTake s node a n) := .ite hs (setBorrow_steady hs)

theorem leaseDrop_steady {node a n : Nat} (hs : Steady s₀ s) : Steady s₀ (leaseDrop s node a n) := setBorrow_steady hs

theorem leaseTrim_steady {node a old n : Nat} (hs : Steady s₀ s) : Steady s₀ (leaseTrim s node a old n) :=
  .ite (leaseDrop_steady hs) (setBorrow_steady hs)

theorem leaseFreeing_steady {node a n : Nat} (hs : Steady s₀ s) : Steady s₀ (leaseFreeing s node a n) := setBorrow_steady hs

theorem leaseFreed_steady {node a n : Nat} (hs : Steady s₀ s) : Steady s₀ (leaseFreed s node a n) := setBorrow_steady hs

theorem sendBlkRead_steady {queue node pod cnt vers label : Nat} {p : Purpose} (hs : Steady s₀ s) :
    Steady s₀ (sendBlkRead s queue node pod cnt vers label p) :=
  openTx_steady hs

theorem sendBlkWrite_steady {node pod vers label : Nat} {d : Line} {p : Purpose} (hs : Steady s₀ s) :
    Steady s₀ (sendBlkWrite s node pod vers label d p) :=
  openTx_steady hs

theorem sendImage_steady {node pod vers label : Nat} {img : List Byte} {p : Purpose} (hs : Steady s₀ s) :
    Steady s₀ (sendImage s node pod vers label img p) :=
  .foldl sendBlkWrite_steady hs

theorem sendBlkFree_steady {node pod cnt page ringNo seq : Nat} (hs : Steady s₀ s) :
    Steady s₀ (sendBlkFree s node pod cnt page ringNo seq) :=
  .ite (openTx_steady hs) (.upd hs)

theorem freeHolder_steady {p : Nat} {d : Desc} (hs : Steady s₀ s) : Steady s₀ (freeHolder s p d) :=
  .ite hs (sendBlkFree_steady (leaseFreeing_steady (jpage_steady hs)))

theorem freeHolderRange_steady {p node a n : Nat} {written : Bool} (hs : Steady s₀ s) : Steady s₀ (freeHolderRange s p node a n written) :=
  .ite hs (.ite (freeHolder_steady hs) (leaseDrop_steady hs))

theorem freeStorage_steady {p tier : Nat} {d : Desc} (hs : Steady s₀ s) : Steady s₀ (freeStorage s p tier d) :=
  .ite (freeHolder_steady hs) (freeLocal_steady hs)

theorem mirrorRead_steady {p first cnt : Nat} {lines : BitVec 64} (hs : Steady s₀ s) : Steady s₀ (mirrorRead s p first cnt lines) := by
  unfold mirrorRead
  split
  · exact hs
  · exact openTx_steady hs

theorem mirrorFree_steady {ext pg cnt : Nat} (hs : Steady s₀ s) : Steady s₀ (mirrorFree s ext pg cnt) := by
  unfold mirrorFree
  split
  · exact hs
  · exact .ite (openTx_steady hs) (.upd hs)

theorem mirrorPage_steady {p : Nat} {raw : Bool} (hs : Steady s₀ s) : Steady s₀ (mirrorPage s p raw) := by
  unfold mirrorPage
  split
  · exact hs
  · exact openTx_steady (.upd hs)

theorem mirrorPod_steady {p index : Nat} {raw : Bool} {d : Line} (hs : Steady s₀ s) : Steady s₀ (mirrorPod s p index raw d) := by
  unfold mirrorPod
  split
  · exact hs
  · exact openTx_steady (.upd hs)

/-! ### Sys2Proof/Machine/Cmp.lean -/

theorem admitJobs_steady {fuel : Nat} (hs : Steady s₀ s) : Steady s₀ (admitJobs fuel s) := by
  induction fuel generalizing s with
  | zero => exact hs
  | succ fuel ih =>
    unfold admitJobs
    split
    · exact hs
    · split
      · exact hs
      · exact ih (.upd hs)

theorem runLanes_steady (hs : Steady s₀ s) : Steady s₀ (runLanes s) := admitJobs_steady hs

theorem pushJob_steady {j : Job} (hs : Steady s₀ s) : Steady s₀ (pushJob s j) := .ite (.upd hs) (runLanes_steady (.upd hs))

theorem holdJobs_steady (hs : Steady s₀ s) : Steady s₀ (holdJobs s) := .upd hs

theorem fenceCLane_steady {i : Nat} (hs : Steady s₀ s) : Steady s₀ (fenceCLane s i) := by
  refine .ite hs ?_
  dsimp only
  split
  · exact pushJob_steady (raiseP_steady (.upd hs))
  · exact runLanes_steady (raiseP_steady (.upd hs))

theorem fenceDLane_steady {i : Nat} (hs : Steady s₀ s) : Steady s₀ (fenceDLane s i) := .ite hs (raiseP_steady (.upd hs))

theorem dLaneTakes_steady {j : DJob} (hs : Steady s₀ s) : Steady s₀ (dLaneTakes s j) := by
  unfold dLaneTakes
  split <;> exact .upd hs

theorem verifyFail_steady {i : Nat} (hs : Steady s₀ s) : Steady s₀ (verifyFail s i) := by
  unfold verifyFail
  dsimp only
  split
  · exact .when fenceCLane_steady (raiseP_steady (.upd hs))
  · exact raiseP_steady (.upd hs)

theorem laneEnd_steady {i : Nat} {shadowOk : Bool} (hs : Steady s₀ s) : Steady s₀ (laneEnd s i shadowOk).1 := by
  unfold laneEnd
  split
  · exact hs
  · exact .otherwise verifyFail_steady (countL_steady (.upd hs))

theorem noteTrial_steady {p : Nat} (hs : Steady s₀ s) : Steady s₀ (noteTrial s p) := .ite (.otherwise raise_steady (.upd hs)) hs

theorem compressPage_steady {slots : List Nat} {block : Nat → List Byte} {use : Nat → JobUse} (hs : Steady s₀ s) :
    Steady s₀ (compressPage s slots block use) :=
  .foldl (fun h => .ite (countL_steady h) (pushJob_steady h)) hs

theorem dropResults_steady {p : Nat} (hs : Steady s₀ s) : Steady s₀ (dropResults s p) := .upd hs

theorem primerUsed_steady {slot : Nat} (hs : Steady s₀ s) : Steady s₀ (primerUsed s slot) := .ite hs (.upd hs)

theorem primerFreed_steady {slot : Nat} (hs : Steady s₀ s) : Steady s₀ (primerFreed s slot) := .ite (.when raiseP_steady (.upd hs)) hs

theorem primerMoved_steady {old new : Desc} (hs : Steady s₀ s) : Steady s₀ (primerMoved s old new) :=
  .when primerFreed_steady (.ite (primerUsed_steady hs) hs)

/-! ### Sys2Proof/Machine/Mig.lean -/

theorem drawBudget_steady {k : MigKind} {n : Nat} (hs : Steady s₀ s) : Steady s₀ (drawBudget s k n) := .ite (.upd hs) (.ite (.upd hs) hs)

theorem bucketRefill_steady (hs : Steady s₀ s) : Steady s₀ (bucketRefill s) := .upd hs

theorem requestLease_steady {p : Nat} (hs : Steady s₀ s) : Steady s₀ (requestLease s p) := by
  refine .ite (.ite (.upd hs) hs) ?_
  split
  · exact .ite (.upd hs) hs
  · exact .otherwise (fun h => sendCtrl_steady (.upd h)) (.ite (.upd hs) hs)

theorem leaseHeadroom_steady (hs : Steady s₀ s) : Steady s₀ (leaseHeadroom s) := .ite (requestLease_steady hs) hs

/-- A destination is a frame, pods of an arena, pods of a lease, or, for MIRROR_ADD, the place itself. -/
theorem reserveDst_steady {p : Nat} {k : MigKind} {r : Nat × Nat × Nat × Nat × State} (hs : Steady s₀ s)
    (hr : reserveDst s p k = some r) : Steady s₀ r.2.2.2.2 := by
  have lease {node : Nat} (hr : (leaseFit (borrow s node) 64 (choice s 0 (2 ^ 38))).map
      (fun a => (tierRemote, a, node, 64, leaseTake (chosen s 1) node a 64)) = some r) : Steady s₀ r.2.2.2.2 := by
    obtain ⟨a, -, rfl⟩ := Option.map_eq_some_iff.mp hr
    show Steady s₀ (leaseTake (chosen s 1) node a 64)
    exact leaseTake_steady (chosen_steady hs)
  have frame (hr : (allocFrame s).map (fun r => (tierPlain, r.1, myNode s, 0, r.2)) = some r) : Steady s₀ r.2.2.2.2 := by
    obtain ⟨x, hx, rfl⟩ := Option.map_eq_some_iff.mp hr
    exact allocFrame_steady (r := x) hs hx
  have packed (hr : (allocPods s 64).map (fun r => (tierPacked, r.1, myNode s, 64, r.2)) = some r) : Steady s₀ r.2.2.2.2 := by
    obtain ⟨x, hx, rfl⟩ := Option.map_eq_some_iff.mp hr
    exact allocPods_steady (r := x) hs hx
  unfold reserveDst at hr
  dsimp only at hr
  split at hr
  · exact packed hr
  · obtain ⟨x, hx, rfl⟩ := Option.map_eq_some_iff.mp hr
    exact allocPodsApart_steady (r := x) hs hx
  · exact frame hr
  · exact frame hr
  · split at hr
    · exact frame hr
    · exact packed hr
  · obtain ⟨node, -, hr⟩ := Option.bind_eq_some_iff.mp hr
    exact lease hr
  · obtain ⟨node, -, hr⟩ := Option.bind_eq_some_iff.mp hr
    exact lease hr
  · split at hr
    · exact frame hr
    · split at hr
      · obtain ⟨x, hx, rfl⟩ := Option.map_eq_some_iff.mp hr
        exact allocPodsNear_steady (r := x) hs hx
      · exact lease hr
  · cases hr
    exact hs

theorem modMig_steady {p : Nat} {f : Mig → Mig} (hs : Steady s₀ s) : Steady s₀ (modMig s p f) := .upd hs

theorem blockDone_steady {p b blen primer : Nat} (hs : Steady s₀ s) : Steady s₀ (blockDone s p b blen primer) := modMig_steady hs

theorem countStored_steady {m : Mig} {blens : List Nat} (hs : Steady s₀ s) : Steady s₀ (countStored s m blens) :=
  .when podsWritten_steady (.ite (encrypted_steady hs) hs)

theorem countTaken_steady {m : Mig} {blens : List Nat} (hs : Steady s₀ s) : Steady s₀ (countTaken s m blens) :=
  .when countN_steady (.ite (decrypted_steady hs) hs)

theorem migWriteOut_steady {p : Nat} (hs : Steady s₀ s) : Steady s₀ (migWriteOut s p) := by
  unfold migWriteOut
  split
  · exact hs
  · split
    · exact hs
    · exact .ite hs (modMig_steady (.foldl sendImage_steady hs))

theorem startPack_steady {p : Nat} (hs : Steady s₀ s) : Steady s₀ (startPack s p) := by
  unfold startPack
  split
  · exact hs
  · exact .when (fun h => migWriteOut_steady (.foldl blockDone_steady h)) (compressPage_steady (dropResults_steady hs))

theorem copyBlocks_steady {p : Nat} {blocks : List Nat} (hs : Steady s₀ s) : Steady s₀ (copyBlocks s p blocks) := by
  unfold copyBlocks
  split
  · exact hs
  · refine .ite ?_ ?_
    · refine .fork migWriteOut_steady (fun h => .ite (startPack_steady h) h) ?_
      refine .foldl (fun h => ?_) (modMig_steady hs)
      exact .ite (.ite (blockDone_steady (countStored_steady h)) h) (sendBlkRead_steady (modMig_steady h))
    · exact .fork startPack_steady (fun h => migWriteOut_steady (.foldl blockDone_steady (countStored_steady h)))
          (countTaken_steady (modMig_steady hs))

theorem openMig_steady {k : MigKind} {p : Nat} {dst : Nat × Nat × Nat × Nat} {drawn : Nat} (hs : Steady s₀ s) :
    Steady s₀ (openMig s k p dst drawn) := by
  refine .fork (fun h => modMig_steady (mirrorPage_steady h)) copyBlocks_steady ?_
  exact putDesc_steady (.upd (jpage_steady (.ite hs (noteTrial_steady hs))))

theorem migrationStart_steady {k : MigKind} {p : Nat} (hs : Steady s₀ s) : Steady s₀ (migrationStart s k p) := by
  unfold migrationStart
  split
  · split
    · exact dropCand_steady hs
    · exact .ite hs (dropCand_steady hs)
    · exact hs
  · refine .ite hs ?_
    split
    · exact .ite hs (.upd hs)
    · split
      · exact .ite (requestLease_steady hs) hs
      · next tier loc node pods t heq =>
          have ht : Steady s₀ t := reserveDst_steady hs heq
          exact leaseHeadroom_steady (openMig_steady (drawBudget_steady ht))

theorem mergeNear_steady {p : Nat} (hs : Steady s₀ s) : Steady s₀ (mergeNear s p) := by
  refine .foldl (fun h => ?_) hs
  split
  · exact h
  · exact .upd (.foldl (fun h' => .ite (poisonOne_steady (writeLine_steady h')) (.when cleanOne_steady (writeLine_steady h'))) h)

theorem retireKey_steady {domain : Nat} (hs : Steady s₀ s) : Steady s₀ (retireKey s domain) := .ite (raiseP_steady (setDom_steady hs)) hs

theorem retireKeys_steady (hs : Steady s₀ s) : Steady s₀ (retireKeys s) := .foldl retireKey_steady hs

theorem noteRefold_steady (hs : Steady s₀ s) : Steady s₀ (noteRefold s) := jwrite_steady hs

theorem refoldEnds_steady (hs : Steady s₀ s) : Steady s₀ (refoldEnds s) := .ite (raise_steady (.upd hs)) hs

theorem refoldDone_steady {p : Nat} (hs : Steady s₀ s) : Steady s₀ (refoldDone s p) :=
  .otherwise (fun h => refoldEnds_steady (noteRefold_steady (.upd h))) (.ite (noteRefold_steady (.upd hs)) hs)

theorem countCommitted_steady {k : MigKind} (hs : Steady s₀ s) : Steady s₀ (countCommitted s k) := count_steady (.upd hs)

theorem hintEnds_steady {p : Nat} {hint : Option Nat} (hs : Steady s₀ s) : Steady s₀ (hintEnds s p hint) := by
  unfold hintEnds
  split
  · exact hs
  · exact .when postCand_steady (heatReached_steady hs)

theorem commitMig_steady {p : Nat} (hs : Steady s₀ s) : Steady s₀ (commitMig s p) := by
  unfold commitMig
  split
  · exact hs
  · split
    · exact hs
    · refine hintEnds_steady ?_
      refine refoldDone_steady ?_
      refine countCommitted_steady ?_
      refine retireKey_steady ?_
      refine retireKey_steady ?_
      refine primerMoved_steady ?_
      refine .when ledgerDrop_steady ?_
      refine .when clearPage_steady ?_
      refine .otherwise (fun h => ?_) ?_
      · exact .ite (trimPods_steady (freeStorage_steady h)) (.when leaseTrim_steady (freeStorage_steady h))
      · exact .otherwise modPage_steady (.when .upd (putDesc_steady (.upd (jpage_steady (.ite (mergeNear_steady hs) hs)))))

theorem dropMigJobs_steady {p : Nat} (hs : Steady s₀ s) : Steady s₀ (dropMigJobs s p) := .upd (dropResults_steady hs)

theorem abortMig_steady {p : Nat} (hs : Steady s₀ s) : Steady s₀ (abortMig s p) := by
  unfold abortMig
  split
  · exact hs
  · refine hintEnds_steady ?_
    refine count_steady ?_
    refine .when clearPage_steady ?_
    refine .fork .upd (fun h => .ite (freeFrame_steady h) (.ite (freePods_steady h) (freeHolderRange_steady h))) ?_
    exact dropMigJobs_steady (.otherwise descSet_steady (putDesc_steady (.upd (jpage_steady hs))))

theorem stopMig_steady {p : Nat} (hs : Steady s₀ s) : Steady s₀ (stopMig s p) := by
  unfold stopMig
  split
  · exact hs
  · exact .ite (abortMig_steady hs) (modMig_steady hs)

theorem blockEvent_steady {p b : Nat} {ok : Bool} {e : Option DecError} (hs : Steady s₀ s) : Steady s₀ (blockEvent s p b ok e) :=
  raiseP_steady hs

theorem blockFailed_steady {p b : Nat} {e : Option DecError} (hs : Steady s₀ s) : Steady s₀ (blockFailed s p b e) :=
  .ite (.upd hs) (blockEvent_steady hs)

theorem decodeLost_steady {p b : Nat} {e : DecError} (hs : Steady s₀ s) : Steady s₀ (decodeLost s p b e) :=
  blockFailed_steady (poisonBlock_steady (.upd hs))

theorem decodeCleared_steady (hs : Steady s₀ s) : Steady s₀ (decodeCleared s) := by
  unfold decodeCleared
  split
  · exact fenceDLane_steady hs
  · exact hs

theorem migFetch_steady {p : Nat} {bad : BitVec 64} (hs : Steady s₀ s) : Steady s₀ (migFetch s p bad) :=
  raiseP_steady (.foldl mirrorRead_steady hs)

theorem migBad_steady {p : Nat} {bad : BitVec 64} (hs : Steady s₀ s) : Steady s₀ (migBad s p bad) :=
  .ite hs (.ite (migFetch_steady hs) (poisonMask_steady hs))

theorem migDecode_steady {p b : Nat} {dec : DecOutcome} (hs : Steady s₀ s) : Steady s₀ (migDecode s p b dec) := by
  unfold migDecode
  split
  · exact hs
  · exact decodeCleared_steady hs
  · exact decodeCleared_steady hs
  · exact .when migFetch_steady (decodeLost_steady hs)

theorem returnBudget_steady {p : Nat} {m : Mig} (hs : Steady s₀ s) : Steady s₀ (returnBudget s p m) := .ite (modMig_steady (.upd hs)) hs

theorem passEndMig_steady {p : Nat} {bad : BitVec 64} {decs : List (Nat × DecOutcome)} (hs : Steady s₀ s) :
    Steady s₀ (passEndMig s p bad decs) := by
  unfold passEndMig
  split
  · exact hs
  · refine .ite hs ?_
    refine .otherwise (fun h => ?_) (.foldl migDecode_steady (migBad_steady hs))
    exact .otherwise copyBlocks_steady (modMig_steady (returnBudget_steady h))

theorem migrationCommit_steady {p : Nat} (hs : Steady s₀ s) : Steady s₀ (migrationCommit s p) := by
  unfold migrationCommit
  split
  · exact hs
  · exact .ite hs (.ite (copyBlocks_steady (modMig_steady hs)) (.ite hs (commitMig_steady hs)))

theorem freezeTimeout_steady {p : Nat} (hs : Steady s₀ s) : Steady s₀ (freezeTimeout s p) := by
  unfold freezeTimeout
  split
  · exact hs
  · exact .ite hs (.otherwise (fun h => .ite (raiseP_steady h) (modMig_steady hs)) (abortMig_steady hs))

theorem migResult_steady {p b : Nat} {j : Job} (hs : Steady s₀ s) : Steady s₀ (migResult s p b j) := by
  unfold migResult
  dsimp only
  split
  · exact hs
  · split
    · exact .upd hs
    · exact migWriteOut_steady (modMig_steady (countStored_steady (dropResults_steady (.upd hs))))

theorem migAcked_steady {p : Nat} (hs : Steady s₀ s) : Steady s₀ (migAcked s p) := modMig_steady hs

theorem migBlockHere_steady {p b blen : Nat} (hs : Steady s₀ s) : Steady s₀ (migBlockHere s p b blen) := by
  unfold migBlockHere
  split
  · exact hs
  · exact .ite (migWriteOut_steady (blockDone_steady (countStored_steady hs))) (.ite (startPack_steady hs) hs)

theorem migBlockLost_steady {p b : Nat} {lines : BitVec 64} (hs : Steady s₀ s) : Steady s₀ (migBlockLost s p b lines) :=
  migBlockHere_steady (migBad_steady (writeBlock_steady (modMig_steady hs)))

theorem migArrived_steady {p b : Nat} {img : List Byte} {dec : DecOutcome} (hs : Steady s₀ s) : Steady s₀ (migArrived s p b img dec) := by
  unfold migArrived
  dsimp only
  split
  · exact hs
  · split
    · exact migBlockHere_steady (modMig_steady (migDecode_steady (writeBlock_steady (countTaken_steady hs))))
    · exact dLaneTakes_steady (countTaken_steady hs)
    · exact migBlockHere_steady (.when modMig_steady (modMig_steady (writeBlock_steady (migDecode_steady (countTaken_steady hs)))))
    · exact countTaken_steady hs

theorem migDecoded_steady {p b : Nat} {bs : List Byte} (hs : Steady s₀ s) : Steady s₀ (migDecoded s p b bs) := by
  unfold migDecoded
  split
  · exact hs
  · exact migBlockHere_steady (modMig_steady (writeBlock_steady hs))

theorem markBlock_steady {block : Nat} (hs : Steady s₀ s) : Steady s₀ (markBlock s block) := modMig_steady hs

/-! ### Sys2Proof/Machine/Mem.lean -/

theorem countUrgent_steady {n : Nat} (hs : Steady s₀ s) : Steady s₀ (countUrgent s n) := .ite hs (.foldl countL_steady (setCtl_steady hs))

theorem wakeCtl_steady {n rank : Nat} (hs : Steady s₀ s) : Steady s₀ (wakeCtl s n rank) := modCtl_steady hs

theorem memAdmit_steady {n : Nat} {write : Bool} (hs : Steady s₀ s) : Steady s₀ (memAdmit s n write).1 := by
  refine .iteFst (countUrgent_steady hs) ?_
  split
  · exact countUrgent_steady hs
  · exact setCtl_steady (.upd (memRefill_steady (wakeCtl_steady (setCtl_steady (countUrgent_steady hs)))))

theorem countBurst_steady {n : Nat} {write hit : Bool} (hs : Steady s₀ s) : Steady s₀ (countBurst s n write hit) :=
  .ite (.when count_steady (count_steady hs)) (count_steady hs)

theorem memIssue_steady {n : Nat} {blocked : List Nat} (hs : Steady s₀ s) : Steady s₀ (memIssue s n blocked) := by
  refine .ite (countUrgent_steady hs) ?_
  split
  · exact countUrgent_steady hs
  · exact countBurst_steady (setCtl_steady (countUrgent_steady hs))

theorem takeReturn_steady {n : Nat} {r : MemReq × State} (hs : Steady s₀ s) (hr : takeReturn s n = some r) : Steady s₀ r.2 := by
  unfold takeReturn at hr
  split at hr <;> cases hr
  exact .upd hs

theorem refreshDue_steady {n rank : Nat} (hs : Steady s₀ s) : Steady s₀ (refreshDue s n rank) :=
  .ite hs (.ite (setCtl_steady hs) (setCtl_steady hs))

theorem powerDownEntry_steady {n rank : Nat} (hs : Steady s₀ s) : Steady s₀ (powerDownEntry s n rank) := .ite hs (setCtl_steady hs)

theorem selfRefreshEntry_steady {n : Nat} (hs : Steady s₀ s) : Steady s₀ (selfRefreshEntry s n) := .ite hs (setCtl_steady hs)

theorem channelGoes_steady {n : Nat} {st : MemSt} (hs : Steady s₀ s) : Steady s₀ (channelGoes s n st) :=
  reserveChanged_steady (modCtl_steady hs)

theorem trnStart_steady {c : Nat} (hs : Steady s₀ s) : Steady s₀ (trnStart s c) := .ite hs (.ite (setTrn_steady hs) (setTrn_steady hs))

theorem trnEnd_steady {c : Nat} {failed : BitVec 16} {l0 l1 : BitVec 40} (hs : Steady s₀ s) : Steady s₀ (trnEnd s c failed l0 l1) :=
  .ite hs (setTrn_steady hs)

theorem memSchedWrite_steady {n : Nat} {v : Word} (hs : Steady s₀ s) : Steady s₀ (memSchedWrite s n v) := .ite (setCtl_steady hs) hs

theorem corrected_steady {n addr : Nat} {dev : Fin 10} (hs : Steady s₀ s) : Steady s₀ (corrected s n addr dev).1 := by
  refine .iteFst (.upd (.upd hs)) ?_
  split
  · exact raiseCtl_steady (.upd (.upd hs))
  · exact raiseP_steady (raiseCtl_steady (.upd (raiseCtl_steady (.upd (.upd hs)))))
  · exact raiseCtl_steady (.upd (.upd hs))

theorem bucketLeak_steady (hs : Steady s₀ s) : Steady s₀ (bucketLeak s) := .upd hs

theorem uncorrected_steady {n finder addr : Nat} {recovered : Bool} (hs : Steady s₀ s) :
    Steady s₀ (uncorrected s n finder addr recovered).1 :=
  raiseCtl_steady (.upd hs)

theorem scrubStep_steady {n : Nat} (hs : Steady s₀ s) : Steady s₀ (scrubStep s n) := .fork .upd .upd (.ite (raiseCtl_steady (.upd hs)) hs)

/-! ### Sys2Proof/Machine/Dir.lean -/

theorem setAccess_steady {set : Nat} {data : Option (List Line)} (hs : Steady s₀ s) : Steady s₀ (setAccess s set data) :=
  .foldl memPush_steady hs

theorem dirEvict_steady (hs : Steady s₀ s) : Steady s₀ (dirEvict s) := .ite hs (.upd (.when setAccess_steady (chosen_steady hs)))

theorem dirTouch_steady {set : Nat} {change : Bool} (hs : Steady s₀ s) : Steady s₀ (dirTouch s set change) := by
  unfold dirTouch
  split
  · exact .ite (.upd hs) hs
  · exact .upd (setAccess_steady (dirEvict_steady hs))

theorem setEnt_steady {key : Nat} {e : DirEnt} (hs : Steady s₀ s) : Steady s₀ (setEnt s key e) :=
  .fork .upd .upd (.ite hs (dirTouch_steady hs))

theorem crtLoseSet_steady {set : Nat} (hs : Steady s₀ s) : Steady s₀ (crtLoseSet s set) := .upd hs

theorem crtLineLost_steady {stack half off : Nat} (hs : Steady s₀ s) : Steady s₀ (crtLineLost s stack half off) :=
  .ite hs (.ite (crtLoseSet_steady hs) (.upd hs))

theorem crtStackLost_steady {stack : Nat} (hs : Steady s₀ s) : Steady s₀ (crtStackLost s stack) :=
  .ite (.upd hs) (.foldl crtLoseSet_steady hs)

theorem countDuplicate_steady (hs : Steady s₀ s) : Steady s₀ (countDuplicate s) := count_steady (.upd hs)

theorem crtPut_steady {k : Nat} {c : Crt} (hs : Steady s₀ s) : Steady s₀ (crtPut s k c) := .upd hs

theorem crtRecordFor_steady {owner : Nat} {t : Tag} {isNew : Bool} {kind status line seq result : Nat} (hs : Steady s₀ s) :
    Steady s₀ (crtRecordFor s owner t isNew kind status line seq result) :=
  crtPut_steady hs

theorem crtRecord_steady {t : Tag} {isNew : Bool} {kind status line seq result : Nat} (hs : Steady s₀ s) :
    Steady s₀ (crtRecord s t isNew kind status line seq result) :=
  crtRecordFor_steady hs

theorem crtWriteback_steady {t : Tag} {isNew : Bool} {key : Nat} (hs : Steady s₀ s) : Steady s₀ (crtWriteback s t isNew key) := by
  unfold crtWriteback
  split
  · exact .ite hs (crtRecordFor_steady hs)
  · exact crtRecordFor_steady hs

theorem crtExpire_steady {k : Nat} (hs : Steady s₀ s) : Steady s₀ (crtExpire s k) := by
  unfold crtExpire
  split
  · exact hs
  · exact .ite hs (.upd hs)

theorem noteCrtFull_steady (hs : Steady s₀ s) : Steady s₀ (noteCrtFull s) := .ite (raise_steady (.upd hs)) hs

theorem completeCmd_steady {src : CmdSrc} {status result : Nat} (hs : Steady s₀ s) : Steady s₀ (completeCmd s src status result) := by
  unfold completeCmd
  split
  · exact .ite (.upd hs) (signalMsix_steady (.upd hs))
  · exact .upd hs

/-! ### Sys2Proof/Machine/Home.lean -/

theorem nearPut_steady {key label : Nat} {l : NcLine} (hs : Steady s₀ s) : Steady s₀ (nearPut s key label l) := .upd hs

theorem nearDrop_steady {key : Nat} (hs : Steady s₀ s) : Steady s₀ (nearDrop s key) := by
  unfold nearDrop
  split
  · exact hs
  · exact .upd hs

theorem pushDdr_steady {port : Port} {label qlabel : Nat} {write : Bool} {use : MemUse} {pa size : Nat} {data : Option Line}
    (hs : Steady s₀ s) : Steady s₀ (pushDdr s port label qlabel write use pa size data) :=
  memPush_steady hs

theorem setCopy_steady {k : Nat} {c : Copy} (hs : Steady s₀ s) : Steady s₀ (setCopy s k c) := .upd hs

theorem modCopy_steady {k : Nat} {f : Copy → Copy} (hs : Steady s₀ s) : Steady s₀ (modCopy s k f) := .upd hs

theorem copyRec_steady {k : Nat} {d : Desc} (hs : Steady s₀ s) : Steady s₀ (copyRec s k d) := jwrite_steady hs

theorem setCopyDesc_steady {k : Nat} {d : Desc} (hs : Steady s₀ s) : Steady s₀ (setCopyDesc s k d) :=
  .ite hs (primerMoved_steady (setCopy_steady (copyRec_steady hs)))

theorem freeCopyStore_steady {d : Desc} (hs : Steady s₀ s) : Steady s₀ (freeCopyStore s d) :=
  .ite (freeFrameOf_steady hs) (.ite (freePods_steady hs) hs)

theorem dropCopy_steady {k : Nat} (hs : Steady s₀ s) : Steady s₀ (dropCopy s k) := by
  unfold dropCopy
  split
  · exact hs
  · exact .when primerFreed_steady (freeCopyStore_steady (.otherwise copyRec_steady (.upd hs)))

theorem copyPacked_steady {k : Nat} (hs : Steady s₀ s) : Steady s₀ (copyPacked s k) := by
  unfold copyPacked
  dsimp only
  split
  · exact hs
  · split
    · exact setCopy_steady hs
    · next loc t heq =>
        have ht : Steady s₀ t := allocPodsFor_steady hs heq
        exact freeCopyStore_steady (setCopy_steady (encrypted_steady (podsWritten_steady (setCopyDesc_steady ht))))

theorem packCopy_steady {k : Nat} (hs : Steady s₀ s) : Steady s₀ (packCopy s k) :=
  .ite hs (.when copyPacked_steady (compressPage_steady (setCopy_steady hs)))

theorem copyResult_steady {k b : Nat} {j : Job} (hs : Steady s₀ s) : Steady s₀ (copyResult s k b j) := by
  unfold copyResult
  split
  · exact hs
  · split
    · exact hs
    · exact .when (fun h => packCopy_steady (copyPacked_steady h)) (setCopy_steady hs)

theorem rewrapCopy_steady {k : Nat} (hs : Steady s₀ s) : Steady s₀ (rewrapCopy s k) := by
  refine .ite hs (.ite ?_ ?_)
  · split
    · exact hs
    · next f t heq =>
        have ht : Steady s₀ t := allocFrameFor_steady hs heq
        exact .foldl pushDdr_steady (freeCopyStore_steady (setCopyDesc_steady ht))
  · split
    · exact hs
    · next a t heq =>
        have ht : Steady s₀ t := allocPodsFor_steady hs heq
        exact freeCopyStore_steady (setCopy_steady (setCopyDesc_steady ht))

/-- Asked whether `newCopy s k` is its body, the kernel would evaluate the search for a free frame; the equation of the function itself,
without its arguments, does not. -/
theorem newCopy_steady {k : Nat} (hs : Steady s₀ s) : Steady s₀ (newCopy s k) := by
  generalize hdef : newCopy = f
  delta newCopy at hdef
  subst hdef
  beta_reduce
  split
  · next f t heq => exact setCopyDesc_steady (allocFrameFor_steady (r := (f, t)) hs heq)
  · exact setCopyDesc_steady hs

theorem writeCopyLine_steady {k i : Nat} {v : Line × Bool} (hs : Steady s₀ s) : Steady s₀ (writeCopyLine s k i v) :=
  .fork pushDdr_steady packCopy_steady (setCopyDesc_steady (setCopy_steady (.ite hs (newCopy_steady hs))))

theorem pushNear_steady {port : Port} {label qlabel : Nat} {use : MemUse} {key : Nat} (hs : Steady s₀ s) :
    Steady s₀ (pushNear s port label qlabel use key) :=
  memPush_steady hs

theorem linesLost_steady {p first cnt : Nat} (hs : Steady s₀ s) : Steady s₀ (linesLost s p first cnt).1 :=
  .iteFst (mirrorRead_steady hs) (poisonMask_steady hs)

theorem insertBlock_steady {block label : Nat} {bs : List Byte} (hs : Steady s₀ s) : Steady s₀ (insertBlock s block label bs) :=
  .otherwise .upd (.upd hs)

theorem startFill_steady {block : Nat} {port : Port} {label qlabel : Nat} (hs : Steady s₀ s) :
    Steady s₀ (startFill s block port label qlabel) := by
  refine .ite hs ?_
  refine .ite (insertBlock_steady (countL_steady hs)) ?_
  refine .fork (fun h => .ite h (.upd (sendBlkRead_steady hs))) (fun h => .ite h (.upd (pushDdr_steady hs))) ?_
  exact .ite (.upd (linesLost_steady hs)) (insertBlock_steady (linesLost_steady hs))

theorem readHome_steady {key : Nat} {port : Port} {label qlabel : Nat} (hs : Steady s₀ s) :
    Steady s₀ (readHome s key port label qlabel).1 := by
  refine .iteFst hs ?_
  refine .iteFst (fetchDesc_steady hs) ?_
  refine .iteFst (fetchDesc_steady hs) ?_
  refine .iteFst ?_ ?_
  · exact .iteFst (fetchDesc_steady hs) (.iteFst (linesLost_steady (fetchDesc_steady hs)) (pushDdr_steady (fetchDesc_steady hs)))
  · dsimp only
    split
    · exact pushNear_steady (countL_steady (fetchDesc_steady hs))
    · exact .iteFst (fetchDesc_steady hs) (startFill_steady (countL_steady (fetchDesc_steady hs)))

theorem spaceWait_steady (hs : Steady s₀ s) : Steady s₀ (spaceWait s) := by
  unfold spaceWait
  split
  · exact hs
  · exact .upd hs

theorem populatedPage_steady {p : Nat} (hs : Steady s₀ s) : Steady s₀ (populatedPage s p) := .ite (.upd hs) hs

theorem populateFrame_steady {p : Nat} {t : State} (hs : Steady s₀ s) (ht : populateFrame s p = some t) : Steady s₀ t := by
  obtain ⟨r, hr, rfl⟩ := Option.map_eq_some_iff.mp ht
  exact populatedPage_steady (descSet_steady (modPage_steady (allocFrame_steady hs hr)))

theorem populateDone_steady {p b blen : Nat} {job : Job} (hs : Steady s₀ s) : Steady s₀ (populateDone s p b blen job).1 := by
  unfold populateDone
  dsimp only
  split
  · exact spaceWait_steady hs
  · next loc t heq =>
      have ht : Steady s₀ t := allocPods_steady hs heq
      refine encrypted_steady ?_
      refine podsWritten_steady ?_
      exact .when primerUsed_steady (modPage_steady (populatedPage_steady (descSet_steady (modPage_steady (writeBlock_steady ht)))))

theorem populatePack_steady {p key : Nat} {v : Line × Bool} {label : Nat} (hs : Steady s₀ s) : Steady s₀ (populatePack s p key v label).1 :=
  .iteFst (.iteFst (.when poisonOne_steady (populateDone_steady (countL_steady (noteTrial_steady hs)))) (populateDone_steady (countL_steady
    (noteTrial_steady hs)))) (pushJob_steady (noteTrial_steady hs))

theorem placeLine_steady {line : Nat} {v : Line × Bool} (hs : Steady s₀ s) : Steady s₀ (placeLine s line v) :=
  markBlock_steady (.ite (poisonOne_steady (writeLine_steady hs)) (.when cleanOne_steady (writeLine_steady hs)))

theorem placeNear_steady {key label : Nat} {v : Line × Bool} (hs : Steady s₀ s) : Steady s₀ (placeNear s key label v) :=
  .ite (poisonOne_steady (nearPut_steady hs)) (.when cleanOne_steady (nearPut_steady hs))

theorem exposePage_steady {p : Nat} (hs : Steady s₀ s) : Steady s₀ (exposePage s p) := .ite (.when .upd (.ite (descSet_steady hs) hs)) hs

theorem relocateFrame_steady {p : Nat} {t : State} (hs : Steady s₀ s) (ht : relocateFrame s p = some t) : Steady s₀ t := by
  obtain ⟨r, hr, rfl⟩ := Option.map_eq_some_iff.mp ht
  exact descSet_steady (freeFrame_steady (allocFrame_steady hs hr))

theorem commitHome_steady {key : Nat} {v : Line × Bool} {port : Port} {label qlabel : Nat} (hs : Steady s₀ s) :
    Steady s₀ (commitHome s key v port label qlabel).1 := by
  refine .iteFst ?_ ?_
  · split
    · exact writeCopyLine_steady hs
    · exact hs
  · refine .iteFst (fetchDesc_steady hs) ?_
    refine .iteFst (fetchDesc_steady hs) ?_
    refine .iteFst ?_ ?_
    · refine .iteFst ?_ ?_
      · split
        · next t heq =>
            have ht : Steady s₀ t := populateFrame_steady (exposePage_steady (fetchDesc_steady hs)) heq
            exact pushDdr_steady (encrypted_steady ht)
        · exact spaceWait_steady (exposePage_steady (fetchDesc_steady hs))
      · exact .iteFst (exposePage_steady (fetchDesc_steady hs)) (populatePack_steady (exposePage_steady (fetchDesc_steady hs)))
    · refine .iteFst ?_ ?_
      · refine .iteFst (exposePage_steady (fetchDesc_steady hs)) ?_
        refine .iteFst ?_ ?_
        · refine .iteFst (exposePage_steady (fetchDesc_steady hs)) ?_
          split
          · next t heq =>
              have ht : Steady s₀ t := relocateFrame_steady (exposePage_steady (fetchDesc_steady hs)) heq
              exact pushDdr_steady (encrypted_steady ht)
          · exact spaceWait_steady (exposePage_steady (fetchDesc_steady hs))
        · exact pushDdr_steady (encrypted_steady (exposePage_steady (fetchDesc_steady hs)))
      · refine .iteFst ?_ ?_
        · exact placeNear_steady (exposePage_steady (fetchDesc_steady hs))
        · refine .iteFst ?_ ?_
          · exact placeNear_steady (startFill_steady (exposePage_steady (fetchDesc_steady hs)))
          · exact startFill_steady (exposePage_steady (fetchDesc_steady hs))

theorem mirrorCopies_steady {n key : Nat} {links nodes : List Nat} (hs : Steady s₀ s) :
    Steady s₀ (mirrorCopies n key links nodes s) := by
  induction n generalizing s links nodes with
  | zero => exact hs
  | succ n ih =>
    unfold mirrorCopies
    split
    · exact hs
    · dsimp only
      split
      · exact hs
      · exact ih (enqueue_steady hs)

theorem copyAgain_steady {key : Nat} (hs : Steady s₀ s) : Steady s₀ (copyAgain s key) := by
  refine .ite (.ite (.upd hs) hs) ?_
  split
  · exact .ite hs (.upd hs)
  · exact hs

theorem sendMirror_steady {key : Nat} {v : Line × Bool} {label : Nat} {origin : Option Origin} (hs : Steady s₀ s) :
    Steady s₀ (sendMirror s key v label origin) := by
  unfold sendMirror
  dsimp only
  split
  · exact hs
  · split
    · refine openTx_steady (.upd ?_)
      split
      · exact .upd (copyAgain_steady hs)
      · exact copyAgain_steady hs
    · refine mirrorCopies_steady (openTx_steady (.upd ?_))
      split
      · exact .upd (copyAgain_steady hs)
      · exact copyAgain_steady hs

/-! ### Sys2Proof/Machine/Owner.lean -/

theorem modTx_steady {key : Nat} {f : OwnTx → OwnTx} (hs : Steady s₀ s) : Steady s₀ (modTx s key f) := .upd hs

theorem sendSnoop_steady {key node op grant : Nat} (hs : Steady s₀ s) : Steady s₀ (sendSnoop s key node op grant) :=
  count_steady (openTx_steady hs)

theorem sendBi_steady {line : Nat} {op : BiOp} (hs : Steady s₀ s) : Steady s₀ (sendBi s line op) := count_steady (emit_steady hs)

theorem openOwn_steady {key : Nat} {kind : OwnKind} {who : Asker} {waited dup : Bool} (hs : Steady s₀ s) :
    Steady s₀ (openOwn s key kind who waited dup) := by
  unfold openOwn
  dsimp only
  split
  · refine sendBi_steady (.foldl sendSnoop_steady (.upd ?_))
    split
    · exact raiseP_steady (.when setEnt_steady (dirTouch_steady hs))
    · exact .when setEnt_steady (dirTouch_steady hs)
  · refine .foldl sendSnoop_steady (.upd ?_)
    split
    · exact raiseP_steady (.when setEnt_steady (dirTouch_steady hs))
    · exact .when setEnt_steady (dirTouch_steady hs)

theorem haveValue_steady {key : Nat} {tx : OwnTx} {v : Line × Bool} (hs : Steady s₀ s) : Steady s₀ (haveValue s key tx v) := by
  unfold haveValue
  split
  · exact modTx_steady hs
  · exact .ite (modTx_steady hs) (modTx_steady hs)
  · exact modTx_steady hs

theorem startRead_steady {key : Nat} {tx : OwnTx} (hs : Steady s₀ s) : Steady s₀ (startRead s key tx) := by
  unfold startRead
  dsimp only
  split
  · exact haveValue_steady (readHome_steady (modTx_steady hs))
  · exact readHome_steady (modTx_steady hs)

theorem collected_steady {key : Nat} {tx : OwnTx} (hs : Steady s₀ s) : Steady s₀ (collected s key tx) := by
  unfold collected
  split
  · exact haveValue_steady hs
  · exact modTx_steady hs
  · split
    · exact .ite (modTx_steady hs) (startRead_steady hs)
    · split
      · exact modTx_steady hs
      · exact startRead_steady hs

theorem recordTx_steady {key : Nat} {tx : OwnTx} (hs : Steady s₀ s) : Steady s₀ (recordTx s key tx) := by
  unfold recordTx
  split
  · exact crtRecordFor_steady hs
  · exact hs

theorem committed_steady {key : Nat} {tx : OwnTx} (hs : Steady s₀ s) : Steady s₀ (committed s key tx) :=
  modTx_steady (.foldl (fun h => respondLine_steady (crtWriteback_steady h)) (.foldl respondCmp_steady hs))

theorem afterCommit_steady {key : Nat} {tx : OwnTx} (hs : Steady s₀ s) : Steady s₀ (afterCommit s key tx) := by
  unfold afterCommit
  dsimp only
  split
  · exact committed_steady (.when recordTx_steady (.ite (.foldl crtWriteback_steady hs) hs))
  · refine .fork (fun h => .otherwise committed_steady (sendMirror_steady (modTx_steady h))) committed_steady ?_
    exact .when recordTx_steady (.ite (.foldl crtWriteback_steady hs) hs)

theorem tryCommit_steady {key : Nat} {tx : OwnTx} (hs : Steady s₀ s) : Steady s₀ (tryCommit s key tx) := by
  unfold tryCommit
  split
  · exact committed_steady hs
  · split
    · next t heq =>
        have ht : Steady s₀ t := (commitHome_steady hs).fst heq
        exact afterCommit_steady ht
    · next t heq =>
        have ht : Steady s₀ t := (commitHome_steady hs).fst heq
        exact modTx_steady ht
    · next t heq =>
        have ht : Steady s₀ t := (commitHome_steady hs).fst heq
        exact ht

theorem hostEnds_steady {label : Nat} (hs : Steady s₀ s) : Steady s₀ (hostEnds s label) := .upd hs

theorem hostAnswer_steady {req : Option (BitVec 16)} {label : Nat} {v : Line × Bool} (hs : Steady s₀ s) :
    Steady s₀ (hostAnswer s req label v) := by
  unfold hostAnswer
  split
  · exact hostEnds_steady hs
  · exact hostEnds_steady (emit_steady (countN_steady (.upd hs)))

theorem countTier_steady {key label : Nat} (hs : Steady s₀ s) : Steady s₀ (countTier s key label) := .ite (countL_steady hs) hs

theorem hostWritten_steady {req : Option (BitVec 16)} {label : Nat} (hs : Steady s₀ s) : Steady s₀ (hostWritten s req label) := by
  unfold hostWritten
  split
  · exact hostEnds_steady hs
  · exact hostEnds_steady (emit_steady hs)

theorem atomicEnds_steady {src : CmdSrc} {size : BitVec 3} {raddr : BitVec 64} {r : BitVec 128 × Bool} (hs : Steady s₀ s) :
    Steady s₀ (atomicEnds s src size raddr r) :=
  .ite (completeCmd_steady hs) (.ite (completeCmd_steady (emit_steady hs)) (completeCmd_steady hs))

theorem endTxAt_steady {key : Nat} (hs : Steady s₀ s) : Steady s₀ (endTxAt s key) := .upd hs

theorem awaitAck_steady {key : Nat} (hs : Steady s₀ s) : Steady s₀ (awaitAck s key) := modTx_steady hs

theorem reply_steady {key : Nat} {tx : OwnTx} (hs : Steady s₀ s) : Steady s₀ (reply s key tx) := by
  unfold reply
  dsimp only
  split
  · exact awaitAck_steady (respondData_steady (recordTx_steady (setEnt_steady hs)))
  · exact awaitAck_steady (respondData_steady (recordTx_steady (setEnt_steady hs)))
  · exact endTxAt_steady (respondData_steady (setEnt_steady hs))
  · exact .fork endTxAt_steady awaitAck_steady (respondCmp_steady (setEnt_steady hs))
  · exact endTxAt_steady (respondResult_steady (.when recordTx_steady (setEnt_steady hs)))
  · exact endTxAt_steady (hostAnswer_steady (.when countTier_steady (setEnt_steady hs)))
  · exact endTxAt_steady (hostWritten_steady (setEnt_steady hs))
  · exact endTxAt_steady (atomicEnds_steady (setEnt_steady hs))
  · exact endTxAt_steady (setEnt_steady hs)

theorem advance_steady {fuel key : Nat} (hs : Steady s₀ s) : Steady s₀ (advance fuel s key) := by
  induction fuel generalizing s with
  | zero => exact hs
  | succ fuel ih =>
    unfold advance
    split
    · exact hs
    · split
      · exact .ite (ih (collected_steady hs)) hs
      · dsimp only
        split
        · exact .ite (tryCommit_steady hs) (ih (tryCommit_steady hs))
        · exact tryCommit_steady hs
      · exact reply_steady hs
      · exact hs

theorem goOn_steady {key : Nat} (hs : Steady s₀ s) : Steady s₀ (goOn s key) := advance_steady hs

theorem homeArrived_steady {key : Nat} {v : Line × Bool} (hs : Steady s₀ s) : Steady s₀ (homeArrived s key v) := by
  unfold homeArrived
  split
  · exact hs
  · exact .ite (goOn_steady (haveValue_steady hs)) hs

theorem blockThere_steady {block : Nat} (hs : Steady s₀ s) : Steady s₀ (blockThere s block) := by
  refine .foldl (fun h => ?_) hs
  split
  · exact goOn_steady (haveValue_steady h)
  · exact goOn_steady (startRead_steady h)
  · exact h

theorem modSink_steady {key : Nat} {st : SinkStage} {f : SinkEnt → SinkEnt} (hs : Steady s₀ s) : Steady s₀ (modSink s key st f) := .upd hs

theorem sinkDone_steady {x : SinkEnt} (hs : Steady s₀ s) : Steady s₀ (sinkDone s x) :=
  .ite (respondCmp_steady (.upd hs)) (respondLine_steady (crtWriteback_steady (.upd hs)))

theorem sinkWritten_steady {x : SinkEnt} (hs : Steady s₀ s) : Steady s₀ (sinkWritten s x) :=
  .ite (.fork modSink_steady sinkDone_steady (sendMirror_steady (.ite hs (crtWriteback_steady hs)))) (sinkDone_steady hs)

theorem sinkStep_steady {x : SinkEnt} (hs : Steady s₀ s) : Steady s₀ (sinkStep s x) := by
  refine .ite hs ?_
  split
  · next t heq =>
      have ht : Steady s₀ t := (commitHome_steady hs).fst heq
      exact sinkWritten_steady ht
  · next t heq =>
      have ht : Steady s₀ t := (commitHome_steady hs).fst heq
      exact modSink_steady ht
  · next t heq =>
      have ht : Steady s₀ t := (commitHome_steady hs).fst heq
      exact ht

theorem sinkPut_steady {x : SinkEnt} (hs : Steady s₀ s) : Steady s₀ (sinkPut s x) := sinkStep_steady (.upd hs)

theorem homeWritten_steady {key : Nat} (hs : Steady s₀ s) : Steady s₀ (homeWritten s key) := by
  unfold homeWritten
  split
  · split
    · exact goOn_steady (afterCommit_steady (placeLine_steady hs))
    · split
      · exact sinkWritten_steady (placeLine_steady hs)
      · exact hs
  · split
    · exact sinkWritten_steady (placeLine_steady hs)
    · exact hs

theorem populated'_steady {p b blen : Nat} {job : Job} (hs : Steady s₀ s) : Steady s₀ (populated' s p b blen job) := by
  unfold populated'
  dsimp only
  split
  · refine .ite (goOn_steady (afterCommit_steady ?_)) (modTx_steady (populateDone_steady hs))
    split
    · exact .ite (poisonOne_steady (populateDone_steady hs)) (.when cleanOne_steady (populateDone_steady hs))
    · exact populateDone_steady hs
  · split
    · exact .ite (sinkWritten_steady (.when poisonOne_steady (populateDone_steady hs))) (modSink_steady (populateDone_steady hs))
    · exact populateDone_steady hs

theorem mirrorAcked_steady {seq key : Nat} (hs : Steady s₀ s) : Steady s₀ (mirrorAcked s seq key) := by
  unfold mirrorAcked
  dsimp only
  split
  · refine .ite (goOn_steady (committed_steady (.upd hs))) ?_
    split
    · exact sinkDone_steady (.upd hs)
    · exact .upd hs
  · split
    · exact sinkDone_steady (.upd hs)
    · exact .upd hs

theorem snoopAnswered_steady {key : Nat} {n : Node} {tag : Tag} {a : SnoopAnswer} (hs : Steady s₀ s) :
    Steady s₀ (snoopAnswered s key n tag a) := by
  unfold snoopAnswered
  dsimp only
  split
  · exact hs
  · refine .ite (.ite hs ?_) (.ite hs ?_)
    · split
      · exact sinkPut_steady (endTxAt_steady (setEnt_steady hs))
      · exact endTxAt_steady (setEnt_steady hs)
    · split
      · exact modTx_steady (.ite (setEnt_steady hs) hs)
      · exact goOn_steady (modTx_steady (.ite (setEnt_steady hs) hs))
      · exact .fork (fun h => goOn_steady (modTx_steady h)) (fun h => goOn_steady (modTx_steady h)) (.ite (setEnt_steady hs) hs)

theorem writeback_steady {key : Nat} {h : ReqHdr} {v : Option (Line × Bool)} (hs : Steady s₀ s) : Steady s₀ (writeback s key h v) := by
  unfold writeback
  dsimp only
  split
  · exact respondLine_steady (countDuplicate_steady hs)
  · refine .ite (respondNack_steady (noteCrtFull_steady hs)) ?_
    refine .ite hs (.ite (respondNack_steady (.ite (endTxAt_steady hs) hs)) (.ite ?_ ?_))
    · split
      · exact goOn_steady (modTx_steady (respondLine_steady (crtRecordFor_steady (setEnt_steady (.ite (endTxAt_steady hs) hs)))))
      · exact goOn_steady (modTx_steady (setEnt_steady (.ite (endTxAt_steady hs) hs)))
    · split
      · exact .fork (fun h => respondLine_steady (crtRecordFor_steady (setEnt_steady h)))
            (fun h => respondLine_steady (crtRecordFor_steady h)) (.ite (endTxAt_steady hs) hs)
      · exact .fork (fun h => sinkPut_steady (setEnt_steady h)) (fun h => respondLine_steady (crtRecordFor_steady h))
            (.ite (endTxAt_steady hs) hs)

theorem biAnswered_steady {key : Nat} {wb : Option (Line × Bool)} (hs : Steady s₀ s) : Steady s₀ (biAnswered s key wb) := by
  unfold biAnswered
  split
  · exact hs
  · exact .ite hs (goOn_steady (modTx_steady (setEnt_steady hs)))

theorem grantAcked_steady {tag : Tag} (hs : Steady s₀ s) : Steady s₀ (grantAcked s tag) := by
  unfold grantAcked
  split
  · exact endTxAt_steady hs
  · exact hs

theorem ackTimeout_steady {line : Nat} (hs : Steady s₀ s) : Steady s₀ (ackTimeout s line) := by
  unfold ackTimeout
  split
  · split
    · exact sendSnoop_steady (modTx_steady hs)
    · exact hs
  · exact hs

theorem makeWay_steady {key : Nat} {kind : OwnKind} (hs : Steady s₀ s) : Steady s₀ (makeWay s key kind) := by
  refine .ite hs ?_
  split
  · exact hs
  · exact goOn_steady (openOwn_steady (.upd hs))

theorem putPend_steady {key : Nat} {kind : OwnKind} {who : Asker} {area : Area} (hs : Steady s₀ s) :
    Steady s₀ (putPend s key kind who area) :=
  count_steady (.upd hs)

theorem reservedFrees_steady (hs : Steady s₀ s) : Steady s₀ (reservedFrees s) := by
  unfold reservedFrees
  split
  · exact hs
  · exact .upd hs

theorem reservedHoldTimeout_steady {n : Node} (hs : Steady s₀ s) : Steady s₀ (reservedHoldTimeout s n) :=
  .ite (reservedFrees_steady (.upd hs)) hs

theorem pendStep_steady {x : Pend} (hs : Steady s₀ s) : Steady s₀ (pendStep s x) := by
  unfold pendStep
  split
  · exact hs
  · exact .ite hs (.otherwise (fun h => .when reservedFrees_steady (goOn_steady (openOwn_steady (.upd h)))) (makeWay_steady hs))

theorem readAgain_steady {key : Nat} (hs : Steady s₀ s) : Steady s₀ (readAgain s key) := by
  unfold readAgain
  split
  · exact hs
  · exact .ite (goOn_steady (startRead_steady hs)) hs

theorem ownPass_steady (hs : Steady s₀ s) : Steady s₀ (ownPass s) :=
  .foldl pendStep_steady (.foldl sinkStep_steady (.foldl readAgain_steady (.foldl goOn_steady hs)))

/-! ### Sys2Proof/Machine/Evict.lean -/

theorem setEvicting_steady {k : Nat} {v : Bool} (hs : Steady s₀ s) : Steady s₀ (setEvicting s k v) := .upd hs

theorem dropEvicted_steady {k : Nat} (hs : Steady s₀ s) : Steady s₀ (dropEvicted s k) := by
  unfold dropEvicted
  split
  · exact .ite (.upd hs) hs
  · exact hs

theorem thawPage_steady {p frame : Nat} (hs : Steady s₀ s) : Steady s₀ (thawPage s p frame) := by
  refine count_steady ?_
  refine countCommitted_steady ?_
  refine encrypted_steady ?_
  exact retireKey_steady (primerMoved_steady (freePods_steady (modPage_steady (putDesc_steady (jpage_steady (mergeNear_steady hs))))))

theorem storeBlock_steady {block : Nat} {bs : List Byte} (hs : Steady s₀ s) : Steady s₀ (storeBlock s block bs) :=
  markBlock_steady (writeBlock_steady hs)

theorem movedUnits_steady {d : Desc} {b : Nat} {kgen : Bool} (hs : Steady s₀ s) : Steady s₀ (movedUnits s d b kgen) :=
  .ite hs (encrypted_steady (decrypted_steady hs))

theorem evictResult_steady {k : Nat} {job : Job} {n : Nat} (hs : Steady s₀ s) : Steady s₀ (evictResult s k job n) := by
  unfold evictResult
  split
  · exact hs
  · refine .ite hs ?_
    refine .otherwise (fun h => ?_) (setEvicting_steady hs)
    refine .ite ?_ (.ite h (.ite ?_ ?_))
    · refine .ite ?_ ?_
      · exact dropEvicted_steady (encrypted_steady (podsWritten_steady (.when modPage_steady (storeBlock_steady hs))))
      · exact .ite (dropEvicted_steady hs) (sendImage_steady (encrypted_steady (.upd hs)))
    · split
      · exact spaceWait_steady h
      · next loc t heq =>
          have ht : Steady s₀ t := allocPodsNear_steady hs heq
          refine dropEvicted_steady ?_
          refine movedUnits_steady ?_
          refine encrypted_steady ?_
          refine podsWritten_steady ?_
          exact retireKey_steady (primerMoved_steady (freePods_steady (modPage_steady (descSet_steady (storeBlock_steady ht)))))
    · split
      · exact postCand_steady (requestLease_steady h)
      · refine .foldl sendBlkRead_steady ?_
        exact movedUnits_steady (encrypted_steady (.upd (leaseHeadroom_steady (leaseTake_steady (chosen_steady hs)))))

theorem evictSend_steady {p : Nat} (hs : Steady s₀ s) : Steady s₀ (evictSend s p) := by
  unfold evictSend
  split
  · exact hs
  · split
    · exact hs
    · exact .ite hs (.foldl sendImage_steady (.upd hs))

theorem evictEnd_steady {p : Nat} {r : EvictRun} (hs : Steady s₀ s) : Steady s₀ (evictEnd s p r) := by
  refine dropEvicted_steady ?_
  split
  · exact .when modPage_steady (markBlock_steady (.upd hs))
  · exact retireKey_steady (primerMoved_steady (freeHolder_steady (modPage_steady (descSet_steady (.upd hs)))))

theorem evictCheck_steady {p : Nat} (hs : Steady s₀ s) : Steady s₀ (evictCheck s p) := by
  unfold evictCheck
  split
  · exact .ite (evictEnd_steady hs) hs
  · exact hs

theorem evictDone_steady {k : Nat} {job : Job} {n : Nat} (hs : Steady s₀ s) : Steady s₀ (evictDone s k job n) := by
  unfold evictDone
  dsimp only
  split
  · exact .when (fun h => evictCheck_steady (evictSend_steady h)) (evictResult_steady hs)
  · exact evictResult_steady hs

theorem evictOwn_steady {block : Nat} (hs : Steady s₀ s) : Steady s₀ (evictOwn s block) := by
  unfold evictOwn
  dsimp only
  split
  · exact hs
  · refine .ite (.upd hs) ?_
    refine .ite hs (.ite ?_ (.ite (evictDone_steady (countL_steady (setEvicting_steady hs))) (pushJob_steady (setEvicting_steady hs))))
    split
    · next f t heq =>
        have ht : Steady s₀ t := allocFrame_steady hs heq
        exact thawPage_steady ht
    · exact .ite (evictDone_steady (countL_steady (setEvicting_steady hs))) (pushJob_steady (setEvicting_steady hs))

theorem evictAcked_steady {block : Nat} (hs : Steady s₀ s) : Steady s₀ (evictAcked s block) := evictCheck_steady (.upd hs)

theorem evictFetched_steady {p b : Nat} {img : List Byte} (hs : Steady s₀ s) : Steady s₀ (evictFetched s p b img) :=
  evictCheck_steady (evictSend_steady (.upd hs))

theorem tagMissed_steady (hs : Steady s₀ s) : Steady s₀ (tagMissed s) := count_steady (.upd hs)

theorem tagFailed_steady {p b : Nat} {ok : Bool} (hs : Steady s₀ s) : Steady s₀ (tagFailed s p b ok) :=
  .ite (blockEvent_steady (.upd hs)) (blockFailed_steady (.upd hs))

theorem fillDecode_steady {p b : Nat} {dec : DecOutcome} {j : DJob} (hs : Steady s₀ s) : Steady s₀ (fillDecode s p b dec j).1 := by
  unfold fillDecode
  split
  · exact hs
  · exact decodeCleared_steady hs
  · exact decodeLost_steady hs
  · exact dLaneTakes_steady hs

theorem localBlock_steady {p b label : Nat} {res : ReturnResult} {img : Option (List Byte)} (hs : Steady s₀ s) :
    Steady s₀ (localBlock s p b label res img).1 := by
  refine .iteFst ?_ ?_
  · exact .when (fun h => tagFailed_steady (tagMissed_steady h)) (.when count_steady (decrypted_steady hs))
  · refine .iteFst ?_ ?_
    · exact .when (fun h => tagFailed_steady (tagMissed_steady h)) (.when count_steady (decrypted_steady hs))
    · refine fillDecode_steady ?_
      exact countL_steady (.when (fun h => tagFailed_steady (tagMissed_steady h)) (.when count_steady (decrypted_steady hs)))

theorem holderFailed_steady {n : Nat} (hs : Steady s₀ s) : Steady s₀ (holderFailed s n) := .when (fun h => raiseP_steady (.upd h)) (.upd hs)

theorem remoteTag_steady {block : Nat} {img : List Byte} (hs : Steady s₀ s) : Steady s₀ (remoteTag s block img).1 := by
  unfold remoteTag
  extract_lets p b second clear t u
  have ht : Steady s₀ t := .ite (count_steady hs) hs
  have hu : Steady s₀ u := holderFailed_steady ht
  refine .iteFst ?_ ?_
  · show Steady s₀ (if second then tagFailed (clear t) p b true else t)
    exact .when (fun h => tagFailed_steady (.upd h)) ht
  · refine .iteFst ?_ ?_
    · show Steady s₀ (tagFailed (clear u) p b false)
      exact tagFailed_steady (.upd hu)
    · exact tagMissed_steady (.upd hu)

theorem remoteBytes_steady {p b label : Nat} {img : List Byte} {dec : DecOutcome} (hs : Steady s₀ s) :
    Steady s₀ (remoteBytes s p b label img dec).1 :=
  .iteFst (decrypted_steady hs) (fillDecode_steady (countL_steady (decrypted_steady hs)))

theorem fillDone_steady {block label : Nat} {bs : Option (List Byte)} (hs : Steady s₀ s) : Steady s₀ (fillDone s block label bs) := by
  unfold fillDone
  split
  · exact blockThere_steady (insertBlock_steady hs)
  · exact .otherwise (fun h => blockThere_steady (insertBlock_steady h)) (linesLost_steady hs)

theorem fillRead_steady {block label : Nat} {o : BlockRead} {bs : List Byte} (hs : Steady s₀ s) :
    Steady s₀ (fillRead s block label o bs) := by
  unfold fillRead
  split
  · exact fillDone_steady hs
  · exact fillDone_steady hs
  · exact hs

theorem laneDecoded_steady {j : DJob} (hs : Steady s₀ s) : Steady s₀ (laneDecoded s j) := by
  unfold laneDecoded
  split
  · exact .ite (blockThere_steady (.upd hs)) (fillDone_steady hs)
  · exact migDecoded_steady hs

theorem dLanesGo_steady (hs : Steady s₀ s) : Steady s₀ (dLanesGo s) := .ite hs (.foldl laneDecoded_steady (.upd hs))

/-! ### Sys2Proof/Machine/Requester.lean -/

theorem setReq_steady {key : Nat} {stage : ReqStage} {work : List ReqWork} {kept : Option (Line × Bool × Bool)} (hs : Steady s₀ s) :
    Steady s₀ (setReq s key stage work kept) :=
  .upd hs

theorem sendReq_steady {key op label : Nat} {rest : List (Nat × Nat)} {slots : List (BitVec 128)} {mask : Option (BitVec 64)}
    (hs : Steady s₀ s) : Steady s₀ (sendReq s key op label rest slots mask) :=
  openTx_steady hs

theorem sendEvict_steady {key : Nat} {v : Option (Line × Bool × Bool)} (hs : Steady s₀ s) : Steady s₀ (sendEvict s key v) :=
  openTx_steady hs

theorem evictLine_steady {key : Nat} {work : List ReqWork} {wb : Option (Line × Bool)} (hs : Steady s₀ s) :
    Steady s₀ (evictLine s key work wb) := by
  refine .ite (setReq_steady ?_) (sendEvict_steady (nearDrop_steady (setReq_steady hs)))
  split
  · exact nearPut_steady hs
  · exact hs

theorem hostInvFor_steady {key : Nat} {why : HostWhy} (hs : Steady s₀ s) : Steady s₀ (hostInvFor s key why) := by
  unfold hostInvFor
  split
  · exact .upd hs
  · exact sendBi_steady (.upd hs)

theorem evictFirst_steady {key : Nat} {work : List ReqWork} (hs : Steady s₀ s) : Steady s₀ (evictFirst s key work) :=
  .ite (evictLine_steady hs) (hostInvFor_steady (setReq_steady hs))

theorem predMove_steady {key : Nat} {up : Bool} (hs : Steady s₀ s) : Steady s₀ (predMove s key up) := .upd hs

theorem nearAtomic_steady {key : Nat} {src : CmdSrc} {label : Nat} {op : BitVec 8} {size : BitVec 3} {offset : BitVec 6} {operands : BitVec
    256} {raddr : BitVec 64}
    (hs : Steady s₀ s) :
    Steady s₀ (nearAtomic s key src label op size offset operands raddr) := by
  unfold nearAtomic
  split
  · exact hs
  · exact .fork atomicEnds_steady (fun h => atomicEnds_steady (nearPut_steady h)) (countL_steady (.upd hs))

theorem farAtomic_steady {key : Nat} {work : List ReqWork} {label : Nat} {op : BitVec 8} {size : BitVec 3} {offset : BitVec 6} {operands :
    BitVec 256}
    (hs : Steady s₀ s) :
    Steady s₀ (farAtomic s key work label op size offset operands) := by
  unfold farAtomic
  exact sendReq_steady (setReq_steady (nearDrop_steady (countL_steady (.upd (.upd hs)))))

theorem reqServe_steady {key : Nat} {work : List ReqWork} (hs : Steady s₀ s) : Steady s₀ (reqServe s key work) := by
  unfold reqServe
  split
  · exact .upd hs
  · refine .ite ?_ ?_
    · exact pushNear_steady (countL_steady (setReq_steady hs))
    · refine .ite (evictFirst_steady hs) ?_
      refine .ite ?_ ?_
      · exact .ite (sendReq_steady (setReq_steady hs)) (setReq_steady hs)
      · exact .ite (sendReq_steady (setReq_steady hs)) (sendReq_steady (countL_steady (setReq_steady hs)))
  · exact .ite (evictFirst_steady hs) (.ite (setReq_steady hs) (sendReq_steady (nearDrop_steady (setReq_steady hs))))
  · exact .fork
        (fun h => .ite (.ite (setReq_steady (nearAtomic_steady (predMove_steady hs))) h) (.ite (evictFirst_steady hs) (.ite
          (setReq_steady hs) (sendReq_steady (setReq_steady hs)))))
        (fun h => .ite (evictFirst_steady hs) (.ite (farAtomic_steady hs) h)) (hostInvFor_steady (setReq_steady hs))

theorem reqRun_steady {fuel key : Nat} {work : List ReqWork} (hs : Steady s₀ s) : Steady s₀ (reqRun fuel s key work) := by
  induction fuel generalizing s work with
  | zero => exact hs
  | succ fuel ih =>
    unfold reqRun
    dsimp only
    split
    · exact .ite (ih (reqServe_steady hs)) (reqServe_steady hs)
    · exact reqServe_steady hs

theorem reqNext_steady {key : Nat} {work : List ReqWork} (hs : Steady s₀ s) : Steady s₀ (reqNext s key work) := reqRun_steady hs

theorem reqSubmit_steady {key : Nat} {w : ReqWork} (hs : Steady s₀ s) : Steady s₀ (reqSubmit s key w).1 := by
  unfold reqSubmit
  split
  · exact .upd hs
  · exact .iteFst hs (reqNext_steady hs)

theorem sendAck_steady {owner : Nat} {tag : Tag} {label : Nat} (hs : Steady s₀ s) : Steady s₀ (sendAck s owner tag label) :=
  sendMsg_steady hs

theorem reqValue_steady {key : Nat} {t : ReqTx} {v : Line × Bool} {contended : Bool} (hs : Steady s₀ s) :
    Steady s₀ (reqValue s key t v contended) := by
  unfold reqValue
  split
  · refine reqNext_steady (hostAnswer_steady ?_)
    split
    · exact .ite (nearPut_steady hs) hs
    · exact hs
  · exact .ite (reqNext_steady (nearAtomic_steady (predMove_steady hs))) (reqNext_steady hs)
  · exact reqNext_steady hs

theorem reqNearRead_steady {key : Nat} (hs : Steady s₀ s) : Steady s₀ (reqNearRead s key) := by
  unfold reqNearRead
  split
  · exact .ite (reqValue_steady hs) hs
  · exact .ite (reqNext_steady hs) hs
  · exact hs

theorem reqGranted_steady {key : Nat} {tag : Tag} {src : Nat} {owned : Bool} {v : Line × Bool} {contended : Bool} (hs : Steady s₀ s) :
    Steady s₀ (reqGranted s key tag src owned v contended) := by
  unfold reqGranted
  split
  · exact hs
  · exact .ite (reqValue_steady hs) (reqValue_steady (sendAck_steady (.ite hs (nearPut_steady hs))))

theorem reqWritten_steady {key : Nat} {tag : Tag} {src status : Nat} (hs : Steady s₀ s) : Steady s₀ (reqWritten s key tag src status) := by
  unfold reqWritten
  split
  · exact hs
  · split
    · exact reqNext_steady (hostWritten_steady (.otherwise sendAck_steady (.ite hs (nearPut_steady hs))))
    · exact reqNext_steady hs

theorem reqDenied_steady {key : Nat} (hs : Steady s₀ s) : Steady s₀ (reqDenied s key) := by
  unfold reqDenied
  split
  · exact hs
  · split
    · exact reqNext_steady (hostAnswer_steady hs)
    · exact reqNext_steady (hostWritten_steady hs)
    · exact reqNext_steady (completeCmd_steady hs)
    · exact reqNext_steady hs

theorem reqAtomic_steady {key : Nat} {r : BitVec 128 × Bool} {contended : Bool} (hs : Steady s₀ s) :
    Steady s₀ (reqAtomic s key r contended) := by
  unfold reqAtomic
  split
  · exact hs
  · split
    · exact reqNext_steady (atomicEnds_steady (predMove_steady hs))
    · exact reqNext_steady hs

theorem reqEvicted_steady {key : Nat} (hs : Steady s₀ s) : Steady s₀ (reqEvicted s key) := by
  unfold reqEvicted
  split
  · exact .ite (reqNext_steady hs) hs
  · exact hs

theorem snoopData_steady {tag : Tag} {key : Nat} {v : Line × Bool} {dirty hostDirty : Bool} (hs : Steady s₀ s) :
    Steady s₀ (snoopData s tag key v dirty hostDirty) :=
  respondData_steady (.upd hs)

theorem snoopAct_steady {key op : Nat} {tag : Tag} {wb : Option (Line × Bool)} (hs : Steady s₀ s) :
    Steady s₀ (snoopAct s key op tag wb) := by
  unfold snoopAct
  split
  · exact respondCmp_steady hs
  · exact .fork (fun h => .ite (snoopData_steady (nearDrop_steady h)) (respondCmp_steady (nearDrop_steady h)))
        (fun h => .ite (snoopData_steady (nearPut_steady h)) (.ite (respondData_steady (nearPut_steady h)) (respondCmp_steady
          (nearPut_steady h))))
        (.ite (predMove_steady hs) hs)

theorem snoopLine_steady {key op : Nat} {tag grant : Tag} (hs : Steady s₀ s) : Steady s₀ (snoopLine s key op tag grant) := by
  unfold snoopLine
  split
  · exact respondData_steady hs
  · refine .ite ?_ ?_
    · exact .ite (respondCmp_steady (nearDrop_steady (.upd hs))) (hostInvFor_steady (.upd hs))
    · exact .ite (respondLine_steady hs) (.ite (hostInvFor_steady hs) (snoopAct_steady hs))

theorem giveUp'_steady {key : Nat} {wb : Option (Line × Bool)} (hs : Steady s₀ s) : Steady s₀ (giveUp' s key wb) :=
  .ite (evictLine_steady hs) (nearDrop_steady hs)

theorem scopeCheck_steady (hs : Steady s₀ s) : Steady s₀ (scopeCheck s) := .foldl respondCmp_steady (.upd (.upd hs))

theorem snoopScope_steady {src line : Nat} {scope : Scope} {tag : Tag} (hs : Steady s₀ s) : Steady s₀ (snoopScope s src line scope tag) :=
  scopeCheck_steady (.foldl hostInvFor_steady (.foldl giveUp'_steady (.upd hs)))

theorem hostWhyDone_steady {key : Nat} {why : HostWhy} {wb : Option (Line × Bool)} (hs : Steady s₀ s) :
    Steady s₀ (hostWhyDone s key why wb) := by
  unfold hostWhyDone
  split
  · exact .ite (respondLine_steady hs) (snoopAct_steady hs)
  · exact scopeCheck_steady (.ite (giveUp'_steady hs) hs)
  · exact .ite (evictLine_steady hs) (reqNext_steady hs)
  · exact .ite (evictLine_steady hs) (reqNext_steady hs)

theorem hostInvDone_steady {key : Nat} {wb : Option (Line × Bool)} (hs : Steady s₀ s) : Steady s₀ (hostInvDone s key wb) := by
  unfold hostInvDone
  split
  · exact hs
  · refine .foldl hostWhyDone_steady (.foldl hostWhyDone_steady ?_)
    split
    · exact nearPut_steady (.upd hs)
    · exact .upd hs

theorem evictOther_steady {owner block : Nat} (hs : Steady s₀ s) : Steady s₀ (evictOther s owner block) := by
  unfold evictOther
  split
  · exact hs
  · exact .foldl (fun h => .ite h (evictFirst_steady h)) hs

theorem nearEviction_steady {owner block : Nat} (hs : Steady s₀ s) : Steady s₀ (nearEviction s owner block) :=
  .ite (evictOwn_steady hs) (evictOther_steady hs)

theorem reqRetry_steady {key : Nat} (hs : Steady s₀ s) : Steady s₀ (reqRetry s key) := by
  unfold reqRetry
  split
  · exact hs
  · exact .ite hs (.when (fun h => .ite (evictFirst_steady hs) h) (reqNext_steady hs))

theorem reqPass_steady (hs : Steady s₀ s) : Steady s₀ (reqPass s) := scopeCheck_steady (.foldl reqRetry_steady hs)

theorem resendDirty_steady {owner : Nat} (hs : Steady s₀ s) : Steady s₀ (resendDirty s owner) :=
  .foldl (fun h => sendEvict_steady (.ite h (setReq_steady h))) (.upd hs)

theorem snoopDataAcked_steady {tag : Tag} (hs : Steady s₀ s) : Steady s₀ (snoopDataAcked s tag) := .upd hs

/-! ### Sys2Proof/Machine/Mirror.lean -/

theorem setBuddyOf_steady {o : Nat} {b : BuddyOf} (hs : Steady s₀ s) : Steady s₀ (setBuddyOf s o b) := .upd hs

theorem mirrorApply_steady {owner : Nat} {b : MirrorBody} (hs : Steady s₀ s) : Steady s₀ (mirrorApply s owner b) :=
  setBuddyOf_steady (writeCopyLine_steady hs)

theorem mirrorEntry_steady {owner : Nat} {t : Tag} {b : MirrorBody} (hs : Steady s₀ s) : Steady s₀ (mirrorEntry s owner t b) :=
  crtPut_steady hs

theorem retireEntries_steady {owner : Nat} {floor : BitVec 32} (hs : Steady s₀ s) : Steady s₀ (retireEntries s owner floor) :=
  .upd (setBuddyOf_steady hs)

theorem buddyCmp_steady {h : ReqHdr} {status : Nat} (hs : Steady s₀ s) : Steady s₀ (buddyCmp s h status) := respondCmp_steady hs

theorem keysStored_steady {o : Nat} (hs : Steady s₀ s) : Steady s₀ (keysStored s o) := .foldl rewrapCopy_steady (setBuddyOf_steady hs)

theorem envelopeAt_steady {h : ReqHdr} {b : MirrorBody} (hs : Steady s₀ s) : Steady s₀ (envelopeAt s h b) := by
  refine .ite (buddyCmp_steady hs) ?_
  refine .ite (buddyCmp_steady (.updSec hs rfl)) ?_
  exact .ite (keysStored_steady (buddyCmp_steady (.updSec hs rfl))) (buddyCmp_steady (raise_steady (.updSec hs rfl)))

theorem mirrorWriteAt_steady {h : ReqHdr} {b : MirrorBody} (hs : Steady s₀ s) : Steady s₀ (mirrorWriteAt s h b) := by
  refine .ite (envelopeAt_steady hs) (.ite hs (.ite (buddyCmp_steady hs) ?_))
  split
  · refine .ite (respondNack_steady (noteCrtFull_steady hs)) ?_
    exact buddyCmp_steady (retireEntries_steady (mirrorEntry_steady (mirrorApply_steady hs)))
  · exact buddyCmp_steady (retireEntries_steady (mirrorApply_steady hs))

theorem mirrorReserve_steady {h : ReqHdr} {ext len : Nat} (hs : Steady s₀ s) : Steady s₀ (mirrorReserve s h ext len) := by
  refine .ite (buddyCmp_steady hs) ?_
  exact .ite (buddyCmp_steady hs) (.ite (buddyCmp_steady (reserveChanged_steady (setBuddyOf_steady hs))) (buddyCmp_steady hs))

theorem mirrorUnreserve_steady {h : ReqHdr} {ext : Nat} (hs : Steady s₀ s) : Steady s₀ (mirrorUnreserve s h ext) :=
  buddyCmp_steady (reserveChanged_steady (setBuddyOf_steady hs))

theorem mirrorFreeAt_steady {h : ReqHdr} {ext pg cnt : Nat} (hs : Steady s₀ s) : Steady s₀ (mirrorFreeAt s h ext pg cnt) :=
  .ite (buddyCmp_steady hs) (.ite (buddyCmp_steady hs) (buddyCmp_steady (reserveChanged_steady (.foldl dropCopy_steady hs))))

theorem mirrorReadAt_steady {h : ReqHdr} {ext pg first cnt : Nat} (hs : Steady s₀ s) : Steady s₀ (mirrorReadAt s h ext pg first cnt) :=
  .ite (buddyCmp_steady hs) (.ite (buddyCmp_steady hs) (.foldl respondData_steady hs))

theorem copyCommit_steady {k : Nat} {x : CopyIn} {t : State} (hs : Steady s₀ s) (ht : copyCommit s k x = some t) : Steady s₀ t := by
  unfold copyCommit at ht
  dsimp only at ht
  split at ht
  · cases ht
    exact packCopy_steady (reserveChanged_steady (freeCopyStore_steady (setCopy_steady (setCopyDesc_steady hs))))
  · obtain ⟨r, hr, rfl⟩ := Option.map_eq_some_iff.mp ht
    have h := podsWritten_steady (label := 14) (k := x.expect) (allocPodsFor_steady hs hr)
    exact reserveChanged_steady (freeCopyStore_steady (setCopy_steady (setCopyDesc_steady h)))

theorem copyArrives_steady {h : ReqHdr} {k : Nat} {x : CopyIn} (hs : Steady s₀ s) : Steady s₀ (copyArrives s h k x) := by
  refine .ite (buddyCmp_steady (modCopy_steady hs)) ?_
  split
  · next t heq =>
      have ht : Steady s₀ t := copyCommit_steady (modCopy_steady hs) heq
      exact buddyCmp_steady ht
  · exact modCopy_steady hs

theorem mirrorPageAt_steady {h : ReqHdr} {ext pg blens : Nat} {kgen integ raw : Bool} {f : BitVec 64} (hs : Steady s₀ s) :
    Steady s₀ (mirrorPageAt s h ext pg blens kgen integ raw f) := by
  refine .ite (buddyCmp_steady hs) ?_
  split
  · exact buddyCmp_steady hs
  · exact copyArrives_steady (.otherwise setCopy_steady (setBuddyOf_steady hs))

theorem mirrorPodAt_steady {h : ReqHdr} {ext pg index : Nat} {v : Line} (hs : Steady s₀ s) :
    Steady s₀ (mirrorPodAt s h ext pg index v) := by
  unfold mirrorPodAt
  dsimp only
  split
  · exact buddyCmp_steady hs
  · exact .ite (buddyCmp_steady hs) (copyArrives_steady hs)

theorem mirrorTo_steady {st : MirrorSt} (hs : Steady s₀ s) : Steady s₀ (mirrorTo s st) := jwrite_steady (.upd hs)

theorem mirrorLate_steady (hs : Steady s₀ s) : Steady s₀ (mirrorLate s) := .ite (mirrorTo_steady hs) hs

theorem sendEnvelope_steady (hs : Steady s₀ s) : Steady s₀ (sendEnvelope s) := by
  unfold sendEnvelope
  split
  · exact hs
  · exact .foldl openTx_steady (.updSec hs rfl)

theorem envelopeAnswered_steady {i status : Nat} (hs : Steady s₀ s) : Steady s₀ (envelopeAnswered s i status) :=
  .ite (raise_steady (.updSec hs rfl)) (.when (fun h => .when mirrorTo_steady (.updSec h rfl)) (.updSec hs rfl))

theorem buddyGone_steady (hs : Steady s₀ s) : Steady s₀ (buddyGone s) := by
  refine .ite hs ?_
  refine .foldl (fun h => ?_) ?_
  · exact sinkDone_steady (exposePage_steady h)
  · refine .foldl (fun h => ?_) (.upd (.foldl closeTx_steady (raise_steady (mirrorTo_steady hs))))
    split
    · exact goOn_steady (committed_steady (exposePage_steady h))
    · exact h

theorem resyncEnds_steady (hs : Steady s₀ s) : Steady s₀ (resyncEnds s) := .ite (raiseP_steady (.upd (mirrorTo_steady hs))) hs

theorem buddyBack_steady (hs : Steady s₀ s) : Steady s₀ (buddyBack s) := .ite (resyncEnds_steady (.upd (mirrorTo_steady hs))) hs

theorem buddyLost_steady (hs : Steady s₀ s) : Steady s₀ (buddyLost s) := .ite (resyncEnds_steady (.upd (mirrorTo_steady (.upd hs)))) hs

theorem mirrorAnswered_steady {seq key status : Nat} (hs : Steady s₀ s) : Steady s₀ (mirrorAnswered s seq key status) :=
  .when buddyLost_steady (mirrorAcked_steady (.ite (mirrorTo_steady hs) hs))

theorem copyDone_steady {p : Nat} (hs : Steady s₀ s) : Steady s₀ (copyDone s p) := by
  refine .ite (.upd hs) ?_
  split
  · exact .fork modMig_steady (fun h => resyncEnds_steady (.upd h)) (.foldl sendMirror_steady (.upd hs))
  · exact resyncEnds_steady (refoldDone_steady (.otherwise descSet_steady (.foldl sendMirror_steady (.upd hs))))

theorem copyStep_steady {p : Nat} (hs : Steady s₀ s) : Steady s₀ (copyStep s p) := by
  unfold copyStep
  split
  · exact hs
  · exact .ite (copyDone_steady hs) (.upd hs)

theorem mirrorFetch_steady {p b : Nat} (hs : Steady s₀ s) : Steady s₀ (mirrorFetch s p b) := sendBlkRead_steady (.upd hs)

theorem sendPods_steady {p : Nat} {raw : Bool} (hs : Steady s₀ s) : Steady s₀ (sendPods s p raw) :=
  .foldl (fun h => .ite (mirrorFetch_steady h) (.ite (.foldl mirrorPod_steady h) (.foldl mirrorPod_steady h))) hs

theorem mirrorFetched_steady {p b : Nat} {pods : List Line} (hs : Steady s₀ s) : Steady s₀ (mirrorFetched s p b pods) :=
  copyStep_steady (.fork (fun h => .foldl mirrorPod_steady h) (fun h => .foldl mirrorPod_steady h) (.ite (decrypted_steady hs) hs))

theorem pageAnswered_steady {p status : Nat} (hs : Steady s₀ s) : Steady s₀ (pageAnswered s p status) := by
  unfold pageAnswered
  split
  · exact hs
  · exact .ite (copyStep_steady (sendPods_steady hs)) (.ite (.upd hs) (mirrorPage_steady hs))

theorem returnCopy_steady {k : Nat} (hs : Steady s₀ s) : Steady s₀ (returnCopy s k) :=
  .foldl sendMirror_steady (.foldl openTx_steady (openTx_steady hs))

theorem ownerRec_steady {o new mask : Nat} (hs : Steady s₀ s) : Steady s₀ (ownerRec s o new mask) := jwrite_steady hs

theorem floodAlias_steady {o new mask : Nat} {serving : Bool} (hs : Steady s₀ s) : Steady s₀ (floodAlias s o new mask serving) :=
  flood_steady hs

theorem handBack_steady {o : Nat} (hs : Steady s₀ s) : Steady s₀ (handBack s o) :=
  .ite (floodAlias_steady (setBuddyOf_steady (.upd (ownerRec_steady (raiseP_steady hs))))) hs

theorem ownerBack_steady {o : Nat} (hs : Steady s₀ s) : Steady s₀ (ownerBack s o) := .ite (handBack_steady (setBuddyOf_steady (.upd hs))) hs

theorem resyncPage_steady (hs : Steady s₀ s) : Steady s₀ (resyncPage s) := by
  unfold resyncPage
  split
  · exact .ite (.ite (resyncEnds_steady (.upd hs)) (.ite (.upd (.upd hs)) (mirrorPage_steady (.upd hs)))) hs
  · split
    · exact handBack_steady (returnCopy_steady (.upd hs))
    · exact hs

theorem reportBlocks_steady {p : Nat} {want : List (Nat × Line × Bool)} (hs : Steady s₀ s) : Steady s₀ (reportBlocks s p want) :=
  .foldl blockEvent_steady (.upd hs)

theorem buddyLines_steady {p : Nat} {lines : BitVec 64} {got : List (Nat × Line × Bool)} (hs : Steady s₀ s) :
    Steady s₀ (buddyLines s p lines got) := by
  refine .otherwise (fun h => ?_) ?_
  · exact .foldl (fun h' => blockThere_steady (.upd h')) h
  · exact .foldl (fun h => .ite (homeArrived_steady (placeLine_steady h)) (placeNear_steady h)) (reportBlocks_steady hs)

theorem actingStart_steady {o : Nat} (hs : Steady s₀ s) : Steady s₀ (actingStart s o) :=
  .ite hs (floodAlias_steady (ownerRec_steady (.upd (setBuddyOf_steady hs))))

theorem failoverServe_steady (hs : Steady s₀ s) : Steady s₀ (failoverServe s) :=
  .foldl (fun h => raiseP_steady (floodAlias_steady (.upd h))) hs

theorem aliasTaken_steady {o new : Nat} {serving : Bool} (hs : Steady s₀ s) : Steady s₀ (aliasTaken s o new serving) :=
  .otherwise (fun h => .foldl reissue_steady (.foldl (fun h' => .ite h' (evictLine_steady h')) h)) (.upd hs)

theorem fenceSelf_steady (hs : Steady s₀ s) : Steady s₀ (fenceSelf s) := .upd hs

theorem selfFailed_steady (hs : Steady s₀ s) : Steady s₀ (selfFailed s) := .ite hs (raiseP_steady (fenceSelf_steady (.upd hs)))

/-! ### Sys2Proof/Machine/Loss.lean -/

theorem repairCheck_steady (hs : Steady s₀ s) : Steady s₀ (repairCheck s) := .ite hs (raiseP_steady (.upd hs))

theorem loseBlock_steady {p b : Nat} (hs : Steady s₀ s) : Steady s₀ (loseBlock s p b) := .ite (mirrorRead_steady hs) (poisonBlock_steady hs)

theorem memLost_steady {r : MemReq} (hs : Steady s₀ s) : Steady s₀ (memLost s r) := by
  unfold memLost
  split
  · split
    · exact .ite (modTx_steady hs) (modSink_steady hs)
    · exact modSink_steady hs
  · split
    · exact .ite (startRead_steady hs) hs
    · exact hs
  · exact blockThere_steady (startFill_steady (.upd hs))
  · exact .ite (blockThere_steady hs) (reqNearRead_steady hs)
  · exact respondData_steady hs
  · exact hs
  · exact hs

theorem losePlain_steady {p : Nat} (hs : Steady s₀ s) : Steady s₀ (losePlain s p) := by
  refine .ite (.ite ?_ (.foldl loseBlock_steady (stopMig_steady hs))) (poisonMask_steady hs)
  split
  · next t heq =>
      have ht : Steady s₀ t := relocateFrame_steady (stopMig_steady hs) heq
      exact .foldl loseBlock_steady ht
  · exact stopMig_steady hs

theorem loseCopies_steady {lost : Desc → Nat → Bool} (hs : Steady s₀ s) : Steady s₀ (loseCopies s lost) :=
  .upd (.foldl (fun h => setCopyDesc_steady (modCopy_steady h)) hs)

theorem fenceChannel_steady {c : Nat} (hs : Steady s₀ s) : Steady s₀ (fenceChannel s c) := by
  refine .ite hs ?_
  refine repairCheck_steady ?_
  exact .foldl memLost_steady (loseCopies_steady (.upd (.foldl loseBlock_steady (.foldl losePlain_steady (channelGoes_steady hs)))))

theorem dropSlice_steady {hit : Nat → Bool} (hs : Steady s₀ s) : Steady s₀ (dropSlice s hit) := .upd hs

theorem sendScope_steady {scope n : Nat} (hs : Steady s₀ s) : Steady s₀ (sendScope s scope n) := .foldl openTx_steady hs

theorem scopeDone_steady (hs : Steady s₀ s) : Steady s₀ (scopeDone s) :=
  .ite hs (.otherwise (fun h => .otherwise raiseP_steady (raise_steady h)) (.upd hs))

theorem loseSlice_steady {i : Nat} {fold : Bool} (hs : Steady s₀ s) : Steady s₀ (loseSlice s i fold) :=
  .ite hs (scopeDone_steady (sendScope_steady (raise_steady (.upd (dropSlice_steady hs)))))

theorem loseSet_steady {st : Nat} (hs : Steady s₀ s) : Steady s₀ (loseSet s st) :=
  .ite hs (.ite (loseSlice_steady hs) (scopeDone_steady (sendScope_steady (raise_steady (.upd (dropSlice_steady hs))))))

theorem loseNearLine_steady {key : Nat} (hs : Steady s₀ s) : Steady s₀ (loseNearLine s key) := by
  unfold loseNearLine
  split
  · exact hs
  · refine .ite ?_ ?_
    · refine .ite (.ite (mirrorRead_steady hs) (nearPut_steady (poisonOne_steady hs))) ?_
      split
      · exact .ite (nearPut_steady hs) (.upd hs)
      · exact hs
    · exact .ite (nearPut_steady hs) (nearPut_steady hs)

theorem fenceStack_steady {i : Nat} (hs : Steady s₀ s) : Steady s₀ (fenceStack s i) := by
  refine .ite hs ?_
  refine .foldl memLost_steady ?_
  refine loseSlice_steady ?_
  exact .foldl loseNearLine_steady (loseCopies_steady (crtStackLost_steady (spillStart_steady (tcLost_steady (channelGoes_steady hs)))))

theorem fenceCtl_steady {n cause : Nat} (hs : Steady s₀ s) : Steady s₀ (fenceCtl s n cause) :=
  .ite hs (raiseCtl_steady (.ite (fenceChannel_steady hs) (fenceStack_steady hs)))

theorem mr4Poll_steady {c : Nat} {report : Mr4} (hs : Steady s₀ s) : Steady s₀ (mr4Poll s c report) := by
  refine .ite hs ?_
  split
  · exact modCtl_steady hs
  · exact .otherwise raiseCtl_steady (modCtl_steady hs)
  · exact fenceCtl_steady hs

theorem pmicFault_steady {c : Nat} (hs : Steady s₀ s) : Steady s₀ (pmicFault s c) := fenceCtl_steady hs

theorem dirtyGone_steady {n : Node} {key : Nat} (hs : Steady s₀ s) : Steady s₀ (dirtyGone s n key) :=
  setEnt_steady (raiseP_steady (.ite (poisonOne_steady hs) hs))

theorem scanFailed_steady {n : Node} (hs : Steady s₀ s) : Steady s₀ (scanFailed s n) := .foldl setEnt_steady (.foldl dirtyGone_steady hs)

theorem peerGone_steady {n : Nat} {failed : Bool} (hs : Steady s₀ s) : Steady s₀ (peerGone s n failed) := by
  refine .when (fun h => ?_) ?_
  · exact scopeDone_steady (.foldl closeTx_steady (scanFailed_steady h))
  · refine .foldl (fun h => ?_) (.foldl endTxAt_steady hs)
    exact .fork snoopAnswered_steady (fun h' => .ite (snoopAnswered_steady (dirtyGone_steady h')) (modTx_steady h'))
        (.foldl closeTx_steady h)

theorem hostCopiesGone_steady (hs : Steady s₀ s) : Steady s₀ (hostCopiesGone s) :=
  .foldl hostInvDone_steady (.foldl (fun h => goOn_steady (modTx_steady h)) (.upd (.foldl setEnt_steady hs)))

theorem nearAfterReset_steady (hs : Steady s₀ s) : Steady s₀ (nearAfterReset s) :=
  .foldl (fun h => .ite (evictLine_steady h) (nearDrop_steady h)) hs

theorem hostFlushedBody_steady (hs : Steady s₀ s) : Steady s₀ (hostFlushedBody s) := .upd hs

theorem predClearBody_steady (hs : Steady s₀ s) : Steady s₀ (predClearBody s) := .upd hs

theorem spillCopyBuilt_steady {r : Nat} (hs : Steady s₀ s) : Steady s₀ (spillCopyBuilt s r) := .when raiseP_steady (spillBuilt_steady hs)

/-! ### Sys2Proof/Machine/Serve.lean -/

theorem notePendFull_steady (hs : Steady s₀ s) : Steady s₀ (notePendFull s) := .ite (raise_steady (.upd hs)) hs

theorem noteResFull_steady (hs : Steady s₀ s) : Steady s₀ (noteResFull s) := .ite (raise_steady (.upd hs)) hs

theorem pendRequest_steady {key : Nat} {kind : OwnKind} {who : Asker} {tag : Tag} {label : Nat} {reserved : Bool} (hs : Steady s₀ s) :
    Steady s₀ (pendRequest s key kind who tag label reserved) := by
  refine .ite ?_ ?_
  · exact .ite (putPend_steady (.upd hs)) (.ite (putPend_steady hs) (respondNack_steady (noteResFull_steady (.upd hs))))
  · exact .ite (putPend_steady hs) (respondNack_steady (notePendFull_steady hs))

theorem noteFloor_steady {src owner : Nat} {kind : OwnKind} (hs : Steady s₀ s) : Steady s₀ (noteFloor s src owner kind) := by
  unfold noteFloor
  split
  · exact .upd hs
  · exact hs

theorem heatTaken_steady {p : Nat} {kind : OwnKind} (hs : Steady s₀ s) : Steady s₀ (heatTaken s p kind) := .ite hs (heatAccess_steady hs)

theorem peerRequest_steady {op : Nat} {h : ReqHdr} {line : Nat} {reserved : Bool} {kind : OwnKind} (hs : Steady s₀ s) :
    Steady s₀ (peerRequest s op h line reserved kind) := by
  unfold peerRequest
  extract_lets c t label src owner key taken who start
  have ht : Steady s₀ t := active_steady (consumeTag_steady hs)
  have htaken {u : State} (hu : Steady s₀ u) : Steady s₀ (taken u) := .ite (heatTaken_steady hu) hu
  have hstart {u : State} {again : Bool} (hu : Steady s₀ u) : Steady s₀ (start u again) := by
    have hway : Steady s₀ (makeWay u key kind) := makeWay_steady hu
    exact .ite (goOn_steady (openOwn_steady (htaken hway))) (.ite (htaken (pendRequest_steady hway)) (pendRequest_steady hway))
  clear_value start t label src
  refine .ite ht (.ite (respondNack_steady ht) (.ite (respondCmp_steady (raiseP_steady ht)) (.ite ht ?_)))
  generalize crtDuplicate t h.tag h.isNew = dup
  have hnew {v : State} (hv : Steady s₀ v) : Steady s₀ (if crtFull t h.tag = true then
      respondNack (noteCrtFull t) h.tag label 1 t.coh.pendingHint.toNat else start v false) :=
    .ite (respondNack_steady (noteCrtFull_steady ht)) (hstart hv)
  cases dup with
  | none => cases kind with
    | rdCur => exact hstart ht
    | atomicFar => exact .ite (respondCmp_steady (noteFloor_steady ht)) (hnew (noteFloor_steady ht))
    | _ => exact hnew ht
  | some e => cases kind with
    | rdCur => exact hstart ht
    | atomicFar => exact respondResult_steady (countDuplicate_steady (noteFloor_steady ht))
    | rdShared => exact hstart (countDuplicate_steady ht)
    | rdOwn => exact hstart (countDuplicate_steady ht)
    | wrLine => exact respondCmp_steady (countDuplicate_steady ht)
    | _ => exact hnew ht

theorem blkReadBody_steady {h : ReqHdr} {pod cnt vers : Nat} (hs : Steady s₀ s) : Steady s₀ (blkReadBody s h pod cnt vers) := by
  refine .otherwise (fun h => ?_) (active_steady (consumeTag_steady hs))
  refine .ite (respondNack_steady h) ?_
  exact .ite (respondCmp_steady h) (.ite (respondCmp_steady h) (.foldl (fun h' => .ite (respondData_steady h') (pushDdr_steady h')) h))

theorem bulkRecorded_steady {h : ReqHdr} {kind pod vers : Nat} {ok : Bool} {act : State → State}
    (hs : Steady s₀ s) (hact : ∀ {s}, Steady s₀ s → Steady s₀ (act s)) : Steady s₀ (bulkRecorded s h kind pod vers ok act) := by
  unfold bulkRecorded
  split
  · exact respondCmp_steady (countDuplicate_steady hs)
  · exact .ite (respondNack_steady (noteCrtFull_steady hs)) (respondCmp_steady (crtRecord_steady (.ite (hact hs) hs)))

theorem blkWriteBody_steady {h : ReqHdr} {pod vers : Nat} {v : Line} (hs : Steady s₀ s) : Steady s₀ (blkWriteBody s h pod vers v) := by
  refine .otherwise (fun h => ?_) (active_steady (consumeTag_steady hs))
  exact .ite (respondNack_steady h) (bulkRecorded_steady h (fun h' => pushDdr_steady (podsWritten_steady (.upd h'))))

theorem blkFreeBody_steady {h : ReqHdr} {pod cnt : Nat} (hs : Steady s₀ s) : Steady s₀ (blkFreeBody s h pod cnt) := by
  refine .otherwise (fun h => ?_) (active_steady (consumeTag_steady hs))
  exact .ite (respondNack_steady h) (.ite (respondCmp_steady h) (bulkRecorded_steady h .upd))

theorem hostRefuse_steady {w : ReqWork} (hs : Steady s₀ s) : Steady s₀ (hostRefuse s w) := by
  unfold hostRefuse
  split
  · exact emit_steady (.upd hs)
  · exact emit_steady hs
  · exact hs
  · exact hs
  · exact completeCmd_steady hs

theorem hostStart_steady {dpa : Nat} {w : ReqWork} (hs : Steady s₀ s) : Steady s₀ (hostStart s dpa w).1 := by
  unfold hostStart
  dsimp only
  split
  · exact .when raise_steady (hostRefuse_steady hs)
  · split
    · exact .iteFst (reqSubmit_steady (.ite (.upd hs) hs)) hs
    · refine .iteFst hs ?_
      refine .iteFst ?_ ?_
      · exact goOn_steady (openOwn_steady (.when heatTaken_steady (makeWay_steady (.ite (.upd hs) hs))))
      · exact .iteFst (putPend_steady (.when heatTaken_steady (makeWay_steady (.ite (.upd hs) hs)))) hs

theorem shapeTake_steady {l : Nat} (hs : Steady s₀ s) : Steady s₀ (shapeTake s l) := .upd hs

theorem hostTry_steady {dpa : Nat} {w : ReqWork} (hs : Steady s₀ s) : Steady s₀ (hostTry s dpa w).1 := by
  refine .iteFst hs ?_
  refine .iteFst (hostStart_steady hs) ?_
  exact .iteFst (.iteFst (shapeTake_steady (hostStart_steady hs)) hs) (.iteFst (.upd (hostStart_steady (.upd hs))) hs)

theorem hostScan_steady {xs : List (BitVec 64 × ReqWork)} {blocked : List Nat} (hs : Steady s₀ s) :
    Steady s₀ (hostScan xs s blocked) := by
  induction xs generalizing s blocked with
  | nil => exact hs
  | cons x xs ih => exact .ite (ih (.upd hs)) (.ite (ih (hostTry_steady hs)) (ih (.upd (hostTry_steady hs))))

theorem devloadSet_steady (hs : Steady s₀ s) : Steady s₀ (devloadSet s) := .when (fun h => raise_steady (.upd h)) (.upd hs)

theorem ingressCheck_steady (hs : Steady s₀ s) : Steady s₀ (ingressCheck s) := by
  refine devloadSet_steady ?_
  split
  · exact .upd hs
  · exact .upd hs
  · exact hs

theorem hostPass_steady (hs : Steady s₀ s) : Steady s₀ (hostPass s) := .ite hs (ingressCheck_steady (hostScan_steady (.upd hs)))

theorem spaceSettled_steady {since : Option Nat} (hs : Steady s₀ s) : Steady s₀ (spaceSettled since s) := by
  unfold spaceSettled
  split
  · exact .upd hs
  · exact hs
  · exact .ite (.upd hs) hs

theorem pump_steady (hs : Steady s₀ s) : Steady s₀ (pump s) := by
  unfold pump
  exact hostPass_steady (spaceSettled_steady (ownPass_steady (.upd (reqPass_steady (dLanesGo_steady hs)))))

theorem hostArrive_steady {hpa : Nat} {mk : Nat → ReqWork} (hs : Steady s₀ s) : Steady s₀ (hostArrive s hpa mk) := by
  refine .ite (hostRefuse_steady (active_steady hs)) ?_
  split
  · exact raise_steady (hostRefuse_steady (active_steady hs))
  · exact hostPass_steady (.upd (active_steady hs))

theorem memRdBody_steady {hpa : Nat} {mv : MetaVal} {req : BitVec 16} (hs : Steady s₀ s) : Steady s₀ (memRdBody s hpa mv req) :=
  hostArrive_steady (countN_steady (.upd hs))

theorem memWrBody_steady {hpa : Nat} {mv : MetaVal} {req : BitVec 16} {data : Line} {mask : BitVec 64} {poison : Bool} (hs : Steady s₀ s) :
    Steady s₀ (memWrBody s hpa mv req data mask poison) := by
  unfold memWrBody
  exact hostArrive_steady (countN_steady hs)

theorem biRspBody_steady {dpa : Nat} {wb : Option (Line × Bool)} (hs : Steady s₀ s) : Steady s₀ (biRspBody s dpa wb) :=
  .ite (biAnswered_steady hs) (hostInvDone_steady hs)

theorem bisnpTimeoutBody_steady {dpa : Nat} (hs : Steady s₀ s) : Steady s₀ (bisnpTimeoutBody s dpa) :=
  .ite hs (.fork (fun h => biAnswered_steady (setEnt_steady h)) hostInvDone_steady (.otherwise raiseP_steady (.upd (raiseP_steady hs))))

/-! ### Sys2Proof/Machine/Return.lean -/

theorem clearMedia_steady {n addr : Nat} (hs : Steady s₀ s) : Steady s₀ (clearMedia s n addr) := .upd hs

theorem eccActs_steady {n addr finder : Nat} {recovered : Bool} {o : EccOutcome} (hs : Steady s₀ s) :
    Steady s₀ (eccActs s n addr finder recovered o).1 := by
  unfold eccActs
  split
  · exact hs
  · exact .iteFst (clearMedia_steady hs) hs
  · exact .when fenceCtl_steady (corrected_steady hs)
  · exact .when fenceCtl_steady (uncorrected_steady hs)

theorem logMedia_steady {dpa : Nat} {dram : Bool} (hs : Steady s₀ s) : Steady s₀ (logMedia s dpa dram) := postEvent_steady hs

theorem homeReturned_steady {n addr key : Nat} {res : ReturnResult} (hs : Steady s₀ s) : Steady s₀ (homeReturned s n addr key res) := by
  unfold homeReturned
  dsimp only
  split
  · exact homeArrived_steady (.otherwise writeLine_steady (decrypted_steady (eccActs_steady hs)))
  · exact homeArrived_steady (poisonOne_steady (eccActs_steady hs))
  · exact .otherwise homeArrived_steady (linesLost_steady (logMedia_steady (eccActs_steady hs)))

theorem podsRead_steady {n addr : Nat} {recovered : Bool} {res : ReturnResult} {pods : List Line} (hs : Steady s₀ s) :
    Steady s₀ (podsRead s n addr recovered res pods).1 := by
  unfold podsRead
  generalize pods.zipIdx = xs
  suffices ∀ r : State × List (BurstRead × Line), Steady s₀ r.1 → Steady s₀ (xs.foldl _ r).1 from this _ hs
  induction xs with
  | nil => exact fun _ h => h
  | cons x xs ih => exact fun r h => ih _ (eccActs_steady h)

theorem fillReturned_steady {n addr k : Nat} {res : ReturnResult} {label : Nat} (hs : Steady s₀ s) :
    Steady s₀ (fillReturned s n addr k res label) := by
  refine .ite ?_ ?_
  · exact .fork fillDone_steady (fun h => fillDone_steady (.foldl poisonOne_steady h)) (logMedia_steady (podsRead_steady hs))
  · exact fillRead_steady (.when writeBlock_steady (localBlock_steady (podsRead_steady hs)))

theorem nearReturned_steady {n addr key : Nat} {res : ReturnResult} (hs : Steady s₀ s) : Steady s₀ (nearReturned s n addr key res) := by
  refine .ite ?_ (reqNearRead_steady (.ite (loseNearLine_steady (eccActs_steady hs)) (.otherwise .upd (eccActs_steady hs))))
  split
  · exact .when homeArrived_steady (.ite (loseNearLine_steady (eccActs_steady hs)) (.otherwise .upd (eccActs_steady hs)))
  · exact blockThere_steady (.ite (loseNearLine_steady (eccActs_steady hs)) (.otherwise .upd (eccActs_steady hs)))

theorem podReturned_steady {n addr : Nat} {tag : Tag} {pod off vers label : Nat} {res : ReturnResult} (hs : Steady s₀ s) :
    Steady s₀ (podReturned s n addr tag pod off vers label res) :=
  .ite (respondData_steady (.otherwise .upd (eccActs_steady hs))) (respondData_steady (eccActs_steady hs))

theorem rldLost_steady {i line : Nat} (hs : Steady s₀ s) : Steady s₀ (rldLost s i line) := by
  unfold rldLost
  split
  · exact loseSet_steady hs
  · exact .foldl loseNearLine_steady hs
  · exact tcLineLost_steady hs
  · exact raise_steady hs
  · exact crtLineLost_steady hs
  · exact hs

theorem metaReturned_steady {n addr : Nat} {res : ReturnResult} (hs : Steady s₀ s) : Steady s₀ (metaReturned s n addr res) :=
  .when rldLost_steady (eccActs_steady hs)

theorem memDeliver_steady {n : Nat} {r : MemReq} {res : ReturnResult} (hs : Steady s₀ s) : Steady s₀ (memDeliver s n r res) := by
  unfold memDeliver
  split
  · exact homeReturned_steady hs
  · exact hs
  · exact fillReturned_steady hs
  · exact nearReturned_steady hs
  · exact podReturned_steady hs
  · exact hs
  · exact metaReturned_steady hs

theorem memDataReturnBody_steady {n : Nat} {res : ReturnResult} (hs : Steady s₀ s) : Steady s₀ (memDataReturnBody s n res) := by
  unfold memDataReturnBody
  split
  · exact hs
  · next r t heq =>
      have ht : Steady s₀ t := takeReturn_steady hs heq
      exact pump_steady (memDeliver_steady ht)

theorem memAdmitBody_steady {n : Nat} {write : Bool} (hs : Steady s₀ s) : Steady s₀ (memAdmitBody s n write) := by
  unfold memAdmitBody
  split
  · next t heq =>
      have ht : Steady s₀ t := (memAdmit_steady hs).fst heq
      exact ht
  · next t r heq =>
      have ht : Steady s₀ t := (memAdmit_steady hs).fst heq
      split
      · exact pump_steady (homeWritten_steady (clearMedia_steady ht))
      · exact .ite (pump_steady (memDeliver_steady (modCtl_steady ht))) ht

theorem scrubRead_steady {n line : Nat} (hs : Steady s₀ s) : Steady s₀ (scrubRead s n line) := countBurst_steady (modCtl_steady (.upd hs))

theorem scrubLineBody_steady {n line : Nat} {e : BurstError} (hs : Steady s₀ s) : Steady s₀ (scrubLineBody s n line e) := by
  refine .ite hs ?_
  dsimp only
  split
  · exact scrubRead_steady (scrubStep_steady hs)
  · exact scrubRead_steady (scrubStep_steady hs)
  · exact .when fenceCtl_steady (corrected_steady (scrubRead_steady (scrubStep_steady hs)))
  · refine .when fenceCtl_steady ?_
    exact .fork (fun h => .ite h (.upd h)) rldLost_steady (uncorrected_steady (scrubRead_steady (scrubStep_steady hs)))

theorem clearPageMedia_steady {p : Nat} (hs : Steady s₀ s) : Steady s₀ (clearPageMedia s p) := .foldl clearMedia_steady hs

theorem passEndBody_steady {p : Nat} {bad : BitVec 64} {decs : List (Nat × DecOutcome)} (hs : Steady s₀ s) :
    Steady s₀ (passEndBody s p bad decs) := by
  unfold passEndBody
  split
  · exact hs
  · exact .ite hs (passEndMig_steady (.foldl uncorrected_steady (clearPageMedia_steady hs)))

theorem evalResult_steady {src : CmdSrc} {i blen : Nat} (hs : Steady s₀ s) : Steady s₀ (evalResult s src i blen) := by
  unfold evalResult
  split
  · exact hs
  · exact .ite (.upd hs) (completeCmd_steady (emit_steady (.upd hs)))

theorem jobDone_steady {j : Job} (hs : Steady s₀ s) : Steady s₀ (jobDone s j) := by
  unfold jobDone
  split
  · exact evictDone_steady hs
  · exact migResult_steady hs
  · exact populated'_steady hs
  · exact evalResult_steady hs
  · exact copyResult_steady hs

theorem compressionResultBody_steady {lane : Nat} {shadowOk : Bool} (hs : Steady s₀ s) :
    Steady s₀ (compressionResultBody s lane shadowOk) := by
  unfold compressionResultBody
  dsimp only
  split
  · exact laneEnd_steady hs
  · exact pump_steady (jobDone_steady (runLanes_steady (laneEnd_steady hs)))

theorem laneTimeoutBody_steady {decompressor : Bool} {i : Nat} (hs : Steady s₀ s) : Steady s₀ (laneTimeoutBody s decompressor i) :=
  .ite (.ite (pump_steady (fenceDLane_steady hs)) hs) (.ite (fenceCLane_steady hs) hs)

/-! ### Sys2Proof/Machine/Extents.lean -/

theorem ensureDomain_steady {d : Nat} (hs : Steady s₀ s) : Steady s₀ (ensureDomain s d) := .ite hs (.upd (setDom_steady hs))

theorem taggedDomains_steady (hs : Steady s₀ s) : Steady s₀ (taggedDomains s) := .foldl ensureDomain_steady hs

theorem modExtent_steady {i : Nat} {f : Extent → Extent} (hs : Steady s₀ s) : Steady s₀ (modExtent s i f) := .upd hs

theorem extentRec_steady {type i : Nat} {e : Extent} {b : BitVec 128} (hs : Steady s₀ s) : Steady s₀ (extentRec s type i e b) :=
  .upd (jwrite_steady hs)

theorem offerExtent_steady {i : Nat} {src : CmdSrc} (hs : Steady s₀ s) : Steady s₀ (offerExtent s i src) := by
  unfold offerExtent
  split
  · exact hs
  · exact completeCmd_steady (postEvent_steady (extentRec_steady (modExtent_steady hs)))

theorem dropExtent_steady {i : Nat} (hs : Steady s₀ s) : Steady s₀ (dropExtent s i) := reserveChanged_steady (.upd hs)

theorem unreserve_steady {i len : Nat} (hs : Steady s₀ s) : Steady s₀ (unreserve s i len) := by
  unfold unreserve
  split
  · exact openTx_steady hs
  · exact hs

theorem extentAddBody_steady {src : CmdSrc} {entry : Line} (hs : Steady s₀ s) : Steady s₀ (extentAddBody s src entry) := by
  unfold extentAddBody
  dsimp only
  split
  · exact completeCmd_steady hs
  · split
    · split
      · exact openTx_steady (.otherwise ensureDomain_steady (reserveChanged_steady (.upd (chosen_steady hs))))
      · exact offerExtent_steady (.otherwise ensureDomain_steady (reserveChanged_steady (.upd (chosen_steady hs))))
    · exact completeCmd_steady hs

theorem addFailed_steady {i status : Nat} (hs : Steady s₀ s) : Steady s₀ (addFailed s i status) := by
  unfold addFailed
  split
  · split
    · exact completeCmd_steady (raise_steady (unreserve_steady (dropExtent_steady hs)))
    · exact hs
  · exact hs

theorem reserveAnswered_steady {i status : Nat} (hs : Steady s₀ s) : Steady s₀ (reserveAnswered s i status) := by
  unfold reserveAnswered
  split
  · split
    · exact .ite (offerExtent_steady hs) (addFailed_steady hs)
    · exact hs
  · exact hs

theorem extentAddBuddyTimeoutBody_steady {dpa : Nat} (hs : Steady s₀ s) : Steady s₀ (extentAddBuddyTimeoutBody s dpa) := by
  unfold extentAddBuddyTimeoutBody
  split
  · exact addFailed_steady (.foldl closeTx_steady hs)
  · exact hs

theorem releasePhase_steady {i phase : Nat} {e : Extent} (hs : Steady s₀ s) : Steady s₀ (releasePhase s i phase e) := extentRec_steady hs

theorem withdrawExtent_steady {i : Nat} (hs : Steady s₀ s) : Steady s₀ (withdrawExtent s i) := by
  unfold withdrawExtent
  split
  · exact .when unreserve_steady (dropExtent_steady (.ite (releasePhase_steady hs) hs))
  · exact hs

theorem addResponseBody_steady {ranges : List (BitVec 64 × BitVec 64)} (hs : Steady s₀ s) : Steady s₀ (addResponseBody s ranges) := by
  refine .ite ?_ (.ite (mbReply_steady (.upd hs)) (mbReply_steady hs))
  split
  · exact mbReply_steady (withdrawExtent_steady (chosen_steady hs))
  · exact mbReply_steady hs

theorem releasePoint_steady {dpa len : Nat} (hs : Steady s₀ s) : Steady s₀ (releasePoint s dpa len) := by
  unfold releasePoint
  dsimp only
  split
  · exact hs
  · exact .when .upd (.when .upd (.upd (.foldl stopMig_steady hs)))

theorem releaseBody_steady {ranges : List (BitVec 64 × BitVec 64)} (hs : Steady s₀ s) : Steady s₀ (releaseBody s ranges) := by
  unfold releaseBody
  split
  · exact mbReply_steady hs
  · exact .foldl releasePoint_steady hs

theorem releasePage_steady {p ext pg : Nat} {mirrored : Bool} (hs : Steady s₀ s) : Steady s₀ (releasePage s p ext pg mirrored) := by
  refine .upd ?_
  refine ledgerDrop_steady ?_
  exact clearPage_steady (.when primerFreed_steady (setPage_steady (.when mirrorFree_steady (freeStorage_steady hs))))

theorem leaveShared_steady {e : Extent} (hs : Steady s₀ s) : Steady s₀ (leaveShared s e) := by
  unfold leaveShared
  split
  · exact hs
  · exact .foldl evictFirst_steady hs

theorem dropShared_steady {i : Nat} {e : Extent} (hs : Steady s₀ s) : Steady s₀ (dropShared s i e) := by
  unfold dropShared
  split
  · exact dropExtent_steady (leaveShared_steady hs)
  · exact .otherwise emit_steady (dropExtent_steady (leaveShared_steady hs))

theorem tcForget_steady {e : Extent} (hs : Steady s₀ s) : Steady s₀ (tcForget s e) := .upd hs

theorem finishRelease_steady {i : Nat} {e : Extent} (hs : Steady s₀ s) : Steady s₀ (finishRelease s i e) := by
  refine .ite (dropShared_steady (releasePhase_steady hs)) ?_
  refine retireKey_steady ?_
  refine dropExtent_steady ?_
  refine .when unreserve_steady ?_
  refine tcForget_steady ?_
  exact releasePhase_steady (.foldl releasePage_steady (releasePhase_steady (.foldl releasePage_steady (releasePhase_steady hs))))

theorem releaseResponseBody_steady {dpa : Nat} (hs : Steady s₀ s) : Steady s₀ (releaseResponseBody s dpa) :=
  .ite hs (.foldl finishRelease_steady (mbReply_steady hs))

theorem unrelease_steady {i : Nat} (hs : Steady s₀ s) : Steady s₀ (unrelease s i) := by
  unfold unrelease
  split
  · exact hs
  · exact .upd hs

theorem shareGrantBody_steady {src : CmdSrc} {entry : Line} (hs : Steady s₀ s) : Steady s₀ (shareGrantBody s src entry) := by
  unfold shareGrantBody
  dsimp only
  split
  · exact completeCmd_steady hs
  · exact .ite (completeCmd_steady hs) (.ite (completeCmd_steady hs) (.ite (completeCmd_steady hs) (completeCmd_steady (.upd hs))))

theorem grantEnds_steady {id : Nat} (hs : Steady s₀ s) : Steady s₀ (grantEnds s id) := .ite (raise_steady (.upd hs)) hs

theorem shareRevokeBody_steady {src : CmdSrc} {entry : Line} (hs : Steady s₀ s) : Steady s₀ (shareRevokeBody s src entry) := by
  unfold shareRevokeBody
  dsimp only
  split
  · exact completeCmd_steady hs
  · exact .ite (completeCmd_steady hs) (completeCmd_steady (emit_steady (.upd hs)))

theorem revocationBody_steady {owner grant : Nat} (hs : Steady s₀ s) : Steady s₀ (revocationBody s owner grant) :=
  .ite (grantEnds_steady hs) (.foldl postEvent_steady hs)

theorem granteeFailed_steady {n : Nat} (hs : Steady s₀ s) : Steady s₀ (granteeFailed s n) := .foldl grantEnds_steady hs

theorem restoreExtents_steady (hs : Steady s₀ s) : Steady s₀ (restoreExtents s) := by
  refine .foldl (fun h => ?_) hs
  split
  · exact h
  · split
    · exact .ite h (.upd h)
    · exact h

theorem discardPage_steady {p : Nat} (hs : Steady s₀ s) : Steady s₀ (discardPage s p) :=
  .upd (modPage_steady (clearPage_steady (primerMoved_steady (descSet_steady (freeStorage_steady (abortMig_steady hs))))))

/-- As for `newCopy`, the equation is that of the function, with `populateFrame` kept apart from its definition. -/
theorem takeCopy_steady {k : Nat} (hs : Steady s₀ s) : Steady s₀ (takeCopy s k) := by
  generalize hdef : takeCopy = f
  delta takeCopy at hdef
  have hp {p : Nat} {t : State} : populateFrame s p = some t → Steady s₀ t := populateFrame_steady hs
  generalize populateFrame = populate at hdef hp
  subst hdef
  as_aux_lemma =>
    beta_reduce
    split
    · exact hs
    · split
      · exact spaceWait_steady hs
      · next heq => exact dropCopy_steady (.foldl placeLine_steady (hp heq))

theorem takeBack_steady (hs : Steady s₀ s) : Steady s₀ (takeBack s) := by
  unfold takeBack
  split
  · exact hs
  · exact .when buddyBack_steady (.upd (ownerRec_steady (.foldl takeCopy_steady (.foldl discardPage_steady (restoreExtents_steady hs)))))

/-! ### Sys2Proof/Machine/Commands.lean -/

theorem dmaErrorBody_steady {qid : Nat} (hs : Steady s₀ s) : Steady s₀ (dmaErrorBody s qid) := by
  unfold dmaErrorBody
  split
  · exact hs
  · exact raise_steady (.upd hs)

theorem commandDmaFailed_steady {src : CmdSrc} (hs : Steady s₀ s) : Steady s₀ (commandDmaFailed s src) := by
  unfold commandDmaFailed
  split
  · exact raise_steady hs
  · exact dmaErrorBody_steady hs

theorem gated_steady {src : CmdSrc} {e : Line} {run : State → State} (hs : Steady s₀ s) (hrun : ∀ {s}, Steady s₀ s → Steady s₀ (run s)) :
    Steady s₀ (gated s src e run) := by
  refine .ite hs ?_
  split
  · exact completeCmd_steady (active_steady hs)
  · exact hrun (active_steady hs)

theorem hintAborts_steady {p : Nat} (hs : Steady s₀ s) : Steady s₀ (hintAborts s p) := by
  unfold hintAborts
  split
  · exact .ite (abortMig_steady hs) hs
  · exact hs

theorem hintMoving_steady {kind p : Nat} (hs : Steady s₀ s) : Steady s₀ (hintMoving s kind p) :=
  modMig_steady (.ite (hintAborts_steady hs) hs)

theorem hintPage_steady {kind p : Nat} (hs : Steady s₀ s) : Steady s₀ (hintPage s kind p) := by
  unfold hintPage
  split
  · exact .when (fun h => heatReached_steady (ledgerDrop_steady (modPage_steady h))) (.ite (hintMoving_steady hs) hs)
  · exact .when (fun h => .when postCand_steady (ledgerPut_steady (modPage_steady h))) (.ite (hintMoving_steady hs) hs)
  · exact ledgerDrop_steady (.otherwise descSet_steady (.ite (hintMoving_steady hs) hs))
  · exact .when descSet_steady (.ite (hintMoving_steady hs) hs)

theorem placeHintBody_steady {src : CmdSrc} {e : Line} (hs : Steady s₀ s) : Steady s₀ (placeHintBody s src e) := by
  refine gated_steady hs (fun h => ?_)
  dsimp only
  split
  · exact completeCmd_steady h
  · refine .ite (completeCmd_steady h) ?_
    refine .ite (completeCmd_steady h) ?_
    exact .ite (completeCmd_steady h) (.ite (completeCmd_steady h) (completeCmd_steady (.foldl hintPage_steady h)))

theorem atomicBody_steady {src : CmdSrc} {e : Line} (hs : Steady s₀ s) : Steady s₀ (atomicBody s src e) := by
  refine gated_steady hs (fun h => ?_)
  dsimp only
  split
  · exact completeCmd_steady h
  · exact .ite (completeCmd_steady h) (pump_steady (.upd h))

theorem keyRotateBody_steady {src : CmdSrc} {e : Line} (hs : Steady s₀ s) : Steady s₀ (keyRotateBody s src e) := by
  refine gated_steady hs (fun h => ?_)
  refine .ite (completeCmd_steady h) ?_
  exact .ite (completeCmd_steady h) (.ite (completeCmd_steady h) (.when sendEnvelope_steady (setDom_steady h)))

theorem postRefold_steady {ps : List Nat} (hs : Steady s₀ s) : Steady s₀ (postRefold s ps) :=
  .foldl (fun h => .when postCand_steady (.ite h (.upd h))) hs

theorem keyRotateSwitchBody_steady {d : Nat} (hs : Steady s₀ s) : Steady s₀ (keyRotateSwitchBody s d) := by
  unfold keyRotateSwitchBody
  dsimp only
  split
  · exact hs
  · exact .ite hs (retireKey_steady (postRefold_steady (completeCmd_steady (setDom_steady (.ite hs (.upd hs))))))

theorem primerEvalBody_steady {src : CmdSrc} {e : Line} {blocks : List (List Byte)} {dmaOk : Bool} (hs : Steady s₀ s) :
    Steady s₀ (primerEvalBody s src e blocks dmaOk) := by
  refine gated_steady hs (fun h => ?_)
  refine .ite (completeCmd_steady h) ?_
  refine .ite (completeCmd_steady h) ?_
  refine .ite ?_ ?_
  · exact completeCmd_steady (commandDmaFailed_steady h)
  · exact .foldl (fun h' => .ite (evalResult_steady (countL_steady h')) (pushJob_steady h')) (.upd h)

theorem entryReply_steady {status result : Nat} (hs : Steady s₀ s) : Steady s₀ (entryReply s status result) := mbReply_steady hs

theorem queueCreateBody_steady {b : List Byte} (hs : Steady s₀ s) : Steady s₀ (queueCreateBody s b) :=
  .ite (mbReply_steady hs) (.ite (entryReply_steady hs) (entryReply_steady (.upd hs)))

theorem takeOne_steady {qid : Nat} {t : State} (hs : Steady s₀ s) (ht : takeOne s qid = some t) : Steady s₀ t := by
  unfold takeOne at ht
  split at ht
  · cases ht
  · split at ht
    · cases ht
    · split at ht <;> cases ht
      exact active_steady (.otherwise completeCmd_steady (.upd hs))

theorem takeEntries_steady {n qid : Nat} (hs : Steady s₀ s) : Steady s₀ (takeEntries n s qid) := by
  induction n generalizing s with
  | zero => exact hs
  | succ n ih =>
    unfold takeEntries
    split
    · next t heq => exact ih (takeOne_steady hs heq)
    · exact hs

theorem sqTailBody_steady {qid v : Nat} {entries : List Line} (hs : Steady s₀ s) : Steady s₀ (sqTailBody s qid v entries) := by
  unfold sqTailBody
  split
  · exact hs
  · exact .ite (raise_steady hs) (takeEntries_steady (.upd hs))

theorem cqHeadBody_steady {qid v : Nat} (hs : Steady s₀ s) : Steady s₀ (cqHeadBody s qid v) := by
  unfold cqHeadBody
  split
  · exact hs
  · exact .ite (raise_steady hs) (.upd hs)

theorem postOne_steady {qid : Nat} {q : Queue} {t : Taken} {c : Completion} (hs : Steady s₀ s) : Steady s₀ (postOne s qid q t c) :=
  signalMsix_steady (countN_steady (emit_steady (.upd hs)))

theorem deleteCheck_steady {qid : Nat} (hs : Steady s₀ s) : Steady s₀ (deleteCheck s qid) := by
  unfold deleteCheck
  split
  · exact hs
  · exact .ite (completeCmd_steady (.upd hs)) hs

theorem commandCompleteBody_steady {qid : Nat} (hs : Steady s₀ s) : Steady s₀ (commandCompleteBody s qid) := by
  unfold commandCompleteBody
  split
  · exact hs
  · refine .ite hs ?_
    split
    · exact hs
    · split
      · exact hs
      · exact deleteCheck_steady (takeEntries_steady (postOne_steady hs))

theorem queueDeleteBody_steady {b : List Byte} (hs : Steady s₀ s) : Steady s₀ (queueDeleteBody s b) := by
  refine .ite (mbReply_steady hs) (.ite (mbReply_steady hs) ?_)
  dsimp only
  split
  · exact entryReply_steady hs
  · exact deleteCheck_steady (mbReply_steady (.upd hs))

theorem extentAddCmd_steady {src : CmdSrc} {e : Line} (hs : Steady s₀ s) : Steady s₀ (extentAddCmd s src e) :=
  gated_steady hs extentAddBody_steady

theorem shareGrantCmd_steady {src : CmdSrc} {e : Line} (hs : Steady s₀ s) : Steady s₀ (shareGrantCmd s src e) :=
  gated_steady hs shareGrantBody_steady

theorem shareRevokeCmd_steady {src : CmdSrc} {e : Line} (hs : Steady s₀ s) : Steady s₀ (shareRevokeCmd s src e) :=
  gated_steady hs shareRevokeBody_steady

theorem runEntry_steady {src : CmdSrc} {e : Line} {blocks : List (List Byte)} {dmaOk : Bool} (hs : Steady s₀ s) :
    Steady s₀ (runEntry s src e blocks dmaOk) := by
  unfold runEntry
  split
  · exact extentAddCmd_steady hs
  · exact shareGrantCmd_steady hs
  · exact shareRevokeCmd_steady hs
  · exact placeHintBody_steady hs
  · exact atomicBody_steady hs
  · exact keyRotateBody_steady hs
  · exact primerEvalBody_steady hs
  · exact completeCmd_steady hs

theorem execEntryBody_steady {b : List Byte} {blocks : List (List Byte)} {dmaOk : Bool} (hs : Steady s₀ s) :
    Steady s₀ (execEntryBody s b blocks dmaOk) := by
  refine .ite (mbReply_steady hs) (.ite (mbReply_steady hs) ?_)
  dsimp only
  split
  · exact emit_steady (.upd (runEntry_steady (.upd hs)))
  · exact mbReply_steady (runEntry_steady (.upd hs))

/-! ### Sys2Proof/Machine/Member.lean -/

theorem flooded_steady {f : FloodHdr} {type opn : Nat} {fields : List (Nat × Nat)} {act : State → State}
    (hs : Steady s₀ s) (hact : ∀ {s}, Steady s₀ s → Steady s₀ (act s)) : Steady s₀ (flooded s f type opn fields act) :=
  .ite (consumeCtrl_steady hs) (hact (floodOn_steady (noteFlood_steady (consumeCtrl_steady hs))))

theorem sendDeferred_steady (hs : Steady s₀ s) : Steady s₀ (sendDeferred s) :=
  .foldl (fun h => .ite (sendBlkFree_steady h) (mirrorFree_steady h)) (.upd hs)

theorem startHeld_steady {row : Nat} (hs : Steady s₀ s) : Steady s₀ (startHeld s row) := .foldl migrationStart_steady (.upd hs)

theorem rowAwake_steady {row : Nat} (hs : Steady s₀ s) : Steady s₀ (rowAwake s row) :=
  .ite hs (startHeld_steady (retryWaiting_steady (sendDeferred_steady (raise_steady (.upd hs)))))

theorem freeLease_steady {o : Nat} (hs : Steady s₀ s) : Steady s₀ (freeLease s o) := reserveChanged_steady (.upd hs)

/-- As for `newCopy`, the equation is that of the function. -/
theorem recallLost_steady {p : Nat} (hs : Steady s₀ s) : Steady s₀ (recallLost s p) := by
  generalize hdef : recallLost = f
  delta recallLost at hdef
  subst hdef
  beta_reduce
  split
  · exact hs
  · next f t heq =>
    have ht : Steady s₀ t := allocFrame_steady (r := (f, t)) hs heq
    exact .foldl mirrorRead_steady (mergeNear_steady (descSet_steady ht))

theorem placeAgain_steady {p : Nat} (hs : Steady s₀ s) : Steady s₀ (placeAgain s p) := .ite (recallLost_steady hs) (poisonMask_steady hs)

theorem afterFreeze_steady {before : State} {p : Nat} (hs : Steady s₀ s) : Steady s₀ (afterFreeze before s p) :=
  .ite (repairCheck_steady (placeAgain_steady (.upd hs))) hs

theorem holderFails_steady {n : Nat} (hs : Steady s₀ s) : Steady s₀ (holderFails s n) := by
  refine leaseHeadroom_steady ?_
  refine .otherwise repairCheck_steady ?_
  refine .foldl (fun h => ?_) ?_
  · exact .ite (startFill_steady (.upd h)) (blockThere_steady (.upd h))
  · exact .upd (.foldl placeAgain_steady (.foldl closeTx_steady (.foldl stopMig_steady (.foldl abortMig_steady hs))))

theorem buddyReadsLost_steady (hs : Steady s₀ s) : Steady s₀ (buddyReadsLost s) := by
  refine .foldl (fun h => ?_) hs
  split
  · exact repairCheck_steady (buddyLines_steady (closeTx_steady h))
  · exact h

theorem ownerLost_steady {n : Nat} (hs : Steady s₀ s) : Steady s₀ (ownerLost s n) := by
  refine .foldl (fun h => ?_) hs
  split
  · exact reqDenied_steady (closeTx_steady h)
  · exact reqAtomic_steady (closeTx_steady h)
  · exact reqEvicted_steady (closeTx_steady h)
  · exact h

theorem nodeFails_steady {n : Nat} (hs : Steady s₀ s) : Steady s₀ (nodeFails s n) := by
  refine .upd ?_
  refine .foldl freeLease_steady ?_
  refine .upd ?_
  refine actingStart_steady ?_
  exact holderFails_steady (.when (fun h => buddyGone_steady (buddyReadsLost_steady h)) (granteeFailed_steady (peerGone_steady hs)))

theorem nodeServes_steady {n : Nat} {was : MemberSt} (hs : Steady s₀ s) : Steady s₀ (nodeServes s n was) := by
  refine retryWaiting_steady ?_
  refine sendDeferred_steady ?_
  exact ownerBack_steady (.when resendDirty_steady (.when buddyBack_steady (rowAwake_steady (.upd (.ite (raiseP_steady hs) hs)))))

theorem memberEffects_steady {n : Nat} {was now : MemberSt} (hs : Steady s₀ s) : Steady s₀ (memberEffects s n was now) := by
  refine .ite ?_ ?_
  · split
    · exact .ite hs (rowAwake_steady (retryWaiting_steady (.upd hs)))
    · exact selfFailed_steady (.upd hs)
    · exact .upd hs
    · exact .upd hs
    · exact hs
  · split
    · exact nodeServes_steady hs
    · exact nodeFails_steady hs
    · exact .foldl stopMig_steady (.when buddyGone_steady (.when .upd (peerGone_steady hs)))
    · exact hs
    · exact .foldl stopMig_steady (.ite (buddyGone_steady hs) hs)

theorem setMember_steady {n : Nat} {st : MemberSt} {inc : BitVec 16} {auth : Nat} {v : BitVec 16} (hs : Steady s₀ s) :
    Steady s₀ (setMember s n st inc auth v) :=
  .otherwise memberEffects_steady (.upd hs)

theorem applyMember_steady {w : MemberWire} {auth : Nat} (hs : Steady s₀ s) : Steady s₀ (applyMember s w auth) := by
  unfold applyMember
  split
  · exact hs
  · exact .ite (setMember_steady hs) hs

theorem declare_steady {n : Nat} {st : MemberSt} {inc : BitVec 16} (hs : Steady s₀ s) : Steady s₀ (declare s n st inc) :=
  .when sendNeighbour_steady (setMember_steady (floodOn_steady (.upd hs)))

theorem declareAll_steady {ms : List (Nat × BitVec 16)} (hs : Steady s₀ s) : Steady s₀ (declareAll s ms) :=
  .foldl flood_steady (.foldl setMember_steady hs)

theorem routeMember_steady {f : FloodHdr} {w : MemberWire} (hs : Steady s₀ s) : Steady s₀ (routeMember s f w) := by
  unfold routeMember
  exact flooded_steady hs (fun h => .when sendNeighbour_steady (applyMember_steady h))

theorem routeLinkstate_steady {f : FloodHdr} {version : BitVec 16} {vector : BitVec 126} (hs : Steady s₀ s) :
    Steady s₀ (routeLinkstate s f version vector) :=
  flooded_steady hs (fun h => .ite (retryWaiting_steady (.upd h)) h)

theorem sendOnLink_steady {l : Nat} {m : Msg} (hs : Steady s₀ s) : Steady s₀ (sendOnLink s l m) := by
  unfold sendOnLink
  split
  · exact .ite (enqueue_steady hs) hs
  · exact hs

theorem sendHeartbeats_steady {resetting : Bool} (hs : Steady s₀ s) : Steady s₀ (sendHeartbeats s resetting) := .foldl sendOnLink_steady hs

theorem abortProposal_steady (hs : Steady s₀ s) : Steady s₀ (abortProposal s) := by
  unfold abortProposal
  split
  · exact hs
  · exact flood_steady (.upd hs)

theorem heartbeatSend_steady (hs : Steady s₀ s) : Steady s₀ (heartbeatSend s) := .when abortProposal_steady (sendHeartbeats_steady hs)

theorem setHeard_steady {n : Nat} {h : Heard} (hs : Steady s₀ s) : Steady s₀ (setHeard s n h) := .upd hs

theorem heartbeat_steady {l n : Nat} {inc : BitVec 16} {st : Nat} {ready resetting : Bool} (hs : Steady s₀ s) :
    Steady s₀ (heartbeat s l n inc st ready resetting) := by
  refine .otherwise (fun h => ?_) (consumeCtrl_steady hs)
  refine .otherwise (fun h' => ?_) ?_
  · exact .ite (.ite (declare_steady h') h') (.ite (declare_steady h') (.ite (declare_steady h') (.ite (declare_steady h') h')))
  · exact .when abortProposal_steady (.upd (setHeard_steady h))

theorem judgeSuspect_steady {n : Nat} (hs : Steady s₀ s) : Steady s₀ (judgeSuspect s n) :=
  .ite hs (.ite (.when raiseP_steady (raiseP_steady (declare_steady hs))) hs)

theorem heartbeatSilence_steady {n : Nat} (hs : Steady s₀ s) : Steady s₀ (heartbeatSilence s n) := by
  refine .ite hs (.ite (judgeSuspect_steady (setHeard_steady hs)) ?_)
  split
  · exact sendCtrl_steady (setHeard_steady hs)
  · exact setHeard_steady hs

theorem routeSuspect_steady {src n : Nat} (hs : Steady s₀ s) : Steady s₀ (routeSuspect s src n) :=
  .otherwise (fun h => judgeSuspect_steady (.upd h)) (consumeCtrl_steady hs)

theorem isolationTimeout_steady (hs : Steady s₀ s) : Steady s₀ (isolationTimeout s) := .ite hs (raiseP_steady (fenceSelf_steady hs))

theorem restartGraceExpiry_steady {n : Nat} (hs : Steady s₀ s) : Steady s₀ (restartGraceExpiry s n) :=
  .ite (raiseP_steady (declare_steady hs)) hs

theorem redirectBack_steady {o old : Nat} (hs : Steady s₀ s) : Steady s₀ (redirectBack s o old) :=
  .foldl (fun h => reissue_steady (.upd h)) hs

theorem routeAlias_steady {f : FloodHdr} {failed owner regions : Nat} {serving : Bool} (hs : Steady s₀ s) :
    Steady s₀ (routeAlias s f failed owner regions serving) := by
  refine flooded_steady hs (fun h => ?_)
  refine .ite ?_ ?_
  · exact .ite (takeBack_steady (.upd h)) (redirectBack_steady (.upd h))
  · exact .ite (.upd h) (.when freeLease_steady (aliasTaken_steady h))

theorem leaseFreeTimeout_steady {n : Nat} (hs : Steady s₀ s) : Steady s₀ (leaseFreeTimeout s n) :=
  .ite (freeLease_steady (ownerLost_steady hs)) hs

theorem sendJoin_steady {l : Nat} (hs : Steady s₀ s) : Steady s₀ (sendJoin s l) := .ite hs (sendOnLink_steady (.upd hs))

theorem joinsLeave_steady (hs : Steady s₀ s) : Steady s₀ (joinsLeave s) := .otherwise (fun h => .foldl sendJoin_steady h) (.upd hs)

theorem sendJoins_steady (hs : Steady s₀ s) : Steady s₀ (sendJoins s) := .foldl sendJoin_steady (.ite (.upd hs) hs)

theorem sendAccept_steady {l : Nat} (hs : Steady s₀ s) : Steady s₀ (sendAccept s l) := .foldl sendOnLink_steady hs

theorem admitNode_steady {n : Nat} {inc : BitVec 16} {custody : Bool} (hs : Steady s₀ s) : Steady s₀ (admitNode s n inc custody) :=
  .ite hs (.otherwise declare_steady (.ite (declare_steady hs) hs))

theorem joinRequest_steady {l n : Nat} {poolId : BitVec 64} {inc : BitVec 16} {epoch : BitVec 32} {digest : BitVec 128} {custody : Bool}
    (hs : Steady s₀ s) : Steady s₀ (joinRequest s l n poolId inc epoch digest custody) := by
  unfold joinRequest
  dsimp only
  split
  · exact sendOnLink_steady (consumeCtrl_steady hs)
  · refine .ite ?_ ?_
    · exact .when (fun h => raise_steady (.upd h)) (sendOnLink_steady (free_steady (consumeCtrl_steady hs)))
    · exact .when admitNode_steady (sendAccept_steady (setHeard_steady (.upd (consumeCtrl_steady hs))))

theorem markRestart_steady (hs : Steady s₀ s) : Steady s₀ (markRestart s) := .upd hs

theorem applyPool_steady (hs : Steady s₀ s) : Steady s₀ (applyPool s) := retryWaiting_steady (markRestart_steady (.upd hs))

theorem learnEpoch_steady {e : BitVec 32} (hs : Steady s₀ s) : Steady s₀ (learnEpoch s e) :=
  .ite hs (.when (fun h => applyPool_steady (.upd h)) (.upd hs))

theorem joinAccept_steady {n st : Nat} {epoch : BitVec 32} {records : List MemberWire} (hs : Steady s₀ s) :
    Steady s₀ (joinAccept s n st epoch records) :=
  .foldl (fun h => .ite h (applyMember_steady h)) (.otherwise learnEpoch_steady (.upd (setHeard_steady (consumeCtrl_steady hs))))

theorem joinRefuse_steady {l cause : Nat} (hs : Steady s₀ s) : Steady s₀ (joinRefuse s l cause) := raiseP_steady (consumeCtrl_steady hs)

theorem joinWait_steady {l : Nat} {d : BitVec 7} (hs : Steady s₀ s) : Steady s₀ (joinWait s l d) := .upd (consumeCtrl_steady hs)

theorem joinWaitExpiry_steady {l : Nat} (hs : Steady s₀ s) : Steady s₀ (joinWaitExpiry s l) := .ite (sendJoin_steady (.upd hs)) hs

theorem formEpoch_steady (hs : Steady s₀ s) : Steady s₀ (formEpoch s) := .when flood_steady (.upd hs)

theorem joinJudge_steady (hs : Steady s₀ s) : Steady s₀ (joinJudge s) :=
  .ite hs (.ite hs (.ite hs (formEpoch_steady (declareAll_steady (.upd hs)))))

theorem joinRetry_steady (hs : Steady s₀ s) : Steady s₀ (joinRetry s) := .ite (sendJoins_steady hs) hs

theorem rejoin_steady (hs : Steady s₀ s) : Steady s₀ (rejoin s) := .ite (sendJoins_steady (.upd hs)) (.upd hs)

theorem floodCapacity_steady (hs : Steady s₀ s) : Steady s₀ (floodCapacity s) := flood_steady (.upd hs)

theorem routeCapacity_steady {f : FloodHdr} {v : BitVec 16} (hs : Steady s₀ s) : Steady s₀ (routeCapacity s f v) := flooded_steady hs .upd

/-! ### Sys2Proof/Machine/Lease.lean -/

theorem recallLease_steady {o size : Nat} (hs : Steady s₀ s) : Steady s₀ (recallLease s o size) := by
  unfold recallLease
  split
  · exact hs
  · exact sendCtrl_steady (raiseP_steady (.upd hs))

theorem recallForReserve_steady (hs : Steady s₀ s) : Steady s₀ (recallForReserve s) :=
  .ite hs (.foldl (fun h => .ite h (recallLease_steady h)) (chosen_steady hs))

theorem capacityPeriodic_steady (hs : Steady s₀ s) : Steady s₀ (capacityPeriodic s) :=
  .when floodCapacity_steady (recallForReserve_steady hs)

theorem leaseRequest_steady {o size : Nat} (hs : Steady s₀ s) : Steady s₀ (leaseRequest s o size) := by
  refine .ite (sendCtrl_steady (consumeCtrl_steady hs)) ?_
  refine .ite (sendCtrl_steady (consumeCtrl_steady hs)) ?_
  refine .ite (sendCtrl_steady (consumeCtrl_steady hs)) ?_
  refine .ite (sendCtrl_steady (consumeCtrl_steady hs)) ?_
  exact sendCtrl_steady (.when ctrlAnswered_steady (reserveChanged_steady (.upd (consumeCtrl_steady hs))))

theorem leaseGrant_steady {n size : Nat} (hs : Steady s₀ s) : Steady s₀ (leaseGrant s n size) :=
  setBorrow_steady (.upd (ctrlAnswered_steady (consumeCtrl_steady hs)))

theorem leaseDeny_steady {n : Nat} (hs : Steady s₀ s) : Steady s₀ (leaseDeny s n) := .upd (ctrlAnswered_steady (consumeCtrl_steady hs))

theorem leaseReturnCheck_steady {n : Nat} (hs : Steady s₀ s) : Steady s₀ (leaseReturnCheck s n) := by
  unfold leaseReturnCheck
  dsimp only
  split
  · exact hs
  · exact .ite hs (leaseHeadroom_steady (.ite (.upd (.upd (sendCtrl_steady hs))) (setBorrow_steady (.upd (sendCtrl_steady hs)))))

theorem leaseReturns_steady (hs : Steady s₀ s) : Steady s₀ (leaseReturns s) := .foldl leaseReturnCheck_steady hs

theorem leaseRecall_steady {n size : Nat} (hs : Steady s₀ s) : Steady s₀ (leaseRecall s n size) := by
  refine .ite (sendCtrl_steady (consumeCtrl_steady hs)) ?_
  refine leaseReturnCheck_steady ?_
  exact leaseHeadroom_steady (.foldl postCand_steady (.foldl stopMig_steady (setBorrow_steady (raiseP_steady (consumeCtrl_steady hs)))))

theorem leaveCheck_steady (hs : Steady s₀ s) : Steady s₀ (leaveCheck s) := .ite (.upd hs) hs

theorem leaseReturn_steady {o size : Nat} (hs : Steady s₀ s) : Steady s₀ (leaseReturn s o size) := by
  unfold leaseReturn
  dsimp only
  split
  · exact ctrlAnswered_steady (consumeCtrl_steady hs)
  · exact leaveCheck_steady (reserveChanged_steady (.upd (ctrlAnswered_steady (consumeCtrl_steady hs))))

theorem leaseDeadline_steady {n : Nat} (hs : Steady s₀ s) : Steady s₀ (leaseDeadline s n) := by
  unfold leaseDeadline
  dsimp only
  split
  · exact .ite (.upd hs) hs
  · exact .when (fun h => raiseP_steady (.upd h)) (.ite (.upd hs) hs)

theorem leave_steady (hs : Steady s₀ s) : Steady s₀ (leave s) := leaveCheck_steady (.foldl recallLease_steady (.upd hs))

theorem ctrlResend_steady {n : Nat} (hs : Steady s₀ s) : Steady s₀ (ctrlResend s n) := .foldl sendMsg_steady hs

theorem reserveWaitTimeout_steady (hs : Steady s₀ s) : Steady s₀ (reserveWaitTimeout s) := .ite (raise_steady (.upd hs)) hs

theorem leaseWaitTimeout_steady (hs : Steady s₀ s) : Steady s₀ (leaseWaitTimeout s) := .ite (raise_steady (.upd hs)) hs

theorem rowSleeps_steady {row : Nat} (hs : Steady s₀ s) : Steady s₀ (rowSleeps s row) :=
  .otherwise (fun h => .upd (raise_steady (.ite (.foldl (fun h' => .ite h' (evictFirst_steady h')) h) h))) (.upd hs)

theorem proposalCheck_steady (hs : Steady s₀ s) : Steady s₀ (proposalCheck s) := by
  unfold proposalCheck
  split
  · exact hs
  · exact .ite (rowSleeps_steady (flood_steady (.upd hs))) hs

theorem addConsent_steady {n : Nat} {row : BitVec 6} (hs : Steady s₀ s) : Steady s₀ (addConsent s n row) := by
  unfold addConsent
  split
  · exact .ite (proposalCheck_steady (.upd hs)) hs
  · exact hs

theorem consentOne_steady {row : BitVec 6} (hs : Steady s₀ s) : Steady s₀ (consentOne s row) := by
  refine .ite hs ?_
  dsimp only
  split
  · exact .upd hs
  · exact .ite (addConsent_steady (.upd hs)) (sendCtrl_steady (.upd hs))

theorem consentCheck_steady (hs : Steady s₀ s) : Steady s₀ (consentCheck s) := .foldl consentOne_steady hs

theorem leaveGo_steady (hs : Steady s₀ s) : Steady s₀ (leaveGo s) := .ite (leave_steady hs) hs

theorem afterMig_steady (hs : Steady s₀ s) : Steady s₀ (afterMig s) := consentCheck_steady (leaseReturns_steady (leaveGo_steady hs))

theorem takeProposal_steady {row : BitVec 6} (hs : Steady s₀ s) : Steady s₀ (takeProposal s row) :=
  consentCheck_steady (.upd (.foldl stopMig_steady hs))

theorem sleepPropose_steady (hs : Steady s₀ s) : Steady s₀ (sleepPropose s) := .ite hs (takeProposal_steady (flood_steady (.upd hs)))

theorem wakePropose_steady {f : FloodHdr} {row : BitVec 6} (hs : Steady s₀ s) : Steady s₀ (wakePropose s f row) :=
  flooded_steady hs (fun h => .ite h (.ite (sendCtrl_steady h) (takeProposal_steady h)))

theorem wakeConsent_steady {src : Nat} {row : BitVec 6} (hs : Steady s₀ s) : Steady s₀ (wakeConsent s src row) :=
  addConsent_steady (consumeCtrl_steady hs)

theorem wakeRefuse_steady {src : Nat} {row : BitVec 6} (hs : Steady s₀ s) : Steady s₀ (wakeRefuse s src row) := by
  unfold wakeRefuse
  dsimp only
  split
  · exact .when abortProposal_steady (consumeCtrl_steady hs)
  · exact consumeCtrl_steady hs

theorem sleepProposeTimeout_steady (hs : Steady s₀ s) : Steady s₀ (sleepProposeTimeout s) := abortProposal_steady hs

theorem sleepUndone_steady {row : Nat} (hs : Steady s₀ s) : Steady s₀ (sleepUndone s row) := .ite hs (.upd hs)

theorem ownWake_steady {row : Nat} (hs : Steady s₀ s) : Steady s₀ (ownWake s row) := .ite (.upd hs) hs

theorem wakeCommit_steady {f : FloodHdr} {row : BitVec 6} (hs : Steady s₀ s) : Steady s₀ (wakeCommit s f row) :=
  flooded_steady hs rowSleeps_steady

theorem wakeAbort_steady {f : FloodHdr} {row : BitVec 6} (hs : Steady s₀ s) : Steady s₀ (wakeAbort s f row) := flooded_steady hs .upd

theorem rowWake_steady {f : FloodHdr} {row : BitVec 6} (hs : Steady s₀ s) : Steady s₀ (rowWake s f row) :=
  flooded_steady hs (fun h => .when (fun h' => lightRow_steady (ownWake_steady h')) (sleepUndone_steady (.upd h)))

theorem wakePatternLimit_steady {l : Nat} (hs : Steady s₀ s) : Steady s₀ (wakePatternLimit s l) :=
  .ite (.otherwise toTraining_steady (modLink_steady hs)) hs

theorem epochPrepareStart_steady (hs : Steady s₀ s) : Steady s₀ (epochPrepareStart s) := .ite (flood_steady (.upd hs)) hs

theorem epochPrepare_steady {f : FloodHdr} {e : BitVec 32} {d : BitVec 128} (hs : Steady s₀ s) : Steady s₀ (epochPrepare s f e d) :=
  flooded_steady hs (fun h => .ite h (sendCtrl_steady h))

theorem epochReady_steady {src : Nat} {e : BitVec 32} (hs : Steady s₀ s) : Steady s₀ (epochReady s src e) := by
  unfold epochReady
  dsimp only
  split
  · exact .when .upd (consumeCtrl_steady hs)
  · exact consumeCtrl_steady hs

theorem epochNotReady_steady {src : Nat} {e : BitVec 32} (hs : Steady s₀ s) : Steady s₀ (epochNotReady s src e) := by
  unfold epochNotReady
  dsimp only
  split
  · exact .when .upd (consumeCtrl_steady hs)
  · exact consumeCtrl_steady hs

theorem epochApply_steady {e : BitVec 32} {d : BitVec 128} (hs : Steady s₀ s) : Steady s₀ (epochApply s e d) := by
  refine .ite hs ?_
  refine .ite ?_ ?_
  · exact .otherwise (fun h => raise_steady (.upd h)) (.upd hs)
  · exact .ite (raise_steady (applyPool_steady (.upd hs))) (raise_steady (.upd hs))

theorem epochPrepareTimeout_steady (hs : Steady s₀ s) : Steady s₀ (epochPrepareTimeout s) := by
  unfold epochPrepareTimeout
  split
  · exact hs
  · exact .when (fun h => epochApply_steady (flood_steady h)) (.upd hs)

theorem epochCommit_steady {f : FloodHdr} {e : BitVec 32} {d : BitVec 128} (hs : Steady s₀ s) : Steady s₀ (epochCommit s f e d) :=
  flooded_steady hs epochApply_steady

/-! ### Sys2Proof/Machine/Qos.lean -/

theorem passHeld_steady {l n : Nat} (hs : Steady s₀ s) : Steady s₀ (passHeld l n s) := by
  induction n generalizing s with
  | zero => exact hs
  | succ n ih =>
    unfold passHeld
    split
    · exact hs
    · exact .ite hs (ih (modLink_steady (.upd (.otherwise freeSlots_steady (.otherwise takeTokens_steady hs)))))

theorem takeHeld_steady {l : Nat} (hs : Steady s₀ s) : Steady s₀ (takeHeld s l) := .ite hs (.foldl freeSlots_steady (.upd hs))

theorem shaperRefill_steady (hs : Steady s₀ s) : Steady s₀ (shaperRefill s) := by
  unfold shaperRefill
  exact pump_steady (.foldl (fun h => takeHeld_steady (passHeld_steady h)) (.foldl .upd hs))

theorem setShape_steady {l rate kib : Nat} (hs : Steady s₀ s) : Steady s₀ (setShape s l rate kib) := by
  unfold setShape
  exact pump_steady (.upd hs)

theorem setPolice_steady {l cir pir : Nat} (hs : Steady s₀ s) : Steady s₀ (setPolice s l cir pir) := .when passHeld_steady (.upd hs)

theorem shapeWrite_steady {l : Nat} {v : Word} (hs : Steady s₀ s) : Steady s₀ (shapeWrite s l v) := .ite hs (setShape_steady hs)

theorem policeWrite_steady {l : Nat} {v : Word} (hs : Steady s₀ s) : Steady s₀ (policeWrite s l v) := .ite hs (setPolice_steady hs)

theorem pauseCheck_steady (hs : Steady s₀ s) : Steady s₀ (pauseCheck s) := by
  refine .upd ?_
  split
  · exact .ite (raise_steady (.upd hs)) hs
  · exact hs

theorem feedbackSample_steady (hs : Steady s₀ s) : Steady s₀ (feedbackSample s) := devloadSet_steady (pauseCheck_steady (.upd hs))

theorem scaleAdjust_steady (hs : Steady s₀ s) : Steady s₀ (scaleAdjust s) := pump_steady (.upd hs)

theorem qosCtrlWrite_steady {v : Word} (hs : Steady s₀ s) : Steady s₀ (qosCtrlWrite s v) := by
  unfold qosCtrlWrite
  exact pump_steady (.upd hs)

/-! ### Sys2Proof/Machine/Stage.lean -/

theorem releaseJobs_steady (hs : Steady s₀ s) : Steady s₀ (releaseJobs s) := by
  refine runLanes_steady (.foldl pushJob_steady (.foldl (fun h => ?_) (.upd hs)))
  split
  · exact modMig_steady h
  · exact modCopy_steady h
  · exact h

theorem mailbox_steady {rom : Bool} {run : State → State} (hs : Steady s₀ s) (hrun : ∀ {s}, Steady s₀ s → Steady s₀ (run s)) :
    Steady s₀ (mailbox s rom run) :=
  .ite hs (.ite (mbReply_steady hs) (hrun hs))

theorem imageStageBegin_steady {p : List Byte} (hs : Steady s₀ s) : Steady s₀ (imageStageBegin s p) := by
  refine .ite (mbReply_steady hs) ?_
  exact .ite (entryReply_steady hs) (.ite (entryReply_steady hs) (.ite (entryReply_steady hs) (entryReply_steady (.upd hs))))

theorem imageStageData_steady {p : List Byte} (hs : Steady s₀ s) : Steady s₀ (imageStageData s p) := by
  refine .ite (mbReply_steady hs) ?_
  exact .ite (entryReply_steady hs) (.ite (entryReply_steady hs) (.ite (entryReply_steady hs) (entryReply_steady (.upd hs))))

theorem imageStageCommit_steady {p : List Byte} (hs : Steady s₀ s) : Steady s₀ (imageStageCommit s p) := by
  refine .ite (mbReply_steady hs) ?_
  exact .ite (entryReply_steady hs) (.ite (entryReply_steady hs) (.ite (mbReply_steady hs) (mbReply_steady (holdJobs_steady (.upd hs)))))

theorem imageStageAbort_steady {p : List Byte} (hs : Steady s₀ s) : Steady s₀ (imageStageAbort s p) :=
  .ite (mbReply_steady hs) (.ite (entryReply_steady hs) (entryReply_steady (.upd hs)))

theorem imageVerifyDone_steady (hs : Steady s₀ s) : Steady s₀ (imageVerifyDone s) :=
  .ite hs (.ite (completeCmd_steady (releaseJobs_steady (.upd hs))) (.upd (.ite hs (raise_steady hs))))

theorem loadLabels_steady (hs : Steady s₀ s) : Steady s₀ (loadLabels s) := .foldl (fun h => setPolice_steady (setShape_steady h)) hs

theorem loadTimers_steady {old new : Basic} (hs : Steady s₀ s) : Steady s₀ (loadTimers s old new) := .otherwise .upd (.ite hs (.upd hs))

theorem unmirror_steady {p : Nat} (hs : Steady s₀ s) : Steady s₀ (unmirror s p) := .ite (mirrorFree_steady (descSet_steady hs)) hs

theorem untag_steady {p : Nat} (hs : Steady s₀ s) : Steady s₀ (untag s p) := .ite (modPage_steady (descSet_steady hs)) hs

theorem tagWait_steady {i : Nat} (hs : Steady s₀ s) : Steady s₀ (tagWait s i) := raise_steady (modExtent_steady hs)

theorem refoldExtent_steady {i : Nat} (hs : Steady s₀ s) : Steady s₀ (refoldExtent s i) := by
  unfold refoldExtent
  split
  · exact hs
  · split
    · exact hs
    · refine .ite (modExtent_steady hs) ?_
      refine .otherwise (fun h => ?_) ?_
      · refine .ite ?_ (unreserve_steady (.foldl unmirror_steady h))
        split
        · exact openTx_steady h
        · exact h
      · refine .otherwise (fun h => ?_) ?_
        · exact .ite (modExtent_steady h) (tagWait_steady h)
        · exact modExtent_steady (.otherwise (fun h => .foldl untag_steady h) (.otherwise .upd (ensureDomain_steady hs)))

theorem newBuddy_steady {old : Img} (hs : Steady s₀ s) : Steady s₀ (newBuddy s old) :=
  .ite hs (.fork mirrorTo_steady (fun h => .when buddyBack_steady (.ite (mirrorTo_steady h) h)) (buddyGone_steady (.upd hs)))

theorem startRefold_steady {old : Img} (hs : Steady s₀ s) : Steady s₀ (startRefold s old) :=
  .ite hs (refoldEnds_steady (noteRefold_steady (postRefold_steady (.upd (.upd (.foldl refoldExtent_steady (newBuddy_steady hs)))))))

theorem tagTablesGo_steady (hs : Steady s₀ s) : Steady s₀ (tagTablesGo s) := by
  unfold tagTablesGo
  split
  · exact hs
  · exact refoldEnds_steady (postRefold_steady (reserveChanged_steady (modExtent_steady hs)))

theorem joinMatched_steady (hs : Steady s₀ s) : Steady s₀ (joinMatched s) := .ite (sendJoins_steady hs) hs

theorem commitPool_steady (hs : Steady s₀ s) : Steady s₀ (commitPool s) := by
  refine .ite (.upd hs) ?_
  split
  · exact .ite (joinMatched_steady (applyPool_steady hs)) (raise_steady (.upd hs))
  · exact applyPool_steady hs

theorem restartHalted_steady (hs : Steady s₀ s) : Steady s₀ (restartHalted s) := .ite (.upd hs) hs

theorem commitPoint_steady (hs : Steady s₀ s) : Steady s₀ (commitPoint s) := by
  unfold commitPoint
  split
  · exact hs
  · refine restartHalted_steady ?_
    refine completeCmd_steady ?_
    refine releaseJobs_steady ?_
    refine startRefold_steady ?_
    refine reserveChanged_steady ?_
    exact .upd (markRestart_steady (commitPool_steady (taggedDomains_steady (loadTimers_steady (loadLabels_steady (.upd hs))))))

/-! ### Sys2Proof/Machine/Host.lean -/

theorem hdmDecoderCommit_steady {i : Nat} {x : HdmSetting} (hs : Steady s₀ s) : Steady s₀ (hdmDecoderCommit s i x) :=
  .ite (.upd hs) (.upd hs)

theorem hostLinkUp_steady {speed : BitVec 4} {width : BitVec 6} (hs : Steady s₀ s) : Steady s₀ (hostLinkUp s speed width) :=
  .ite hs (.when raise_steady (flushMsix_steady (.when .upd (.upd hs))))

theorem hostLinkLeavesL0_steady {low : HostLinkLow} (hs : Steady s₀ s) : Steady s₀ (hostLinkLeavesL0 s low) :=
  .ite (.upd hs) (.ite (.upd hs) hs)

theorem hostInterfaceReady_steady (hs : Steady s₀ s) : Steady s₀ (hostInterfaceReady s) := .ite hs (.when pump_steady (.upd hs))

theorem getEventRecords_steady {log : Nat} (hs : Steady s₀ s) : Steady s₀ (getEventRecords s log) :=
  .ite (mbReply_steady hs) (mbReply_steady hs)

theorem clearEventRecords_steady {log : Nat} {all : Bool} {handles : List (BitVec 16)} (hs : Steady s₀ s) :
    Steady s₀ (clearEventRecords s log all handles) :=
  .ite (mbReply_steady hs) (.ite (mbReply_steady hs) (mbReply_steady (.upd hs)))

theorem getEventInterruptPolicy_steady (hs : Steady s₀ s) : Steady s₀ (getEventInterruptPolicy s) := mbReply_steady hs

theorem setEventInterruptPolicy_steady {p : BitVec 40} (hs : Steady s₀ s) : Steady s₀ (setEventInterruptPolicy s p) :=
  mbReply_steady (.upd hs)

theorem getFwInfo_steady (hs : Steady s₀ s) : Steady s₀ (getFwInfo s) := mbReply_steady hs

theorem fwArrived_steady {slot : Nat} {bs : List Byte} (hs : Steady s₀ s) : Steady s₀ (fwArrived s slot bs) :=
  .ite (mbReply_steady (.upd (.upd hs))) (mbReply_steady (.upd (.upd hs)))

theorem transferFw_steady {action slot offset : Nat} {data : List Byte} (hs : Steady s₀ s) :
    Steady s₀ (transferFw s action slot offset data) := by
  refine .ite (mbReply_steady (.upd hs)) ?_
  refine .ite ?_ (.ite (mbReply_steady hs) ?_)
  · exact .ite (mbReply_steady hs) (.ite (mbReply_steady hs) (.ite (fwArrived_steady hs) (mbReply_steady (.upd hs))))
  · split
    · exact mbReply_steady hs
    · exact .ite (mbReply_steady hs) (.ite (fwArrived_steady hs) (mbReply_steady (.upd hs)))

theorem activateFw_steady {action slot : Nat} (hs : Steady s₀ s) : Steady s₀ (activateFw s action slot) :=
  .ite (mbReply_steady hs) (restartHalted_steady (mbReply_steady (.upd hs)))

theorem getTimestamp_steady (hs : Steady s₀ s) : Steady s₀ (getTimestamp s) := mbReply_steady hs

theorem setTimestamp_steady {v : BitVec 64} (hs : Steady s₀ s) : Steady s₀ (setTimestamp s v) := mbReply_steady (.upd hs)

theorem getSupportedLogs_steady (hs : Steady s₀ s) : Steady s₀ (getSupportedLogs s) := mbReply_steady hs

theorem getLog_steady {cel : Bool} {offset length : Nat} (hs : Steady s₀ s) : Steady s₀ (getLog s cel offset length) :=
  .ite (mbReply_steady hs) (mbReply_steady hs)

theorem identifyMemoryDevice_steady (hs : Steady s₀ s) : Steady s₀ (identifyMemoryDevice s) := mbReply_steady hs

theorem whenActive_steady {run : State → State} (hs : Steady s₀ s) (hrun : ∀ {s}, Steady s₀ s → Steady s₀ (run s)) :
    Steady s₀ (whenActive s run) :=
  .ite (hrun hs) (mbReply_steady hs)

theorem getPoisonList_steady {dpa count : Nat} (hs : Steady s₀ s) : Steady s₀ (getPoisonList s dpa count) :=
  whenActive_steady hs mbReply_steady

theorem deviceWrite_steady {dpa : Nat} {poison : Bool} {data : Line} (hs : Steady s₀ s) : Steady s₀ (deviceWrite s dpa poison data) :=
  .ite (goOn_steady (openOwn_steady (makeWay_steady hs))) (putPend_steady (makeWay_steady hs))

theorem poisonCommand_steady {dpa : Nat} {poison : Bool} {data : Line} (hs : Steady s₀ s) :
    Steady s₀ (poisonCommand s dpa poison data) := by
  refine whenActive_steady hs (fun h => ?_)
  split
  · exact .ite (mbReply_steady h) (.ite (mbReply_steady (pump_steady (.upd h))) (mbReply_steady (deviceWrite_steady h)))
  · exact mbReply_steady h

theorem injectPoison_steady {dpa : Nat} (hs : Steady s₀ s) : Steady s₀ (injectPoison s dpa) := poisonCommand_steady hs

theorem clearPoison_steady {dpa : Nat} {data : Line} (hs : Steady s₀ s) : Steady s₀ (clearPoison s dpa data) := poisonCommand_steady hs

theorem getDcConfiguration_steady {count start : Nat} (hs : Steady s₀ s) : Steady s₀ (getDcConfiguration s count start) :=
  whenActive_steady hs (fun h => .ite (mbReply_steady h) (mbReply_steady h))

theorem getDcExtentList_steady {count start : Nat} (hs : Steady s₀ s) : Steady s₀ (getDcExtentList s count start) :=
  whenActive_steady hs (fun h => .ite (mbReply_steady h) (mbReply_steady (free_steady h)))

theorem mailboxUnsupported_steady (hs : Steady s₀ s) : Steady s₀ (mailboxUnsupported s) := mbReply_steady hs

/-! ### Sys2Proof/Machine/Secure.lean -/

theorem ownerCheck_steady (hs : Steady s₀ s) : Steady s₀ (ownerCheck s) := .ite (.updSec hs rfl) (raise_steady (.updSec hs rfl))

theorem secDone_steady {op : Nat} {input : List Byte} {status : Nat} {out : List Byte} (hs : Steady s₀ s) :
    Steady s₀ (secDone s op input status out) :=
  signalMsix_steady (.updSec hs rfl)

theorem secCmd_steady {op : Nat} {input : List Byte} {lengthOk : Bool} {run : State → State × Nat × List Byte} (hs : Steady s₀ s)
    (hrun : ∀ {s}, Steady s₀ s → Steady s₀ (run s).1) : Steady s₀ (secCmd s op input lengthOk run) :=
  .ite (secDone_steady hs) (secDone_steady (hrun hs))

theorem secChallenge_steady {input : List Byte} (hs : Steady s₀ s) : Steady s₀ (secChallenge s input) :=
  secCmd_steady hs (fun h => .updSec (free_steady h) rfl)

theorem useNonce_steady (hs : Steady s₀ s) : Steady s₀ (useNonce s) := .updSec hs rfl

theorem secEnrol_steady {input : List Byte} (hs : Steady s₀ s) : Steady s₀ (secEnrol s input) := by
  unfold secEnrol
  refine secCmd_steady hs (fun h => ?_)
  exact .iteFst (useNonce_steady h) (.iteFst (useNonce_steady h) (raise_steady (.updSec (useNonce_steady h) rfl)))

theorem destroyOwnerKeys_steady (hs : Steady s₀ s) : Steady s₀ (destroyOwnerKeys s) := .upd hs

theorem secRelease_steady {input : List Byte} (hs : Steady s₀ s) : Steady s₀ (secRelease s input) := by
  unfold secRelease
  refine secCmd_steady hs (fun h => ?_)
  refine .iteFst (useNonce_steady h) ?_
  refine .iteFst (useNonce_steady h) ?_
  exact .iteFst (useNonce_steady h) (raise_steady (.updSec (destroyOwnerKeys_steady (useNonce_steady h)) rfl))

theorem secKeySupply_steady {input : List Byte} (hs : Steady s₀ s) : Steady s₀ (secKeySupply s input) := by
  unfold secKeySupply
  refine secCmd_steady hs (fun h => .iteFst h (.iteFst h (.iteFst h ?_)))
  split
  · exact h
  · exact raise_steady (.ite (setDom_steady h) (setDom_steady h))

theorem certifyAlias_steady (hs : Steady s₀ s) : Steady s₀ (certifyAlias s) := .updSec hs rfl

theorem secTransportKey_steady {input : List Byte} (hs : Steady s₀ s) : Steady s₀ (secTransportKey s input) := secCmd_steady hs id

/-- A floor is raised to a value above it (R511). -/
theorem raisedFloor_kept {which floor : Nat} (h : ¬ floor ≤ if which = 0 then s.sec.imgFloor else s.sec.fwFloor) :
    Kept s (if which = 0 then { s with sec := { s.sec with imgFloor := floor } }
      else { s with sec := { s.sec with fwFloor := floor } }) := by
  by_cases hw : which = 0
  · rw [if_pos hw] at h ⊢
    exact ⟨rfl, id, id, rfl, Nat.le_of_not_le h, Nat.le_refl _⟩
  · rw [if_neg hw] at h ⊢
    exact ⟨rfl, id, id, rfl, Nat.le_refl _, Nat.le_of_not_le h⟩

theorem secCmd_kept {op : Nat} {input : List Byte} {lengthOk : Bool} {run : State → State × Nat × List Byte} (h : Kept s (run s).1) :
    Kept s (secCmd s op input lengthOk run) :=
  .ite (fun _ => (secDone_steady (.refl s)).kept) fun _ => h.trans (secDone_steady (.refl _)).kept

/-- SVN_RAISE is the one command that changes a fuse of `fuses`: a floor, upwards (R511). -/
theorem secSvnRaise_kept (s : State) (input : List Byte) : Kept s (secSvnRaise s input) := by
  have hused : Kept s (useNonce s) := (useNonce_steady (.refl s)).kept
  unfold secSvnRaise
  refine secCmd_kept ?_
  extract_lets which floor good t now top
  clear_value good top
  split
  · exact hused
  · split
    · exact hused
    · split
      · exact hused
      · next hfloor => exact hused.trans ((raisedFloor_kept fun hle => hfloor (.inl hle)).trans (.raise _ _ _))

theorem secBuddyPair_steady {input : List Byte} (hs : Steady s₀ s) : Steady s₀ (secBuddyPair s input) := by
  unfold secBuddyPair
  exact secCmd_steady hs (fun h => .iteFst h (.iteFst h (raise_steady (sendEnvelope_steady (.when mirrorTo_steady (.updSec h rfl))))))

theorem secInfo_steady {input : List Byte} (hs : Steady s₀ s) : Steady s₀ (secInfo s input) := secCmd_steady hs id

theorem secUnknown_steady {op : Nat} (hs : Steady s₀ s) : Steady s₀ (secUnknown s op) := secDone_steady hs

theorem accessRefused_steady {read : Bool} (hs : Steady s₀ s) : Steady s₀ (accessRefused s read) :=
  .when (fun h => raise_steady (.updSec h rfl)) (.ite (emit_steady hs) hs)

theorem applyPower_steady {b : Nat} {c : PowerChange} (hs : Steady s₀ s) : Steady s₀ (applyPower s b c) := by
  unfold applyPower
  split
  · exact .updSec hs rfl
  · exact .updSec hs rfl
  · exact .updSec hs rfl
  · exact .updSec hs rfl

theorem applyNoted_steady {b : Nat} {c : PowerChange} (hs : Steady s₀ s) : Steady s₀ (applyNoted s b c) :=
  applyPower_steady (.updSec hs rfl)

theorem pendPower_steady {b : Nat} {c : PowerChange} (hs : Steady s₀ s) : Steady s₀ (pendPower s b c) :=
  .otherwise (fun h => raise_steady (.updSec h rfl)) (.updSec hs rfl)

theorem powerRequest_steady {b : Nat} {c : PowerChange} (hs : Steady s₀ s) : Steady s₀ (powerRequest s b c) :=
  .ite (pendPower_steady hs) (applyNoted_steady hs)

theorem applyPending_steady (hs : Steady s₀ s) : Steady s₀ (applyPending s) := .updSec (.foldl applyNoted_steady hs) rfl

theorem windowEnds_steady (hs : Steady s₀ s) : Steady s₀ (windowEnds s) := .ite (countLate_steady (.updSec hs rfl)) hs

theorem voteWins_steady {b : Nat} (hs : Steady s₀ s) : Steady s₀ (voteWins s b) := by
  unfold voteWins
  split
  · exact .ite hs (pendPower_steady (.updSec (applyPower_steady (applyPower_steady hs)) rfl))
  · exact hs

theorem holdVoteSet_steady {blocks : BitVec 7} (hs : Steady s₀ s) : Steady s₀ (holdVoteSet s blocks) :=
  .ite hs (.foldl voteWins_steady (.when (fun h => uncountCycle_steady (.updSec h rfl)) (.updSec hs rfl)))

theorem holdVoteClear_steady {blocks : BitVec 7} (hs : Steady s₀ s) : Steady s₀ (holdVoteClear s blocks) :=
  .ite hs (windowEnds_steady (applyPending_steady (.updSec hs rfl)))

theorem holdWindowCap_steady (hs : Steady s₀ s) : Steady s₀ (holdWindowCap s) :=
  .ite hs (raise_steady (windowEnds_steady (applyPending_steady (.updSec hs rfl))))

theorem watchdogRestart_steady (hs : Steady s₀ s) : Steady s₀ (watchdogRestart s) := .updSec hs rfl

theorem secureWatchdog_steady (hs : Steady s₀ s) : Steady s₀ (secureWatchdog s) := .ite hs (raise_steady (watchdogRestart_steady hs))

theorem spdmErr_steady {c : BitVec 8} (hs : Steady s₀ s) : Steady s₀ (spdmErr s c) := emit_steady hs

theorem spdmOut_steady {code : BitVec 8} {b : List Byte} (hs : Steady s₀ s) : Steady s₀ (spdmOut s code b) :=
  .ite (emit_steady hs) (spdmErr_steady (.updSec hs rfl))

theorem spdmServes_steady {run : State → State} (hs : Steady s₀ s) (hrun : ∀ {s}, Steady s₀ s → Steady s₀ (run s)) :
    Steady s₀ (spdmServes s run) :=
  .ite (hrun hs) hs

theorem spdmReady_steady {run : State → State} (hs : Steady s₀ s) (hrun : ∀ {s}, Steady s₀ s → Steady s₀ (run s)) :
    Steady s₀ (spdmReady s run) :=
  spdmServes_steady hs (fun h => .ite (hrun h) (spdmErr_steady h))

theorem spdmVersion_steady (hs : Steady s₀ s) : Steady s₀ (spdmVersion s) := spdmServes_steady hs (fun h => spdmOut_steady (.updSec h rfl))

theorem spdmCapabilities_steady (hs : Steady s₀ s) : Steady s₀ (spdmCapabilities s) :=
  spdmServes_steady hs (fun h => .ite (spdmErr_steady h) (spdmOut_steady (.updSec h rfl)))

theorem spdmNegotiate_steady {extAsym extHash : Bool} (hs : Steady s₀ s) : Steady s₀ (spdmNegotiate s extAsym extHash) :=
  spdmServes_steady hs (fun h => .ite (spdmErr_steady h) (.ite (spdmErr_steady h) (spdmOut_steady (.updSec h rfl))))

theorem spdmDigests_steady (hs : Steady s₀ s) : Steady s₀ (spdmDigests s) :=
  spdmReady_steady hs (fun h => .ite (spdmOut_steady h) (spdmErr_steady h))

theorem spdmCertificate_steady {slot offset length : Nat} (hs : Steady s₀ s) : Steady s₀ (spdmCertificate s slot offset length) :=
  spdmReady_steady hs (fun h => .ite (spdmErr_steady h) (.ite (spdmErr_steady h) (spdmOut_steady h)))

theorem spdmChallenge_steady {slot : Nat} {nonce : BitVec 256} (hs : Steady s₀ s) : Steady s₀ (spdmChallenge s slot nonce) :=
  spdmReady_steady hs (fun h => .ite (spdmErr_steady h) (.ite (spdmErr_steady h) (spdmOut_steady (free_steady h))))

theorem spdmMeasurements_steady {op : Nat} {signed : Bool} {nonce : BitVec 256} (hs : Steady s₀ s) :
    Steady s₀ (spdmMeasurements s op signed nonce) := by
  refine spdmReady_steady hs (fun h => ?_)
  exact .ite (spdmErr_steady h) (.ite (spdmErr_steady h) (.ite (spdmOut_steady (free_steady h)) (spdmOut_steady h)))

theorem spdmWhole_steady {b : List Byte} (hs : Steady s₀ s) : Steady s₀ (spdmWhole s b) := by
  unfold spdmWhole
  split
  · exact spdmVersion_steady hs
  · exact spdmCapabilities_steady hs
  · exact spdmNegotiate_steady hs
  · exact spdmDigests_steady hs
  · exact spdmCertificate_steady hs
  · exact spdmChallenge_steady hs
  · exact spdmMeasurements_steady hs
  · exact spdmErr_steady hs

theorem spdmChunkSend_steady {handle : BitVec 8} {seq : Nat} {last : Bool} {b : List Byte} (hs : Steady s₀ s) :
    Steady s₀ (spdmChunkSend s handle seq last b) := by
  refine spdmServes_steady hs (fun h => ?_)
  dsimp only
  split
  · exact spdmErr_steady (.updSec h rfl)
  · exact .fork spdmErr_steady (fun h' => .ite (spdmWhole_steady (emit_steady h')) (emit_steady (.updSec h rfl))) (.updSec h rfl)

theorem spdmChunkGet_steady {handle : BitVec 8} {seq : Nat} (hs : Steady s₀ s) : Steady s₀ (spdmChunkGet s handle seq) := by
  refine spdmServes_steady hs (fun h => ?_)
  split
  · exact .ite (.updSec (emit_steady h) rfl) (spdmErr_steady h)
  · exact spdmErr_steady h

/-! ### Sys2Proof/Machine/Fault.lean -/

theorem reloadBegins_steady {slot : Nat} (hs : Steady s₀ s) : Steady s₀ (reloadBegins s slot) := .upd hs

theorem primerStoreReload_steady {slot : Nat} (hs : Steady s₀ s) : Steady s₀ (primerStoreReload s slot) :=
  runLanes_steady (raiseP_steady (.upd hs))

theorem faultRaise_steady {event cause : Nat} {part : Part} {info : BitVec 128} (hs : Steady s₀ s) :
    Steady s₀ (faultRaise s event cause part info) :=
  .ite (reloadBegins_steady hs) (.ite (raiseP_steady hs) hs)

theorem classAcknowledge_steady {event : Nat} (hs : Steady s₀ s) : Steady s₀ (classAcknowledge s event) :=
  driveAlert_steady (.when .upd (setCls_steady hs))

theorem resetClassAcknowledge_steady (hs : Steady s₀ s) : Steady s₀ (resetClassAcknowledge s) := .upd hs

theorem faultInject_steady {event : Nat} (hs : Steady s₀ s) : Steady s₀ (faultInject s event) := .otherwise raise_steady (.upd hs)

theorem engineHang_steady {e : Fin 60} (hs : Steady s₀ s) : Steady s₀ (engineHang s e) := raiseP_steady hs

theorem fenceEngine_steady {e : Fin 60} (hs : Steady s₀ s) : Steady s₀ (fenceEngine s e) :=
  .ite hs (.fork raiseP_steady raiseP_steady (.upd (.foldl abortMig_steady hs)))

theorem fenceHostMem_steady (hs : Steady s₀ s) : Steady s₀ (fenceHostMem s) := .ite hs (raiseP_steady (.upd hs))

theorem fenceHolder_steady {n : Node} (hs : Steady s₀ s) : Steady s₀ (fenceHolder s n) := .ite hs (.upd hs)

/-! ### Sys2Proof/Machine/Replay.lean -/

theorem revertCache_steady (hs : Steady s₀ s) : Steady s₀ (revertCache s) := .upd (.foldl (fun h => .foldl modPage_steady h) hs)

theorem replayDesc_steady {x : JRec} {d : Desc} (hs : Steady s₀ s) : Steady s₀ (replayDesc s x d) := by
  unfold replayDesc
  split
  · exact .ite hs (modCopy_steady hs)
  · split
    · exact modPage_steady hs
    · exact hs

theorem replayAdd_steady {run : List JRec} {x : JRec} (hs : Steady s₀ s) : Steady s₀ (replayAdd s run x) := by
  unfold replayAdd
  dsimp only
  split
  · exact .ite hs (.upd hs)
  · exact hs

theorem replayRelease_steady {run : List JRec} {x : JRec} (hs : Steady s₀ s) : Steady s₀ (replayRelease s run x) := by
  unfold replayRelease
  split
  · exact .ite hs (finishRelease_steady hs)
  · exact hs

theorem replayOwner_steady {x : JRec} (hs : Steady s₀ s) : Steady s₀ (replayOwner s x) :=
  .ite (.upd hs) (.ite (.upd hs) (.ite hs (.upd hs)))

theorem replayRec_steady {run : List JRec} {x : JRec} (hs : Steady s₀ s) : Steady s₀ (replayRec run s x) := by
  refine .ite (replayDesc_steady hs) ?_
  refine .ite ?_ ?_
  · split
    · exact replayDesc_steady hs
    · exact hs
  · exact .ite (replayAdd_steady hs) (.ite (replayRelease_steady hs) (.ite (.upd hs) (.ite (.upd hs) (.ite (replayOwner_steady hs) hs))))

theorem replayAbort_steady {x : JRec} (hs : Steady s₀ s) : Steady s₀ (replayAbort s x) := by
  unfold replayAbort
  split
  · exact abortMig_steady (.upd hs)
  · exact hs

theorem replayFree_steady {r : Nat} {x : JRec} (hs : Steady s₀ s) : Steady s₀ (replayFree s r x) := .ite hs (sendBlkFree_steady hs)

theorem replayed_steady {r : Nat} {run : List JRec} (hs : Steady s₀ s) : Steady s₀ (replayed s r run) := setRing_steady hs

theorem replayRings_steady {bad : BadSlots} {t : State} (hs : Steady s₀ s) (ht : replayRings s bad = some t) : Steady s₀ t := by
  unfold replayRings at ht
  split at ht <;> cases ht
  refine .foldl replayAbort_steady (.foldl replayFree_steady (.foldl replayFree_steady ?_))
  exact .foldl replayRec_steady (.foldl replayRec_steady (revertCache_steady (replayed_steady (replayed_steady (.foldl raise_steady hs)))))

theorem replayResume_steady (hs : Steady s₀ s) : Steady s₀ (replayResume s) :=
  nearAfterReset_steady (sendDeferred_steady (.upd (.foldl withdrawExtent_steady (.foldl unrelease_steady hs))))

/-! ### Sys2Proof/Machine/Boot.lean -/

theorem flushRecord_steady (hs : Steady s₀ s) : Steady s₀ (flushRecord s) := .upd hs

theorem modRecord_steady {f : BootRec → BootRec} (hs : Steady s₀ s) : Steady s₀ (modRecord s f) := .when flushRecord_steady (.upd hs)

theorem beginStep_steady {k m : Nat} (hs : Steady s₀ s) : Steady s₀ (beginStep s k m) := .upd hs

theorem endEntry_steady {k outcome method cause detail : Nat} (hs : Steady s₀ s) :
    Steady s₀ (endEntry s k outcome method cause detail) := by
  unfold endEntry
  exact modRecord_steady (.upd hs)

theorem passStep_steady {k detail : Nat} (hs : Steady s₀ s) : Steady s₀ (passStep s k detail) := endEntry_steady hs

theorem failStep_steady {k cause : Nat} (hs : Steady s₀ s) : Steady s₀ (failStep s k cause) := raise_steady (.upd (endEntry_steady hs))

theorem lasersOff_steady (hs : Steady s₀ s) : Steady s₀ (lasersOff s) :=
  linksChanged_steady (.foldl (fun h => requeue_steady (dropReplay_steady (modLink_steady h))) hs)

theorem haltBoot_steady {k : Nat} (hs : Steady s₀ s) : Steady s₀ (haltBoot s k) :=
  raise_steady (lasersOff_steady (modRecord_steady (.upd hs)))

theorem conclude_steady (hs : Steady s₀ s) : Steady s₀ (conclude s) := by
  unfold conclude
  split
  · exact hs
  · refine .ite hs ?_
    exact .ite (.ite (haltBoot_steady (raise_steady (.upd hs))) (.upd (modRecord_steady (.upd (.upd hs))))) (haltBoot_steady (.upd hs))

theorem startWave_steady {w : Nat} {alt : Bool} (hs : Steady s₀ s) : Steady s₀ (startWave s w alt) :=
  .foldl (fun h => .otherwise toTraining_steady (.ite (modLink_steady h) h)) (.ite (.upd hs) hs)

theorem endWave_steady {k : Nat} (hs : Steady s₀ s) : Steady s₀ (endWave s k) :=
  .ite (failStep_steady hs) (passStep_steady (joinsLeave_steady hs))

theorem noteSerials_steady {c : Nat} {r : StepReport} (hs : Steady s₀ s) : Steady s₀ (noteSerials s c r) := by
  unfold noteSerials
  exact modCtl_steady (.upd hs)

theorem startChannel_steady {c m : Nat} (hs : Steady s₀ s) : Steady s₀ (startChannel s c m) := by
  refine .ite ?_ ?_
  · exact endEntry_steady (raiseCtl_steady (.upd (channelGoes_steady hs)))
  · exact .otherwise (fun h => setTrn_steady (modCtl_steady h)) (modCtl_steady hs)

theorem endChannel_steady {c : Nat} {r : StepReport} (hs : Steady s₀ s) : Steady s₀ (endChannel s c r) := by
  refine .ite (failStep_steady (raiseCtl_steady hs)) ?_
  refine .ite (endEntry_steady hs) ?_
  exact .fork (fun h => .fork (fun h' => endEntry_steady (raiseCtl_steady h')) passStep_steady (.upd (modCtl_steady h)))
      (fun h => failStep_steady (raiseCtl_steady h)) (modCtl_steady (noteSerials_steady hs))

theorem skipStack_steady {i : Nat} (hs : Steady s₀ s) : Steady s₀ (skipStack s i) :=
  raiseCtl_steady (modCtl_steady (.upd (fenceStack_steady hs)))

theorem startRld_steady (hs : Steady s₀ s) : Steady s₀ (startRld s) := by
  unfold startRld
  split
  · exact .ite (skipStack_steady hs) hs
  · exact hs

theorem endRld_steady {r : StepReport} (hs : Steady s₀ s) : Steady s₀ (endRld s r) := by
  refine .ite ?_ ?_
  · exact failStep_steady (.foldl raiseCtl_steady hs)
  · exact passStep_steady (.upd (.foldl skipStack_steady (.foldl (fun h => .ite h (modCtl_steady h)) hs)))

theorem initialise_steady (hs : Steady s₀ s) : Steady s₀ (initialise s) := ⟨hs.pending, fun _ => rfl, hs.fuses⟩

theorem startEmpty_steady (hs : Steady s₀ s) : Steady s₀ (startEmpty s) := .otherwise .upd (.upd (initialise_steady hs))

theorem tablesReady_steady (hs : Steady s₀ s) : Steady s₀ (tablesReady s) :=
  .ite (reserveChanged_steady (passStep_steady (modRecord_steady hs))) (failStep_steady (raise_steady (modRecord_steady hs)))

theorem endReplay_steady {r : StepReport} (hs : Steady s₀ s) : Steady s₀ (endReplay s r) := by
  refine .ite (tablesReady_steady (startEmpty_steady hs)) (.ite (failStep_steady (raise_steady hs)) ?_)
  split
  · next t heq =>
    have ht : Steady s₀ t := by
      split at heq
      · exact replayRings_steady hs heq
      · cases heq
    exact tablesReady_steady (replayResume_steady ht)
  · exact failStep_steady (raise_steady hs)

theorem endFirmware_steady {r : StepReport} (hs : Steady s₀ s) : Steady s₀ (endFirmware s r) := by
  unfold endFirmware
  dsimp only
  split
  · exact passStep_steady (modRecord_steady (.updSec (ownerCheck_steady (.ite hs (raise_steady hs))) rfl))
  · exact failStep_steady hs

theorem loadImage_steady {n : Nat} {f : FlashSlot} (hs : Steady s₀ s) : Steady s₀ (loadImage s n f) :=
  taggedDomains_steady (.updSec (.upd (.when .upd (.upd (.ite (raise_steady hs) hs)))) rfl)

theorem endImage_steady {r : StepReport} (hs : Steady s₀ s) : Steady s₀ (endImage s r) := by
  unfold endImage
  dsimp only
  split
  · refine passStep_steady ?_
    exact certifyAlias_steady (modRecord_steady (.otherwise raise_steady (loadImage_steady (.when raise_steady (.ite hs (.upd hs))))))
  · exact failStep_steady (.upd (.when raise_steady (.ite hs (.upd hs))))

theorem endFeeds_steady (hs : Steady s₀ s) : Steady s₀ (endFeeds s) := passStep_steady (.when raiseP_steady (.ite (raiseP_steady hs) hs))

theorem carryRecords_steady (hs : Steady s₀ s) : Steady s₀ (carryRecords s) := .ite hs (.foldl register_steady (.upd hs))

theorem readJournal_steady (hs : Steady s₀ s) : Steady s₀ (readJournal s) := by
  refine .ite hs ?_
  split
  · exact .upd hs
  · exact raise_steady hs

theorem newIncarnation_steady (hs : Steady s₀ s) : Steady s₀ (newIncarnation s) := .ite hs (modRecord_steady (.upd hs))

theorem endRom_steady {r : StepReport} (hs : Steady s₀ s) : Steady s₀ (endRom s r) := by
  refine .fork failStep_steady
      (fun h => passStep_steady (.foldl fenceDLane_steady (.foldl fenceCLane_steady (modRecord_steady (.updSec
        (newIncarnation_steady h) rfl)))))
      ?_
  exact readJournal_steady (carryRecords_steady hs)

theorem endJoin_steady {r : StepReport} (hs : Steady s₀ s) : Steady s₀ (endJoin s r) :=
  .ite (passStep_steady hs) (.ite hs (endEntry_steady (raise_steady (.upd hs))))

theorem startSettle_steady (hs : Steady s₀ s) : Steady s₀ (startSettle s) :=
  .ite (endEntry_steady (.upd hs)) (.ite (endEntry_steady (.upd hs)) hs)

theorem wholeMirror_steady (hs : Steady s₀ s) : Steady s₀ (wholeMirror s) := mirrorTo_steady hs

theorem settleMirror_steady {b : Nat} {rep : Option BuddyReport} (hs : Steady s₀ s) : Steady s₀ (settleMirror s b rep) := by
  unfold settleMirror
  split
  · refine .ite (.upd (.upd hs)) ?_
    exact .fork (fun h => .ite h (.upd (buddyBack_steady (mirrorTo_steady (.upd hs))))) (fun h => .ite (.upd hs) h)
        (wholeMirror_steady (.upd hs))
  · exact raise_steady (mirrorTo_steady (.upd hs))
  · exact raise_steady (mirrorTo_steady (.upd hs))
  · exact .when raise_steady (mirrorTo_steady (.upd hs))

theorem endSettle_steady {rep : Option BuddyReport} (hs : Steady s₀ s) : Steady s₀ (endSettle s rep) := by
  unfold endSettle
  split
  · exact passStep_steady hs
  · exact passStep_steady (.upd (settleMirror_steady hs))

theorem memoryActive_steady (hs : Steady s₀ s) : Steady s₀ (memoryActive s) := by
  unfold memoryActive
  exact pump_steady (.foldl sendScope_steady (modRecord_steady (.upd (passStep_steady hs))))

theorem startStep_steady {k : Nat} (hs : Steady s₀ s) : Steady s₀ (startStep s k) := by
  exact .fork .upd
      (fun h => .ite (.ite (.upd (endEntry_steady h)) h) (.ite (.ite (endFeeds_steady h) h) (.ite (.upd h) (.ite (.upd h) (.ite (.ite
        (startRld_steady h) h) (.ite (startChannel_steady h) (.ite (.ite (endEntry_steady h) (startWave_steady h)) (.ite
        (startSettle_steady h) h))))))))
      (.when raise_steady (beginStep_steady hs))

theorem startSteps_steady {n : Nat} (hs : Steady s₀ s) : Steady s₀ (startSteps n s) := by
  induction n generalizing s with
  | zero => exact hs
  | succ n ih =>
    unfold startSteps
    split
    · exact ih (startStep_steady hs)
    · exact hs

theorem bootOn_steady (hs : Steady s₀ s) : Steady s₀ (bootOn s) := conclude_steady (startSteps_steady hs)

theorem bootStepEnd_steady {k : Nat} {r : StepReport} {buddy : Option BuddyReport} (hs : Steady s₀ s) :
    Steady s₀ (bootStepEnd s k r buddy) := by
  refine .ite hs ?_
  refine bootOn_steady ?_
  refine .ite (passStep_steady hs) ?_
  refine .ite ?_ ?_
  · exact .ite (endFeeds_steady hs) (.ite (failStep_steady hs) hs)
  · refine .ite ?_ ?_
    · exact .ite (passStep_steady hs) (failStep_steady hs)
    · refine .ite (endRom_steady hs) ?_
      refine .ite (endFirmware_steady hs) ?_
      refine .ite (endImage_steady hs) ?_
      refine .ite (endRld_steady hs) ?_
      refine .ite (endChannel_steady hs) ?_
      refine .ite (endReplay_steady hs) ?_
      exact .ite (endWave_steady hs) (.ite (endJoin_steady hs) (.ite (endSettle_steady hs) (memoryActive_steady hs)))

theorem settleNow_steady (hs : Steady s₀ s) : Steady s₀ (settleNow s) := .ite (beginStep_steady hs) hs

theorem activeLate_steady (hs : Steady s₀ s) : Steady s₀ (activeLate s) := .ite hs (raise_steady (.upd hs))

theorem bootReset_steady (hs : Steady s₀ s) : Steady s₀ (bootReset s) := .upd hs

theorem bootRetry_steady (hs : Steady s₀ s) : Steady s₀ (bootRetry s) := .ite (.upd hs) hs

theorem clearAlt_steady (hs : Steady s₀ s) : Steady s₀ (clearAlt s) := .upd hs

/-! ### Sys2Proof/Machine/Power.lean -/

theorem setFeed_steady {f : Feed} {r : FeedRec} (hs : Steady s₀ s) : Steady s₀ (setFeed s f r) := by
  unfold setFeed
  split <;> exact .upd hs

theorem modFeed_steady {f : Feed} {g : FeedRec → FeedRec} (hs : Steady s₀ s) : Steady s₀ (modFeed s f g) := setFeed_steady hs

theorem raiseFeed_steady {f : Feed} {cause point was : Nat} (hs : Steady s₀ s) : Steady s₀ (raiseFeed s f cause point was) :=
  raiseP_steady hs

theorem startRamp_steady {f : Feed} (hs : Steady s₀ s) : Steady s₀ (startRamp s f) := modFeed_steady hs

theorem setTest_steady {f : Feed} {b : Bool} (hs : Steady s₀ s) : Steady s₀ (setTest s f b) := by
  unfold setTest
  split <;> exact .upd hs

theorem feedLost_steady {f : Feed} {wasOn : Bool} (hs : Steady s₀ s) : Steady s₀ (feedLost s f wasOn) := by
  refine .when (fun h => raise_steady (.upd (.upd h))) ?_
  exact .when (fun h => startRamp_steady (setTest_steady h)) (.when modFeed_steady (.ite (raise_steady (.upd hs)) hs))

theorem releaseFeed_steady {f : Feed} (hs : Steady s₀ s) : Steady s₀ (releaseFeed s f) :=
  .ite (setFeed_steady hs) (raiseFeed_steady (setFeed_steady hs))

theorem tripFeed_steady {f : Feed} {kind cause point : Nat} (hs : Steady s₀ s) : Steady s₀ (tripFeed s f kind cause point) :=
  .when releaseFeed_steady (feedLost_steady (.ite (raiseFeed_steady (setFeed_steady hs)) (raiseFeed_steady (setFeed_steady hs))))

theorem feedOff_steady {f : Feed} {mv cause : Nat} (hs : Steady s₀ s) : Steady s₀ (feedOff s f mv cause) :=
  .ite (setFeed_steady hs) (feedLost_steady (raiseFeed_steady (setFeed_steady hs)))

theorem feedUndervolt_steady {f : Feed} {mv : Nat} (hs : Steady s₀ s) : Steady s₀ (feedUndervolt s f mv) := .ite (feedOff_steady hs) hs

theorem feedOvervolt_steady {f : Feed} {mv : Nat} (hs : Steady s₀ s) : Steady s₀ (feedOvervolt s f mv) := .ite (feedOff_steady hs) hs

theorem feedPresent_steady {f : Feed} {mv : Nat} (hs : Steady s₀ s) : Steady s₀ (feedPresent s f mv) := by
  refine .ite (.when feedLost_steady (setFeed_steady (.ite (feedUndervolt_steady hs) hs))) ?_
  split
  · exact .ite (setFeed_steady hs) (raiseFeed_steady (setFeed_steady hs))
  · split
    · exact .when releaseFeed_steady (setFeed_steady hs)
    · exact setFeed_steady hs
  · exact setFeed_steady hs

theorem feedWindowEntry_steady {f : Feed} {mv : Nat} (hs : Steady s₀ s) : Steady s₀ (feedWindowEntry s f mv) :=
  .ite hs (.ite (setFeed_steady hs) (setFeed_steady hs))

theorem startWindowExit_steady {f : Feed} {mv : Nat} (hs : Steady s₀ s) : Steady s₀ (startWindowExit s f mv) :=
  .ite hs (.ite (setFeed_steady hs) (setFeed_steady hs))

theorem feedQualified_steady {f : Feed} (hs : Steady s₀ s) : Steady s₀ (feedQualified s f) := .ite (startRamp_steady hs) hs

theorem feedGateFull_steady {f : Feed} {limiting : Bool} (hs : Steady s₀ s) : Steady s₀ (feedGateFull s f limiting) :=
  .ite hs (.when .upd (setFeed_steady hs))

theorem feedPowerGood_steady {f : Feed} (hs : Steady s₀ s) : Steady s₀ (feedPowerGood s f) :=
  .ite hs (bootOn_steady (.when endFeeds_steady (.when (fun h => raiseP_steady (.upd h)) (.upd (setFeed_steady hs)))))

theorem startTimerTrip_steady {f : Feed} (hs : Steady s₀ s) : Steady s₀ (startTimerTrip s f) := .ite (tripFeed_steady hs) hs

theorem breakerSample_steady {f : Feed} {ma : Nat} (hs : Steady s₀ s) : Steady s₀ (breakerSample s f ma) := by
  refine .ite (tripFeed_steady (setFeed_steady hs)) (.ite ?_ (.when setFeed_steady (setFeed_steady hs)))
  dsimp only
  split
  · exact tripFeed_steady (setFeed_steady (setFeed_steady hs))
  · exact setFeed_steady (setFeed_steady hs)

theorem retryWaitExpiry_steady {f : Feed} (hs : Steady s₀ s) : Steady s₀ (retryWaitExpiry s f) :=
  .ite hs (.ite (startRamp_steady hs) (setFeed_steady hs))

theorem tripCountReset_steady {f : Feed} (hs : Steady s₀ s) : Steady s₀ (tripCountReset s f) := .ite (setFeed_steady hs) hs

theorem feedRelease_steady {f : Feed} (hs : Steady s₀ s) : Steady s₀ (feedRelease s f) := releaseFeed_steady hs

theorem feedTest_steady {f : Feed} (hs : Steady s₀ s) : Steady s₀ (feedTest s f) :=
  .ite hs (feedLost_steady (setTest_steady (setFeed_steady hs)))

theorem feedTestEnd_steady {f : Feed} (hs : Steady s₀ s) : Steady s₀ (feedTestEnd s f) := .ite (startRamp_steady (setTest_steady hs)) hs

theorem oringReverse_steady {f : Feed} (hs : Steady s₀ s) : Steady s₀ (oringReverse s f) := .ite (raiseFeed_steady (setFeed_steady hs)) hs

theorem telemetryWindow_steady {f : Feed} {mv ma power : BitVec 16} {energy : BitVec 48} (hs : Steady s₀ s) :
    Steady s₀ (telemetryWindow s f mv ma power energy) :=
  modFeed_steady hs

theorem peakRead_steady {f : Feed} (hs : Steady s₀ s) : Steady s₀ (peakRead s f) := modFeed_steady hs

theorem feedAgrees_steady {f : Feed} (hs : Steady s₀ s) : Steady s₀ (feedAgrees s f) :=
  .ite (.ite (setFeed_steady hs) hs) (.ite hs (feedLost_steady (raiseFeed_steady (setTest_steady (setFeed_steady hs)))))

theorem feedsAgree_steady (hs : Steady s₀ s) : Steady s₀ (feedsAgree s) := feedAgrees_steady (feedAgrees_steady hs)

theorem latchFeed_steady {f : Feed} (hs : Steady s₀ s) : Steady s₀ (latchFeed s f) := .ite hs (feedLost_steady (setFeed_steady hs))

/-! ### Sys2Proof/Machine/Radish.lean -/

theorem putSample_steady {i ix : Nat} {v : ℤ} (hs : Steady s₀ s) : Steady s₀ (putSample s i ix v) := .upd hs

theorem takeSample_steady {x : Sample} (hs : Steady s₀ s) : Steady s₀ (takeSample s x) :=
  .ite hs (.ite (putSample_steady (.when .upd (.upd hs))) (.ite (putSample_steady (.upd hs)) (.ite (putSample_steady hs) hs)))

theorem ownSamples_steady (hs : Steady s₀ s) : Steady s₀ (ownSamples s) :=
  .upd (putSample_steady (putSample_steady (putSample_steady (putSample_steady (putSample_steady (putSample_steady (.upd hs)))))))

theorem radishSample_steady {xs : List Sample} (hs : Steady s₀ s) : Steady s₀ (radishSample s xs) :=
  .upd (ownSamples_steady (.foldl takeSample_steady hs))

theorem relight_steady (hs : Steady s₀ s) : Steady s₀ (relight s) := .foldl (fun h => .ite (sendTrain_steady (setLink_steady h)) h) hs

theorem startWake_steady {cause : BitVec 4} (hs : Steady s₀ s) : Steady s₀ (startWake s cause) :=
  .ite (.upd hs) (.ite hs (.when relight_steady (.upd hs)))

theorem ruleFire_steady {r : Nat} (hs : Steady s₀ s) : Steady s₀ (ruleFire s r) :=
  .ite hs (.when startWake_steady (.otherwise raise_steady (.upd hs)))

theorem dimmTempRead_steady {ts : List ℤ} (hs : Steady s₀ s) : Steady s₀ (dimmTempRead s ts) := .ite (.foldl putSample_steady hs) hs

theorem dozeRanks_steady (hs : Steady s₀ s) : Steady s₀ (dozeRanks s) := .foldl (fun h => .foldl powerDownEntry_steady h) hs

theorem wakeLinks_steady (hs : Steady s₀ s) : Steady s₀ (wakeLinks s) := .foldl modLink_steady hs

theorem enterDoze_steady (hs : Steady s₀ s) : Steady s₀ (enterDoze s) :=
  .upd (dozeRanks_steady (idleLinksDoze_steady (applyNoted_steady hs)))

theorem dozeEntry_steady (hs : Steady s₀ s) : Steady s₀ (dozeEntry s) :=
  .ite hs (.ite (pendPower_steady (.updSec hs rfl)) (enterDoze_steady hs))

theorem dozeResumed_steady (hs : Steady s₀ s) : Steady s₀ (dozeResumed s) := .ite hs (.when enterDoze_steady (.updSec hs rfl))

/-- The update names the secure world from before the links wake, which leave its fuses. -/
theorem dozeUndone_steady {blocks : BitVec 7} (hs : Steady s₀ s) : Steady s₀ (dozeUndone s blocks) :=
  .ite (.updSec (wakeLinks_steady hs) (wakeLinks_steady (.refl s)).fuses.symm) hs

theorem backToRun_steady (hs : Steady s₀ s) : Steady s₀ (backToRun s) := by
  unfold backToRun
  exact pump_steady (.upd (countN_steady (countN_steady (.upd hs))))

theorem dozeExit_steady {c : DozeWake} (hs : Steady s₀ s) : Steady s₀ (dozeExit s c) :=
  .ite hs (backToRun_steady (wakeLinks_steady (applyPower_steady (.upd hs))))

theorem engineWork_steady {run : State → State} (hs : Steady s₀ s) (hrun : ∀ {s}, Steady s₀ s → Steady s₀ (run s)) :
    Steady s₀ (engineWork s run) := by
  unfold engineWork
  split
  · exact hrun hs
  · exact hrun (dozeExit_steady hs)
  · exact hs

theorem clocked_steady {run : State → State} (hs : Steady s₀ s) (hrun : ∀ {s}, Steady s₀ s → Steady s₀ (run s)) :
    Steady s₀ (clocked s run) :=
  .ite hs (hrun hs)

theorem restEntry_steady (hs : Steady s₀ s) : Steady s₀ (restEntry s) :=
  .ite hs (.when startWake_steady (.upd (.foldl modLink_steady (.foldl modCtl_steady hs))))

theorem lightQualified_steady {l : Nat} (hs : Steady s₀ s) : Steady s₀ (lightQualified s l) := .ite hs (startWake_steady (.upd hs))

theorem memoryWakes_steady {from_ : MemSt} (hs : Steady s₀ s) : Steady s₀ (memoryWakes s from_) := .foldl modCtl_steady hs

theorem restExitComplete_steady (hs : Steady s₀ s) : Steady s₀ (restExitComplete s) :=
  .ite hs (sendHeartbeats_steady (backToRun_steady (memoryWakes_steady hs)))

theorem spuriousWakeTimeout_steady (hs : Steady s₀ s) : Steady s₀ (spuriousWakeTimeout s) :=
  .ite hs (raise_steady (.upd (.ite (.upd (.foldl modLink_steady hs)) hs)))

theorem dirWritten_steady (hs : Steady s₀ s) : Steady s₀ (dirWritten s) := .upd hs

theorem deepEntry_steady (hs : Steady s₀ s) : Steady s₀ (deepEntry s) := .ite hs (.upd (.foldl modCtl_steady (dirWritten_steady hs)))

theorem deepExit_steady {c : DeepWake} (hs : Steady s₀ s) : Steady s₀ (deepExit s c) := by
  refine .ite hs ?_
  split
  · exact hs
  · exact sendHeartbeats_steady (backToRun_steady (relight_steady (memoryWakes_steady (.upd hs))))

theorem custodyLostBody_steady (hs : Steady s₀ s) : Steady s₀ (custodyLostBody s) := .ite hs (raise_steady (.upd hs))

theorem vauxOutOfRange_steady {mv : BitVec 16} (hs : Steady s₀ s) : Steady s₀ (vauxOutOfRange s mv) :=
  .ite hs (.otherwise raise_steady (.upd hs))

theorem vauxInRange_steady {mv : BitVec 16} (hs : Steady s₀ s) : Steady s₀ (vauxInRange s mv) := .ite (bootOn_steady (.upd hs)) hs

theorem refclkLostBody_steady (hs : Steady s₀ s) : Steady s₀ (refclkLostBody s) := .ite hs (raise_steady (.upd hs))

theorem getStateBody_steady (hs : Steady s₀ s) : Steady s₀ (getStateBody s) := emit_steady hs

theorem getRecordsBody_steady (hs : Steady s₀ s) : Steady s₀ (getRecordsBody s) := emit_steady hs

theorem getSenseBody_steady {i ix : Nat} (hs : Steady s₀ s) : Steady s₀ (getSenseBody s i ix) := emit_steady hs

theorem smbusOther_steady {code : Nat} (hs : Steady s₀ s) : Steady s₀ (smbusOther s code) := .ite hs (emit_steady hs)

/-! ### Sys2Proof/Machine/Reset.lean -/

theorem unsynced_steady {p : Nat} (hs : Steady s₀ s) : Steady s₀ (unsynced s p) := .ite (.upd hs) hs

theorem drainEnt_steady {x : SinkEnt} (hs : Steady s₀ s) : Steady s₀ (drainEnt s x) := by
  refine .ite hs (.ite ?_ (.ite hs (.ite ?_ ?_)))
  · split
    · exact writeCopyLine_steady hs
    · exact hs
  · exact .when (.getD (populateFrame_steady (exposePage_steady hs))) (exposePage_steady hs)
  · exact .when (fun h => unsynced_steady (.upd h)) (.fork placeLine_steady placeNear_steady
      (.when (.getD (populateFrame_steady (exposePage_steady hs))) (exposePage_steady hs)))

theorem drainSink_steady (hs : Steady s₀ s) : Steady s₀ (drainSink s) := .upd (.foldl drainEnt_steady hs)

theorem dropRewrites_steady (hs : Steady s₀ s) : Steady s₀ (dropRewrites s) := by
  refine .foldl (fun h => ?_) hs
  split
  · exact leaseDrop_steady h
  · exact h

theorem keepDirty_steady {key : Nat} {v : Line × Bool} {fromHost : Bool} (hs : Steady s₀ s) : Steady s₀ (keepDirty s key v fromHost) := by
  unfold keepDirty
  split
  · exact .ite hs (nearPut_steady hs)
  · exact nearPut_steady hs

theorem keepNear_steady (hs : Steady s₀ s) : Steady s₀ (keepNear s) := by
  refine .upd (.foldl keepDirty_steady (.foldl (fun h => ?_) hs))
  split
  · exact keepDirty_steady h
  · exact h

theorem resetChd_steady (hs : Steady s₀ s) : Steady s₀ (resetChd s) := .upd (.foldl unsynced_steady (dropRewrites_steady hs))

theorem resetCoh_steady (hs : Steady s₀ s) : Steady s₀ (resetCoh s) := .upd (keepNear_steady hs)

theorem resetE2e_steady (hs : Steady s₀ s) : Steady s₀ (resetE2e s) := .upd hs

theorem resetFab_steady (hs : Steady s₀ s) : Steady s₀ (resetFab s) := .upd hs

theorem resetRest_steady (hs : Steady s₀ s) : Steady s₀ (resetRest s) := .upd hs

theorem resetHost_steady (hs : Steady s₀ s) : Steady s₀ (resetHost s) := .updSec hs rfl

theorem resetPower_steady (hs : Steady s₀ s) : Steady s₀ (resetPower s) := releaseFeed_steady (releaseFeed_steady (.upd hs))

theorem resetUnits_steady {custody : Bool} (hs : Steady s₀ s) : Steady s₀ (resetUnits s custody) := by
  refine resetHost_steady ?_
  refine resetFab_steady ?_
  exact resetE2e_steady (resetCoh_steady (resetChd_steady (resetPower_steady (resetRest_steady (.upd (drainSink_steady hs))))))

theorem newStart_steady {cause : BitVec 4} {custody : Bool} {carried : List Nat} (hs : Steady s₀ s) :
    Steady s₀ (newStart s cause custody carried) :=
  .upd (.ite (modRecord_steady hs) hs)

theorem resettingBeats_steady (hs : Steady s₀ s) : Steady s₀ (resettingBeats s) :=
  .foldl (fun h => .ite (frameSendBody_steady (sendOnLink_steady (modLink_steady h))) h) hs

theorem deviceResetBody_steady {cause : BitVec 4} (hs : Steady s₀ s) : Steady s₀ (deviceResetBody s cause) :=
  .ite hs (bootOn_steady (driveAlert_steady (newStart_steady (resetUnits_steady (resettingBeats_steady hs)))))

theorem collapseBody_steady (hs : Steady s₀ s) : Steady s₀ (collapseBody s) :=
  .ite hs (.when (fun h => bootOn_steady (newStart_steady h)) (resetUnits_steady (custodyLostBody_steady hs)))

theorem latchBody_steady (hs : Steady s₀ s) : Steady s₀ (latchBody s) :=
  driveAlert_steady (.upd (resetUnits_steady (lasersOff_steady (.upd hs))))

theorem powerOnResetBody_steady (hs : Steady s₀ s) : Steady s₀ (powerOnResetBody s) :=
  driveAlert_steady ⟨hs.pending, fun _ => rfl, hs.fuses⟩

theorem offCheck_steady (hs : Steady s₀ s) : Steady s₀ (offCheck s) := .ite (powerOnResetBody_steady hs) hs

theorem quietHost_steady (hs : Steady s₀ s) : Steady s₀ (quietHost s) := .upd hs

theorem withdrawPending_steady (hs : Steady s₀ s) : Steady s₀ (withdrawPending s) := .foldl withdrawExtent_steady hs

theorem cxlStateReset_steady (hs : Steady s₀ s) : Steady s₀ (cxlStateReset s) :=
  hostCopiesGone_steady (.updSec (withdrawPending_steady hs) rfl)

theorem hostConventionalResetBody_steady {kind : HostResetKind} (hs : Steady s₀ s) : Steady s₀ (hostConventionalResetBody s kind) := by
  refine .ite hs (.when raise_steady (cxlStateReset_steady ?_))
  split
  · exact .upd (.upd (quietHost_steady hs))
  · exact .upd (quietHost_steady hs)

theorem cxlResetBody_steady (hs : Steady s₀ s) : Steady s₀ (cxlResetBody s) := .ite hs (raise_steady (cxlStateReset_steady hs))

theorem perstFilteredBody_steady {asserted : Bool} (hs : Steady s₀ s) : Steady s₀ (perstFilteredBody s asserted) := .ite (.upd hs) (.upd hs)

/-! ### Sys2Proof/Machine/Regs.lean -/

theorem writeMsix_steady {off : Nat} {w : RegW} (hs : Steady s₀ s) : Steady s₀ (writeMsix s off w) :=
  .ite (modMsix_steady hs) (flushMsix_steady (modMsix_steady hs))

theorem writeGen_steady {o : Nat} {w : RegW} (hs : Steady s₀ s) : Steady s₀ (writeGen s o w) :=
  .ite (.upd hs) (.ite (writeMsix_steady hs) hs)

theorem writeChd_steady {o : Nat} {w : RegW} (hs : Steady s₀ s) : Steady s₀ (writeChd s o w) := .ite (.upd hs) hs

theorem primerRetire_steady {n : Nat} (hs : Steady s₀ s) : Steady s₀ (primerRetire s n) := .ite hs (.when raiseP_steady (.upd hs))

theorem primerKeep_steady {n : Nat} (hs : Steady s₀ s) : Steady s₀ (primerKeep s n) := .upd hs

theorem writeTrial_steady {p : Nat} {w : RegW} (hs : Steady s₀ s) : Steady s₀ (writeTrial s p w) := .upd hs

theorem writeCmp_steady {o : Nat} {w : RegW} (hs : Steady s₀ s) : Steady s₀ (writeCmp s o w) :=
  .ite (.ite (primerRetire_steady hs) (primerKeep_steady hs)) (.ite (writeTrial_steady hs) hs)

theorem writeXts_steady {o : Nat} {w : RegW} (hs : Steady s₀ s) : Steady s₀ (writeXts s o w) := .ite (.upd hs) hs

theorem cohCtrlWrite_steady {w : RegW} (hs : Steady s₀ s) : Steady s₀ (cohCtrlWrite s w) :=
  .when predClearBody_steady (.when hostFlushedBody_steady (.upd hs))

theorem cohNackWrite_steady {w : RegW} (hs : Steady s₀ s) : Steady s₀ (cohNackWrite s w) := .upd hs

theorem writeCoh_steady {o : Nat} {w : RegW} (hs : Steady s₀ s) : Steady s₀ (writeCoh s o w) :=
  .ite (cohCtrlWrite_steady hs) (.ite (cohNackWrite_steady hs) hs)

theorem fabCtrlWrite_steady {w : RegW} (hs : Steady s₀ s) : Steady s₀ (fabCtrlWrite s w) :=
  .when leave_steady (.when rejoin_steady (.upd hs))

theorem e2eCtrlWrite_steady {w : RegW} (hs : Steady s₀ s) : Steady s₀ (e2eCtrlWrite s w) := .ite hs (.upd hs)

theorem writeFab_steady {o : Nat} {w : RegW} (hs : Steady s₀ s) : Steady s₀ (writeFab s o w) :=
  .ite (.upd hs) (.ite (fabCtrlWrite_steady hs) (.ite (.upd hs) (.ite (e2eCtrlWrite_steady hs) hs)))

theorem lnkCtrlWrite_steady {l : Nat} {w : RegW} (hs : Steady s₀ s) : Steady s₀ (lnkCtrlWrite s l w) :=
  .when linkReset_steady (.when linkRetrain_steady (.otherwise linkHold_steady (.ite (linkClear_steady hs) hs)))

theorem lnkTimersWrite_steady {l : Nat} {w : RegW} (hs : Steady s₀ s) : Steady s₀ (lnkTimersWrite s l w) := by
  unfold lnkTimersWrite
  exact modLink_steady hs

theorem writeLnk_steady {l o : Nat} {w : RegW} (hs : Steady s₀ s) : Steady s₀ (writeLnk s l o w) :=
  .ite (lnkCtrlWrite_steady hs) (.ite (lnkTimersWrite_steady hs) hs)

theorem writeQos_steady {o : Nat} {w : RegW} (hs : Steady s₀ s) : Steady s₀ (writeQos s o w) :=
  .ite (qosCtrlWrite_steady hs) (.ite (shapeWrite_steady hs) (.ite (policeWrite_steady hs) hs))

theorem memPortWrite_steady {n p : Nat} {w : RegW} (hs : Steady s₀ s) : Steady s₀ (memPortWrite s n p w) := .ite hs (modCtl_steady hs)

theorem memRefreshWrite_steady {n : Nat} {w : RegW} (hs : Steady s₀ s) : Steady s₀ (memRefreshWrite s n w) := .ite hs (modCtl_steady hs)

theorem memPowerWrite_steady {n : Nat} {w : RegW} (hs : Steady s₀ s) : Steady s₀ (memPowerWrite s n w) := by
  unfold memPowerWrite
  exact modCtl_steady hs

theorem writeCtl_steady {n o : Nat} {w : RegW} (hs : Steady s₀ s) : Steady s₀ (writeCtl s n o w) :=
  .ite (memSchedWrite_steady hs) (.ite (memPortWrite_steady hs) (.ite (memRefreshWrite_steady hs) (.ite (memPowerWrite_steady hs) hs)))

theorem trnCtrlWrite_steady {c : Nat} {w : RegW} (hs : Steady s₀ s) : Steady s₀ (trnCtrlWrite s c w) :=
  .when trnStart_steady (setTrn_steady hs)

theorem trnDelayWrite_steady {c : Nat} {w : RegW} (hs : Steady s₀ s) : Steady s₀ (trnDelayWrite s c w) := setTrn_steady hs

theorem writeTrn_steady {c o : Nat} {w : RegW} (hs : Steady s₀ s) : Steady s₀ (writeTrn s c o w) :=
  .ite hs (.ite (trnCtrlWrite_steady hs) (.ite (setTrn_steady hs) (.ite (trnDelayWrite_steady hs) (.ite (setTrn_steady hs) hs))))

theorem eccCtrlWrite_steady {w : RegW} (hs : Steady s₀ s) : Steady s₀ (eccCtrlWrite s w) := .upd hs

theorem writeEcc_steady {o : Nat} {w : RegW} (hs : Steady s₀ s) : Steady s₀ (writeEcc s o w) := .ite (eccCtrlWrite_steady hs) hs

theorem eccLastRead_steady (hs : Steady s₀ s) : Steady s₀ (eccLastRead s) := .upd hs

theorem fltInjectWrite_steady {w : RegW} (hs : Steady s₀ s) : Steady s₀ (fltInjectWrite s w) := .ite (faultInject_steady hs) (.upd hs)

theorem writeFlt_steady {o : Nat} {w : RegW} (hs : Steady s₀ s) : Steady s₀ (writeFlt s o w) := by
  refine .ite (.ite (resetClassAcknowledge_steady hs) hs) ?_
  exact .ite (.upd hs) (.ite (fltInjectWrite_steady hs) (.ite (.ite (classAcknowledge_steady hs) hs) hs))

theorem writePwr_steady {o : Nat} {w : RegW} (hs : Steady s₀ s) : Steady s₀ (writePwr s o w) :=
  .ite (.when feedTest_steady (.when feedTest_steady (.when feedRelease_steady (.ite (feedRelease_steady hs) hs)))) hs

theorem writeAon_steady {o : Nat} {w : RegW} (hs : Steady s₀ s) : Steady s₀ (writeAon s o w) :=
  .ite (.ite (.upd hs) hs) (.ite (.upd hs) (.ite (.upd hs) hs))

theorem bootCtrlWrite_steady {w : RegW} (hs : Steady s₀ s) : Steady s₀ (bootCtrlWrite s w) :=
  .fork bootRetry_steady (fun h => .ite (bootReset_steady h) h) (.ite (clearAlt_steady hs) hs)

theorem writeBoot_steady {o : Nat} {w : RegW} (hs : Steady s₀ s) : Steady s₀ (writeBoot s o w) :=
  .ite (bootCtrlWrite_steady hs) (.ite (.upd hs) hs)

theorem pmcOvfWrite_steady {i : Nat} {w : RegW} (hs : Steady s₀ s) : Steady s₀ (pmcOvfWrite s i w) := rewriteCtrs_steady hs

theorem pmcSelWrite_steady {n : Nat} {w : RegW} (hs : Steady s₀ s) : Steady s₀ (pmcSelWrite s n w) := .upd hs

theorem writePmc_steady {o : Nat} {w : RegW} (hs : Steady s₀ s) : Steady s₀ (writePmc s o w) := by
  refine .ite (.when pmcClear_steady (.upd hs)) ?_
  exact .ite (pmcOvfWrite_steady hs) (.ite (pmcCtrWrite_steady hs) (.ite (pmcSelWrite_steady hs) (.ite (pmcUpageWrite_steady hs) hs)))

theorem secSubmit_kept (s : State) (op n : Nat) : Kept s (secSubmit s op n) := by
  have hs := Steady.refl s
  unfold secSubmit
  dsimp only
  refine .ite (fun _ => (secChallenge_steady hs).kept) fun _ => .ite (fun _ => (secEnrol_steady hs).kept) fun _ =>
    .ite (fun _ => (secRelease_steady hs).kept) fun _ => .ite (fun _ => (secKeySupply_steady hs).kept) fun _ =>
    .ite (fun _ => (secTransportKey_steady hs).kept) fun _ => .ite (fun _ => secSvnRaise_kept s _) fun _ => ?_
  exact .ite (fun _ => (secBuddyPair_steady hs).kept) fun _ => .ite (fun _ => (secInfo_steady hs).kept) fun _ =>
    (secUnknown_steady hs).kept

theorem writeSec_kept (s : State) (o : Nat) (w : RegW) : Kept s (writeSec s o w) := by
  have hsec {x : SecState} (h : (x.secured, x.lotId, x.imgFloor, x.fwFloor) = (s.sec.secured, s.sec.lotId, s.sec.imgFloor, s.sec.fwFloor)) :
      Kept s { s with sec := x } := Steady.kept ⟨rfl, id, h⟩
  unfold writeSec
  refine .ite (fun _ => ?_) fun _ => .ite (fun _ => ?_) fun _ => .ite (fun _ => ?_) fun _ => .refl s
  · refine .ite (fun _ => .trans ?_ (secSubmit_kept _ _ _)) fun _ => ?_
    · exact hsec rfl
    · exact hsec rfl
  · refine .ite (fun _ => ?_) fun _ => .refl s
    exact hsec rfl
  · refine .ite (fun _ => .refl s) fun _ => ?_
    exact hsec rfl

/-- A register write keeps; only SEC_CMD can raise a floor, by SVN_RAISE (R511, R522). -/
theorem regWrite_kept (s : State) (o : Nat) (w : RegW) : Kept s (regWrite s o w) := by
  have hs := Steady.refl s
  unfold regWrite
  dsimp only
  refine .ite (fun _ => (writeGen_steady hs).kept) fun _ => .ite (fun _ => (writeChd_steady hs).kept) fun _ =>
    .ite (fun _ => (writeCmp_steady hs).kept) fun _ => .ite (fun _ => (writeXts_steady hs).kept) fun _ =>
    .ite (fun _ => (writeCoh_steady hs).kept) fun _ => .ite (fun _ => (writeFab_steady hs).kept) fun _ =>
    .ite (fun _ => (writeLnk_steady hs).kept) fun _ => .ite (fun _ => (writeQos_steady hs).kept) fun _ =>
    .ite (fun _ => (Steady.ite (writeTrn_steady hs) (writeCtl_steady hs)).kept) fun _ =>
    .ite (fun _ => (writeCtl_steady hs).kept) fun _ => .ite (fun _ => (writeEcc_steady hs).kept) fun _ => ?_
  exact .ite (fun _ => (writeFlt_steady hs).kept) fun _ => .ite (fun _ => (writePwr_steady hs).kept) fun _ =>
    .ite (fun _ => (writeAon_steady hs).kept) fun _ => .ite (fun _ => (writeBoot_steady hs).kept) fun _ =>
    .ite (fun _ => (writePmc_steady hs).kept) fun _ => .ite (fun _ => writeSec_kept s _ w) fun _ => .refl s

theorem registerWriteBody_kept (s : State) (off : Nat) (wide : Bool) (value : Word) : Kept s (registerWriteBody s off wide value) :=
  .ite (fun _ => .refl s) fun _ => regWrite_kept s _ _

/-! ### Sys2Proof/Machine/Reaction.lean -/

theorem fencePart_steady {a : Part} (hs : Steady s₀ s) : Steady s₀ (fencePart s a) := by
  unfold fencePart
  split
  · exact hs
  · exact holdLink_steady hs
  · exact fenceChannel_steady hs
  · exact fenceStack_steady hs
  · exact fenceCLane_steady hs
  · exact fenceDLane_steady hs
  · exact fenceHolder_steady hs
  · exact fencePage_steady hs
  · exact hs
  · exact fenceHostMem_steady hs
  · exact latchFeed_steady hs
  · exact fenceEngine_steady hs

theorem react_steady {a : Reaction} (hs : Steady s₀ s) : Steady s₀ (react s a) := by
  unfold react
  split
  · exact fencePart_steady hs
  · exact deviceResetBody_steady hs
  · exact latchBody_steady hs
  · exact collapseBody_steady hs

theorem reactAll_steady {n : Nat} (hs : Steady s₀ s) : Steady s₀ (reactAll n s) := by
  induction n generalizing s with
  | zero => exact hs
  | succ n ih =>
    unfold reactAll
    split
    · exact hs
    · exact ih (react_steady (.upd hs))

theorem settle_steady (hs : Steady s₀ s) : Steady s₀ (settle s) := settleNow_steady (reactAll_steady (devloadSet_steady hs))

theorem work_steady (hs : Steady s₀ s) : Steady s₀ (work s) :=
  settle_steady (pump_steady (tagTablesGo_steady (retireKeys_steady (afterMig_steady (reactAll_steady hs)))))

/-! ### Sys2Proof/Machine/Reply.lean -/

theorem imageCame_steady {tx : E2E} {p b : Nat} {img : List Byte} {use lost : State → State}
    (hs : Steady s₀ s) (huse : ∀ {s}, Steady s₀ s → Steady s₀ (use s)) (hlost : ∀ {s}, Steady s₀ s → Steady s₀ (lost s)) :
    Steady s₀ (imageCame s tx p b img use lost) := by
  unfold imageCame
  dsimp only
  split
  · exact huse (remoteTag_steady hs)
  · exact sendBlkRead_steady (remoteTag_steady hs)
  · exact hlost (remoteTag_steady hs)

theorem fillArrived_steady {k : Nat} {tx : E2E} {dec : DecOutcome} (hs : Steady s₀ s) : Steady s₀ (fillArrived s k tx dec) := by
  refine .ite ?_ ?_
  · exact .ite (blockThere_steady (.upd hs)) (blockThere_steady (startFill_steady (.upd hs)))
  · refine .ite (fillDone_steady hs) ?_
    refine .ite ?_ ?_
    · exact fillRead_steady (remoteBytes_steady (.foldl poisonOne_steady hs))
    · exact imageCame_steady hs (fun h => fillRead_steady (remoteBytes_steady h)) fillDone_steady

theorem migPods_steady {p b : Nat} {tx : E2E} {dec : DecOutcome} (hs : Steady s₀ s) : Steady s₀ (migPods s p b tx dec) :=
  .ite (imageCame_steady hs migArrived_steady migBlockLost_steady) (.ite (migArrived_steady (migBad_steady hs)) (migBlockLost_steady hs))

theorem evictDropped_steady {p : Nat} (hs : Steady s₀ s) : Steady s₀ (evictDropped s p) := by
  unfold evictDropped
  split
  · exact hs
  · exact postCand_steady (setEvicting_steady (.upd hs))

theorem bulkDone_steady {tx : E2E} {dec : DecOutcome} (hs : Steady s₀ s) : Steady s₀ (bulkDone s tx dec) := by
  unfold bulkDone
  split
  · exact fillArrived_steady hs
  · exact migPods_steady hs
  · refine .ite (linesLost_steady (evictDropped_steady hs)) ?_
    exact imageCame_steady hs evictFetched_steady (fun h => linesLost_steady (evictDropped_steady h))
  · refine .ite (copyStep_steady (poisonBlock_steady hs)) ?_
    exact imageCame_steady hs mirrorFetched_steady (fun h => copyStep_steady (poisonBlock_steady h))
  · exact repairCheck_steady (buddyLines_steady hs)
  · exact hs

theorem gather_steady {key : Nat} {tx : E2E} {vers pod : Nat} {v : Line × Bool} {dec : DecOutcome} (hs : Steady s₀ s) :
    Steady s₀ (gather s key tx vers pod v dec) :=
  .ite (lateResponse_steady hs) (.ite (.upd hs) (bulkDone_steady (closeTx_steady hs)))

theorem dataBody_steady {tag : Tag} {src : Nat} {poison contended dirty hostDirty : Bool} {vers pod : Nat} {value : Line} {dec : DecOutcome}
    (hs : Steady s₀ s) : Steady s₀ (dataBody s tag src poison contended dirty hostDirty vers pod value dec) := by
  refine .ite (consumeTag_steady hs) ?_
  split
  · exact lateResponse_steady (consumeTag_steady hs)
  · split
    · exact snoopAnswered_steady (closeTx_steady (consumeTag_steady hs))
    · exact reqGranted_steady (closeTx_steady (consumeTag_steady hs))
    · exact reqAtomic_steady (closeTx_steady (consumeTag_steady hs))
    · exact .ite (gather_steady (consumeTag_steady hs)) (lateResponse_steady (consumeTag_steady hs))

theorem dataOwnedBody_steady {tag : Tag} {src : Nat} {poison contended : Bool} {value : Line} (hs : Steady s₀ s) :
    Steady s₀ (dataOwnedBody s tag src poison contended value) := by
  refine .ite (consumeTag_steady hs) ?_
  split
  · exact lateResponse_steady (consumeTag_steady hs)
  · split
    · exact reqGranted_steady (closeTx_steady (consumeTag_steady hs))
    · exact lateResponse_steady (consumeTag_steady hs)

theorem freeAcked_steady {r seq : Nat} {tx : E2E} (hs : Steady s₀ s) : Steady s₀ (freeAcked s r seq tx) :=
  leaseReturnCheck_steady (leaseFreed_steady (jwrite_steady hs))

theorem holderRefused_steady {tx : E2E} {p status : Nat} (hs : Steady s₀ s) : Steady s₀ (holderRefused s tx p status) := raiseP_steady hs

theorem cmpActs_steady {tag : Tag} {src status : Nat} {contended : Bool} {tx : E2E} (hs : Steady s₀ s) :
    Steady s₀ (cmpActs s tag src status contended tx) := by
  unfold cmpActs
  split
  · exact snoopAnswered_steady hs
  · exact scopeDone_steady hs
  · split
    · exact .ite (reqWritten_steady hs) (reqDenied_steady hs)
    · exact hs
  · exact .ite (reqAtomic_steady (free_steady hs)) (reqDenied_steady hs)
  · exact reqEvicted_steady hs
  · exact bulkDone_steady (holderRefused_steady hs)
  · exact bulkDone_steady (holderRefused_steady hs)
  · exact bulkDone_steady (holderRefused_steady hs)
  · exact bulkDone_steady (holderRefused_steady hs)
  · exact bulkDone_steady hs
  · exact .otherwise stopMig_steady (migAcked_steady hs)
  · exact .ite (evictAcked_steady hs) (evictDropped_steady hs)
  · exact freeAcked_steady hs
  · exact mirrorAnswered_steady hs
  · exact reserveAnswered_steady hs
  · exact hs
  · exact hs
  · exact envelopeAnswered_steady hs
  · exact .ite (pageAnswered_steady hs) (handBack_steady hs)
  · exact .ite (copyStep_steady hs) (handBack_steady hs)

theorem cmpBody_steady {tag : Tag} {src status : Nat} {contended : Bool} {vers : Nat} (hs : Steady s₀ s) :
    Steady s₀ (cmpBody s tag src status contended vers) := by
  refine .otherwise (fun h => .ite (.ite (snoopDataAcked_steady h) (grantAcked_steady h)) ?_) (consumeTag_steady hs)
  split
  · exact lateResponse_steady h
  · exact .ite (lateResponse_steady h) (cmpActs_steady (closeTx_steady h))

theorem nackRetryBody_steady {tag : Tag} {cause hint : Nat} (hs : Steady s₀ s) : Steady s₀ (nackRetryBody s tag cause hint) := by
  refine .ite (consumeTag_steady hs) ?_
  split
  · exact lateResponse_steady (consumeTag_steady hs)
  · exact .otherwise (fun h => .upd (.ite (raise_steady h) h)) (consumeTag_steady hs)

theorem nackExpiryBody_steady {key : Nat} (hs : Steady s₀ s) : Steady s₀ (nackExpiryBody s key) := by
  unfold nackExpiryBody
  split
  · exact hs
  · exact .ite hs (resend_steady (.upd hs))

theorem evictInFlightBody_steady {tag : Tag} (hs : Steady s₀ s) : Steady s₀ (evictInFlightBody s tag) := by
  refine .ite (consumeTag_steady hs) ?_
  split
  · split
    · exact snoopAnswered_steady (closeTx_steady (consumeTag_steady hs))
    · exact lateResponse_steady (consumeTag_steady hs)
  · exact lateResponse_steady (consumeTag_steady hs)

theorem evictAckBody_steady {tag : Tag} (hs : Steady s₀ s) : Steady s₀ (evictAckBody s tag) := by
  refine .ite (consumeTag_steady hs) ?_
  split
  · split
    · exact reqEvicted_steady (closeTx_steady (consumeTag_steady hs))
    · exact lateResponse_steady (consumeTag_steady hs)
  · exact lateResponse_steady (consumeTag_steady hs)

theorem e2eTimeoutBody_steady {key : Nat} (hs : Steady s₀ s) : Steady s₀ (e2eTimeoutBody s key) := by
  unfold e2eTimeoutBody
  split
  · exact hs
  · refine .fork ownerLost_steady timeoutTx_steady ?_
    split
    · exact .ite hs (mirrorLate_steady hs)
    · exact hs

/-! ### Sys2Proof/Machine/Arrive.lean -/

theorem arrive_steady {cls op : Nat} {t : Tag} {act : State → State} (hs : Steady s₀ s) (hact : ∀ {s}, Steady s₀ s → Steady s₀ (act s)) :
    Steady s₀ (arrive s cls op t act) :=
  .ite (consumeTag_steady hs) (hact (active_steady (consumeTag_steady hs)))

theorem snpArrives_steady {op : Nat} {tag : Tag} {act : State → State} (hs : Steady s₀ s) (hact : ∀ {s}, Steady s₀ s → Steady s₀ (act s)) :
    Steady s₀ (snpArrives s op tag act) :=
  arrive_steady hs (fun h => .ite (hact h) (respondNack_steady h))

theorem snpInvBody_steady {tag : Tag} {line : Nat} {scope : Scope} {grant : Tag} (hs : Steady s₀ s) :
    Steady s₀ (snpInvBody s tag line scope grant) := by
  refine snpArrives_steady hs (fun h => ?_)
  split
  · exact snoopLine_steady h
  · exact snoopScope_steady h
  · exact snoopScope_steady h

theorem snpBody_steady {op : Nat} {tag : Tag} {line : Nat} (hs : Steady s₀ s) : Steady s₀ (snpBody s op tag line) :=
  snpArrives_steady hs snoopLine_steady

theorem evictArrives_steady {h : ReqHdr} {line : Nat} (hs : Steady s₀ s) : Steady s₀ (evictArrives s h line) :=
  .ite hs (arrive_steady hs writeback_steady)

theorem wbDirtyArrives_steady {h : ReqHdr} {line : Nat} {v : Line × Bool} (hs : Steady s₀ s) : Steady s₀ (wbDirtyArrives s h line v) :=
  .ite hs (arrive_steady hs writeback_steady)

theorem mirrorArrives_steady {op : Nat} {h : ReqHdr} {act : State → State}
    (hs : Steady s₀ s) (hact : ∀ {s}, Steady s₀ s → Steady s₀ (act s)) : Steady s₀ (mirrorArrives s op h act) :=
  arrive_steady hs (fun h => .ite (hact h) (respondNack_steady h))

theorem takeIn_steady {a : Instr} (hs : Steady s₀ s) : Steady s₀ (takeIn s a) := by
  unfold takeIn
  split
  · exact peerRequest_steady hs
  · exact peerRequest_steady hs
  · exact peerRequest_steady hs
  · exact peerRequest_steady hs
  · exact peerRequest_steady hs
  · exact snpInvBody_steady hs
  · exact snpBody_steady hs
  · exact snpBody_steady hs
  · exact evictArrives_steady hs
  · exact wbDirtyArrives_steady hs
  · exact blkReadBody_steady hs
  · exact blkWriteBody_steady hs
  · exact blkFreeBody_steady hs
  · exact mirrorArrives_steady hs mirrorWriteAt_steady
  · exact mirrorArrives_steady hs mirrorReserve_steady
  · exact mirrorArrives_steady hs mirrorUnreserve_steady
  · exact mirrorArrives_steady hs mirrorFreeAt_steady
  · exact mirrorArrives_steady hs mirrorReadAt_steady
  · exact mirrorArrives_steady hs mirrorPageAt_steady
  · exact mirrorArrives_steady hs mirrorPodAt_steady
  · exact hs

theorem inRun_steady {i : Instr} (hs : Steady s₀ s) : Steady s₀ (inRun s i) := .ite (takeIn_steady hs) (.upd hs)

theorem serveHeld_steady (hs : Steady s₀ s) : Steady s₀ (serveHeld s) := .ite (.foldl takeIn_steady (.upd hs)) hs

theorem biConflictBody_steady {dpa : Nat} (hs : Steady s₀ s) : Steady s₀ (biConflictBody s dpa) := emit_steady hs

end Sys2Proof.Proofs.Fuses
end

section
/-! SUPPORT. The invariant of the block, from the lemmas about its functions: every command answers a next state, and keeps. -/

namespace Sys2Proof.Proofs.StepLemma
open Sys2Proof Sys2Proof.Machine Sys2Proof.Safety Sys2Proof.Proofs.Fuses
variable {s t : State}

/-- The outcome is a next state, and it keeps. -/
def Answers (s : State) (o : Host.Outcome State Fault Refusal) : Prop := ∃ t, o = .next t ∧ Kept s t

theorem kept_settle (h : Kept s t) : Answers s (.next (settle t)) := ⟨_, rfl, h.trans (settle_steady (.refl t)).kept⟩

theorem kept_work (h : Kept s t) : Answers s (.next (work t)) := ⟨_, rfl, h.trans (work_steady (.refl t)).kept⟩

theorem steady_settle (h : Steady s t) : Answers s (.next (settle t)) := kept_settle h.kept

theorem steady_work (h : Steady s t) : Answers s (.next (work t)) := kept_work h.kept

/-- Every command of the table answers a next state, in every state, and keeps (R3, R511). -/
theorem exec_answers (c : Instr) (s : State) : Answers s (exec c s) := by
  have hs : Steady s s := .refl s
  cases c with
  | powerOnReset => exact steady_settle (powerOnResetBody_steady hs)
  | deviceReset => exact steady_settle (deviceResetBody_steady hs)
  | hostConventionalReset => exact steady_work (hostConventionalResetBody_steady hs)
  | cxlReset => exact steady_work (cxlResetBody_steady hs)
  | linkReset => exact steady_settle (linkReset_steady hs)
  | perstFiltered => exact steady_settle (perstFilteredBody_steady hs)
  | memRd => exact steady_work (memRdBody_steady hs)
  | memWr => exact steady_work (memWrBody_steady hs)
  | memDataReturn => exact steady_work (memDataReturnBody_steady hs)
  | bucketLeak => exact steady_settle (bucketLeak_steady hs)
  | memAdmit => exact steady_work (memAdmitBody_steady hs)
  | memIssue => exact steady_settle (memIssue_steady hs)
  | refreshDue => exact steady_settle (refreshDue_steady hs)
  | mr4Poll => exact steady_work (mr4Poll_steady hs)
  | powerDownEntry => exact steady_settle (powerDownEntry_steady hs)
  | selfRefreshEntry => exact steady_settle (selfRefreshEntry_steady hs)
  | scrubLine => exact steady_work (clocked_steady hs scrubLineBody_steady)
  | epochStart => exact steady_work (engineWork_steady hs epochStart_steady)
  | walkerPage => exact steady_work (engineWork_steady hs walkerPage_steady)
  | bucketRefill => exact steady_settle (clocked_steady hs bucketRefill_steady)
  | migrationStart => exact steady_work (engineWork_steady hs migrationStart_steady)
  | migrationPassEnd => exact steady_work (engineWork_steady hs passEndBody_steady)
  | freezeTimeout => exact steady_work (engineWork_steady hs (fun h => afterFreeze_steady (freezeTimeout_steady h)))
  | migrationCommit => exact steady_work (engineWork_steady hs (fun h => afterFreeze_steady (migrationCommit_steady h)))
  | reserveWaitTimeout => exact steady_settle (reserveWaitTimeout_steady hs)
  | waitingWriteResume => exact steady_work hs
  | leaseWaitTimeout => exact steady_settle (leaseWaitTimeout_steady hs)
  | checkpoint => exact steady_settle (checkpointRing_steady hs)
  | translationWriteback => exact steady_settle (translationWriteback_steady hs)
  | nearCacheEviction => exact steady_work (nearEviction_steady hs)
  | compressionResult => exact steady_work (compressionResultBody_steady hs)
  | laneTimeout => exact steady_work (laneTimeoutBody_steady hs)
  | primerRetire => exact steady_settle (primerRetire_steady hs)
  | imageStageBegin => exact steady_settle (mailbox_steady hs imageStageBegin_steady)
  | imageStageData => exact steady_settle (mailbox_steady hs imageStageData_steady)
  | imageStageCommit => exact steady_settle (mailbox_steady hs imageStageCommit_steady)
  | imageStageAbort => exact steady_settle (mailbox_steady hs imageStageAbort_steady)
  | imageVerifyDone => exact steady_work (imageVerifyDone_steady hs)
  | commitPoint => exact steady_work (feedsAgree_steady (commitPoint_steady hs))
  | extentAdd => exact steady_work (extentAddCmd_steady hs)
  | extentAddBuddyTimeout => exact steady_work (extentAddBuddyTimeoutBody_steady hs)
  | addDynamicCapacityResponse => exact steady_work (mailbox_steady hs (fun h => whenActive_steady h addResponseBody_steady))
  | releaseDynamicCapacity => exact steady_work (mailbox_steady hs (fun h => whenActive_steady h releaseBody_steady))
  | releaseResponse => exact steady_work (releaseResponseBody_steady hs)
  | shareGrant => exact steady_work (shareGrantCmd_steady hs)
  | shareRevoke => exact steady_work (shareRevokeCmd_steady hs)
  | placeHint => exact steady_work (placeHintBody_steady hs)
  | atomic => exact steady_work (atomicBody_steady hs)
  | keyRotate => exact steady_work (keyRotateBody_steady hs)
  | keyRotateSwitch => exact steady_work (keyRotateSwitchBody_steady hs)
  | primerEval => exact steady_work (primerEvalBody_steady hs)
  | queueCreate => exact steady_settle (mailbox_steady hs queueCreateBody_steady)
  | queueDelete => exact steady_work (mailbox_steady hs queueDeleteBody_steady)
  | execEntry => exact steady_work (mailbox_steady hs execEntryBody_steady)
  | sqTail => exact steady_work (sqTailBody_steady hs)
  | cqHead => exact steady_work (cqHeadBody_steady hs)
  | commandComplete => exact steady_work (commandCompleteBody_steady hs)
  | dmaError => exact steady_work (dmaErrorBody_steady hs)
  | hdmDecoderCommit => exact steady_settle (hdmDecoderCommit_steady hs)
  | hostLinkUp => exact steady_work (hostLinkUp_steady hs)
  | getEventRecords => exact steady_settle (mailbox_steady hs getEventRecords_steady)
  | clearEventRecords => exact steady_settle (mailbox_steady hs clearEventRecords_steady)
  | getEventInterruptPolicy => exact steady_settle (mailbox_steady hs getEventInterruptPolicy_steady)
  | setEventInterruptPolicy => exact steady_settle (mailbox_steady hs setEventInterruptPolicy_steady)
  | getFwInfo => exact steady_settle (mailbox_steady hs getFwInfo_steady)
  | transferFw => exact steady_settle (mailbox_steady hs transferFw_steady)
  | activateFw => exact steady_settle (mailbox_steady hs activateFw_steady)
  | getTimestamp => exact steady_settle (mailbox_steady hs getTimestamp_steady)
  | setTimestamp => exact steady_settle (mailbox_steady hs setTimestamp_steady)
  | getSupportedLogs => exact steady_settle (mailbox_steady hs getSupportedLogs_steady)
  | getLog => exact steady_settle (mailbox_steady hs getLog_steady)
  | identifyMemoryDevice => exact steady_settle (mailbox_steady hs identifyMemoryDevice_steady)
  | getPoisonList => exact steady_settle (mailbox_steady hs getPoisonList_steady)
  | injectPoison => exact steady_work (mailbox_steady hs injectPoison_steady)
  | clearPoison => exact steady_work (mailbox_steady hs clearPoison_steady)
  | getDynamicCapacityConfiguration => exact steady_settle (mailbox_steady hs getDcConfiguration_steady)
  | getDynamicCapacityExtentList => exact steady_settle (mailbox_steady hs getDcExtentList_steady)
  | mailboxUnsupported => exact steady_settle (mailbox_steady hs mailboxUnsupported_steady)
  | biRsp => exact steady_work (biRspBody_steady hs)
  | biConflict => exact steady_settle (biConflictBody_steady hs)
  | bisnpTimeout => exact steady_work (bisnpTimeoutBody_steady hs)
  | rdShared => exact steady_work (inRun_steady hs)
  | rdOwn => exact steady_work (inRun_steady hs)
  | rdCur => exact steady_work (inRun_steady hs)
  | wrLine => exact steady_work (inRun_steady hs)
  | atomicFar => exact steady_work (inRun_steady hs)
  | snpInv => exact steady_work (inRun_steady hs)
  | snpData => exact steady_work (inRun_steady hs)
  | snpCur => exact steady_work (inRun_steady hs)
  | data => exact steady_work (dataBody_steady hs)
  | dataOwned => exact steady_work (dataOwnedBody_steady hs)
  | cmp => exact steady_work (cmpBody_steady hs)
  | nackRetry => exact steady_work (nackRetryBody_steady hs)
  | rspEvictInFlight => exact steady_work (evictInFlightBody_steady hs)
  | evictAck => exact steady_work (evictAckBody_steady hs)
  | evict => exact steady_work (inRun_steady hs)
  | wbDirty => exact steady_work (inRun_steady hs)
  | blkRead => exact steady_work (inRun_steady hs)
  | blkWrite => exact steady_work (inRun_steady hs)
  | blkFree => exact steady_work (inRun_steady hs)
  | mirrorWrite => exact steady_work (inRun_steady hs)
  | mirrorCtlReserve => exact steady_work (inRun_steady hs)
  | mirrorCtlUnreserve => exact steady_work (inRun_steady hs)
  | mirrorCtlFree => exact steady_work (inRun_steady hs)
  | mirrorCtlRead => exact steady_work (inRun_steady hs)
  | mirrorCtlPage => exact steady_work (inRun_steady hs)
  | mirrorPod => exact steady_work (inRun_steady hs)
  | resyncPage => exact steady_work (resyncPage_steady hs)
  | ackTimeout => exact steady_work (ackTimeout_steady hs)
  | nackRetryWaitExpiry => exact steady_work (nackExpiryBody_steady hs)
  | reservedHoldTimeout => exact steady_work (reservedHoldTimeout_steady hs)
  | hostFlushed => exact steady_work (hostFlushedBody_steady hs)
  | predClear => exact steady_settle (predClearBody_steady hs)
  | frameSend => exact steady_work (frameSendBody_steady hs)
  | dataFrame => exact steady_work (receiveFrame_steady hs)
  | bypassFrame => exact steady_work (receiveFrame_steady hs)
  | ackFrame => exact steady_work (receiveFrame_steady hs)
  | trainFrame => exact steady_work (trainBody_steady hs)
  | replayTimerExpiry => exact steady_work (replayExpiry_steady hs)
  | ackOnlyTimer => exact steady_settle (ackOnly_steady hs)
  | creditReturnTimer => exact steady_settle (creditReturn_steady hs)
  | lossOfSignal => exact steady_work (lossOfSignal_steady hs)
  | lightPresent => exact steady_work (lightPresent_steady hs)
  | linkTrainingDone => exact steady_work (joinsLeave_steady (trainingDone_steady hs))
  | retrainComplete => exact steady_work (retrainDone_steady hs)
  | linkGiveUp => exact steady_work (giveUp_steady hs)
  | givenUpRetry => exact steady_work (givenUpRetry_steady hs)
  | linkClear => exact steady_settle (linkClear_steady hs)
  | linkHold => exact steady_work (linkHold_steady hs)
  | linkRetrain => exact steady_work (linkRetrain_steady hs)
  | e2eTimeout => exact steady_work (e2eTimeoutBody_steady hs)
  | tagQuarantineEnd => exact steady_work (quarantineEnd_steady hs)
  | crtEntryExpiry => exact steady_work (crtExpire_steady hs)
  | heartbeatSend => exact steady_work (heartbeatSend_steady hs)
  | heartbeat => exact steady_work (heartbeat_steady hs)
  | heartbeatSilence => exact steady_work (heartbeatSilence_steady hs)
  | routeSuspect => exact steady_work (routeSuspect_steady hs)
  | isolationTimeout => exact steady_work (isolationTimeout_steady hs)
  | restartGraceExpiry => exact steady_work (restartGraceExpiry_steady hs)
  | routeLinkstate => exact steady_work (routeLinkstate_steady hs)
  | linkstatePeriodic => exact steady_work (floodLinkstate_steady hs)
  | routeMember => exact steady_work (routeMember_steady hs)
  | failoverServe => exact steady_work (failoverServe_steady hs)
  | routeCapacity => exact steady_work (routeCapacity_steady hs)
  | capacityPeriodic => exact steady_work (capacityPeriodic_steady hs)
  | routeAlias => exact steady_work (routeAlias_steady hs)
  | leaseFreeTimeout => exact steady_work (leaseFreeTimeout_steady hs)
  | joinRequest => exact steady_work (joinRequest_steady hs)
  | joinAccept => exact steady_work (joinAccept_steady hs)
  | joinRefuse => exact steady_work (joinRefuse_steady hs)
  | joinWait => exact steady_work (joinWait_steady hs)
  | joinWaitExpiry => exact steady_work (joinWaitExpiry_steady hs)
  | joinJudge => exact steady_work (joinJudge_steady hs)
  | joinRetry => exact steady_work (joinRetry_steady hs)
  | rejoin => exact steady_work (rejoin_steady hs)
  | leave => exact steady_work (leave_steady hs)
  | leaseRequest => exact steady_work (leaseRequest_steady hs)
  | leaseGrant => exact steady_work (leaseGrant_steady hs)
  | leaseDeny => exact steady_work (leaseDeny_steady hs)
  | leaseRecall => exact steady_work (leaseRecall_steady hs)
  | leaseReturn => exact steady_work (leaseReturn_steady hs)
  | leaseDeadline => exact steady_work (leaseDeadline_steady hs)
  | sleepPropose => exact steady_work (sleepPropose_steady hs)
  | wakePropose => exact steady_work (wakePropose_steady hs)
  | wakeConsent => exact steady_work (wakeConsent_steady hs)
  | wakeRefuse => exact steady_work (wakeRefuse_steady hs)
  | sleepProposeTimeout => exact steady_work (sleepProposeTimeout_steady hs)
  | wakeCommit => exact steady_work (wakeCommit_steady hs)
  | wakeAbort => exact steady_work (wakeAbort_steady hs)
  | rowWake => exact steady_work (rowWake_steady hs)
  | epochPrepareStart => exact steady_work (epochPrepareStart_steady hs)
  | epochPrepare => exact steady_work (epochPrepare_steady hs)
  | epochReady => exact steady_work (epochReady_steady hs)
  | epochNotReady => exact steady_work (epochNotReady_steady hs)
  | epochPrepareTimeout => exact steady_work (epochPrepareTimeout_steady hs)
  | epochCommit => exact steady_work (epochCommit_steady hs)
  | shaperRefill => exact steady_work (clocked_steady hs shaperRefill_steady)
  | shapeWrite => exact steady_work (shapeWrite_steady hs)
  | policeWrite => exact steady_settle (policeWrite_steady hs)
  | feedbackSample => exact steady_work (clocked_steady hs feedbackSample_steady)
  | scaleAdjust => exact steady_work (clocked_steady hs scaleAdjust_steady)
  | memSchedWrite => exact steady_settle (memSchedWrite_steady hs)
  | memTrnStart => exact steady_settle (trnStart_steady hs)
  | memTrnRunEnd => exact steady_settle (trnEnd_steady hs)
  | pmicFault => exact steady_work (pmicFault_steady hs)
  | faultRaise => exact steady_work (faultRaise_steady hs)
  | classAcknowledge => exact steady_work (classAcknowledge_steady hs)
  | resetClassAcknowledge => exact steady_settle (resetClassAcknowledge_steady hs)
  | faultInject => exact steady_work (faultInject_steady hs)
  | engineHang => exact steady_work (engineHang_steady hs)
  | feedPresent => exact steady_settle (offCheck_steady (feedPresent_steady hs))
  | feedWindowEntry => exact steady_settle (feedWindowEntry_steady hs)
  | feedQualified => exact steady_settle (feedQualified_steady hs)
  | feedGateFull => exact steady_settle (feedGateFull_steady hs)
  | feedPowerGood => exact steady_settle (feedPowerGood_steady hs)
  | startTimerTrip => exact steady_settle (startTimerTrip_steady hs)
  | breakerSample => exact steady_settle (breakerSample_steady hs)
  | feedUndervolt => exact steady_settle (offCheck_steady (feedUndervolt_steady hs))
  | feedOvervolt => exact steady_settle (feedOvervolt_steady hs)
  | retryWaitExpiry => exact steady_settle (retryWaitExpiry_steady hs)
  | tripCountReset => exact steady_settle (tripCountReset_steady hs)
  | feedRelease => exact steady_settle (feedRelease_steady hs)
  | feedTest => exact steady_settle (feedTest_steady hs)
  | feedTestEnd => exact steady_settle (feedTestEnd_steady hs)
  | oringReverse => exact steady_settle (oringReverse_steady hs)
  | telemetryWindow => exact steady_settle (telemetryWindow_steady hs)
  | peakRead => exact steady_settle (peakRead_steady hs)
  | eccLastRead => exact steady_settle (eccLastRead_steady hs)
  | radishSample => exact steady_work (radishSample_steady hs)
  | ruleFire => exact steady_work (ruleFire_steady hs)
  | dimmTempRead => exact steady_work (dimmTempRead_steady hs)
  | dozeEntry => exact steady_settle (dozeEntry_steady hs)
  | dozeExit => exact steady_work (serveHeld_steady (dozeExit_steady hs))
  | restEntry => exact steady_settle (restEntry_steady hs)
  | lightQualified => exact steady_work (lightQualified_steady hs)
  | restExitComplete => exact steady_work (serveHeld_steady (restExitComplete_steady hs))
  | spuriousWakeTimeout => exact steady_work (spuriousWakeTimeout_steady hs)
  | deepEntry => exact steady_settle (deepEntry_steady hs)
  | deepExit => exact steady_work (serveHeld_steady (deepExit_steady hs))
  | custodyLost => exact steady_work (custodyLostBody_steady hs)
  | vauxOutOfRange => exact steady_settle (offCheck_steady (vauxOutOfRange_steady hs))
  | refclkLost => exact steady_settle (refclkLostBody_steady hs)
  | getState => exact steady_settle (getStateBody_steady hs)
  | getRecords => exact steady_settle (getRecordsBody_steady hs)
  | getSense => exact steady_settle (getSenseBody_steady hs)
  | smbusUnsupported => exact steady_settle (smbusOther_steady hs)
  | challenge => exact steady_settle (secChallenge_steady hs)
  | enrol => exact steady_settle (secEnrol_steady hs)
  | release => exact steady_settle (secRelease_steady hs)
  | keySupply => exact steady_settle (secKeySupply_steady hs)
  | transportKey => exact steady_settle (secTransportKey_steady hs)
  | svnRaise => exact kept_settle (secSvnRaise_kept s _)
  | buddyPair => exact steady_settle (secBuddyPair_steady hs)
  | info => exact steady_settle (secInfo_steady hs)
  | secUnknownOpcode => exact steady_settle (secUnknown_steady hs)
  | accessRefused => exact steady_settle (accessRefused_steady hs)
  | holdVoteSet => exact steady_settle (holdVoteSet_steady (serveHeld_steady (dozeUndone_steady hs)))
  | holdVoteClear => exact steady_settle (dozeResumed_steady (holdVoteClear_steady hs))
  | powerRequest => exact steady_settle (powerRequest_steady hs)
  | holdWindowCap => exact steady_settle (dozeResumed_steady (holdWindowCap_steady hs))
  | watchdogRestart => exact steady_settle (watchdogRestart_steady hs)
  | secureWatchdog => exact steady_settle (secureWatchdog_steady hs)
  | getVersion => exact steady_settle (spdmServes_steady hs spdmVersion_steady)
  | getCapabilities => exact steady_settle (spdmServes_steady hs spdmCapabilities_steady)
  | negotiateAlgorithms => exact steady_settle (spdmServes_steady hs spdmNegotiate_steady)
  | getDigests => exact steady_settle (spdmServes_steady hs spdmDigests_steady)
  | getCertificate => exact steady_settle (spdmServes_steady hs spdmCertificate_steady)
  | spdmChallenge => exact steady_settle (spdmServes_steady hs spdmChallenge_steady)
  | getMeasurements => exact steady_settle (spdmServes_steady hs spdmMeasurements_steady)
  | chunkSend => exact steady_settle (spdmServes_steady hs spdmChunkSend_steady)
  | chunkGet => exact steady_settle (spdmServes_steady hs spdmChunkGet_steady)
  | bootStepEnd => exact steady_work (feedsAgree_steady (bootStepEnd_steady hs))
  | activeLate => exact steady_settle (activeLate_steady hs)
  | bootReset => exact steady_settle (bootReset_steady hs)
  | bootRetry => exact steady_settle (bootRetry_steady hs)
  | clearAlt => exact steady_settle (clearAlt_steady hs)
  | pmcCtrWrite => exact steady_settle (pmcCtrWrite_steady hs)
  | pmcClear => exact steady_settle (pmcClear_steady hs)
  | pmcUpageWrite => exact steady_settle (pmcUpageWrite_steady hs)
  | registerWrite => exact kept_work (registerWriteBody_kept s _ _ _)
  | startWindowExit => exact steady_settle (startWindowExit_steady hs)
  | vauxInRange => exact steady_settle (vauxInRange_steady hs)
  | hostLinkLeavesL0 => exact steady_work (hostLinkLeavesL0_steady hs)
  | hostInterfaceReady => exact steady_work (hostInterfaceReady_steady hs)
  | ctrlResendTimer => exact steady_work (ctrlResend_steady hs)
  | wakePatternLimit => exact steady_work (wakePatternLimit_steady hs)
  | primerStoreReload => exact steady_work (primerStoreReload_steady hs)
  | spillCopyBuilt => exact steady_work (spillCopyBuilt_steady hs)
  | frameBadCrc => exact steady_settle (frameBadCrc_steady hs)
  | revocationAtGrantee => exact steady_work (revocationBody_steady hs)

/-- An empty queue lets a clock pass; otherwise the step is that of the first command that waits. -/
theorem step_nil (h : s.pending = []) : step s = .next (tick s) := by
  unfold step
  rw [h]

theorem step_cons {c : Instr} {rest : List Instr} (h : s.pending = c :: rest) : step s = exec c { s with pending := rest } := by
  unfold step
  rw [h]

theorem step_goesOn (s : State) : goesOn (step s) := by
  cases hp : s.pending with
  | nil => exact step_nil hp ▸ trivial
  | cons c rest =>
    obtain ⟨t, he, -⟩ := exec_answers c { s with pending := rest }
    exact (step_cons hp).trans he ▸ trivial

theorem Inv.kept (h : Inv s) (k : Kept s t) : Inv t := ⟨k.mem h.1, k.secured h.2⟩

theorem Inv.step (h : Inv s) (ht : step s = .next t) : Inv t := by
  cases hp : s.pending with
  | nil =>
    cases (step_nil hp).symm.trans ht
    exact Inv.kept h (tick_steady (.refl s)).kept
  | cons c rest =>
    obtain ⟨u, he, hu⟩ := exec_answers c { s with pending := rest }
    cases ((step_cons hp).trans he).symm.trans ht
    exact Inv.kept (s := { s with pending := rest }) h hu

/-- Settles O58: each command is one function of the model followed by what settles, and each of those keeps. -/
theorem everyStepKeepsTheInvariant : Obligations.EveryStepKeepsTheInvariant := by
  unfold Obligations.EveryStepKeepsTheInvariant
  exact ⟨step_goesOn, fun _ _ => Inv.step, exec_answers⟩

end Sys2Proof.Proofs.StepLemma
end

section
/-! SUPPORT. The counters that software writes, and the registers that read back what was written. -/

namespace Sys2Proof.Proofs.Registers
open Sys2Proof Sys2Proof.Machine Sys2Proof.Safety Sys2Proof.Proofs.OnePass

/-! ### Counters (R630 to R634, R636) -/

/-- The state in which counter `n` holds `value`. -/
def ctrSet (s : State) (n : Nat) (value : BitVec 48) : State := { s with pmc := { s.pmc with ctr := mset s.pmc.ctr n value } }

theorem rewriteCtrs_before_none {s : State} {ctr : NMap (BitVec 48) → NMap (BitVec 48)} {ovf : BitVec 128 → BitVec 128}
    (h : s.pmc.before = none) :
    rewriteCtrs s ctr ovf = { s with pmc := { s.pmc with ctr := ctr s.pmc.ctr, ovf := ovf s.pmc.ovf } } := by
  simp only [rewriteCtrs, h]

theorem rewriteCtrs_ctr {s : State} {n : Nat} {value : BitVec 48} (h : s.pmc.before = none) :
    rewriteCtrs s (fun m => mset m n value) id = ctrSet s n value := rewriteCtrs_before_none h

theorem selNow_selOld_none {s : State} (h : s.pmc.selOld = none) : selNow s = s.pmc.sel := by
  simp only [selNow, h]

/-- Whether a counter counts does not depend on what it holds. -/
theorem pmcCounts_ctrSet {s : State} {n : Nat} {value : BitVec 48} (hold : s.pmc.selOld = none) :
    pmcCounts (ctrSet s n value) n =
      (s.pmc.counting && !s.pmc.frozen && !s.pmc.freezeProg && (mgetD s.pmc.sel n PmcSel.zero).enable) := by
  unfold pmcCounts pmcSelNow
  rw [selNow_selOld_none (s := ctrSet s n value) hold]
  rfl

theorem addCtr_ctrSet_fits {s : State} {n k : Nat} {sel : PmcSel} {value : BitVec 48} (h : value.toNat + k < 2 ^ 48) :
    addCtr (ctrSet s n value) n sel k = (ctrSet (ctrSet s n value) n (BitVec.ofNat 48 (value.toNat + k)), 0) := by
  unfold addCtr
  simp only [ctrSet, mgetD_mset_self, Nat.div_eq_of_lt h, if_true]

theorem addCtr_ctrSet_overflows {s : State} {n k : Nat} {sel : PmcSel} {value : BitVec 48} (hie : sel.ovfIe = false)
    (h : 2 ^ 48 ≤ value.toNat + k) :
    (addCtr (ctrSet s n value) n sel k).1 =
      let v := ctrSet (ctrSet s n value) n (BitVec.ofNat 48 (value.toNat + k))
      { v with pmc := { v.pmc with ovf := s.pmc.ovf ||| (1 <<< n) } } := by
  have hov : (value.toNat + k) / 2 ^ 48 ≠ 0 := Nat.div_ne_zero_iff.mpr ⟨by decide, h⟩
  unfold addCtr
  simp only [ctrSet, mgetD_mset_self, if_neg hov, hie, Bool.false_eq_true, if_false]

theorem pmcCtrWrite_idle {s : State} {n k : Nat} {value : Word} (hbefore : s.pmc.before = none)
    (hcounts : pmcCounts (ctrSet s n (value.setWidth 48)) n = false) : pmcCtrWrite s n value k = ctrSet s n (value.setWidth 48) := by
  unfold pmcCtrWrite
  rw [rewriteCtrs_ctr hbefore]
  exact if_neg (Bool.eq_false_iff.mp hcounts)

theorem selNow_addCtr {s : State} {n k : Nat} {sel : PmcSel} (hold : s.pmc.selOld = none) (hie : sel.ovfIe = false) :
    selNow (addCtr s n sel k).1 = s.pmc.sel := by
  unfold addCtr
  simp only [hie, Bool.false_eq_true, if_false]
  split
  · exact selNow_selOld_none hold
  · exact selNow_selOld_none hold

/-- With no counter above `n` that could count its overflows, only `n` takes the occurrences. -/
theorem pmcCtrWrite_counts {s : State} {n k : Nat} {value : Word} {sel : PmcSel} (hbefore : s.pmc.before = none)
    (hold : s.pmc.selOld = none) (hsel : s.pmc.sel = [(n, sel)]) (hie : sel.ovfIe = false)
    (hcounts : pmcCounts (ctrSet s n (value.setWidth 48)) n = true) :
    pmcCtrWrite s n value k = (addCtr (ctrSet s n (value.setWidth 48)) n sel k).1 := by
  have hselNow : pmcSelNow (ctrSet s n (value.setWidth 48)) n = sel := by
    unfold pmcSelNow
    rw [selNow_selOld_none (s := ctrSet s n _) hold, show (ctrSet s n _).pmc.sel = [(n, sel)] from hsel]
    simp [mgetD, mget]
  have habove : (selNow (addCtr (ctrSet s n (value.setWidth 48)) n sel k).1).filter (fun x => decide (n < x.1)) = [] := by
    rw [selNow_addCtr (s := ctrSet s n _) hold hie, show (ctrSet s n _).pmc.sel = [(n, sel)] from hsel]
    simp
  unfold pmcCtrWrite
  rw [rewriteCtrs_ctr hbefore]
  simp only [if_pos hcounts, hselNow, habove]
  rfl

theorem pmcClear_before_none {s : State} (h : s.pmc.before = none) :
    pmcClear s = { s with pmc := { s.pmc with ctr := [], ovf := 0 } } := rewriteCtrs_before_none h

/-- The fields of the words of PMC_UPAGE (R640). -/
theorem upageOf_eq (value : Word) : upageOf value =
    ⟨BitVec.ofNat 8 (value.toNat / 2 ^ 16 % 2 ^ 8), BitVec.ofNat 7 (value.toNat / 2 ^ 8 % 2 ^ 7), BitVec.ofNat 2 (value.toNat % 4)⟩ := by
  simp only [upageOf, PmcUpage.mk.injEq]
  refine ⟨?_, ?_, ?_⟩
  · exact BitVec.eq_of_toNat_eq (by simp [Nat.shiftRight_eq_div_pow])
  · exact BitVec.eq_of_toNat_eq (by simp [Nat.shiftRight_eq_div_pow])
  · exact BitVec.eq_of_toNat_eq (by simp)

theorem upageIgnored_upageOf (value : Word) : upageIgnored (upageOf value) = true ↔
    value.toNat % 4 = 3 ∨ (value.toNat % 4 = 2 ∧
      (value.toNat / 2 ^ 16 % 2 ^ 8 = 0 ∨ 128 < value.toNat / 2 ^ 8 % 2 ^ 7 + value.toNat / 2 ^ 16 % 2 ^ 8)) := by
  rw [upageOf_eq]
  simp [upageIgnored, BitVec.toNat_eq]

/-- A counter that does not count takes what is written to it. -/
theorem pmcCtrWrite_ends_idle {s : State} {n : BitVec 7} {value : Word} {k : Nat} (hbefore : s.pmc.before = none)
    (hold : s.pmc.selOld = none) (hidle : s.pmc.counting = false ∨ s.pmc.frozen = true ∨ s.pmc.freezeProg = true ∨
      (mgetD s.pmc.sel n.toNat PmcSel.zero).enable = false) :
    Ends (.pmcCtrWrite n value k) s (ctrSet s n.toNat (value.setWidth 48)) := by
  refine ends_of_eq rfl (pmcCtrWrite_idle hbefore ?_)
  rw [pmcCounts_ctrSet hold]
  rcases hidle with h | h | h | h
  · simp [h]
  · simp [h]
  · simp [h]
  · simp [h]

/-- A counter that counts takes the occurrences of the cycle of the write besides (R633). -/
theorem pmcCtrWrite_ends_counts {s t : State} {n : BitVec 7} {value : Word} {k : Nat} {sel : PmcSel} (hbefore : s.pmc.before = none)
    (hold : s.pmc.selOld = none) (hon : s.pmc.counting = true ∧ s.pmc.frozen = false ∧ s.pmc.freezeProg = false)
    (hsel : s.pmc.sel = [(n.toNat, sel)]) (hen : sel.enable = true) (hie : sel.ovfIe = false)
    (ht : (addCtr (ctrSet s n.toNat (value.setWidth 48)) n.toNat sel k).1 = t) : Ends (.pmcCtrWrite n value k) s t := by
  obtain ⟨hcounting, hfrozen, hprog⟩ := hon
  refine ends_of_eq rfl ((pmcCtrWrite_counts hbefore hold hsel hie ?_).trans ht)
  rw [pmcCounts_ctrSet hold, hcounting, hfrozen, hprog, hsel]
  simpa [mgetD, mget] using hen

/-! ### Registers (R7, R9, R479) -/

theorem registerWriteBody_unaligned {s : State} {off : Nat} {wide : Bool} {value : Word} (h : off % (if wide then 8 else 4) ≠ 0) :
    registerWriteBody s off wide value = s := if_pos h

theorem registerWriteBody_aligned {s : State} {off : Nat} {wide : Bool} {value : Word} (h : off % 8 = 0) :
    registerWriteBody s off wide value = regWrite s off (regW (regRead s off) off wide value) := by
  have hwide : ¬ off % (if wide then 8 else 4) ≠ 0 := by
    cases wide
    · simp
      omega
    · simpa using h
  have hoff : off / 8 * 8 = off := by omega
  unfold registerWriteBody
  rw [if_neg hwide, hoff]

/-- No unit has a register at or above 0x1200000. -/
theorem regWrite_outside {s : State} {o : Nat} {w : RegW} (h : 0x1200000 ≤ o) : regWrite s o w = s := by
  have hb : 0x12 ≤ o / 0x100000 := by omega
  unfold regWrite
  generalize o / 0x100000 = b at hb
  repeat rw [if_neg (by omega)]

theorem lowHalf_getLsbD : ∀ i < 32, (0xFFFFFFFF : Word).getLsbD i = true := by decide

/-- Whole or by its low half, a write gives the low half of the register the value. -/
theorem regW_getLsbD {old off i : Nat} {wide : Bool} {value : Word} (h : off % 8 = 0) (hi : i < 32) :
    (regW old off wide value).all.getLsbD i = value.getLsbD i := by
  cases wide
  · simp only [regW, h, Bool.false_eq_true, if_false, Nat.mul_zero, BitVec.shiftLeft_zero, BitVec.getLsbD_or, BitVec.getLsbD_and,
      BitVec.getLsbD_not, lowHalf_getLsbD i hi, BitVec.getLsbD_setWidth]
    have : i < 64 := by omega
    simp [hi, this]
  · rfl

theorem regW_mod {old off : Nat} {wide : Bool} {value : Word} (h : off % 8 = 0) :
    (regW old off wide value).all.toNat % 2 ^ 32 = value.toNat % 2 ^ 32 := by
  have : (regW old off wide value).all.setWidth 32 = value.setWidth 32 := by
    ext i hi
    simpa using regW_getLsbD h hi
  simpa using congrArg BitVec.toNat this

/-- What a write of a selector or of a control bit keeps: memory, links, requests and output. -/
def elsewhere (t : State) : List Host.Cell × NMap LinkRec × CohState × E2EState × List Output := (t.mem, t.links, t.coh, t.e2e, t.out)

/-- The register at `o` reads in `t` as what was written but for its reserved bits, and `elsewhere` is that of `s`. -/
def ReadsBack (s t : State) (value : Word) (o mask : Nat) : Prop :=
  regRead t o = value.toNat &&& mask ∧ elsewhere t = elsewhere s

theorem b2n_eq_toNat (b : Bool) : b2n b = b.toNat := by
  cases b
  · rfl
  · rfl

theorem b2n_getLsbD (w : Word) (i : Nat) : b2n (w.getLsbD i) = w.toNat / 2 ^ i % 2 := by
  rw [b2n_eq_toNat, BitVec.getLsbD, Nat.toNat_testBit]

section
variable {s : State} {value : Word} {wide : Bool}

/-- A register whose fields are the low `n` bits of what was written to it reads them back. -/
theorem readsBack_of_read {o n : Nat} (ho : o % 8 = 0) (hn : n ≤ 32)
    (hread : ∀ w, regRead (regWrite s o w) o = w.all.toNat % 2 ^ n) (helse : ∀ w, elsewhere (regWrite s o w) = elsewhere s) :
    ReadsBack s (registerWriteBody s o wide value) value o (2 ^ n - 1) := by
  rw [registerWriteBody_aligned ho]
  refine ⟨?_, helse _⟩
  have hdvd : 2 ^ n ∣ 2 ^ 32 := Nat.pow_dvd_pow 2 hn
  rw [hread, Nat.and_two_pow_sub_one_eq_mod, ← Nat.mod_mod_of_dvd _ hdvd, regW_mod ho, Nat.mod_mod_of_dvd _ hdvd]

theorem readsBack_queueSel : ReadsBack s (registerWriteBody s 0x100208 wide value) value 0x100208 0x3FF :=
  readsBack_of_read (n := 10) rfl (by decide) (fun w => BitVec.toNat_setWidth ..) fun _ => rfl

theorem readsBack_domSel : ReadsBack s (registerWriteBody s 0x400008 wide value) value 0x400008 0xFFF :=
  readsBack_of_read (n := 12) rfl (by decide) (fun w => BitVec.toNat_setWidth ..) fun _ => rfl

theorem readsBack_memberSel : ReadsBack s (registerWriteBody s 0x600010 wide value) value 0x600010 0xFFF :=
  readsBack_of_read (n := 12) rfl (by decide) (fun w => BitVec.toNat_setWidth ..) fun _ => rfl

theorem readsBack_leaseSel : ReadsBack s (registerWriteBody s 0x600040 wide value) value 0x600040 0xFFF :=
  readsBack_of_read (n := 12) rfl (by decide) (fun w => BitVec.toNat_setWidth ..) fun _ => rfl

theorem readsBack_logSel : ReadsBack s (registerWriteBody s 0xC00008 wide value) value 0xC00008 0x1FF :=
  readsBack_of_read (n := 9) rfl (by decide) (fun w => BitVec.toNat_setWidth ..) fun _ => rfl

theorem readsBack_chdHolds : ReadsBack s (registerWriteBody s 0x200000 wide value) value 0x200000 0x7 := by
  refine readsBack_of_read (n := 3) rfl (by decide) (fun w => ?_) fun _ => rfl
  change packF [(1, b2n (w.all.getLsbD 0)), (1, b2n (w.all.getLsbD 1)), (1, b2n (w.all.getLsbD 2))] = _
  simp only [packF, b2n_getLsbD]
  omega

theorem readsBack_inputSel : ReadsBack s (registerWriteBody s 0xE00018 wide value) value 0xE00018 0xFFFF := by
  refine readsBack_of_read (n := 16) rfl (by decide) (fun w => ?_) fun _ => rfl
  change packF [(8, (w.all.setWidth 8).toNat), (8, ((w.all >>> 8).setWidth 8).toNat)] = _
  simp only [packF, BitVec.toNat_setWidth, BitVec.toNat_ushiftRight, Nat.shiftRight_eq_div_pow]
  omega

theorem readsBack_aonHolds : ReadsBack s (registerWriteBody s 0xE00028 wide value) value 0xE00028 0x3 := by
  refine readsBack_of_read (n := 2) rfl (by decide) (fun w => ?_) fun _ => rfl
  change packF [(1, b2n (w.all.getLsbD 0)), (1, b2n (w.all.getLsbD 1))] = _
  simp only [packF, b2n_getLsbD]
  omega

/-- The registers with fields RW that the statement names. -/
theorem readsBack_named : ∀ r ∈ [(0x100208, 0x3FF), (0x200000, 0x7), (0x400008, 0xFFF), (0x600010, 0xFFF), (0x600040, 0xFFF),
    (0xC00008, 0x1FF), (0xE00018, 0xFFFF), (0xE00028, 0x3)],
    r.1 < 2 ^ 26 ∧ ReadsBack s (registerWriteBody s r.1 wide value) value r.1 r.2 := by
  simp only [List.forall_mem_cons, List.not_mem_nil, false_imp_iff, implies_true, and_true]
  exact ⟨⟨by decide, readsBack_queueSel⟩, ⟨by decide, readsBack_chdHolds⟩, ⟨by decide, readsBack_domSel⟩,
    ⟨by decide, readsBack_memberSel⟩, ⟨by decide, readsBack_leaseSel⟩, ⟨by decide, readsBack_logSel⟩, ⟨by decide, readsBack_inputSel⟩,
    ⟨by decide, readsBack_aonHolds⟩⟩

end

theorem registerWrite_ends {s : State} {off : BitVec 26} {wide : Bool} {value : Word} :
    EndsWork (.registerWrite off wide value) s (registerWriteBody s off.toNat wide value) := endsWork_of rfl

theorem registerWrite_ends_same {s : State} {off : BitVec 26} {wide : Bool} {value : Word}
    (h : registerWriteBody s off.toNat wide value = s) : EndsWork (.registerWrite off wide value) s s := endsWork_of_eq rfl h

/-- Settles O55: a counter from the equation of its write, a register from what its write does to the low bits. -/
theorem countersAndRegisters : Obligations.CountersAndRegisters := by
  unfold Obligations.CountersAndRegisters
  refine ⟨⟨fun s n value k => ?_, fun s hbefore => ends_of_eq rfl (pmcClear_before_none hbefore),
    fun s u value => ⟨fun h => ?_, fun h => ?_⟩⟩, fun s off value => ⟨fun h => ?_, fun h => ?_, fun h => ?_⟩, fun s value r hr => ?_⟩
  · intro u sel hbefore hold
    refine ⟨pmcCtrWrite_ends_idle hbefore hold, fun hcounting hfrozen hprog hsel hen hie => ?_⟩
    have hvalue : (value.setWidth 48).toNat = value.toNat % 2 ^ 48 := BitVec.toNat_setWidth ..
    intro sum v
    refine ⟨fun hsum => ?_, fun hsum => ?_⟩
    · refine pmcCtrWrite_ends_counts hbefore hold ⟨hcounting, hfrozen, hprog⟩ hsel hen hie ?_
      rw [addCtr_ctrSet_fits (hvalue ▸ hsum), hvalue]
      rfl
    · refine pmcCtrWrite_ends_counts hbefore hold ⟨hcounting, hfrozen, hprog⟩ hsel hen hie ?_
      rw [addCtr_ctrSet_overflows hie (hvalue ▸ hsum), hvalue]
      rfl
  · exact ends_of_eq rfl (if_pos ((upageIgnored_upageOf value).mpr h))
  · refine ends_of_eq rfl ((if_neg fun hi => ?_).trans (by rw [upageOf_eq]))
    have := (upageIgnored_upageOf value).mp hi
    omega
  · exact registerWrite_ends_same (registerWriteBody_unaligned h)
  · exact registerWrite_ends_same (registerWriteBody_unaligned h)
  · refine registerWrite_ends_same ?_
    by_cases ha : off.toNat % 8 = 0
    · exact (registerWriteBody_aligned ha).trans (regWrite_outside h)
    · exact registerWriteBody_unaligned ha
  · intro t half
    obtain ⟨hlt, ht, helse⟩ := readsBack_named (s := s) (value := value) (wide := true) r hr
    obtain ⟨-, hhalf, -⟩ := readsBack_named (s := s) (value := value) (wide := false) r hr
    have hoff : (BitVec.ofNat 26 r.1).toNat = r.1 := (BitVec.toNat_ofNat ..).trans (Nat.mod_eq_of_lt hlt)
    obtain ⟨hmem, hlinks, hcoh, he2e, hout⟩ := by simpa only [elsewhere, Prod.mk.injEq] using helse
    have hwhole := registerWrite_ends (s := s) (off := BitVec.ofNat 26 r.1) (wide := true) (value := value)
    have hlow := registerWrite_ends (s := s) (off := BitVec.ofNat 26 r.1) (wide := false) (value := value)
    rw [hoff] at hwhole hlow
    exact ⟨hwhole, hlow, ht, hhalf, hmem, hlinks, hcoh, he2e, hout⟩

end Sys2Proof.Proofs.Registers
end


section
/-! SUPPORT. The resets: what a device reset ends is still ended when the reset of the units is over. -/

namespace Sys2Proof.Proofs.Resets
open Sys2Proof Sys2Proof.Machine Sys2Proof.Safety Sys2Proof.Proofs.OnePass Sys2Proof.Proofs.Fuses
variable {s : State}

/-! ### The units of a device reset (R11, R547) -/

/-- In a device reset the links and the trainings are gone, and events are held back. -/
structure Resetting (s : State) : Prop where
  links : s.links = []
  trns : s.trns = []
  inReset : s.flt.inReset = true

theorem Resetting.foldl {α : Type} {f : State → α → State} {l : List α} (k : ∀ {s x}, Resetting s → Resetting (f s x)) (h : Resetting s) :
    Resetting (l.foldl f s) := List.foldlRecOn l f h fun _ hs _ _ => k hs

theorem raiseP_resetting {ev cause : Nat} {part : Part} {info : Nat} (h : Resetting s) : Resetting (raiseP s ev cause part info) := by
  unfold raiseP
  rw [if_pos h.inReset]
  exact ⟨h.links, h.trns, h.inReset⟩

theorem setFeed_resetting {f : Feed} {r : FeedRec} (h : Resetting s) : Resetting (setFeed s f r) := by
  cases f
  · exact ⟨h.links, h.trns, h.inReset⟩
  · exact ⟨h.links, h.trns, h.inReset⟩

theorem releaseFeed_resetting {f : Feed} (h : Resetting s) : Resetting (releaseFeed s f) := by
  unfold releaseFeed
  extract_lets r
  split
  · exact setFeed_resetting h
  · exact raiseP_resetting (setFeed_resetting h)

theorem resetRest_resetting (s : State) : Resetting (resetRest s) := ⟨rfl, rfl, rfl⟩

theorem resetPower_resetting (h : Resetting s) : Resetting (resetPower s) :=
  releaseFeed_resetting (releaseFeed_resetting ⟨h.links, h.trns, h.inReset⟩)

theorem dropRewrites_resetting (h : Resetting s) : Resetting (dropRewrites s) := by
  refine .foldl (fun h => ?_) h
  split
  · exact ⟨h.links, h.trns, h.inReset⟩
  · exact h

theorem unsynced_resetting {p : Nat} (h : Resetting s) : Resetting (unsynced s p) := by
  unfold unsynced
  extract_lets pn
  split
  · exact ⟨h.links, h.trns, h.inReset⟩
  · exact h

theorem resetChd_resetting (h : Resetting s) : Resetting (resetChd s) := by
  have hopen : Resetting ((mirrorOpen (dropRewrites s)).foldl unsynced (dropRewrites s)) :=
    .foldl unsynced_resetting (dropRewrites_resetting h)
  exact ⟨hopen.links, hopen.trns, hopen.inReset⟩

theorem keepDirty_resetting {key : Nat} {v : Line × Bool} {fromHost : Bool} (h : Resetting s) : Resetting (keepDirty s key v fromHost) := by
  unfold keepDirty
  split
  · split
    · exact h
    · exact ⟨h.links, h.trns, h.inReset⟩
  · exact ⟨h.links, h.trns, h.inReset⟩

theorem keepNear_resetting (h : Resetting s) : Resetting (keepNear s) := by
  unfold keepNear
  extract_lets t u near
  have ht : Resetting t := by
    refine .foldl (fun h => ?_) h
    split
    · exact keepDirty_resetting h
    · exact h
  have hu : Resetting u := .foldl keepDirty_resetting ht
  exact ⟨hu.links, hu.trns, hu.inReset⟩

theorem resetCoh_resetting (h : Resetting s) : Resetting (resetCoh s) := by
  have hnear := keepNear_resetting h
  exact ⟨hnear.links, hnear.trns, hnear.inReset⟩

theorem resetE2e_resetting (h : Resetting s) : Resetting (resetE2e s) := ⟨h.links, h.trns, h.inReset⟩

theorem resetFab_resetting (h : Resetting s) : Resetting (resetFab s) := ⟨h.links, h.trns, h.inReset⟩

theorem resetHost_resetting (h : Resetting s) : Resetting (resetHost s) := ⟨h.links, h.trns, h.inReset⟩

theorem resetUnits_resetting (s : State) (custody : Bool) : Resetting (resetUnits s custody) := by
  unfold resetUnits
  exact resetHost_resetting (resetFab_resetting (resetE2e_resetting (resetCoh_resetting (resetChd_resetting
    (resetPower_resetting (resetRest_resetting _))))))

/-- Of the tables of requests and of the host interface a device reset keeps nothing open. -/
theorem resetUnits_ends (s : State) (custody : Bool) :
    let v := resetUnits s custody
    v.coh.txs = [] ∧ v.coh.sink = [] ∧ v.e2e.txs = [] ∧ v.host.memActive = false ∧ v.host.queues = [] := ⟨rfl, rfl, rfl, rfl, rfl⟩

/-- A device reset leaves the fuses (R511). -/
theorem resetUnits_fuses (s : State) (custody : Bool) : fuses (resetUnits s custody).sec = fuses s.sec :=
  (resetUnits_steady (.refl s)).fuses

/-! ### The resets (R498, R499, R547) -/

theorem resetActs_iff : resetActs s = true ↔ s.flt.inReset = false ∧ s.flt.latch = false ∧ 0x04 ∈ s.boot.ended := by
  unfold resetActs
  simp [and_assoc]

theorem deviceReset_absorbed {cause : BitVec 4} (h : s.flt.inReset = true ∨ s.flt.latch = true) : deviceResetBody s cause = s := by
  have hacts : resetActs s = false := by
    refine Bool.eq_false_iff.mpr fun ha => ?_
    obtain ⟨hreset, hlatch, -⟩ := resetActs_iff.mp ha
    rw [hreset, hlatch] at h
    exact absurd h (by decide)
  exact if_pos (by rw [hacts]; rfl)

theorem deviceReset_starts {cause : BitVec 4} (h : resetActs s = true) :
    deviceResetBody s cause = bootOn (driveAlert (resettingBeats s) (newStart (resetUnits (resettingBeats s) true) cause
      (ddrHeld (resettingBeats s) != 0) [0x01, 0x02, 0x03, 0x04])) := if_neg (by rw [h]; decide)

theorem hostResetAbsorbed_iff : hostResetAbsorbed s = true ↔ s.flt.inReset = true ∨ s.flt.latch = true := by
  unfold hostResetAbsorbed
  exact Bool.or_eq_true_iff

theorem hostResetOpen_iff : hostResetOpen s = true ↔ s.host.perst = true ∨ s.host.crs = true := by
  unfold hostResetOpen
  exact Bool.or_eq_true_iff

theorem cxlReset_absorbed (h : hostResetAbsorbed s = true ∨ hostResetOpen s = true) : cxlResetBody s = s :=
  if_pos (Bool.or_eq_true_iff.mpr h)

theorem cxlReset_acts (habsorbed : hostResetAbsorbed s = false) (hopen : hostResetOpen s = false) :
    cxlResetBody s = raise (cxlStateReset s) 0x267 0 := if_neg (by rw [habsorbed, hopen]; decide)

/-- The host interface when its link goes down for a conventional reset (R498); the output of a background command is discarded or not. -/
def hostDown (u : State) (kind : HostResetKind) (discard : Bool) : State :=
  { u with host := { u.host with
    creditsWithheld := true
    crs := true
    infoValid := false
    memActive := false
    width := 0
    speed := 0
    linkLow := some .down
    termination := u.host.termination && kind != HostResetKind.perst
    perst := u.host.perst || kind == HostResetKind.perst
    wake := u.host.wake && kind != HostResetKind.perst
    queueSel := 0
    queues := []
    readNs := []
    bgDiscard := discard
    bgOutput := none
    msix := [] } }

theorem hostReset_absorbed {kind : HostResetKind} (h : hostResetAbsorbed s = true) : hostConventionalResetBody s kind = s := if_pos h

theorem hostReset_acts {kind : HostResetKind} (habsorbed : hostResetAbsorbed s = false) (hbg : s.host.background = none) :
    hostConventionalResetBody s kind =
      let v := cxlStateReset (hostDown (quietHost s) kind false)
      if s.boot.st == .serving then raise v 0x266 0 else v := by
  have hquiet : (quietHost s).host.background = none := hbg
  unfold hostConventionalResetBody
  rw [if_neg (by rw [habsorbed]; decide)]
  extract_lets serving t host u src bg v w
  have hu : u = hostDown t kind false := congrArg (fun o : Option BgCmd => hostDown t kind o.isSome) hquiet
  have hnone : u.host.background = none := hquiet
  have hbg : bg = u := by
    unfold bg
    rw [hnone]
  unfold v w
  rw [hbg, hu]

/-- Settles O53: each reset from its equation, and what a device reset ends from `resetUnits_resetting`. -/
theorem resets : Obligations.Resets := by
  unfold Obligations.Resets
  refine ⟨fun s => ⟨ends_of rfl, rfl, rfl, rfl⟩, fun s cause => ⟨fun h => ends_of_eq rfl (deviceReset_absorbed h), ?_⟩,
    fun s kind => ⟨fun h => ?_, fun h => ?_, fun hreset hlatch => ⟨fun hperst hcrs => ?_, fun hbg => ?_⟩⟩,
    fun s => ⟨ends_of rfl, ends_of rfl⟩⟩
  · intro hreset hlatch hended u v
    obtain ⟨hlinks, htrns, hin⟩ := resetUnits_resetting u true
    obtain ⟨htxs, hsink, he2e, hactive, hqueues⟩ := resetUnits_ends u true
    have hfuses := resetUnits_fuses u true
    simp only [fuses, Prod.mk.injEq] at hfuses
    obtain ⟨-, hlot, himg, hfw⟩ := hfuses
    have hstarts := deviceReset_starts (cause := cause) (resetActs_iff.mpr ⟨hreset, hlatch, hended⟩)
    exact ⟨ends_of_eq rfl hstarts, hlinks, htrns, htxs, hsink, he2e, hin, hactive, hqueues, himg, hfw, hlot⟩
  · have habsorbed := hostResetAbsorbed_iff.mpr h
    exact ⟨endsWork_of_eq rfl (hostReset_absorbed habsorbed), endsWork_of_eq rfl (cxlReset_absorbed (.inl habsorbed))⟩
  · exact endsWork_of_eq rfl (cxlReset_absorbed (.inr (hostResetOpen_iff.mpr h)))
  · refine endsWork_of_eq rfl (cxlReset_acts ?_ ?_)
    · simp [hostResetAbsorbed, hreset, hlatch]
    · simp [hostResetOpen, hperst, hcrs]
  · have hacts := hostReset_acts (s := s) (kind := kind) (by simp [hostResetAbsorbed, hreset, hlatch]) hbg
    refine ⟨fun hst => endsWork_of_eq rfl (hacts.trans ?_), fun hst => endsWork_of_eq rfl (hacts.trans ?_)⟩
    · exact if_pos (beq_iff_eq.mpr hst)
    · exact if_neg fun h => hst (beq_iff_eq.mp h)

end Sys2Proof.Proofs.Resets
end
